-- ==== Sys2Proof/Word.lean ====
section
/-! DEFINITION. The widths of the SV9640 and their plainest arithmetic: octets, 36-bit machine words, 32-bit
registers, and the sparse table in which the model keeps indexed state. -/
namespace Sys2Proof

/-- An octet, 8 bits (chapter 00, Sizes and numbers). -/
abbrev Octet := BitVec 8
/-- A string of octets, the one at the lowest address first. -/
abbrev Bytes := List Octet
/-- A management-window register, 32 bits (R10). -/
abbrev Reg := BitVec 32
/-- A Tuirus machine word, 36 bits (chapter 00, Sizes and numbers). -/
abbrev Word := BitVec 36
/-- Sparse indexed state: keys strictly rising, at most one entry a key. -/
abbrev Table (α : Type) := List (Nat × α)

/-- The number spelled little-endian by octets (R5). -/
def leNat : Bytes → Nat
  | [] => 0
  | b :: bs => b.toNat + 256 * leNat bs

/-- `n` octets of a number, little-endian (R5). -/
def leBytes : Nat → Nat → Bytes
  | 0, _ => []
  | n + 1, v => BitVec.ofNat 8 v :: leBytes n (v / 256)

/-- Bits `[hi:lo]` of a number (R4). -/
def bitsOf (v hi lo : Nat) : Nat := v / 2 ^ lo % 2 ^ (hi + 1 - lo)

/-- Bit `i` of a number (R4). -/
def bitOf (v i : Nat) : Bool := v / 2 ^ i % 2 == 1

/-- The octets of `d` from `off` on, `len` of them. -/
def slice (d : Bytes) (off len : Nat) : Bytes := (d.drop off).take len

/-- Little-endian field of a buffer: `len` octets at `off` (R5). -/
def leAt (d : Bytes) (off len : Nat) : Nat := leNat (slice d off len)

/-- `n` octets of zero. -/
def zeros (n : Nat) : Bytes := List.replicate n 0

/-- `b` with octets `d` at offset `o`. -/
def putAt (b : Bytes) (o : Nat) (d : Bytes) : Bytes := b.take o ++ d ++ b.drop (o + d.length)

/-- 1 for true, 0 for false. -/
def b2n (b : Bool) : Nat := if b then 1 else 0

end Sys2Proof
end

