-- ==== Sys2Proof/Syntax.lean ====
section
/-! DEFINITION. The commands of the SV9640: one constructor of Instr for each row of the table of operations and
events, and the types of their operands. -/
namespace Sys2Proof

/-- Where a register access arrives: BAR2, BAR0, the MSI-X table of BAR4 or the configuration space of a function.
Functions are numbered 0 for physical function 0, 1 to 511 for its virtual functions, 512 for the companion function
and 512 + n for virtual function n of link B (R60). -/
inductive Space where
  | bar2 (fn : Nat)
  | bar0 (fn : Nat)
  | bar4 (fn : Nat)
  | config (fn : Nat)
  deriving DecidableEq, Repr

/-- The two PCIe links (R59). -/
inductive Link where
  | a
  | b
  deriving DecidableEq, Repr

/-- What the boundary finds outside the schedulers: slices that overran (class and unit, R36), the junction sensors
(R782), the bank voltage in millivolts (R748) and the Gazetteer's own temperature reading (R600). -/
structure FrameEnv where
  overruns : List (Nat × Nat) := []
  temps : List Nat := []
  bankMv : Option Nat := none
  gzLoad : Option Nat := none
  /-- Uncorrectable codewords of Ethernet ports (R95): port and count. -/
  fec : List (Nat × Nat) := []
  /-- The dynamic address that an I3C controller assigns on the sideband (R97). -/
  i3c : Option Nat := none
  deriving DecidableEq, Repr

/-- What a burst brought (R624, R638): the symbols that arrived wrong, each with the bits that are flipped, and whether the error is
there again when the corrected line is read back (R646). -/
structure Ecc where
  errs : List (Nat × Nat) := []
  recurs : Bool := false
  deriving DecidableEq, Repr

/-- A burst without an error. -/
def Ecc.clean : Ecc := {}

/-- An internal or fabric message: the ticket, both editions and the granules it carries (chapter 03, Tickets). -/
structure Msg where
  ticket : Nat
  tkEdition : Nat
  parcel : Nat
  pEdition : Nat
  granules : Nat := 0
  fabric : Bool := false
  /-- The class L line that its data are read from, and what the burst brought, where the read is tagged (R643, R644). -/
  line : Option Nat := none
  ecc : Ecc := {}
  deriving DecidableEq, Repr

/-- An MCTP packet on the sideband (R98): start and end of its message, its sequence number, its octets. -/
structure MctpPacket where
  som : Bool
  eom : Bool
  seq : Nat := 0
  data : Bytes := []
  deriving DecidableEq, Repr

/-- An SPDM endpoint: the DOE mailbox of a physical function, or an MCTP endpoint (R448). -/
inductive SpdmEp where
  | doe (fn : Nat)
  | mctp (eid : Nat)
  deriving DecidableEq, Repr

/-- A submission queue entry as HQ reads it, with what its data pointer describes: `dlen` octets, `dok` whether every
part of it resolves (R89), `list` the range list or inline data that acceptance reads (R795), `inval` whether the
keyed SGL asks for remote invalidation (R81). -/
structure Sqe where
  opc : Nat
  cid : Nat
  nsid : Nat := 0
  fused : Nat := 0
  mark : Bool := false
  cdw10 : Nat := 0
  cdw11 : Nat := 0
  cdw12 : Nat := 0
  cdw13 : Nat := 0
  cdw14 : Nat := 0
  cdw15 : Nat := 0
  dlen : Nat := 0
  dok : Bool := true
  list : Option Bytes := none
  inval : Bool := false
  deriving DecidableEq, Repr

/-- An NVMe admin command tunnelled over NVMe-MI (R99) and the CNTLID of the controller that it is for. -/
structure Tunnelled where
  ctrl : Nat := 0
  e : Sqe
  deriving DecidableEq, Repr

/-- A capsule on a fabric connection: its command and in-capsule data, and whether the header digest holds (R89). -/
structure Capsule where
  sqe : Sqe
  data : Bytes := []
  sglLen : Nat := 0
  inCapsule : Bool := false
  headerOk : Bool := true
  /-- Its receive buffer is found uncorrectable (R655). -/
  lost : Bool := false
  deriving DecidableEq, Repr

/-- A Fabrics Connect on transport connection `conn` (R78, R79, R105). -/
structure ConnReq where
  conn : Nat
  cid : Nat
  tcp : Bool
  qid : Nat
  sqsize : Nat
  cattr : Nat := 0
  kato : Nat := 0
  cntlid : Nat := 65535
  /-- The port of the device and its TCP or RDMA service at which it arrives (R91). -/
  port : Nat := 0
  svc : Nat := 4420
  hostNqn : Bytes
  subNqn : Bytes
  deriving DecidableEq, Repr

/-- A manager packet without its opcode, which the command names (R693): the carrier (`none` an admin command on
ticket `id`, else an MCTP endpoint), and its input buffer as the device can read it. -/
structure Packet where
  mctp : Bool
  id : Nat
  tag : Nat := 0
  seq : Nat
  flags : Nat := 0
  parcel : Nat := 0
  params : Bytes := []
  bufAddr : Nat := 0
  bufLen : Nat := 0
  rsvdZero : Bool := true
  buf : Bytes := []
  bufOk : Bool := true
  deriving DecidableEq, Repr

/-- What the training of a flash channel found (R317-R320): whether any chip enable answered Read ID, interface and rate
reached, and the positions (4 × chip enable + LUN) that matched a die profile, each with its profile's number. -/
structure TrainResult where
  answered : Bool
  ok : Bool
  toggle : Bool := false
  rate : Nat := 0
  dies : List (Nat × Nat) := []
  deriving DecidableEq, Repr

/-- What the decoder made of the codewords of an array read (R333, R335, R344): decoded or not, the bits it corrected, and
whether it corrected more than 75 % of the code's capability. -/
structure DecodeResult where
  ok : Bool
  bits : Nat := 0
  refresh : Bool := false
  deriving DecidableEq, Repr

/-- The encoding an operation stands in (R532-R540): a long operation or one of the two short operations of a paired word,
or a compact instruction of so many syllables. -/
inductive Enc where
  | long
  | short (second : Bool)
  | compact (len : Nat)
  deriving DecidableEq, Repr

/-- The parts every Tuirus operation carries beside its operands: its encoding, its PRED condition and L32 prefix
(R544, R545), and what the code made of the DRAM lines that its access and its fetch read. -/
structure Pfx where
  enc : Enc := .long
  pred : Option Nat := none
  l32 : Bool := false
  ecc : Ecc := .clean
  fetch : Ecc := .clean
  deriving DecidableEq, Repr

/-- An addressing mode of a Tuirus load or store. -/
inductive Mode where
  | off (imm : Word)
  | idx (rb scale : Nat)
  | post (imm : Word)
  | pre (imm : Word)
  deriving DecidableEq, Repr

/-- A cascade mark as its octets are read (R608): its frame, epoch, members, batch size, an announced change (mask, epoch, boundary H), the head's
frame period code and the slowest rate level it has passed. -/
structure Mark where
  frame : Nat
  epoch : Nat
  members : Nat
  batch : Nat := 1
  change : Option (Nat × Nat × Nat) := none
  period : Nat := 0
  level : Nat := 0
  deriving DecidableEq, Repr

/-- A search of a cascade batch (R605): the position and job it comes from, its number in the job, the cascade number and
the key. -/
structure CascKey where
  origin : Nat
  job : Nat
  idx : Nat
  casc : Nat
  key : BitVec 160
  deriving DecidableEq, Repr

/-- An answer on the cascade ring (R605, R606): for which search of which device; the winner's position and entry, its
priority and result, or a miss. -/
structure CascAnswer where
  origin : Nat
  job : Nat
  idx : Nat
  position : Nat := 0
  entry : Option Nat := none
  prio : Nat := 0
  result : BitVec 36 := 0
  deriving DecidableEq, Repr

/-- A soft error in the Gazetteer: the cells of an entry now hold another value or mask, or its shadow's parity is bad
(R589-R591). -/
inductive Upset where
  | cell (entry : Nat) (value mask : BitVec 160)
  | parity (entry : Nat)
  deriving DecidableEq, Repr

/-- What a line or word that the surveyor reads holds, where the device's structures are concerned (R655, R656). -/
inductive Held where
  | memory
  | mapLine (line : Nat)
  | wbuf (slot : Nat)
  | moveBuffer (mv : Nat)
  | staging (tk : Nat)
  | receive (conn : Nat) (cid : Bool)
  | l2line (cluster line : Nat)
  | context (ctx : Nat)
  | dgContext (ctx : Nat)
  | gzContext (ctx : Nat)
  | job (n : Nat)
  | accounting
  | way (cluster way : Nat)
  deriving DecidableEq, Repr

/-- What a surveyed read found: the next DRAM line, or a word of an SRAM group with its number of wrong bits (R645, R649-R651). -/
inductive SurveyResult where
  | dram (e : Ecc) (holds : Held)
  | sram (group bits : Nat) (recurs : Bool) (holds : Held)
  deriving DecidableEq, Repr

/-- Why a DMA descriptor in progress halts (R671). -/
inductive DmaHalt where
  | memory
  | host
  | snoop
  deriving DecidableEq, Repr

/-- What the boot ROM finds and sets up (R440-R443, R619, R741): the entropy start-up test, DRAM training (a channel that
failed, DM_CONFIG as trained and the installed capacity in units of 16 MiB, R618), whether the stored override's MAC verifies, the resident supervisor's entry
and the protection regions (class, first and last unit of 16 MiB), and whether the stage ran beyond its bound. -/
structure RomResult where
  entropyOk : Bool := true
  failedCh : Nat := 0
  dmConfig : Nat := 0
  dmUnits : Nat := 0
  overrideOk : Bool := true
  entry : Nat := 0
  regions : List (Nat × Nat × Nat) := []
  repairOk : Bool := true
  rfmAt : Nat := 0
  cold : Bool := false
  late : Bool := false
  deriving DecidableEq, Repr

/-- What media start-up finds (R741, R747, R756): whether the dump's closing record decodes, the tiles of it in stripes that
cannot be rebuilt, the energy test's V1, V2 and power where the bank settled in time, the milliseconds boot took, the bases
that control firmware gives the context area and the pattern store. -/
structure MediaBoot where
  closing : Bool := true
  lost : List Nat := []
  test : Option (Nat × Nat × Nat) := none
  bootMs : Nat := 0
  late : Bool := false
  czArea : Nat := 0
  gzStore : Nat := 0
  journal : Nat := 0
  deriving DecidableEq, Repr


/-- The commands of the block: one constructor for each row of opcode_table.json, its operands being what the
sender supplies (an address, a value, what a board, a host or the media answered). -/
inductive Instr where
  /-- REGISTER_WRITE (R14). -/
  | registerWrite (sp : Space) (addr size value : Nat)
  /-- FRAME_BOUNDARY (R29). -/
  | frameBoundary (env : FrameEnv)
  /-- FRAME_MARK (R28). -/
  | frameMark
  /-- FRAME_COUNT_LO_READ (R25). -/
  | frameCountLoRead
  /-- DIAG_OVERRUN_FIRE (R42). -/
  | diagOverrunFire (value : Nat)
  /-- SYNTHETIC_OVERRUN_RECORD (R42). -/
  | syntheticOverrunRecord
  /-- AUDIT_SNAPSHOT (R52). -/
  | auditSnapshot
  /-- AUDIT_COMPARISON (R53). -/
  | auditComparison
  /-- DISCARDED_GRANULE_RETURN (R45). -/
  | discardedGranuleReturn (n : Nat)
  /-- STALE_MESSAGE_DISCARD (R198). -/
  | staleMessageDiscard (m : Msg)
  /-- FATAL_ENTRY (R759). -/
  | fatalEntry
  /-- SLICE_PREEMPTION (R558). -/
  | slicePreemption (core : Nat)
  /-- PERST_ASSERT (R69). -/
  | perstAssert (l : Link)
  /-- PERST_DEASSERT (R71). -/
  | perstDeassert (l : Link)
  /-- DL_DOWN (R70). -/
  | dlDown (l : Link)
  /-- LINK_LOSS_EFFECT (R70). -/
  | linkLossEffect (l : Link)
  /-- VF_FUNCTION_LEVEL_RESET (R66). -/
  | vfFunctionLevelReset (fn : Nat)
  /-- PF_FUNCTION_LEVEL_RESET (R67). -/
  | pfFunctionLevelReset (fn : Nat)
  /-- PF_CC_EN_CLEAR (R67). -/
  | pfCcEnClear (fn : Nat)
  /-- VF_CC_EN_CLEAR (R168). -/
  | vfCcEnClear (fn : Nat)
  /-- CC_EN_SET (R207). -/
  | ccEnSet (fn : Nat)
  /-- BUS_MASTER_ENABLE_SET (R68). -/
  | busMasterEnableSet (fn : Nat)
  /-- HELD_TICKET_RESUME (R68). -/
  | heldTicketResume (tk : Nat)
  /-- PMCSR_D3HOT_WRITE (R65). -/
  | pmcsrD3hotWrite (fn : Nat)
  /-- MSIX_PENDING_DELIVERY (R793). -/
  | msixPendingDelivery (fn vec : Nat)
  /-- GET_VERSION (R448). -/
  | getVersion (ep : SpdmEp)
  /-- GET_CAPABILITIES (R448). -/
  | getCapabilities (ep : SpdmEp)
  /-- NEGOTIATE_ALGORITHMS (R448). -/
  | negotiateAlgorithms (ep : SpdmEp) (asym hash meas : Nat)
  /-- GET_DIGESTS (R448). -/
  | getDigests (ep : SpdmEp)
  /-- GET_CERTIFICATE (R447). -/
  | getCertificate (ep : SpdmEp) (slot off len : Nat)
  /-- CHALLENGE (R448). -/
  | challenge (ep : SpdmEp) (slot : Nat) (nonce : Bytes)
  /-- GET_MEASUREMENTS (R449). -/
  | getMeasurements (ep : SpdmEp) (op : Nat) (signed : Bool) (nonce : Bytes)
  /-- ETH_LINK_UP (R74). -/
  | ethLinkUp (port : Nat) (anDone : Bool)
  /-- ETH_LINK_LOST (R95). -/
  | ethLinkLost (port : Nat)
  /-- ECN_MARKED_PACKET (R76). -/
  | ecnMarkedPacket (conn : Nat)
  /-- CNP_RECEIVED (R76). -/
  | cnpReceived (conn : Nat)
  /-- CONNECT (R79). -/
  | connect (c : ConnReq)
  /-- PROPERTY_GET (R148). -/
  | propertyGet (tk : Nat)
  /-- PROPERTY_SET (R148). -/
  | propertySet (tk : Nat)
  /-- KEEP_ALIVE (R148). -/
  | keepAlive (tk : Nat)
  /-- CAPSULE_RECEIVED (R83). -/
  | capsuleReceived (conn : Nat) (c : Capsule)
  /-- RECEIVE_BUFFER_REPOST (R84). -/
  | receiveBufferRepost (conn : Nat)
  /-- RDMA_READ_RESPONSE (R88). -/
  | rdmaReadResponse (conn : Nat) (m : Msg) (ok : Bool) (data : Bytes)
  /-- ICREQ (R82). -/
  | icreq (conn : Nat) (hdgst ddgst : Bool)
  /-- H2C_DATA_PDU (R87). -/
  | h2cDataPdu (conn tag off : Nat) (last digestOk headerOk : Bool) (data : Bytes)
  /-- CONNECTION_CLOSED (R89). -/
  | connectionClosed (conn : Nat)
  /-- DISCOVERY_LOG_CHANGE (R93). -/
  | discoveryLogChange
  /-- MCTP_CONTROL_MESSAGE (R98). -/
  | mctpControlMessage (eid : Nat) (first : MctpPacket) (rest : List MctpPacket)
  /-- READ_NVME_MI_DATA_STRUCTURE (R99). -/
  | readNvmeMiDataStructure (eid kind arg : Nat)
  /-- SUBSYSTEM_HEALTH_STATUS_POLL (R99). -/
  | subsystemHealthStatusPoll (eid : Nat) (clear : Bool)
  /-- CONTROLLER_HEALTH_STATUS_POLL (R99). -/
  | controllerHealthStatusPoll (eid : Nat) (clear : Bool)
  /-- CONFIGURATION_GET (R99). -/
  | configurationGet (eid ident : Nat)
  /-- CONFIGURATION_SET (R99). -/
  | configurationSet (eid ident value : Nat)
  /-- VPD_READ (R99). -/
  | vpdRead (eid off len : Nat)
  /-- VPD_WRITE (R99). -/
  | vpdWrite (eid off : Nat) (data : Bytes)
  /-- TUNNELLED_ADMIN_COMMAND (R99). -/
  | tunnelledAdminCommand (eid : Nat) (x : Tunnelled)
  /-- UNSUPPORTED_NVME_MI_COMMAND (R99). -/
  | unsupportedNvmeMiCommand (eid op : Nat)
  /-- SQ_TAIL_DOORBELL (R109). -/
  | sqTailDoorbell (fn qid tail : Nat) (entries : List Sqe)
  /-- CQ_HEAD_DOORBELL (R144). -/
  | cqHeadDoorbell (fn qid head : Nat)
  /-- HELD_COMPLETION_POST (R144). -/
  | heldCompletionPost (tk : Nat)
  /-- HAZARD_RELEASE_START (R121). -/
  | hazardReleaseStart (tk : Nat)
  /-- ORDERED_COMMAND_START (R123). -/
  | orderedCommandStart (tk : Nat)
  /-- HELD_WRITE_BUFFER_ENTRY (R128). -/
  | heldWriteBufferEntry (tk : Nat)
  /-- COMMAND_COMPLETION (R143). -/
  | commandCompletion (tk : Nat)
  /-- DURABILITY_MODE_CHANGE (R129). -/
  | durabilityModeChange
  /-- BUDGET_LOWERED (R130). -/
  | budgetLowered
  /-- READ (R162). -/
  | read (tk : Nat)
  /-- WRITE (R127). -/
  | write (tk : Nat) (data : Bytes)
  /-- FLUSH (R133). -/
  | flush (tk : Nat)
  /-- COMPARE (R150). -/
  | compare (tk : Nat) (data : Bytes)
  /-- FUSED_COMPARE_AND_WRITE (R118). -/
  | fusedCompareAndWrite (tk : Nat) (cmp data : Bytes)
  /-- WRITE_ZEROES (R245). -/
  | writeZeroes (tk : Nat)
  /-- DATASET_MANAGEMENT (R795). -/
  | datasetManagement (tk : Nat)
  /-- VERIFY (R150). -/
  | verify (tk : Nat)
  /-- COPY (R795). -/
  | copy (tk : Nat)
  /-- CREATE_IO_SUBMISSION_QUEUE (R102). -/
  | createIoSubmissionQueue (tk : Nat)
  /-- CREATE_IO_COMPLETION_QUEUE (R102). -/
  | createIoCompletionQueue (tk : Nat)
  /-- DELETE_IO_SUBMISSION_QUEUE (R794). -/
  | deleteIoSubmissionQueue (tk : Nat)
  /-- SQ_DELETE_COMPLETION (R794). -/
  | sqDeleteCompletion (tk : Nat)
  /-- DELETE_IO_COMPLETION_QUEUE (R794). -/
  | deleteIoCompletionQueue (tk : Nat)
  /-- GET_LOG_PAGE_ERROR_INFORMATION (R148). -/
  | getLogPageErrorInformation (tk : Nat)
  /-- GET_LOG_PAGE_SMART_HEALTH (R148). -/
  | getLogPageSmartHealth (tk : Nat)
  /-- GET_LOG_PAGE_FIRMWARE_SLOT (R148). -/
  | getLogPageFirmwareSlot (tk : Nat)
  /-- GET_LOG_PAGE_COMMANDS_SUPPORTED (R148). -/
  | getLogPageCommandsSupported (tk : Nat)
  /-- GET_LOG_PAGE_DEVICE_SELF_TEST (R148). -/
  | getLogPageDeviceSelfTest (tk : Nat)
  /-- IDENTIFY (R792). -/
  | identify (tk : Nat)
  /-- ABORT (R140). -/
  | abort (tk : Nat)
  /-- GET_FEATURES (R152). -/
  | getFeatures (tk : Nat)
  /-- SET_FEATURES_ARBITRATION (R106). -/
  | setFeaturesArbitration (tk : Nat)
  /-- SET_FEATURES_POWER_MANAGEMENT (R152). -/
  | setFeaturesPowerManagement (tk : Nat)
  /-- SET_FEATURES_TEMPERATURE_THRESHOLD (R802). -/
  | setFeaturesTemperatureThreshold (tk : Nat)
  /-- SET_FEATURES_ERROR_RECOVERY (R152). -/
  | setFeaturesErrorRecovery (tk : Nat)
  /-- SET_FEATURES_VOLATILE_WRITE_CACHE (R152). -/
  | setFeaturesVolatileWriteCache (tk : Nat)
  /-- SET_FEATURES_NUMBER_OF_QUEUES (R102). -/
  | setFeaturesNumberOfQueues (tk : Nat)
  /-- SET_FEATURES_INTERRUPT_COALESCING (R152). -/
  | setFeaturesInterruptCoalescing (tk : Nat)
  /-- SET_FEATURES_INTERRUPT_VECTOR_CONFIG (R152). -/
  | setFeaturesInterruptVectorConfig (tk : Nat)
  /-- SET_FEATURES_ASYNC_EVENT_CONFIG (R152). -/
  | setFeaturesAsyncEventConfig (tk : Nat)
  /-- SET_FEATURES_KEEP_ALIVE_TIMER (R152). -/
  | setFeaturesKeepAliveTimer (tk : Nat)
  /-- SET_FEATURES_ORDER_MARK (R122). -/
  | setFeaturesOrderMark (tk : Nat)
  /-- SET_FEATURES_REQUIRE_HOLDUP (R132). -/
  | setFeaturesRequireHoldup (tk : Nat)
  /-- ASYNCHRONOUS_EVENT_REQUEST (R148). -/
  | asynchronousEventRequest (tk : Nat)
  /-- NAMESPACE_CREATE (R233). -/
  | namespaceCreate (tk nsze flbas : Nat)
  /-- NAMESPACE_DELETE (R236). -/
  | namespaceDelete (tk : Nat)
  /-- NAMESPACE_DELETE_EFFECT (R236). -/
  | namespaceDeleteEffect (nsid : Nat)
  /-- NAMESPACE_ATTACH (R172). -/
  | namespaceAttach (tk : Nat) (ctrls : List Nat)
  /-- NAMESPACE_DETACH (R173). -/
  | namespaceDetach (tk : Nat) (ctrls : List Nat)
  /-- FIRMWARE_IMAGE_DOWNLOAD (R444). -/
  | firmwareImageDownload (tk : Nat) (data : Bytes)
  /-- FIRMWARE_COMMIT (R444). -/
  | firmwareCommit (tk : Nat)
  /-- DEVICE_SELF_TEST (R280). -/
  | deviceSelfTest (tk : Nat)
  /-- VIRTUALIZATION_MANAGEMENT (R171). -/
  | virtualizationManagement (tk : Nat)
  /-- FORMAT_NVM_NO_ERASE (R236). -/
  | formatNvmNoErase (tk : Nat)
  /-- FORMAT_NVM_CRYPTO_ERASE (R149). -/
  | formatNvmCryptoErase (tk : Nat)
  /-- PARCEL_CREATE (R168). -/
  | parcelCreate (p : Packet)
  /-- PARCEL_CONFIGURE (R165). -/
  | parcelConfigure (p : Packet)
  /-- PARCEL_BIND_VF (R61). -/
  | parcelBindVf (p : Packet)
  /-- PARCEL_UNBIND_VF (R221). -/
  | parcelUnbindVf (p : Packet)
  /-- PARCEL_HOST_PAIR (R803). -/
  | parcelHostPair (p : Packet)
  /-- PARCEL_ASSIGN_NS (R173). -/
  | parcelAssignNs (p : Packet)
  /-- PARCEL_ENABLE (R168). -/
  | parcelEnable (p : Packet)
  /-- PARCEL_RESET (R200). -/
  | parcelReset (p : Packet)
  /-- PARCEL_FREEZE (R209). -/
  | parcelFreeze (p : Packet)
  /-- PARCEL_THAW (R168). -/
  | parcelThaw (p : Packet)
  /-- PARCEL_SAVE (R213). -/
  | parcelSave (p : Packet)
  /-- PARCEL_SAVE_COMPLETE (R215). -/
  | parcelSaveComplete (parcel : Nat)
  /-- PARCEL_RESTORE (R217). -/
  | parcelRestore (p : Packet)
  /-- RESTORE_INSTALL_COMPLETE (R217). -/
  | restoreInstallComplete (parcel : Nat)
  /-- PARCEL_RETIRE (R220). -/
  | parcelRetire (p : Packet)
  /-- PARCEL_QUERY (R714). -/
  | parcelQuery (p : Packet)
  /-- PARCEL_SHARE (R715). -/
  | parcelShare (p : Packet)
  /-- PARCEL_REQUEST_EFFECT (R167). -/
  | parcelRequestEffect (parcel : Nat)
  /-- PARCEL_RESET_EFFECT (R200). -/
  | parcelResetEffect (parcel : Nat)
  /-- TEARDOWN_END (R204). -/
  | teardownEnd (parcel : Nat)
  /-- QUEUED_RESET_EFFECT (R170). -/
  | queuedResetEffect (parcel : Nat)
  /-- PARCEL_FREEZE_EFFECT (R209). -/
  | parcelFreezeEffect (parcel : Nat)
  /-- PARCEL_DRAINED (R210). -/
  | parcelDrained (parcel : Nat)
  /-- RETIREMENT_EFFECT (R220). -/
  | retirementEffect (parcel : Nat)
  /-- RETIREMENT_TEARDOWN_END (R220). -/
  | retirementTeardownEnd (parcel : Nat)
  /-- MAILBOX_SLOT_WRITE (R175). -/
  | mailboxSlotWrite (tenant : Bool) (parcel off value : Nat)
  /-- MAILBOX_IN_POST (R176). -/
  | mailboxInPost (parcel mask : Nat)
  /-- MAILBOX_OUT_POST (R176). -/
  | mailboxOutPost (parcel mask : Nat)
  /-- MAILBOX_POST_VISIBLE (R177). -/
  | mailboxPostVisible (parcel : Nat)
  /-- MAILBOX_IN_CONSUME (R177). -/
  | mailboxInConsume (parcel mask : Nat)
  /-- SHARE_WRITE (R185). -/
  | shareWrite (parcel cls : Nat) (depth : Bool) (value : Nat)
  /-- SHARE_CHANGE_EFFECT (R185). -/
  | shareChangeEffect (parcel : Nat)
  /-- CORE_MASK_WRITE (R493). -/
  | coreMaskWrite (parcel value : Nat)
  /-- CORE_MASK_EFFECT (R493). -/
  | coreMaskEffect (parcel : Nat)
  /-- SNAP_INTERVAL_WRITE (R191). -/
  | snapIntervalWrite (value : Nat)
  /-- METER_LO_READ (R196). -/
  | meterLoRead (parcel meter : Nat)
  /-- SNAP_LAST_LO_READ (R229). -/
  | snapLastLoRead
  /-- METER_INTERVAL_END (R190). -/
  | meterIntervalEnd
  /-- SNAPSHOT_RECORDS_WRITTEN (R192). -/
  | snapshotRecordsWritten
  /-- HELD_FINAL_RECORD_WRITE (R796). -/
  | heldFinalRecordWrite
  /-- STRIPE_PAD_TIMEOUT (R270). -/
  | stripePadTimeout (stripe : Nat)
  /-- STRIPE_PROGRAM_COMPLETE (R246). -/
  | stripeProgramComplete (stripe : Nat)
  /-- BLOCK_ERASE_RELEASE (R248). -/
  | blockEraseRelease (die block : Nat)
  /-- SHEET_FOLD_START (R254). -/
  | sheetFoldStart (quad sheet : Nat)
  /-- SHEET_FOLD_END (R255). -/
  | sheetFoldEnd (quad sheet : Nat)
  /-- CONVERSION_WINDOW_END (R258). -/
  | conversionWindowEnd
  /-- TO_PAGE_CONVERSION_END (R259). -/
  | toPageConversionEnd (quad : Nat)
  /-- TO_SHEET_CONVERSION_END (R260). -/
  | toSheetConversionEnd (quad : Nat)
  /-- RESURVEY_START (R275). -/
  | resurveyStart
  /-- WEAR_LEVEL_MOVE (R279). -/
  | wearLevelMove
  /-- REBUILD_END (R285). -/
  | rebuildEnd
  /-- SEALED_ENTRY (R292). -/
  | sealedEntry
  /-- SEALED_EXIT (R292). -/
  | sealedExit
  /-- TABLES_BUDGET_WRITE (R299). -/
  | tablesBudgetWrite (value : Nat)
  /-- CAPACITY_LO_READ (R308). -/
  | capacityLoRead
  /-- CHANNEL_TRAINING_END (R320). -/
  | channelTrainingEnd (ch : Nat) (r : TrainResult)
  /-- RETRAIN_WRITE (R342). -/
  | retrainWrite (ch : Nat)
  /-- CHANNEL_RETRAIN (R319). -/
  | channelRetrain (ch : Nat)
  /-- CHANNEL_RETRAIN_END (R320). -/
  | channelRetrainEnd (ch : Nat) (ok : Bool)
  /-- ZQ_CALIBRATION_SHORT (R319). -/
  | zqCalibrationShort
  /-- SUSPEND_ENTERED (R331). -/
  | suspendEntered (die : Nat)
  /-- FLASH_READ_READY (R326). -/
  | flashReadReady (die : Nat) (d : DecodeResult)
  /-- SOFT_DECODE_COMPLETE (R334). -/
  | softDecodeComplete (die : Nat) (d : DecodeResult)
  /-- FLASH_PROGRAM_DONE (R338). -/
  | flashProgramDone (die : Nat) (ok : Bool)
  /-- FLASH_ERASE_DONE (R338). -/
  | flashEraseDone (die : Nat) (ok : Bool)
  /-- DIE_TIMEOUT (R336). -/
  | dieTimeout (die : Nat)
  /-- DIE_LOST (R336). -/
  | dieLost (die : Nat)
  /-- CORR_BITS_READ (R344). -/
  | corrBitsRead (ch : Nat)
  /-- COMPRESS (R367). -/
  | compress (job : Nat)
  /-- DECOMPRESS (R372). -/
  | decompress (job : Nat)
  /-- CZ_OPEN_CONTEXT (R363). -/
  | czOpenContext (job : Nat)
  /-- CZ_CLOSE_CONTEXT (R365). -/
  | czCloseContext (job : Nat)
  /-- DG_OPEN_CONTEXT (R383). -/
  | dgOpenContext (job : Nat)
  /-- DG_UPDATE (R381). -/
  | dgUpdate (job : Nat)
  /-- DG_CLOSE_CONTEXT (R365). -/
  | dgCloseContext (job : Nat)
  /-- ENGINE_JOB_END (R358). -/
  | engineJobEnd (job : Nat)
  /-- NS_TAP_WRITE (R396). -/
  | nsTapWrite (tap value : Nat)
  /-- NS_TAP_ATTACH (R389). -/
  | nsTapAttach (tap : Nat)
  /-- TAP_HOLD_TIMEOUT (R390). -/
  | tapHoldTimeout (tap : Nat)
  /-- ENCRYPT (R427). -/
  | encrypt (job : Nat)
  /-- DECRYPT (R429). -/
  | decrypt (job : Nat)
  /-- GCM_GRANULE_START (R429). -/
  | gcmGranuleStart (job : Nat)
  /-- GCM_PLAINTEXT_WRITEOUT_END (R429). -/
  | gcmPlaintextWriteoutEnd (job : Nat)
  /-- GCM_VERIFY (R430). -/
  | gcmVerify (job : Nat)
  /-- GCM_DECRYPT_AFTER_VERIFY (R431). -/
  | gcmDecryptAfterVerify (job : Nat)
  /-- AES_KW_UNWRAP (R423). -/
  | aesKwUnwrap (job : Nat)
  /-- MASK_GENERATOR_RESEED (R422). -/
  | maskGeneratorReseed (lane : Nat)
  /-- ENTROPY_GRACE_EXPIRY (R422). -/
  | entropyGraceExpiry
  /-- KEY_UNWRAP (R407). -/
  | keyUnwrap (p : Packet)
  /-- KEY_DERIVE (R806). -/
  | keyDerive (p : Packet)
  /-- KEY_ERASE (R413). -/
  | keyErase (p : Packet)
  /-- KEY_QUERY (R717). -/
  | keyQuery (p : Packet)
  /-- KEY_INSTALL_EFFECT (R412). -/
  | keyInstallEffect (slot : Nat)
  /-- KEY_ERASURE_EFFECT (R413). -/
  | keyErasureEffect (slot : Nat)
  /-- FUSE_BLOW_COMPLETE (R445). -/
  | fuseBlowComplete
  /-- HEALTH_TEST_FAILURE (R451). -/
  | healthTestFailure
  /-- STARTUP_TEST_RETRY (R451). -/
  | startupTestRetry (pass : Bool)
  /-- DRBG_RESEED (R450). -/
  | drbgReseed
  /-- CLEAN (R469). -/
  | clean (c : Nat) (x : Pfx) (oct : Bool) (ra : Nat)
  /-- INVAL (R469). -/
  | inval (c : Nat) (x : Pfx) (oct : Bool) (ra : Nat)
  /-- CLEAN_INVAL (R469). -/
  | cleanInval (c : Nat) (x : Pfx) (oct : Bool) (ra : Nat)
  /-- ZERO (R469). -/
  | zero (c : Nat) (x : Pfx) (oct : Bool) (ra : Nat)
  /-- LOCK (R474). -/
  | lock (c : Nat) (x : Pfx) (oct : Bool) (rd ra : Nat)
  /-- UNLOCK (R469). -/
  | unlock (c : Nat) (x : Pfx) (oct : Bool) (ra : Nat)
  /-- CLEAN_RANGE (R471). -/
  | cleanRange (c : Nat) (x : Pfx) (oct : Bool) (ra rb : Nat)
  /-- INVAL_RANGE (R471). -/
  | invalRange (c : Nat) (x : Pfx) (oct : Bool) (ra rb : Nat)
  /-- CLEAN_INVAL_RANGE (R471). -/
  | cleanInvalRange (c : Nat) (x : Pfx) (oct : Bool) (ra rb : Nat)
  /-- INVAL_I (R469). -/
  | invalI (c : Nat) (x : Pfx) (oct : Bool) (ra : Nat)
  /-- SYNC (R469). -/
  | sync (c : Nat) (x : Pfx)
  /-- WAY_MODE_WRITE (R481). -/
  | wayModeWrite (cl value : Nat)
  /-- WAY_MODE_CHANGE_START (R480). -/
  | wayModeChangeStart (cl : Nat)
  /-- WAY_MODE_CHANGE_COMPLETE (R480). -/
  | wayModeChangeComplete (cl : Nat)
  /-- WAY_OWNER_WRITE (R512). -/
  | wayOwnerWrite (cl way value : Nat)
  /-- POOL_WRITE (R492). -/
  | poolWrite (cl value : Nat)
  /-- POOL_CHANGE_EFFECT (R492). -/
  | poolChangeEffect (cl : Nat)
  /-- TASK_WAKE (R489). -/
  | taskWake (task : Nat)
  /-- TASK_UNBLOCK (R485). -/
  | taskUnblock (task : Nat)
  /-- FLOW_HANDOFF (R488). -/
  | flowHandoff (flow : Nat)
  /-- TASK_CLUSTER_MOVE (R487). -/
  | taskClusterMove (task : Nat)
  /-- EXIT (R503). -/
  | exit_ (c : Nat) (x : Pfx)
  /-- YIELD (R490). -/
  | yield_ (c : Nat) (x : Pfx)
  /-- DELAY (R489). -/
  | delay (c : Nat) (x : Pfx)
  /-- SPAWN (R500). -/
  | spawn (c : Nat) (x : Pfx)
  /-- FLOW_OPEN (R500). -/
  | flowOpen (c : Nat) (x : Pfx)
  /-- FLOW_CLOSE (R500). -/
  | flowClose (c : Nat) (x : Pfx)
  /-- FLOW_RELEASE (R488). -/
  | flowRelease (c : Nat) (x : Pfx)
  /-- ENGINE_SUBMIT (R502). -/
  | engineSubmit (c : Nat) (x : Pfx)
  /-- ENGINE_WAIT (R462). -/
  | engineWait (c : Nat) (x : Pfx)
  /-- GZ_SUBMIT (R572). -/
  | gzSubmit (c : Nat) (x : Pfx)
  /-- FRAME (R500). -/
  | frame (c : Nat) (x : Pfx)
  /-- UNKNOWN_SUPERVISOR_CALL (R500). -/
  | unknownSupervisorCall (c : Nat) (x : Pfx) (num : Nat)
  /-- LOAD_PROGRAM (R497). -/
  | loadProgram (tk : Nat) (image : Bytes)
  /-- PROGRAM_ACTIVATE (R495). -/
  | programActivate (tk : Nat)
  /-- PROGRAM_DEACTIVATE (R498). -/
  | programDeactivate (tk : Nat)
  /-- EXECUTE_PROGRAM (R499). -/
  | executeProgram (tk : Nat) (param : Bytes)
  /-- MEMORY_RANGE_SET_CREATE (R495). -/
  | memoryRangeSetCreate (tk : Nat) (rs : List Nat)
  /-- MEMORY_RANGE_SET_DELETE (R495). -/
  | memoryRangeSetDelete (tk : Nat)
  /-- SLM_READ (R461). -/
  | slmRead (tk : Nat)
  /-- SLM_WRITE (R461). -/
  | slmWrite (tk : Nat) (data : Bytes)
  /-- MEMORY_COPY (R498). -/
  | memoryCopy (tk : Nat)
  /-- INVOCATION_BUDGET_END (R504). -/
  | invocationBudgetEnd (tk : Nat)
  /-- INVOCATION_COMPLETION_POST (R505). -/
  | invocationCompletionPost (tk : Nat)
  /-- ADD (R551). -/
  | add (c : Nat) (x : Pfx) (rd ra rb : Nat)
  /-- ADC (R551). -/
  | adc (c : Nat) (x : Pfx) (rd ra rb : Nat)
  /-- SUB (R551). -/
  | sub (c : Nat) (x : Pfx) (rd ra rb : Nat)
  /-- SBC (R551). -/
  | sbc (c : Nat) (x : Pfx) (rd ra rb : Nat)
  /-- CMP (R551). -/
  | cmp (c : Nat) (x : Pfx) (ra rb : Nat)
  /-- AND (R551). -/
  | and_ (c : Nat) (x : Pfx) (rd ra rb : Nat)
  /-- OR (R551). -/
  | or_ (c : Nat) (x : Pfx) (rd ra rb : Nat)
  /-- XOR (R551). -/
  | xor (c : Nat) (x : Pfx) (rd ra rb : Nat)
  /-- ANDN (R551). -/
  | andn (c : Nat) (x : Pfx) (rd ra rb : Nat)
  /-- TST (R551). -/
  | tst (c : Nat) (x : Pfx) (ra rb : Nat)
  /-- MOV (R551). -/
  | mov (c : Nat) (x : Pfx) (rd rb : Nat)
  /-- NEG (R551). -/
  | neg (c : Nat) (x : Pfx) (rd rb : Nat)
  /-- NOT (R551). -/
  | not_ (c : Nat) (x : Pfx) (rd rb : Nat)
  /-- SHL (R547). -/
  | shl (c : Nat) (x : Pfx) (rd ra rb : Nat)
  /-- SHR (R547). -/
  | shr (c : Nat) (x : Pfx) (rd ra rb : Nat)
  /-- SAR (R547). -/
  | sar (c : Nat) (x : Pfx) (rd ra rb : Nat)
  /-- ROR (R547). -/
  | ror (c : Nat) (x : Pfx) (rd ra rb : Nat)
  /-- MULU (R548). -/
  | mulu (c : Nat) (x : Pfx) (rd ra rb : Nat)
  /-- MULS (R548). -/
  | muls (c : Nat) (x : Pfx) (rd ra rb : Nat)
  /-- DIVU (R548). -/
  | divu (c : Nat) (x : Pfx) (rd ra rb : Nat)
  /-- DIVS (R548). -/
  | divs (c : Nat) (x : Pfx) (rd ra rb : Nat)
  /-- CLZ (R551). -/
  | clz (c : Nat) (x : Pfx) (rd ra : Nat)
  /-- POPC (R551). -/
  | popc (c : Nat) (x : Pfx) (rd ra : Nat)
  /-- SEL (R551). -/
  | sel (c : Nat) (x : Pfx) (cond rd ra rb : Nat)
  /-- MFF (R521). -/
  | mff (c : Nat) (x : Pfx) (rd : Nat)
  /-- MTF (R521). -/
  | mtf (c : Nat) (x : Pfx) (ra : Nat)
  /-- ADDI (R551). -/
  | addi (c : Nat) (x : Pfx) (rd ra : Nat) (imm : Word)
  /-- ADDQ (R534). -/
  | addq (c : Nat) (x : Pfx) (rd k : Nat)
  /-- SUBQ (R534). -/
  | subq (c : Nat) (x : Pfx) (rd k : Nat)
  /-- CMPI (R551). -/
  | cmpi (c : Nat) (x : Pfx) (ra : Nat) (imm : Word)
  /-- CMPQ (R534). -/
  | cmpq (c : Nat) (x : Pfx) (rd k : Nat)
  /-- ANDI (R551). -/
  | andi (c : Nat) (x : Pfx) (rd ra : Nat) (imm : Word)
  /-- ORI (R551). -/
  | ori (c : Nat) (x : Pfx) (rd ra : Nat) (imm : Word)
  /-- XORI (R551). -/
  | xori (c : Nat) (x : Pfx) (rd ra : Nat) (imm : Word)
  /-- SHLI (R547). -/
  | shli (c : Nat) (x : Pfx) (rd ra k : Nat)
  /-- SHRI (R547). -/
  | shri (c : Nat) (x : Pfx) (rd ra k : Nat)
  /-- SARI (R547). -/
  | sari (c : Nat) (x : Pfx) (rd ra k : Nat)
  /-- RORI (R547). -/
  | rori (c : Nat) (x : Pfx) (rd ra k : Nat)
  /-- SHLQ (R534). -/
  | shlq (c : Nat) (x : Pfx) (rd k : Nat)
  /-- SHRQ (R534). -/
  | shrq (c : Nat) (x : Pfx) (rd k : Nat)
  /-- SARQ (R534). -/
  | sarq (c : Nat) (x : Pfx) (rd k : Nat)
  /-- EXT (R549). -/
  | ext (c : Nat) (x : Pfx) (rd ra p n : Nat)
  /-- EXTS (R549). -/
  | exts (c : Nat) (x : Pfx) (rd ra p n : Nat)
  /-- INS (R549). -/
  | ins (c : Nat) (x : Pfx) (rd ra p n : Nat)
  /-- MOVHI (R551). -/
  | movhi (c : Nat) (x : Pfx) (rd : Nat) (imm : Word)
  /-- MFSR (R562). -/
  | mfsr (c : Nat) (x : Pfx) (rd num : Nat)
  /-- MTSR (R562). -/
  | mtsr (c : Nat) (x : Pfx) (ra num : Nat)
  /-- MOVI (R551). -/
  | movi (c : Nat) (x : Pfx) (rd : Nat) (imm : Word)
  /-- MOVQ (R534). -/
  | movq (c : Nat) (x : Pfx) (rd k : Nat)
  /-- LDW (R523). -/
  | ldw (c : Nat) (x : Pfx) (rd ra : Nat) (m : Mode)
  /-- STW (R523). -/
  | stw (c : Nat) (x : Pfx) (rd ra : Nat) (m : Mode)
  /-- LDO8U (R524). -/
  | ldo8u (c : Nat) (x : Pfx) (rd ra : Nat) (m : Mode)
  /-- LDO8S (R524). -/
  | ldo8s (c : Nat) (x : Pfx) (rd ra : Nat) (m : Mode)
  /-- LDO16U (R524). -/
  | ldo16u (c : Nat) (x : Pfx) (rd ra : Nat) (m : Mode)
  /-- LDO16S (R524). -/
  | ldo16s (c : Nat) (x : Pfx) (rd ra : Nat) (m : Mode)
  /-- LDO32U (R524). -/
  | ldo32u (c : Nat) (x : Pfx) (rd ra : Nat) (m : Mode)
  /-- LDO32S (R524). -/
  | ldo32s (c : Nat) (x : Pfx) (rd ra : Nat) (m : Mode)
  /-- LDO64 (R524). -/
  | ldo64 (c : Nat) (x : Pfx) (rd ra : Nat) (m : Mode)
  /-- STO8 (R524). -/
  | sto8 (c : Nat) (x : Pfx) (rd ra : Nat) (m : Mode)
  /-- STO16 (R524). -/
  | sto16 (c : Nat) (x : Pfx) (rd ra : Nat) (m : Mode)
  /-- STO32 (R524). -/
  | sto32 (c : Nat) (x : Pfx) (rd ra : Nat) (m : Mode)
  /-- STO64 (R524). -/
  | sto64 (c : Nat) (x : Pfx) (rd ra : Nat) (m : Mode)
  /-- B (R530). -/
  | b (c : Nat) (x : Pfx) (cond : Nat) (disp : Int)
  /-- CALL (R531). -/
  | call (c : Nat) (x : Pfx) (disp : Int)
  /-- JMPR (R531). -/
  | jmpr (c : Nat) (x : Pfx) (ra : Nat)
  /-- CALLR (R531). -/
  | callr (c : Nat) (x : Pfx) (ra : Nat)
  /-- RET (R531). -/
  | ret (c : Nat) (x : Pfx)
  /-- RETT (R561). -/
  | rett (c : Nat) (x : Pfx)
  /-- NOP (R551). -/
  | nop (c : Nat) (x : Pfx)
  /-- ILLEGAL_INSTRUCTION (R552). -/
  | illegalInstruction (c : Nat)
  /-- SEARCH (R583). -/
  | search (job : Nat) (ups : List Upset)
  /-- INSERT (R585). -/
  | insert (job : Nat)
  /-- GZ_DELETE (R586). -/
  | gzDelete (job : Nat)
  /-- WALK (R588). -/
  | walk (job : Nat)
  /-- OPEN_SCAN_CONTEXT (R598). -/
  | openScanContext (job : Nat)
  /-- SCAN (R595). -/
  | scan (job : Nat)
  /-- CLOSE_SCAN_CONTEXT (R598). -/
  | closeScanContext (job : Nat)
  /-- LOAD_AUTOMATON (R594). -/
  | loadAutomaton (job : Nat)
  /-- UNLOAD_AUTOMATON (R592). -/
  | unloadAutomaton (job : Nat)
  /-- SUSPECT_REPAIR (R590). -/
  | suspectRepair (entry : Nat)
  /-- SHADOW_COMPARISON (R591). -/
  | shadowComparison (entry : Nat) (ups : List Upset)
  /-- CASCADE_LINK_TRAINED (R602). -/
  | cascadeLinkTrained (position present : Nat)
  /-- CASCADE_MARK_RECEIVED (R608). -/
  | cascadeMarkReceived (octets : Bytes) (crc : Nat)
  /-- CASCADE_BATCH_SEARCH (R605). -/
  | cascadeBatchSearch (keys : List CascKey)
  /-- MATCH_CHAIN_DRIVE (R605). -/
  | matchChainDrive (mi : List Bool)
  /-- CASCADE_ANSWER_RECEIVED (R605). -/
  | cascadeAnswerReceived (a : CascAnswer)
  /-- CASCADE_MARK_MISSING (R609). -/
  | cascadeMarkMissing
  /-- CASCADE_MEMBERSHIP_EFFECT (R607). -/
  | cascadeMembershipEffect
  /-- GZ_TABLE_CREATE (R568). -/
  | gzTableCreate (p : Packet)
  /-- GZ_TABLE_DELETE (R570). -/
  | gzTableDelete (p : Packet)
  /-- GZ_LIMITS (R592). -/
  | gzLimits (p : Packet)
  /-- GZ_CASCADE_SET (R607). -/
  | gzCascadeSet (p : Packet)
  /-- GZ_THROTTLE_READ (R611). -/
  | gzThrottleRead
  /-- CA_PARITY_ALERT (R621). -/
  | caParityAlert (ch : Nat)
  /-- PORT_QOS_WRITE (R629). -/
  | portQosWrite (port value : Nat)
  /-- ROW_IDLE_CLOSE (R630). -/
  | rowIdleClose (bank : Nat)
  /-- RFM_ISSUE (R632). -/
  | rfmIssue (bank : Nat)
  /-- REFRESH_DUE (R633). -/
  | refreshDue (ch sub rank : Nat) (postpone : Bool)
  /-- OWED_REFRESH_ISSUE (R635). -/
  | owedRefreshIssue (ch sub rank : Nat)
  /-- MR4_READ (R634). -/
  | mr4Read (ch : Nat) (codes : List Nat)
  /-- ROW_REPAIR_SWITCH (R647). -/
  | rowRepairSwitch (ch row : Nat)
  /-- SURVEYOR_READ (R650). -/
  | surveyorRead (r : SurveyResult)
  /-- SURVEYOR_LAP_END (R653). -/
  | surveyorLapEnd
  /-- LAST_ERR_LO_READ (R659). -/
  | lastErrLoRead
  /-- DMA_GO (R668). -/
  | dmaGo (ch value : Nat)
  /-- DMA_STOP (R670). -/
  | dmaStop (ch : Nat)
  /-- DMA_DESCRIPTOR_START (R667). -/
  | dmaDescriptorStart (ch : Nat)
  /-- DMA_DESCRIPTOR_END (R676). -/
  | dmaDescriptorEnd (ch : Nat) (hostData : Bytes)
  /-- DMA_DESCRIPTOR_HALT (R671). -/
  | dmaDescriptorHalt (ch : Nat) (why : DmaHalt) (done : Nat)
  /-- DX_CQ_HEAD_WRITE (R677). -/
  | dxCqHeadWrite (ch value : Nat)
  /-- DX_CQ_CONFIG_WRITE (R681). -/
  | dxCqConfigWrite (ch reg value : Nat)
  /-- EVENT_MSIX_DELIVERY (R687). -/
  | eventMsixDelivery (ev : Nat)
  /-- EV_PENDING_CLEAR (R688). -/
  | evPendingClear (k value : Nat)
  /-- EV_TEST_RAISE (R691). -/
  | evTestRaise (value : Nat)
  /-- EV_ROUTE_WRITE (R692). -/
  | evRouteWrite (ev value : Nat)
  /-- MEDIA_FORMAT (R289). -/
  | mediaFormat (p : Packet)
  /-- QUADRANGLE_PIN (R261). -/
  | quadranglePin (p : Packet)
  /-- QUADRANGLE_UNPIN (R261). -/
  | quadrangleUnpin (p : Packet)
  /-- CHANNEL_RETIRE (R320). -/
  | channelRetire (p : Packet)
  /-- MEDIA_QUERY (R720). -/
  | mediaQuery (p : Packet)
  /-- NS_TRANSFORM (R721). -/
  | nsTransform (p : Packet)
  /-- HOLDUP_DISARM (R746). -/
  | holdupDisarm (p : Packet)
  /-- HOLDUP_TEST_AND_ARM (R746). -/
  | holdupTestAndArm (p : Packet)
  /-- HOLDUP_TEST_ONLY (R746). -/
  | holdupTestOnly (p : Packet)
  /-- COMPUTE_RANGE_CREATE (R722). -/
  | computeRangeCreate (p : Packet)
  /-- COMPUTE_RANGE_DELETE (R723). -/
  | computeRangeDelete (p : Packet)
  /-- COMPUTE_LIMITS (R722). -/
  | computeLimits (p : Packet)
  /-- OPERATOR_LOAD (R508). -/
  | operatorLoad (p : Packet)
  /-- OPERATOR_INVOKE (R508). -/
  | operatorInvoke (p : Packet)
  /-- WAY_ASSIGN (R723). -/
  | wayAssign (p : Packet)
  /-- COMPUTE_QUERY (R722). -/
  | computeQuery (p : Packet)
  /-- METER_READ (R725). -/
  | meterRead (p : Packet)
  /-- METER_FREE (R725). -/
  | meterFree (p : Packet)
  /-- FW_DOWNLOAD (R726). -/
  | fwDownload (p : Packet)
  /-- FW_COMMIT (R444). -/
  | fwCommit (p : Packet)
  /-- FW_SVN_ADVANCE (R445). -/
  | fwSvnAdvance (p : Packet)
  /-- BOOTCFG_SET (R727). -/
  | bootcfgSet (p : Packet)
  /-- DIAG_DUMP (R728). -/
  | diagDump (p : Packet)
  /-- EVENT_READ (R729). -/
  | eventRead (p : Packet)
  /-- DEVICE_QUERY (R724). -/
  | deviceQuery (p : Packet)
  /-- UNKNOWN_MANAGER_PACKET (R705). -/
  | unknownManagerPacket (opcode : Nat) (p : Packet)
  /-- MG_INFLIGHT_READ (R730). -/
  | mgInflightRead
  /-- FEC_UNCORR_READ (R95). -/
  | fecUncorrRead (port : Nat)
  /-- POWER_ON_RESET (R733). -/
  | powerOnReset
  /-- SYS_RESET (R736). -/
  | sysReset
  /-- TEMPERATURE_MINIMUM_REACHED (R783). -/
  | temperatureMinimumReached
  /-- ROM_STAGE (R741). -/
  | romStage (r : RomResult)
  /-- ADMIN_READY (R742). -/
  | adminReady
  /-- MEDIA_READY (R741). -/
  | mediaReady (r : MediaBoot)
  /-- PWR_FAIL_SEEN (R750). -/
  | pwrFailSeen
  /-- RAIL_UNDERVOLTAGE (R777). -/
  | railUndervoltage
  /-- POWER_FAIL_STOP (R750). -/
  | powerFailStop
  /-- DUMP_END (R752). -/
  | dumpEnd
  /-- DUMP_RESTART (R754). -/
  | dumpRestart
  /-- BOOT_RESTART_AFTER_POWER_FAIL (R755). -/
  | bootRestartAfterPowerFail
  /-- BANK_SETTLED (R744). -/
  | bankSettled (v1 : Nat)
  /-- ENERGY_TEST_END (R744). -/
  | energyTestEnd (v2 power : Nat)
  /-- ENERGY_TEST_SETTLE_TIMEOUT (R745). -/
  | energyTestSettleTimeout
  /-- HOLDUP_RETEST (R748). -/
  | holdupRetest
  /-- CLUSTER_RESET_WRITE (R739). -/
  | clusterResetWrite (value : Nat)
  /-- CLUSTER_RESET (R739). -/
  | clusterReset (cl : Nat)
  /-- CLUSTER_RESET_COMPLETE (R739). -/
  | clusterResetComplete (cl : Nat)
  /-- LIFE_RECORD_UPDATE (R789). -/
  | lifeRecordUpdate
  /-- BUS_MASTER_ENABLE_CLEAR (R68). -/
  | busMasterEnableClear (fn : Nat)
  /-- PF_CC_EN_SET (R791). -/
  | pfCcEnSet (fn : Nat)
  /-- PCIE_LINK_UP (R70). -/
  | pcieLinkUp (l : Link)
  /-- DOE_DISCOVERY (R65). -/
  | doeDiscovery (fn index : Nat)
  /-- GET_LOG_PAGE_DISCOVERY (R92). -/
  | getLogPageDiscovery (tk : Nat)
  /-- KEEP_ALIVE_TIMEOUT (R152). -/
  | keepAliveTimeout (conn : Nat)
  /-- MAP_LINE_REBUILD_END (R655). -/
  | mapLineRebuildEnd (line : Nat)
  deriving DecidableEq, Repr

end Sys2Proof
end

