-- ==== Sys2Proof/Decode.lean ====
section
/-! DEFINITION. Decoding. The opcode table gives no row bits, so no word spells a command of the block. What the chip
itself decodes are Tuirus instructions (chapter 10): paired words and compact syllables, each read here into the commands
that execute it or the trap it takes. -/
namespace Sys2Proof

/-- The command that a word spells by the table's bits: no row of the table gives bits. -/
def decodeTableWord (_nbits _w : Nat) : Option Instr := none

/-- A Tuirus instruction as decoded, named as the command that executes it (R551). -/
inductive Tuirus where
  | clean (oct : Bool) (ra : Nat)
  | inval (oct : Bool) (ra : Nat)
  | cleanInval (oct : Bool) (ra : Nat)
  | zero (oct : Bool) (ra : Nat)
  | lock (oct : Bool) (rd ra : Nat)
  | unlock (oct : Bool) (ra : Nat)
  | cleanRange (oct : Bool) (ra rb : Nat)
  | invalRange (oct : Bool) (ra rb : Nat)
  | cleanInvalRange (oct : Bool) (ra rb : Nat)
  | invalI (oct : Bool) (ra : Nat)
  | sync
  | exit_
  | yield_
  | delay
  | spawn
  | flowOpen
  | flowClose
  | flowRelease
  | engineSubmit
  | engineWait
  | gzSubmit
  | frame
  | unknownSupervisorCall (num : Nat)
  | add (rd ra rb : Nat)
  | adc (rd ra rb : Nat)
  | sub (rd ra rb : Nat)
  | sbc (rd ra rb : Nat)
  | cmp (ra rb : Nat)
  | and_ (rd ra rb : Nat)
  | or_ (rd ra rb : Nat)
  | xor (rd ra rb : Nat)
  | andn (rd ra rb : Nat)
  | tst (ra rb : Nat)
  | mov (rd rb : Nat)
  | neg (rd rb : Nat)
  | not_ (rd rb : Nat)
  | shl (rd ra rb : Nat)
  | shr (rd ra rb : Nat)
  | sar (rd ra rb : Nat)
  | ror (rd ra rb : Nat)
  | mulu (rd ra rb : Nat)
  | muls (rd ra rb : Nat)
  | divu (rd ra rb : Nat)
  | divs (rd ra rb : Nat)
  | clz (rd ra : Nat)
  | popc (rd ra : Nat)
  | sel (cond rd ra rb : Nat)
  | mff (rd : Nat)
  | mtf (ra : Nat)
  | addi (rd ra : Nat) (imm : Word)
  | addq (rd k : Nat)
  | subq (rd k : Nat)
  | cmpi (ra : Nat) (imm : Word)
  | cmpq (rd k : Nat)
  | andi (rd ra : Nat) (imm : Word)
  | ori (rd ra : Nat) (imm : Word)
  | xori (rd ra : Nat) (imm : Word)
  | shli (rd ra k : Nat)
  | shri (rd ra k : Nat)
  | sari (rd ra k : Nat)
  | rori (rd ra k : Nat)
  | shlq (rd k : Nat)
  | shrq (rd k : Nat)
  | sarq (rd k : Nat)
  | ext (rd ra p n : Nat)
  | exts (rd ra p n : Nat)
  | ins (rd ra p n : Nat)
  | movhi (rd : Nat) (imm : Word)
  | mfsr (rd num : Nat)
  | mtsr (ra num : Nat)
  | movi (rd : Nat) (imm : Word)
  | movq (rd k : Nat)
  | ldw (rd ra : Nat) (m : Mode)
  | stw (rd ra : Nat) (m : Mode)
  | ldo8u (rd ra : Nat) (m : Mode)
  | ldo8s (rd ra : Nat) (m : Mode)
  | ldo16u (rd ra : Nat) (m : Mode)
  | ldo16s (rd ra : Nat) (m : Mode)
  | ldo32u (rd ra : Nat) (m : Mode)
  | ldo32s (rd ra : Nat) (m : Mode)
  | ldo64 (rd ra : Nat) (m : Mode)
  | sto8 (rd ra : Nat) (m : Mode)
  | sto16 (rd ra : Nat) (m : Mode)
  | sto32 (rd ra : Nat) (m : Mode)
  | sto64 (rd ra : Nat) (m : Mode)
  | b (cond : Nat) (disp : Int)
  | call (disp : Int)
  | jmpr (ra : Nat)
  | callr (ra : Nat)
  | ret
  | rett
  | nop
  deriving DecidableEq, Repr

/-- What an instruction decodes to: its commands, or a trap vector and DETAIL (R554, R564). -/
inductive Decoded where
  | ops (l : List Tuirus)
  | trap (vector detail : Nat)
  deriving DecidableEq, Repr

/-- What a run of compact syllables decodes to: an instruction and its length, a trap, or the wish for more syllables. -/
inductive CDecoded where
  | op (i : Tuirus) (x : Pfx)
  | trap (vector detail : Nat)
  | more
  deriving DecidableEq, Repr

/-- A number of `n` bits sign-extended to a word (R542). -/
def signExt (n v : Nat) : Word := if bitOf v (n - 1) then BitVec.ofNat 36 (v + (2 ^ 36 - 2 ^ n)) else BitVec.ofNat 36 v

/-- A number of `n` bits as an integer. -/
def signInt (n v : Nat) : Int := if bitOf v (n - 1) then (v : Int) - 2 ^ n else v

/-- Operations of format RRR but SEL, CACHE, JMPR and CALLR, with which of rd, ra, rb must be 0 (R551). -/
def opRrr (op rd ra rb : Nat) : Option (Tuirus × Bool) :=
  match op with
  | 0x01 => some (.add rd ra rb, false)
  | 0x02 => some (.adc rd ra rb, false)
  | 0x03 => some (.sub rd ra rb, false)
  | 0x04 => some (.sbc rd ra rb, false)
  | 0x05 => some (.cmp ra rb, rd != 0)
  | 0x06 => some (.and_ rd ra rb, false)
  | 0x07 => some (.or_ rd ra rb, false)
  | 0x08 => some (.xor rd ra rb, false)
  | 0x09 => some (.andn rd ra rb, false)
  | 0x0A => some (.tst ra rb, rd != 0)
  | 0x0B => some (.mov rd rb, ra != 0)
  | 0x0C => some (.neg rd rb, ra != 0)
  | 0x0D => some (.not_ rd rb, ra != 0)
  | 0x0E => some (.shl rd ra rb, false)
  | 0x0F => some (.shr rd ra rb, false)
  | 0x10 => some (.sar rd ra rb, false)
  | 0x11 => some (.ror rd ra rb, false)
  | 0x12 => some (.mulu rd ra rb, false)
  | 0x13 => some (.muls rd ra rb, false)
  | 0x14 => some (.divu rd ra rb, false)
  | 0x15 => some (.divs rd ra rb, false)
  | 0x16 => some (.clz rd ra, rb != 0)
  | 0x17 => some (.popc rd ra, rb != 0)
  | 0x19 => some (.mff rd, ra != 0 || rb != 0)
  | 0x1A => some (.mtf ra, rd != 0 || rb != 0)
  | _ => none

/-- Cache maintenance operations (R469). -/
def opCache (f : Nat) (oct : Bool) (rd ra rb : Nat) : Option Tuirus :=
  match f with
  | 0 => some (.clean oct ra)
  | 1 => some (.inval oct ra)
  | 2 => some (.cleanInval oct ra)
  | 3 => some (.zero oct ra)
  | 4 => some (.lock oct rd ra)
  | 5 => some (.unlock oct ra)
  | 6 => some (.cleanRange oct ra rb)
  | 7 => some (.invalRange oct ra rb)
  | 8 => some (.cleanInvalRange oct ra rb)
  | 9 => some (.invalI oct ra)
  | 10 => some (.sync)
  | _ => none

/-- Operations of format RRI, with an immediate of `n` bits, and whether a field that must be 0 is not (R551). -/
def opRri (op rd ra n imm : Nat) : Option (Tuirus × Bool) :=
  let u := BitVec.ofNat 36 imm
  let sh := imm / 64 != 0
  let k := imm % 64
  match op with
  | 0x20 => some (.addi rd ra (signExt n imm), false)
  | 0x21 => some (.cmpi ra (signExt n imm), rd != 0)
  | 0x22 => some (.andi rd ra u, false)
  | 0x23 => some (.ori rd ra u, false)
  | 0x24 => some (.xori rd ra u, false)
  | 0x25 => some (.shli rd ra k, sh)
  | 0x26 => some (.shri rd ra k, sh)
  | 0x27 => some (.sari rd ra k, sh)
  | 0x28 => some (.rori rd ra k, sh)
  | 0x29 => some (.ext rd ra (bitsOf imm 11 6) k, false)
  | 0x2A => some (.exts rd ra (bitsOf imm 11 6) k, false)
  | 0x2B => some (.ins rd ra (bitsOf imm 11 6) k, false)
  | 0x2C => some (.movhi rd u, ra != 0)
  | 0x2D => some (.mfsr rd imm, ra != 0)
  | 0x2E => some (.mtsr ra imm, rd != 0)
  | _ => none

/-- Loads and stores by their place from LDW on (R551: long 48h to 54h, compact 100h to 160h by eights). -/
def opMem (k rd ra : Nat) (m : Mode) : Option Tuirus :=
  match k with
  | 0 => some (.ldw rd ra m)
  | 1 => some (.stw rd ra m)
  | 2 => some (.ldo8u rd ra m)
  | 3 => some (.ldo8s rd ra m)
  | 4 => some (.ldo16u rd ra m)
  | 5 => some (.ldo16s rd ra m)
  | 6 => some (.ldo32u rd ra m)
  | 7 => some (.ldo32s rd ra m)
  | 8 => some (.ldo64 rd ra m)
  | 9 => some (.sto8 rd ra m)
  | 10 => some (.sto16 rd ra m)
  | 11 => some (.sto32 rd ra m)
  | 12 => some (.sto64 rd ra m)
  | _ => none

/-- A supervisor call by its number (R500). -/
def opSvc (n : Nat) : Tuirus :=
  match n with
  | 0 => .exit_
  | 1 => .yield_
  | 2 => .delay
  | 3 => .spawn
  | 4 => .flowOpen
  | 5 => .flowClose
  | 6 => .flowRelease
  | 7 => .engineSubmit
  | 8 => .engineWait
  | 9 => .gzSubmit
  | 10 => .frame
  | _ => .unknownSupervisorCall n

/-- An operation, or the trap of a field that must be 0 and is not (R552). -/
def must (r : Option (Tuirus × Bool)) : Decoded :=
  match r with
  | none => .trap 1 0
  | some (i, nz) => if nz then .trap 1 1 else .ops [i]

/-- The mode field of a paired load or store (R533). -/
def pairedMode (f : Nat) : Decoded ⊕ Mode :=
  let m := bitsOf f 14 0
  match bitsOf f 17 15 with
  | 0 => .inr (.off (signExt 15 m))
  | 1 => if bitsOf m 7 0 = 0 then .inr (.idx (bitsOf m 14 10) (2 ^ bitsOf m 9 8)) else .inl (.trap 1 1)
  | 2 => .inr (.post (signExt 15 m))
  | 3 => .inr (.pre (BitVec.ofNat 36 m))
  | 4 => if m = 0 then .inr (.off 0) else .inl (.trap 1 1)
  | _ => .inl (.trap 1 8)

/-- A long operation (R533, R551, R552). -/
def decodeLong (w : Nat) : Decoded :=
  let op := bitsOf w 34 28
  let rd := bitsOf w 27 23
  let ra := bitsOf w 22 18
  let rb := bitsOf w 17 13
  let fn := bitsOf w 12 9
  let low := bitsOf w 8 0
  if 1 ≤ op ∧ op ≤ 0x1A ∧ op ≠ 0x18 then
    match opRrr op rd ra rb with
    | none => .trap 1 0
    | some (i, nz) => if nz || fn != 0 || low != 0 then .trap 1 1 else .ops [i]
  else if op = 0x18 then
    if low ≠ 0 then .trap 1 1 else if fn = 15 then .trap 1 6 else .ops [.sel fn rd ra rb]
  else if op = 0x1B then
    match opCache fn (bitOf w 8) rd ra rb with
    | none => .trap 1 0
    | some i => if bitsOf w 7 0 ≠ 0 then .trap 1 1 else .ops [i]
  else if 0x20 ≤ op ∧ op ≤ 0x2E then must (opRri op rd ra 18 (bitsOf w 17 0))
  else if op = 0x40 then .ops [.movi rd (signExt 23 (bitsOf w 22 0))]
  else if 0x48 ≤ op ∧ op ≤ 0x54 then
    match pairedMode (bitsOf w 17 0) with
    | .inl t => t
    | .inr m => match opMem (op - 0x48) rd ra m with
      | some i => .ops [i]
      | none => .trap 1 0
  else if op = 0x58 then
    if bitsOf w 27 24 = 15 then .trap 1 6 else .ops [.b (bitsOf w 27 24) (signInt 24 (bitsOf w 23 0))]
  else if op = 0x59 then .ops [.call (signInt 28 (bitsOf w 27 0))]
  else if op = 0x5A then (if rd ≠ 0 ∨ bitsOf w 17 0 ≠ 0 then .trap 1 1 else .ops [.jmpr ra])
  else if op = 0x5B then (if rd ≠ 0 ∨ bitsOf w 17 0 ≠ 0 then .trap 1 1 else .ops [.callr ra])
  else if op = 0x5C then (if bitsOf w 27 0 ≠ 0 then .trap 1 1 else .ops [.ret])
  else if op = 0x5D then (if bitsOf w 27 9 ≠ 0 then .trap 1 1 else .ops [opSvc low])
  else if op = 0x5E then (if bitsOf w 27 0 ≠ 0 then .trap 1 1 else .ops [.rett])
  else if op = 0x5F then (if bitsOf w 27 0 ≠ 0 then .trap 1 1 else .ops [.nop])
  else .trap 1 0

/-! ## Short operations (R534-R537) -/

/-- A short operation, in the first or the second slot. -/
def decodeShort (v : Nat) : Option Tuirus :=
  let rd := bitsOf v 9 5
  let rs := bitsOf v 4 0
  match bitsOf v 16 10 with
  | 0x01 => some (.mov rd rs)
  | 0x02 => some (.add rd rd rs)
  | 0x03 => some (.sub rd rd rs)
  | 0x04 => some (.adc rd rd rs)
  | 0x05 => some (.sbc rd rd rs)
  | 0x06 => some (.cmp rd rs)
  | 0x07 => some (.and_ rd rd rs)
  | 0x08 => some (.or_ rd rd rs)
  | 0x09 => some (.xor rd rd rs)
  | 0x0A => some (.andn rd rd rs)
  | 0x0B => some (.tst rd rs)
  | 0x0C => some (.neg rd rs)
  | 0x0D => some (.not_ rd rs)
  | 0x0E => some (.shl rd rd rs)
  | 0x0F => some (.shr rd rd rs)
  | 0x10 => some (.sar rd rd rs)
  | 0x11 => some (.movq rd rs)
  | 0x12 => some (.addq rd rs)
  | 0x13 => some (.subq rd rs)
  | 0x14 => some (.cmpq rd rs)
  | 0x15 => some (.shlq rd rs)
  | 0x16 => some (.shrq rd rs)
  | 0x17 => some (.sarq rd rs)
  | 0x18 => some (.ldw rd rs (.off 0))
  | 0x19 => some (.stw rs rd (.off 0))
  | 0x1A => some (.ldo8u rd rs (.off 0))
  | 0x1B => some (.ldo32u rd rs (.off 0))
  | 0x1C => some (.sto8 rs rd (.off 0))
  | 0x1D => some (.sto32 rs rd (.off 0))
  | 0x1E => some (.ret)
  | 0x1F => some (.nop)
  | _ => none

/-- Fields of a short operation that must be 0: those of NOP and RET (R551). -/
def shortZero (v : Nat) : Bool := (bitsOf v 16 10 != 0x1F && bitsOf v 16 10 != 0x1E) || bitsOf v 9 0 == 0

/-- The register a short operation writes (R535: CMP, CMPQ, TST and the stores write none). -/
def shortWrites (v : Nat) : Option Nat :=
  let op := bitsOf v 16 10
  if op = 0x06 ∨ op = 0x0B ∨ op = 0x14 ∨ op = 0x19 ∨ op = 0x1C ∨ op = 0x1D ∨ op = 0x1E ∨ op = 0x1F then none
  else some (bitsOf v 9 5)

/-- Is `v` a Q-form, whose rs is a constant (R534)? -/
def shortQ (v : Nat) : Bool := 0x11 ≤ bitsOf v 16 10 && bitsOf v 16 10 ≤ 0x17

/-- The registers a short operation reads; RET reads LK. -/
def shortReads (v : Nat) : List Nat :=
  let op := bitsOf v 16 10
  let rd := bitsOf v 9 5
  let rs := bitsOf v 4 0
  if op = 0x1E then [30]
  else if op = 0x1F then []
  else (if op = 0x01 ∨ op = 0x0C ∨ op = 0x0D ∨ op = 0x11 ∨ op = 0x18 ∨ op = 0x1A ∨ op = 0x1B then [] else [rd])
    ++ if shortQ v then [] else [rs]

def shortMem (v : Nat) : Bool := 0x18 ≤ bitsOf v 16 10 && bitsOf v 16 10 ≤ 0x1D

/-- Does a short operation set flags (R546)? -/
def shortFlags (v : Nat) : Bool :=
  let op := bitsOf v 16 10
  (0x02 ≤ op && op ≤ 0x10) || (0x12 ≤ op && op ≤ 0x17)

/-- The case of R535 that a pair breaks. -/
def pairCase (a b : Nat) : Option Nat :=
  let wa := shortWrites a
  if (match wa with
    | some r => (shortReads b).contains r
    | none => false) then some 0
  else if wa.isSome && wa == shortWrites b then some 1
  else if shortMem a && shortMem b then some 2
  else if shortFlags a && (bitsOf b 16 10 == 0x04 || bitsOf b 16 10 == 0x05) then some 3
  else if bitsOf a 16 10 = 0x1E then some 4
  else none

/-- A paired word (R532-R537). -/
def decodePaired (w : Nat) : Decoded :=
  if bitOf w 35 then
    let a := bitsOf w 34 18
    let b := bitsOf w 17 1
    match decodeShort a, decodeShort b with
    | some i, some j =>
      if bitOf w 0 || !shortZero a || !shortZero b then .trap 1 1
      else match pairCase a b with
        | some k => .trap 2 k
        | none => .ops [i, j]
    | _, _ => .trap 1 0
  else decodeLong w

/-! ## Compact encoding (R538-R545) -/

/-- What the prefixes of an instruction have said so far. -/
structure CPfx where
  xr : Option Nat := none
  pred : Option Nat := none
  l32 : Bool := false
  wide : Option Nat := none
  deriving DecidableEq, Repr

/-- Register field `v` of a register syllable, with XR's high bits `h` (R541). -/
def cReg (xr : Bool) (h v : Nat) : Nat := if xr then 8 * h + v else if v ≤ 5 then v else 24 + v

/-- The 9n-bit concatenation of syllables (R542). -/
def cImm (l : List Nat) : Nat := l.foldl (fun a s => a * 512 + s) 0

/-- Is an operation of the arithmetic, logical, shift or multiply-divide class (R540, R546)? -/
def l32Op (op : Nat) : Bool :=
  (1 ≤ op && op ≤ 0x0A) || (0x0C ≤ op && op ≤ 0x17) || (0x20 ≤ op && op ≤ 0x2B)

/-- Does a compact operation have a register syllable, and an immediate (R543)? -/
def cHasReg (op : Nat) : Bool :=
  (1 ≤ op && op ≤ 0x1B) || (0x20 ≤ op && op ≤ 0x2E) || op == 0x40 || op == 0x5A || op == 0x5B || 0x100 ≤ op
def cHasImm (op : Nat) : Bool :=
  (0x20 ≤ op && op ≤ 0x2E) || op == 0x40 || (0x70 ≤ op && op ≤ 0x7F) || op == 0x59
    || (0x100 ≤ op && (op % 8 == 0 || op % 8 == 2 || op % 8 == 3))

/-- Is a compact opcode syllable assigned (R551)? -/
def cAssigned (op : Nat) : Bool :=
  (1 ≤ op && op ≤ 0x1B) || (0x20 ≤ op && op ≤ 0x2E) || op == 0x40 || (0x59 ≤ op && op ≤ 0x5F) || (0x70 ≤ op && op ≤ 0x7F)
    || (0x100 ≤ op && op ≤ 0x167 && op % 8 ≤ 4)

/-- Syllables behind the opcode (R543). -/
def cTail (op : Nat) (p : CPfx) : Nat :=
  b2n (cHasReg op) + (if cHasImm op then 1 + p.wide.getD 0 else 0)
    + b2n (op == 0x18 || op == 0x1B || op == 0x5D || (0x100 ≤ op && op % 8 == 1))

/-- A compact operation behind its prefixes, its `n` syllables in all. -/
def cBuild (n op : Nat) (p : CPfx) (t : List Nat) : CDecoded :=
  let x : Pfx := { enc := .compact n, pred := p.pred, l32 := p.l32 }
  let r := t.getD 0 0
  let h := p.xr.getD 0
  let fa := bitsOf r 8 6
  let fb := bitsOf r 5 3
  let fc := bitsOf r 2 0
  let a := cReg p.xr.isSome (bitsOf h 5 4) fa
  let b := cReg p.xr.isSome (bitsOf h 3 2) fb
  let d := cReg p.xr.isSome (bitsOf h 1 0) fc
  let im := t.drop (b2n (cHasReg op))
  let bits := 9 * im.length
  let fin := fun (q : Option (Tuirus × Bool)) => match q with
    | none => CDecoded.trap 1 0
    | some (i, nz) => if nz then .trap 1 1 else .op i x
  if op = 0x18 then
    (if t.getD 1 0 / 16 ≠ 0 then .trap 1 1 else if t.getD 1 0 = 15 then .trap 1 6 else .op (.sel (t.getD 1 0) a b d) x)
  else if op = 0x1B then
    (if t.getD 1 0 / 32 ≠ 0 then .trap 1 1
     else match opCache (bitsOf (t.getD 1 0) 3 0) (bitOf (t.getD 1 0) 4) a b d with
      | some i => .op i x
      | none => .trap 1 0)
  else if op ≤ 0x1A then fin (opRrr op a b d)
  else if op ≤ 0x2E then (if d ≠ 0 then .trap 1 1 else fin (opRri op a b bits (cImm im)))
  else if op = 0x40 then (if d ≠ 0 then .trap 1 1 else .op (.movi a (signExt bits (cImm im))) x)
  else if op = 0x59 then .op (.call (signInt bits (cImm im))) x
  else if op = 0x5A then (if a ≠ 0 ∨ d ≠ 0 then .trap 1 1 else .op (.jmpr b) x)
  else if op = 0x5B then (if a ≠ 0 ∨ d ≠ 0 then .trap 1 1 else .op (.callr b) x)
  else if op = 0x5C then .op (.ret) x
  else if op = 0x5D then .op (opSvc (t.getD 0 0)) x
  else if op = 0x5E then .op (.rett) x
  else if op = 0x5F then .op (.nop) x
  else if op ≤ 0x7F then (if op = 0x7F then .trap 1 6 else .op (.b (op - 0x70) (signInt bits (cImm im))) x)
  else
    let m : Mode ⊕ Bool := match op % 8 with
      | 0 => .inl (.off (signExt bits (cImm im)))
      | 1 => if t.getD 1 0 / 4 ≠ 0 then .inr true else .inl (.idx d (2 ^ (t.getD 1 0)))
      | 2 => .inl (.post (signExt bits (cImm im)))
      | 3 => .inl (.pre (BitVec.ofNat 36 (cImm im)))
      | _ => .inl (.off 0)
    match m with
    | .inr _ => .trap 1 1
    | .inl m =>
      if op % 8 ≠ 1 ∧ d ≠ 0 then .trap 1 1
      else match opMem ((op - 0x100) / 8) a b m with
        | some i => .op i x
        | none => .trap 1 0

/-- The rules of R540 for an opcode behind its prefixes. -/
def cPrefixBad (op : Nat) (p : CPfx) : Bool :=
  (p.l32 && !l32Op op) || (p.wide.isSome && !cHasImm op) || (p.xr.isSome && !cHasReg op)

/-- Compact syllables read from the first on; `k` prefixes have been read (R539, R540). -/
def cDecode : List Nat → Nat → CPfx → CDecoded
  | [], _, _ => .more
  | v :: t, k, p =>
    if 7 < k then .trap 1 3
    else if 0x180 ≤ v ∧ v ≤ 0x1BF then (if p.xr.isSome then .trap 1 3 else cDecode t (k + 1) { p with xr := some (v % 64) })
    else if 0x1C0 ≤ v ∧ v ≤ 0x1CE then
      (if p.pred.isSome then .trap 1 3 else cDecode t (k + 1) { p with pred := some (v - 0x1C0) })
    else if v = 0x1D0 then (if p.l32 then .trap 1 3 else cDecode t (k + 1) { p with l32 := true })
    else if 0x1E0 ≤ v ∧ v ≤ 0x1E2 then
      (if p.wide.isSome then .trap 1 3 else cDecode t (k + 1) { p with wide := some (v - 0x1DF) })
    else if 0x1C0 ≤ v then .trap 1 3
    else if !cAssigned v then .trap 1 0
    else if cPrefixBad v p then .trap 1 3
    else
      let n := k + 1 + cTail v p
      if 8 < n then .trap 1 3
      else if t.length < cTail v p then .more
      else cBuild n v p (t.take (cTail v p))

/-- A compact instruction from the syllables at hand. -/
def decodeCompact (l : List Nat) : CDecoded := cDecode l 0 {}

/-- Syllable `k` of a word (R538). -/
def syllable (w k : Nat) : Nat := bitsOf w (35 - 9 * k) (27 - 9 * k)

/-! ## The paired encoding of a long operation (R532, R533, R551), from the same tables. None where an operand has no
encoding. -/

/-- The word of an opcode, two register fields and the 18 bits below them. -/
def longWord (op rd ra low : Nat) : Option Nat :=
  if rd < 32 ∧ ra < 32 ∧ low < 2 ^ 18 then some (op * 2 ^ 28 + rd * 2 ^ 23 + ra * 2 ^ 18 + low) else none

/-- Format RRR. -/
def encRrr (op rd ra rb : Nat) : Option Nat := if rb < 32 then longWord op rd ra (rb * 2 ^ 13) else none

/-- Format RRI with a sign-extended immediate, and with an unsigned one. -/
def encSigned (op rd ra : Nat) (imm : Word) : Option Nat :=
  if signExt 18 (imm.toNat % 2 ^ 18) = imm then longWord op rd ra (imm.toNat % 2 ^ 18) else none
def encUnsigned (op rd ra : Nat) (imm : Word) : Option Nat := longWord op rd ra imm.toNat

/-- A shift by a constant, and a bit-field operation. -/
def encCount (op rd ra k : Nat) : Option Nat := if k < 64 then longWord op rd ra k else none
def encField (op rd ra p n : Nat) : Option Nat := if p < 64 ∧ n < 64 then longWord op rd ra (p * 64 + n) else none

/-- Cache maintenance of a function code. -/
def encCache (f : Nat) (oct : Bool) (rd ra rb : Nat) : Option Nat :=
  if rb < 32 then longWord 0x1B rd ra (rb * 2 ^ 13 + f * 2 ^ 9 + b2n oct * 2 ^ 8) else none

/-- The mode field of a load or store. -/
def encMode : Mode → Option Nat
  | .off d => if signExt 15 (d.toNat % 2 ^ 15) = d then some (d.toNat % 2 ^ 15) else none
  | .idx rb k =>
    if rb < 32 then
      match k with
      | 1 => some (2 ^ 15 + rb * 2 ^ 10)
      | 2 => some (2 ^ 15 + rb * 2 ^ 10 + 2 ^ 8)
      | 4 => some (2 ^ 15 + rb * 2 ^ 10 + 2 * 2 ^ 8)
      | 8 => some (2 ^ 15 + rb * 2 ^ 10 + 3 * 2 ^ 8)
      | _ => none
    else none
  | .post d => if signExt 15 (d.toNat % 2 ^ 15) = d then some (2 * 2 ^ 15 + d.toNat % 2 ^ 15) else none
  | .pre d => if d.toNat < 2 ^ 15 then some (3 * 2 ^ 15 + d.toNat) else none

/-- A load or store. -/
def encMem (op rd ra : Nat) (m : Mode) : Option Nat := (encMode m).bind (longWord op rd ra)

/-- A displacement of `n` bits, in two's complement. -/
def encDisp (n : Nat) (d : Int) : Option Nat :=
  let v := (d % (2 ^ n : Nat)).toNat
  if signInt n v = d then some v else none

/-- A supervisor call. -/
def encSvc (n : Nat) : Option Nat := some (0x5D * 2 ^ 28 + n)

/-- The paired word of a long operation. -/
def encodeLong : Tuirus → Option Nat
  | .clean o ra => encCache 0 o 0 ra 0
  | .inval o ra => encCache 1 o 0 ra 0
  | .cleanInval o ra => encCache 2 o 0 ra 0
  | .zero o ra => encCache 3 o 0 ra 0
  | .lock o rd ra => encCache 4 o rd ra 0
  | .unlock o ra => encCache 5 o 0 ra 0
  | .cleanRange o ra rb => encCache 6 o 0 ra rb
  | .invalRange o ra rb => encCache 7 o 0 ra rb
  | .cleanInvalRange o ra rb => encCache 8 o 0 ra rb
  | .invalI o ra => encCache 9 o 0 ra 0
  | .sync => encCache 10 false 0 0 0
  | .exit_ => encSvc 0
  | .yield_ => encSvc 1
  | .delay => encSvc 2
  | .spawn => encSvc 3
  | .flowOpen => encSvc 4
  | .flowClose => encSvc 5
  | .flowRelease => encSvc 6
  | .engineSubmit => encSvc 7
  | .engineWait => encSvc 8
  | .gzSubmit => encSvc 9
  | .frame => encSvc 10
  | .unknownSupervisorCall n => if 10 < n ∧ n < 512 then encSvc n else none
  | .add rd ra rb => encRrr 0x01 rd ra rb
  | .adc rd ra rb => encRrr 0x02 rd ra rb
  | .sub rd ra rb => encRrr 0x03 rd ra rb
  | .sbc rd ra rb => encRrr 0x04 rd ra rb
  | .cmp ra rb => encRrr 0x05 0 ra rb
  | .and_ rd ra rb => encRrr 0x06 rd ra rb
  | .or_ rd ra rb => encRrr 0x07 rd ra rb
  | .xor rd ra rb => encRrr 0x08 rd ra rb
  | .andn rd ra rb => encRrr 0x09 rd ra rb
  | .tst ra rb => encRrr 0x0A 0 ra rb
  | .mov rd rb => encRrr 0x0B rd 0 rb
  | .neg rd rb => encRrr 0x0C rd 0 rb
  | .not_ rd rb => encRrr 0x0D rd 0 rb
  | .shl rd ra rb => encRrr 0x0E rd ra rb
  | .shr rd ra rb => encRrr 0x0F rd ra rb
  | .sar rd ra rb => encRrr 0x10 rd ra rb
  | .ror rd ra rb => encRrr 0x11 rd ra rb
  | .mulu rd ra rb => encRrr 0x12 rd ra rb
  | .muls rd ra rb => encRrr 0x13 rd ra rb
  | .divu rd ra rb => encRrr 0x14 rd ra rb
  | .divs rd ra rb => encRrr 0x15 rd ra rb
  | .clz rd ra => encRrr 0x16 rd ra 0
  | .popc rd ra => encRrr 0x17 rd ra 0
  | .sel c rd ra rb => if c < 15 ∧ rb < 32 then longWord 0x18 rd ra (rb * 2 ^ 13 + c * 2 ^ 9) else none
  | .mff rd => encRrr 0x19 rd 0 0
  | .mtf ra => encRrr 0x1A 0 ra 0
  | .addi rd ra imm => encSigned 0x20 rd ra imm
  | .cmpi ra imm => encSigned 0x21 0 ra imm
  | .andi rd ra imm => encUnsigned 0x22 rd ra imm
  | .ori rd ra imm => encUnsigned 0x23 rd ra imm
  | .xori rd ra imm => encUnsigned 0x24 rd ra imm
  | .shli rd ra k => encCount 0x25 rd ra k
  | .shri rd ra k => encCount 0x26 rd ra k
  | .sari rd ra k => encCount 0x27 rd ra k
  | .rori rd ra k => encCount 0x28 rd ra k
  | .ext rd ra p n => encField 0x29 rd ra p n
  | .exts rd ra p n => encField 0x2A rd ra p n
  | .ins rd ra p n => encField 0x2B rd ra p n
  | .movhi rd imm => encUnsigned 0x2C rd 0 imm
  | .mfsr rd n => longWord 0x2D rd 0 n
  | .mtsr ra n => longWord 0x2E 0 ra n
  | .movi rd imm =>
    if rd < 32 ∧ signExt 23 (imm.toNat % 2 ^ 23) = imm then some (0x40 * 2 ^ 28 + rd * 2 ^ 23 + imm.toNat % 2 ^ 23) else none
  | .ldw rd ra m => encMem 0x48 rd ra m
  | .stw rd ra m => encMem 0x49 rd ra m
  | .ldo8u rd ra m => encMem 0x4A rd ra m
  | .ldo8s rd ra m => encMem 0x4B rd ra m
  | .ldo16u rd ra m => encMem 0x4C rd ra m
  | .ldo16s rd ra m => encMem 0x4D rd ra m
  | .ldo32u rd ra m => encMem 0x4E rd ra m
  | .ldo32s rd ra m => encMem 0x4F rd ra m
  | .ldo64 rd ra m => encMem 0x50 rd ra m
  | .sto8 rd ra m => encMem 0x51 rd ra m
  | .sto16 rd ra m => encMem 0x52 rd ra m
  | .sto32 rd ra m => encMem 0x53 rd ra m
  | .sto64 rd ra m => encMem 0x54 rd ra m
  | .b c d => if c < 15 then (encDisp 24 d).map fun v => 0x58 * 2 ^ 28 + c * 2 ^ 24 + v else none
  | .call d => (encDisp 28 d).map fun v => 0x59 * 2 ^ 28 + v
  | .jmpr ra => longWord 0x5A 0 ra 0
  | .callr ra => longWord 0x5B 0 ra 0
  | .ret => longWord 0x5C 0 0 0
  | .rett => longWord 0x5E 0 0 0
  | .nop => longWord 0x5F 0 0 0
  | .addq _ _ | .subq _ _ | .cmpq _ _ | .shlq _ _ | .shrq _ _ | .sarq _ _ | .movq _ _ => none

end Sys2Proof
end

