-- ==== Sys2Proof/Machine/State.lean ====
section
/-! DEFINITION. The state of the SV9640 as plain data: the management registers, the ledgers, queues, tickets, parcels,
map, media, engines, keys, cores, stores and the queue of waiting commands; its value after reset; and the reasons a
step can stop. -/
namespace Sys2Proof.Machine

/-- Why a step stops with a fault. No meaning raises one: the spec gives every command of the table an effect, and a
command whose event is not due changes nothing (log 1). The type has no constructor. -/
inductive Fault where
  deriving DecidableEq, Repr

/-- Why a step refuses a command. -/
inductive Refusal where
  /-- Raised by an arm of exec whose command has no meaning yet; safe, because the machine stops. -/
  | notModelled (mnemonic : String)
  deriving DecidableEq, Repr

/-- The NVMe statuses that the spec names (R146, R790), with those of Fabrics Connect (R79). -/
inductive Status where
  | success | invalidOpcode | invalidField | invalidNsFormat | invalidFormat | lbaRange | sglLength
  | sequenceError | invalidQid | invalidQueueDeletion | invalidFwImage | nsCapacity | nsAttached | nsNotAttached
  | ctrlListInvalid
  | connInvalidHost | connInvalidParam | connTotal | writeFault | unrecoveredRead | dataTransfer | transientTransport
  | abortRequested | abortSqDeletion | abortLimit | controllerBusy | nsNotReady | internalError | compareFailure
  | fusedMissing | fusedFailed | aerLimit | fwNeedsReset | invalidLogPage | invalidVector | queueSize | maxQueues | cqInvalid
  | featNotSave | selfTestRunning | invalidCtrl | rangesInUse | progInUse | maxRanges | invalidRange | invalidProgram
  | noProgram | mediaSealed | keyRevoked | lengthMismatch | parcelResetting | tagMismatch | programTrap
  | programFrameOverrun | shareExhausted | holdupUnavailable | engineContextInvalid
  deriving DecidableEq, Repr

/-- Parcel states (R166). -/
inductive PState where
  | vacant | provisioned | active | frozen | resetting | enabling | retiring
  deriving DecidableEq, Repr

/-- The reply statuses of manager packets (R698). -/
inductive RStat where
  | ok | badOpcode | badParameter | wrongState | noResource | busy | notAuthentic | aborted | entropyFailed | tooMany
  | duplicate | notReady | wrongCarrier | hostError
  deriving DecidableEq, Repr

/-- A completion queue entry (R145): `field` is its 15-bit status field with code, type, More and DNR (R146, R790). -/
structure Cqe where
  cid : Nat
  status : Status
  field : Nat := 0
  dw0 : Nat := 0
  dw1 : Nat := 0
  sqid : Nat := 0
  sqhd : Nat := 0
  phase : Bool := true
  deriving DecidableEq, Repr

/-- What the device sends on its ports, in order. -/
inductive Out where
  /-- The value a register read returns. -/
  | regRead (addr : Nat) (v : Reg)
  /-- A PCIe Unsupported Request completion (R11). -/
  | unsupported (addr : Nat)
  /-- An MSI-X message (R687, R793). -/
  | msix (fn vec : Nat)
  /-- A completion entry written to a PCIe completion queue (R143). -/
  | cqe (fn cqid : Nat) (e : Cqe)
  /-- Data written to the host memory of a command, or a log page or structure of it. -/
  | data (tk : Nat) (d : Bytes)
  /-- Octets written to the host memory of a function at an address. -/
  | host (fn addr : Nat) (d : Bytes)
  /-- A response capsule or PDU on a fabric connection (R81, R82), with its invalidate or SUCCESS flag. -/
  | capsule (conn : Nat) (e : Cqe) (flag : Bool)
  /-- An R2T of a command's data by its transfer tag (R85). -/
  | pull (conn tag len : Nat)
  /-- An RDMA Read of a command's data: ticket, ticket edition and parcel edition of its work request (R81, R88). -/
  | rdmaRead (conn tk edition pEdition len : Nat)
  /-- A C2H Data PDU of a command on a TCP connection: its ticket's CID, offset and data, the last with SUCCESS (R82). -/
  | c2h (conn cid off : Nat) (d : Bytes) (last success : Bool)
  /-- An ICResp: MAXH2CDATA, CPDA, the most R2Ts outstanding per command, header and data digests (R82). -/
  | icresp (conn maxData cpda r2ts : Nat) (hdgst ddgst : Bool)
  /-- A transport message by kind: 2 a C2HTermReq with its fatal error status (R87), 3 a congestion notification (R76). -/
  | transport (conn kind a b : Nat)
  /-- A reply to a manager packet on its carrier (R694): carrier and MCTP message tag (R701), sequence, opcode, status, result octets. -/
  | reply (mctp : Bool) (id tag seq opcode : Nat) (st : RStat) (result : Bytes)
  /-- Octets that a packet writes through its buffer. -/
  | packetData (mctp : Bool) (id : Nat) (d : Bytes)
  /-- An SPDM answer (R448), by code. -/
  | spdm (ep : SpdmEp) (code : Nat) (d : Bytes)
  /-- An MCTP or NVMe-MI answer (R98, R99): message type, status, and the message cut into its packets. -/
  | mctp (eid kind status : Nat) (packets : List Bytes)
  /-- A DOE data object. -/
  | doe (fn : Nat) (d : Bytes)
  /-- A level on an output pin: 0 HU_TEST, 1 THERM_TRIP_N, 2 MATCH_OUT, 3 MEMm_RESET_N, 16 + c FLcc_WP_N of channel c. -/
  | pin (which : Nat) (level : Bool)
  /-- A cascade mark or answer sent on the ring (R605). -/
  | mark (octets : Bytes) (crc : Nat)
  | casc (a : CascAnswer)
  deriving DecidableEq, Repr

/-! ## Chapter 01: the frame and the ledgers -/

/-- An audit snapshot whose comparison is due (R52, R53). -/
structure AuditSnap where
  boundary : Nat
  sum : Nat
  tokens : List Int
  deriving DecidableEq, Repr

/-- Who owns a staging granule that is not in the pool (R44, R49): a ticket, an engine job or a discarding path. -/
inductive GOwner where
  | ticket (n : Nat)
  | job (n : Nat)
  | discarding
  deriving DecidableEq, Repr

/-- The Graticule, the staging granules: how many each kind of holder has and the owner of each (R43, R44), and the device
totals of grants and spends (R43). -/
structure FrameSt where
  count : BitVec 64 := 0
  released : Bool := false
  /-- Classes of the synthetic overruns to be recorded at the next boundary, in the order of their writes (R42). -/
  synth : List Nat := []
  pool : Nat := 16384
  tick : Nat := 0
  eng : Nat := 0
  disc : Nat := 0
  /-- The granule owner map (R49): a granule not listed is in the pool. -/
  owners : Table GOwner := []
  /-- Granules on discarding paths with the frame of their discard (R45). -/
  discards : List (Nat × Nat) := []
  grants : List Int := [0, 0, 0, 0]
  spends : List Int := [0, 0, 0, 0]
  snap : Option AuditSnap := none
  fatal : Bool := false
  deriving DecidableEq, Repr

/-! ## Chapter 02: functions, links and connections -/

/-- A PCIe function: Bus Master Enable, the MSI-X controls and PBA (R793), the power-state field (R65). `vopen` lists the
vectors whose Mask bit is 0, `table` the other words of the MSI-X table by their offset in BAR4 (log 38). -/
structure Fn where
  bme : Bool := false
  msixEn : Bool := false
  fmask : Bool := false
  vopen : List Nat := []
  table : Table (BitVec 32) := []
  /-- Writable words of the configuration space but for those the other fields hold, by offset (R62, R65). -/
  cfg : Table (BitVec 32) := []
  pba : List Nat := []
  pm : Nat := 0
  deriving DecidableEq, Repr

/-- One NVMe controller: of a PCIe function or allocated at Connect (R78). CC, CSTS, admin queue registers, the VWC it
reported at its last enable (R129), its features (R152) and its Asynchronous Event Requests (R148). -/
structure Ctrl where
  parcel : Option Nat := none
  cc : Nat := 0
  rdy : Bool := false
  cfs : Bool := false
  aqa : Nat := 0
  asq : Nat := 0
  acq : Nat := 0
  vwc : Bool := false
  arb : Nat := 7
  tOver : Nat := 373
  tUnder : Nat := 0
  tler : Nat := 0
  wce : Bool := true
  coal : Nat := 0
  vecCfg : List (Nat × Nat) := []
  aen : Nat := 0x8000031F
  /-- Critical Warning bits already told by an asynchronous event (R152). -/
  warned : Nat := 0
  kato : Nat := 0
  lastKa : Nat := 0
  aers : List Nat := []
  events : List Nat := []
  deriving DecidableEq, Repr

/-- Link and port state (R59, R69, R70), by link: up, reset input asserted, loss to be acted on. -/
structure LinkSt where
  up : Bool := false
  reset : Bool := false
  loss : Bool := false
  deriving DecidableEq, Repr

/-- A fabric connection: its parcel, controller and queue, its flow credits (R83) and what has arrived. -/
structure Conn where
  tcp : Bool
  parcel : Nat
  ctrl : Nat
  qid : Nat
  hostNqn : Bytes
  subNqn : Bytes
  depth : Nat
  ordered : Bool := false
  granted : Nat := 0
  consumed : Nat := 0
  returned : Nat := 0
  outstanding : Nat := 0
  queue : List Capsule := []
  repost : Nat := 0
  sqhd : Nat := 0
  /-- Commands taken from it so far, and the discovery entries its host has been told of (R93). -/
  taken : Nat := 0
  seen : List (Nat × Bytes × Nat) := []
  hdgst : Bool := false
  ddgst : Bool := false
  cnp : Option Nat := none
  rate : Nat := 0
  discovery : Bool := false
  deriving DecidableEq, Repr

/-- SPDM connection state of an endpoint (R448). -/
structure Spdm where
  version : Bool := false
  caps : Bool := false
  algs : Bool := false
  transcript : Bytes := []
  deriving DecidableEq, Repr

/-- What the ports hold. The VPD is empty at reset and grows without a limit; a configuration not set has its default. DESIGN
CHOICE, log 53: R99 gives neither a content, nor a size, nor defaults. -/
structure HostSt where
  fns : Table Fn := []
  ctrls : Table Ctrl := []
  linkA : LinkSt := {}
  linkB : LinkSt := {}
  /-- x8+x8 arrangement (R59). -/
  split : Bool := false
  conns : Table Conn := []
  /-- Settings of ICReq on transport connections not yet bound by Connect (R82). -/
  icreq : Table (Bool × Bool) := []
  /-- Discovery connections with a host NQN, and the log-change flag (R91-R93). -/
  discChange : Bool := false
  spdm : List (SpdmEp × Spdm) := []
  /-- The level of SB_MODE at power-on reset: true selects I3C; the dynamic address its controller assigned (R97). -/
  sbI3c : Bool := false
  i3cAddr : Option Nat := none
  miConfig : Table Nat := []
  vpd : Bytes := []
  eids : List Nat := []
  /-- What the last Clear Status of a health poll saw of ready, fatal, temperature, life, spare and warnings (R99). -/
  miStatus : List Nat := []
  deriving DecidableEq, Repr

/-! ## Chapter 03: queues and tickets -/

/-- A submission queue of a controller: the commands the host has placed and HQ has not fetched. -/
structure Sq where
  cqid : Nat
  depth : Nat
  head : Nat := 0
  tail : Nat := 0
  ordered : Bool := false
  /-- Deletes of the queue that wait (R794). -/
  deleting : List Nat := []
  waiting : List Sqe := []
  /-- Commands taken from it so far. -/
  taken : Nat := 0
  deriving DecidableEq, Repr

/-- A completion queue: the entries written between head and tail are not yet consumed (R144). -/
structure Cq where
  depth : Nat
  vec : Option Nat
  head : Nat := 0
  tail : Nat := 0
  phase : Bool := true
  deriving DecidableEq, Repr

/-- Where a ticket's command came from: a function's queue, a fabric connection, or a sideband packet. -/
inductive Src where
  | pcie (fn qid : Nat)
  | fabric (conn : Nat)
  | side (eid : Nat)
  deriving DecidableEq, Repr

/-- Where a command stands: waiting under R119 or R123, started, its work ended and its completion due, or holding
for Bus Master Enable (R68) at the step it had reached. -/
inductive TkPhase where
  | waiting | started | done
  deriving DecidableEq, Repr

/-- A tile being read for a command: the tile of the command it fills, and its content once delivered. -/
structure TileRead where
  idx : Nat
  quad : Nat
  tile : Nat
  die : Option Nat := none
  got : Option Bytes := none
  bad : Bool := false
  /-- What its engine slices work on: RAW and the stored octets; none where it needs no transform (R163). -/
  stored : Option (Bool × Nat) := none
  deriving DecidableEq, Repr

/-- Messages outstanding of an earlier life of a ticket (R113): its edition, its parcel and parcel edition, how many, and
the granules they carry (R50). -/
structure Late where
  edition : Nat
  parcel : Nat
  pEdition : Nat
  count : Nat
  gran : Nat
  deriving DecidableEq, Repr

/-- Whether a stage of transforms has begun and passed. -/
inductive XStage where
  | idle | running | past
  deriving DecidableEq, Repr

/-- A ticket (chapter 03, Tickets; R112, R113, R86). -/
structure Ticket where
  edition : Nat := 0
  busy : Bool := false
  earlier : List Late := []
  /-- R2Ts withdrawn with data outstanding, the last one first: connection, 2-bit edition, frame (R86, R113). -/
  r2ts : List (Nat × Nat × Nat) := []
  parcel : Option Nat := none
  pEdition : Nat := 0
  src : Src := .pcie 0 0
  ctrl : Nat := 0
  admin : Bool := false
  cmd : Sqe := ⟨0, 0, 0, 0, false, 0, 0, 0, 0, 0, 0, 0, true, none, false⟩
  /-- The ticket of the second command of a fused pair (R118). -/
  fuse2 : Option Nat := none
  /-- Its work has begun: its command has run once, and boundaries take it on. -/
  begun : Bool := false
  order : Nat := 0
  /-- The number of its command among those taken from its queue (R118). -/
  qno : Nat := 0
  /-- Its write completes when its data are programmed, by the mode at its acceptance (R127, R129). -/
  through : Bool := false
  ordered : Bool := false
  phase : TkPhase := .waiting
  /-- Release point (R120) and point of no return (R139) reached. -/
  released : Bool := false
  ponr : Bool := false
  caught : Bool := false
  /-- Held at a data or completion step while Bus Master Enable is 0 (R68). -/
  held : Bool := false
  /-- Write data held in granules for want of room (R128). -/
  heldData : Option Bytes := none
  gran : Nat := 0
  status : Status := .success
  dw0 : Nat := 0
  dw1 : Nat := 0
  /-- An R2T outstanding on the ticket, and the data that have arrived. -/
  r2t : Bool := false
  /-- Its RDMA Read waits for one of the 16 of its connection (R81). -/
  pullDue : Bool := false
  got : Bytes := []
  /-- The transforms of what it has read, and of what it writes (R163, R350). -/
  xdec : XStage := .idle
  xenc : XStage := .idle
  reads : List TileRead := []
  /-- Device tiles whose programming the completion waits for (R127, R133). -/
  waitProg : List Nat := []
  /-- Tickets that a Flush, an ordered command or a queue deletion waits for. -/
  waitTk : List Nat := []
  deriving DecidableEq, Repr

structure CmdSt where
  sqs : Table Sq := []
  cqs : Table Cq := []
  tickets : Table Ticket := []
  /-- The free list, oldest first (R112): tickets freed since reset; those never taken follow in rising order. -/
  freed : List Nat := []
  nextIo : Nat := 0
  nextAdm : Nat := 16128
  acceptNo : Nat := 0
  /-- The queue of each parcel served last (R109). -/
  lastQ : Table Nat := []
  /-- ORDER_MARK of parcels and REQUIRE_HOLDUP of namespaces (R152). -/
  orderMark : List Nat := []
  reqHoldup : List Nat := []
  /-- Arming state to take effect at the next boundary (R129), and the budget not yet applied (R130). -/
  armReq : Option Bool := none
  budgetReq : Option Nat := none
  /-- Critical Warning bit 4 (R130); the error log and the code of the self-test in progress (R148). -/
  smartBit4 : Bool := false
  errLog : List (Nat × Nat × Status) := []
  selfTest : Option Nat := none
  /-- Coalesced interrupts by function * 4096 + vector: completions since the last message and the frame by which it is
  sent (R152). -/
  coal : Table (Nat × Nat) := []
  deriving DecidableEq, Repr

/-! ## Chapter 04: parcels -/

/-- Per-parcel limits set by PARCEL_CREATE and PARCEL_CONFIGURE (R164, R713), and by COMPUTE_LIMITS with their defaults
(R491, R499, R500). -/
structure Limits where
  namespaces : Nat := 0
  queuePairs : Nat := 0
  keySlots : Nat := 0
  programs : Nat := 0
  ranges : Nat := 0
  controllers : Nat := 0
  tasks : Nat := 1024
  flows : Nat := 256
  budget : Nat := 2000000
  prio : Nat := 4
  deriving DecidableEq, Repr

/-- Who is answered when a request of a parcel has run: a packet in flight, a function-level reset, or nobody. -/
inductive Waiter where
  | packet (n : Nat)
  | flr (fn : Nat)
  | none
  deriving DecidableEq, Repr

/-- A parcel request of the current frame (R167). -/
inductive PReq where
  | reset (cause : Nat) (hold : Bool) (w : Waiter)
  | ccEn (fn : Nat)
  | freeze (n : Nat)
  deriving DecidableEq, Repr

/-- A cadastre entry (chapter 04). -/
structure Parcel where
  st : PState := .vacant
  edition : Nat := 0
  lim : Limits := {}
  vf : Option Nat := none
  pairs : List (Bytes × Bytes) := []
  mask : Nat := 0
  rate : List Nat := [0, 0, 0, 0]
  depth : List Nat := [64, 64, 64, 64]
  bal : List Int := [0, 0, 0, 0]
  /-- The balances that stood after the last step 6, which PC_BALANCE reads (R228). -/
  shown : List Int := [0, 0, 0, 0]
  accr : List Nat := [0, 0, 0, 0]
  meters : List Nat := [0, 0, 0, 0, 0, 0, 0, 0, 0]
  /-- The meters at the last interval end and those already reported in records (R190). -/
  closed : List Nat := [0, 0, 0, 0, 0, 0, 0, 0, 0]
  told : List Nat := [0, 0, 0, 0, 0, 0, 0, 0, 0]
  restored : Bool := false
  drained : Bool := false
  reqs : List PReq := []
  /-- The reset in progress: its waiters, whether it was ACTIVE and HOLD (R169); the boundary at which the last reset, freeze
  or retirement took effect. -/
  waiters : List Waiter := []
  wasActive : Bool := false
  hold : Bool := false
  effect : Nat := 0
  /-- Pending enable (R168) and the reset queued behind it (R170). -/
  pend : Option Waiter := none
  queued : Option (Nat × Bool) := none
  queuedW : List Waiter := []
  /-- Posts not yet visible (R177). -/
  inPost : Nat := 0
  outPost : Nat := 0
  freezeW : Waiter := .none
  /-- Effective boundary of a share or mask change to come is the next one (R185, R493). -/
  shareDue : Bool := false
  maskDue : Bool := false
  /-- Cancelling its work is due in step 8 of the reset's boundary (R201). -/
  cancelDue : Bool := false
  /-- CC.EN was 1 under the pending enable and has been cleared since (R170). -/
  enHeld : Bool := false
  /-- A teardown has ended since the entry was created: the mailbox is ready in PROVISIONED too (R178). -/
  mbUp : Bool := false
  accepted : Nat := 0
  posted : Nat := 0
  internal : Nat := 0
  /-- Edition and state code at the last interval end (R193). -/
  endEd : Nat := 0
  endSt : Nat := 0
  deriving DecidableEq, Repr

/-- A meter record (R193). -/
structure MRec where
  parcel : Nat
  edition : Nat
  state : Nat
  flags : Nat
  start : Nat
  stop : Nat
  meters : List Nat
  deriving DecidableEq, Repr

/-- A save or restore in progress (R213-R217). -/
structure SaveSt where
  packet : Nat
  sections : Nat
  slot : Nat
  image : Bytes
  restore : Bool
  deriving DecidableEq, Repr

structure ParSt where
  parcels : Table Parcel := []
  /-- Device totals of the meters, live, at the last interval end, and already reported (R190). -/
  dev : List Nat := [0, 0, 0, 0, 0, 0, 0, 0, 0]
  devClosed : List Nat := [0, 0, 0, 0, 0, 0, 0, 0, 0]
  devTold : List Nat := [0, 0, 0, 0, 0, 0, 0, 0, 0]
  /-- Start of the span the next records cover, whether it is merged, and the interval end whose records are due. -/
  spanStart : Nat := 0
  merged : Bool := false
  acrossBoot : Bool := false
  due : Option Nat := none
  interval : Nat := 120000000
  lastEnd : Nat := 0
  ring : List MRec := []
  held : List MRec := []
  saves : Table SaveSt := []
  deriving DecidableEq, Repr

/-! ## Chapter 13: DMA and events -/

/-- A DMA descriptor in progress (R664, R665, R667). -/
structure Desc where
  reg : Bool
  addr : Nat
  src : Nat
  dst : Nat
  count : Nat
  attr : Nat
  func : Nat
  nextValid : Bool
  event : Bool
  next : Nat
  tag : Nat
  edition : Nat := 0
  deriving DecidableEq, Repr

/-- What a channel starts next: the register descriptor or a memory descriptor at an address. -/
inductive DmaNext where
  | register
  | memory (addr : Nat)
  deriving DecidableEq, Repr

structure DmaCh where
  cur : Option Desc := none
  next : Option DmaNext := none
  /-- The frame in which the next descriptor fell due or a queue entry was freed for it: it starts at a later boundary (R668, R674). -/
  since : Nat := 0
  /-- Descriptors started and records written (R43). -/
  started : Nat := 0
  records : Nat := 0
  /-- Units that the frames since its start have allowed the descriptor in progress (R669). -/
  room : Nat := 0
  /-- The descriptor has ended with this status and reason, and its record waits to be written (R673). -/
  ended : Option (Nat × Nat) := none
  deriving DecidableEq, Repr

structure EvSt where
  fwLatch : BitVec 512 := 0
  /-- Events deliverable and not yet sent (R687). -/
  send : List Nat := []
  chans : Table DmaCh := []
  /-- PWR_FAIL_N was seen: GO is ignored until the next boot (R672). -/
  powerFail : Bool := false
  deriving DecidableEq, Repr

/-! ## Chapter 05: the Atlas -/

/-- A namespace (R151, R172, R233) with its transforms (R721). -/
structure Ns where
  nsze : Nat
  lbads : Nat
  parcel : Option Nat := none
  /-- A withdrawal to take effect at the next boundary (R173). -/
  leaving : Bool := false
  quads : List Nat := []
  compress : Bool := false
  encrypt : Bool := false
  effort : Nat := 2
  huff : Nat := 1
  /-- Table and effort to take effect at the next boundary (R377). -/
  nextTab : Option (Nat × Nat) := none
  media : Option Nat := none
  deriving DecidableEq, Repr

/-- A page table: 262,144 map words, those not listed reading `fill` (R239, R259). -/
structure PageTab where
  fill : Word
  words : Table Word := []
  deriving DecidableEq, Repr

/-- An overlay: the sheet it serves, its block pair and its index, whose unlisted words read 3FCh (R252, R253). -/
structure Overlay where
  quad : Nat
  sheet : Nat
  primDie : Nat
  primBlk : Nat
  mirDie : Nat
  mirBlk : Nat
  words : Table Word := []
  /-- Pages issued, and pages programmed in both blocks (R254). -/
  pages : Nat := 0
  prog : Nat := 0
  lastWrite : Nat := 0
  folds : Nat := 0
  deriving DecidableEq, Repr

/-- A tile in the write buffer (R126): its stored image and its logical content, whether it is acknowledged, its
poison (R656), the flash word it replaced (R297), and the acceptance order of the earliest command whose data it
stands for (R133). -/
structure WEnt where
  tile : Nat
  parcel : Nat
  image : Bytes
  raw : Bool := true
  ack : Bool := false
  poison : Bool := false
  old : Word := 0
  issued : Bool := false
  order : Nat := 0
  flush : Bool := false
  deriving DecidableEq, Repr

/-- The Atlas's write streams (R268). -/
inductive Stream where
  | hot | cold | fold | overlay | system | flush | dump
  deriving DecidableEq, Repr

/-- A block group or pair (R267): its stream, its members in order and the stripes it has taken. -/
structure Group where
  stream : Stream
  members : List (Nat × Nat)
  next : Nat := 0
  closed : Option Nat := none
  deriving DecidableEq, Repr

/-- A fragment in a stripe: its page and place, its tile and where its image stands: the write-buffer entry, or the
move. -/
structure Frag where
  page : Nat
  off : Nat
  len : Nat
  raw : Bool
  tile : Nat
  move : Bool
  src : Nat
  deriving DecidableEq, Repr

/-- A stripe being filled or programmed (R265, R269, R270). -/
structure Stripe where
  stream : Stream
  group : Option Nat := none
  overlay : Option Nat := none
  k : Nat := 0
  frags : List Frag := []
  pages : Nat := 0
  fill : Nat := 0
  cnt : Nat := 0
  packed : Bool := false
  first : Nat := 0
  issued : Bool := false
  /-- The members it was issued to, those of them that are programmed (R271), and those that have reported success. -/
  mem : List (Nat × Nat) := []
  need : List Nat := []
  okM : List Nat := []
  seq : Nat := 0
  deriving DecidableEq, Repr

/-- A tile being moved: the word its move read at the start, and its image once read (R247, R272); whether it is copied by a
fold (R254), and whether it could not be read (R274). -/
structure Move where
  tile : Nat
  word : Word
  die : Nat
  page : Nat
  image : Option Bytes := none
  raw : Bool := true
  fold : Bool := false
  lost : Bool := false
  deriving DecidableEq, Repr

/-- What a block is used for (R289). -/
inductive Role where
  | free | data | spare | dump | system | reserve | retired | bad
  deriving DecidableEq, Repr

/-- A block's entry in the block table: role, erase count, its group, a failure mark (R278, R282). -/
structure Blk where
  role : Role := .free
  erases : Nat := 0
  group : Option Nat := none
  marked : Bool := false
  released : Bool := false
  uncorr : Nat := 0
  deriving DecidableEq, Repr

/-- The divisions MEDIA_FORMAT made (R289, R316): N, P, blocks a die, rated cycles, spares a die at format. -/
structure Fmt where
  n : Nat
  p : Nat
  blocks : Nat
  cycles : Nat
  spares : Nat
  sys : Nat
  deriving DecidableEq, Repr

/-- A fold in progress: the new base and its data page in the group (R271), the sheet word at its start, whether it copies page
words, the index or page words copied so far (R254, R260), and whether every stripe is programmed. -/
structure Fold where
  quad : Nat
  sheet : Nat
  die : Nat
  block : Nat
  j : Nat := 0
  base : Word := 0
  viaPage : Bool := false
  copied : List (Nat × Word) := []
  done : Bool := false
  deriving DecidableEq, Repr

/-- A conversion in progress (R259, R260): to page form or to sheet form, its start, passes and writes since. -/
structure Conv where
  quad : Nat
  toPage : Bool
  start : Nat
  pass : Nat := 1
  writes : Nat := 0
  deriving DecidableEq, Repr

structure AtlasSt where
  nss : Table Ns := []
  deleted : List Nat := []
  dir : Table Word := []
  tabs : Table PageTab := []
  sheets : Table (Table Word) := []
  overlays : Table Overlay := []
  wbuf : Table WEnt := []
  groups : Table Group := []
  nextGroup : Nat := 0
  closeNo : Nat := 0
  stripes : Table Stripe := []
  nextStripe : Nat := 0
  seq : Nat := 0
  moves : Table Move := []
  nextMove : Nat := 0
  blks : Table Blk := []
  fmt : Option Fmt := none
  /-- Sheets that wait for a fold, the fold stream's open group with the members it programs, the folds in progress (R271). -/
  foldWait : List (Nat × Nat) := []
  foldGroup : Option Nat := none
  foldNeed : List Nat := []
  folds : List Fold := []
  convs : List Conv := []
  /-- AT_CONVERT as it stood when the present window began (R305). -/
  convertNow : Nat := 0x84000040
  wcount : Table Nat := []
  whist : Table (List Nat) := []
  /-- The map journal's two copies (R640) and how much of it is programmed (R295): kind, index, value. -/
  journal : List (Nat × Nat × Word) := []
  journal2 : List (Nat × Nat × Word) := []
  jprog : Nat := 0
  /-- AT_TABLES_BUDGET as the manager last wrote it, kept in the system pairs (R306). -/
  budgetKept : Option Nat := none
  /-- Die losses so far set Critical Warning bit 2 for the life of the media (R288). -/
  dieLost : Bool := false
  rebuild : Option (Bool × Nat) := none
  /-- Tiles the rebuild found at its start (R307). -/
  rebuildTiles : Nat := 0
  /-- Wear moves go on, and the groups they have in progress (R279). -/
  wearOn : Bool := false
  wearGroups : List Nat := []
  reserveUsed : Nat := 0
  urgent : Bool := false
  /-- Lines of the map that are being rebuilt after an uncorrectable error (R655). -/
  mapLines : List Nat := []
  windowAt : Nat := 0
  deriving DecidableEq, Repr

/-! ## Chapter 06: flash channels -/

/-- A directory entry of a page header (R264). -/
structure DirEnt where
  raw : Bool
  len : Nat
  off : Nat
  tile : Nat
  deriving DecidableEq, Repr

/-- A page: header, directory and its 16 KiB of data as they are built; once programmed, the five codewords its cells hold in
place of the data (R322, R323), and whether it has been found uncorrectable. -/
structure Page where
  kind : Nat
  group : Nat
  seq : Nat
  dir : List DirEnt
  data : Bytes
  cells : List Bytes := []
  bad : Bool := false
  deriving DecidableEq, Repr

/-- An operation of a die's queues (R325). -/
inductive FOp where
  | read (tk edition idx page slot : Nat)
  | move (mv page : Nat)
  | prog (stripe member page : Nat)
  | erase (block : Nat)
  deriving DecidableEq, Repr

/-- A logical die (R316): its place, its queues, what it runs, the operation suspended under it, the retry entry it
stands at, and the allocation of its blocks. -/
structure Die where
  ch : Nat
  pos : Nat
  profile : Nat := 0
  lost : Bool := false
  readQ : List FOp := []
  moveQ : List FOp := []
  progQ : List FOp := []
  eraseQ : List FOp := []
  run : Option FOp := none
  /-- The other planes' operations of a multi-plane operation (R329). -/
  more : List FOp := []
  runSince : Nat := 0
  susp : Option FOp := none
  suspMore : List FOp := []
  /-- The operation at the head of a queue had its issue cut by an overrun (R36). -/
  part : Bool := false
  suspending : Bool := false
  suspCount : Nat := 0
  served : Nat := 0
  readNo : Nat := 0
  retry : Nat := 0
  soft : Bool := false
  resetting : Bool := false
  /-- Fresh data blocks not used since format, blocks released, spares left, and the reserve. -/
  freshLo : Nat := 0
  freshHi : Nat := 0
  freed : List Nat := []
  spareLo : Nat := 0
  spareHi : Nat := 0
  lossBlocks : Nat := 0
  resLo : Nat := 0
  resHi : Nat := 0
  deriving DecidableEq, Repr

/-- A channel's sequencer: its last training and its counts; FLcc_WP_N, whether every FLcc_CE_N is held high (R318), and the die
it issued to last (R36). -/
structure Chan where
  wp : Bool := false
  ceHeld : Bool := true
  lastDie : Option Nat := none
  temp : Nat := 0
  retries : Nat := 0
  retrainReq : Bool := false
  retireReq : Option Nat := none
  window : Nat := 0
  windowCount : Nat := 0
  deriving DecidableEq, Repr

/-- A die profile carried in the firmware image (R314). -/
structure Profile where
  retry : Nat := 15
  softRead : Bool := true
  suspend : Bool := true
  minRun : Nat := 0
  planes : Nat := 4
  p : Nat := 1024
  blocks : Nat := 8192
  deriving DecidableEq, Repr

structure FlashSt where
  dies : Table Die := []
  chans : Table Chan := []
  profiles : Table Profile := []
  /-- Live positions found at training, by channel: (position, profile). -/
  found : Table (List (Nat × Nat)) := []
  retired : List Nat := []
  pages : Table Page := []
  zqAt : Nat := 0
  deriving DecidableEq, Repr


/-! ## Chapter 12: DRAM -/

/-- A DRAM bank (R630, R632): its open row, the row last used, the predictor, the rolling activate count. -/
structure Bank where
  row : Option Nat := none
  last : Option Nat := none
  pred : Nat := 1
  acts : Nat := 0
  deriving DecidableEq, Repr

/-- A hard fault of a device, for R648: the subchannel and rank, the device, the bank, the frame. -/
structure HardFault where
  place : Nat
  dev : Nat
  bank : Nat
  frame : Nat
  deriving DecidableEq, Repr

/-- A request of the DRAM controller (R626, R628): its line and port, of the prefetch class or not, whether its requester waits
for it, and its age in issue opportunities. -/
structure DramReq where
  line : Nat
  port : Nat
  pre : Bool := false
  wait : Bool := false
  age : Nat := 0
  deriving DecidableEq, Repr

/-- A row of a channel with a hard fault (R646): its soft repair with the spare row of a bank group, or a row remap. -/
structure RowRepair where
  ch : Nat
  row : Nat
  group : Option Nat := none
  deriving DecidableEq, Repr

structure DramSt where
  /-- Octet lines and scratchpad ways, by device physical address; zeros are not listed (R620, R482). -/
  mem : List Host.Cell := []
  /-- Word lines, a word at physical address / 4; zeros are not listed. -/
  words : Table Word := []
  /-- Lines that hold poison (R651). -/
  poison : List Nat := []
  /-- Side tags of class L lines, 64 bits each; a tag of zeros is not listed (R642). -/
  tags : Table Nat := []
  banks : Table Bank := []
  /-- Requests queued, the oldest first; bursts served by port, and issue opportunities used by subchannel, in this epoch;
  DM_PORT_QOS in effect (R627-R629). -/
  reqs : List DramReq := []
  served : Table Nat := []
  slots : Table Nat := []
  qos : List Nat := [0x0A001E, 0x0A0032, 0x08001E, 0x1E0064, 0x040064, 0x040064, 0x020032, 0x0200C8, 0x040028, 0x020032,
    0x020032, 0x020032]
  /-- Consecutive normal-rate MR4 reports of a channel at the doubled rate (R634). -/
  mr4 : Table Nat := []
  lastErr : Nat := 0
  hard : List HardFault := []
  /-- Bank groups whose spare row is used (R646); rows whose repair or remap waits for its switch, and those switched (R647). -/
  spares : List Nat := []
  rows : List RowRepair := []
  repaired : List RowRepair := []
  /-- The accumulated-activate threshold that the devices report (R632). -/
  rfmAt : Nat := 0
  surveyAt : Nat := 0
  lapStart : Nat := 0
  /-- Spans that control firmware has placed in DRAM: start and octets. -/
  allocs : List (Nat × Nat) := []
  /-- First line of the journal area (R298, R640). -/
  journalAt : Nat := 0
  /-- The resident-supervisor entry to which the reset projection maps (R740). -/
  entry : Nat := 0
  deriving DecidableEq, Repr

/-! ## Chapters 09 and 10: clusters, cores, tasks and programs -/

/-- The data of a cache line (R458). -/
inductive LineData where
  | words (d : List Word)
  | octets (d : Bytes)
  deriving DecidableEq, Repr

/-- A line in a cluster's caches (L1 data and L2 together, R459, R470). A locked line may be an empty slot (R473). -/
structure CLine where
  data : Option LineData
  dirty : Bool := false
  way : Nat := 0
  locked : Option Nat := none
  deriving DecidableEq, Repr

/-- What an operation by address does to a line (R469). -/
inductive LineOp where
  | clean | inval | cleanInval | zero | unlock
  deriving DecidableEq, Repr

/-- A prefetched line on its way into a cluster's L2 (R472, R477): its data, and the operations that wait in its slot. -/
structure Fill where
  data : LineData
  ops : List LineOp := []
  deriving DecidableEq, Repr

/-- A bearing detector (R475, R476): its stream, the last line and stride, equal strides seen, last use. -/
structure Bearing where
  oct : Bool
  base : Nat
  line : Nat
  stride : Int := 0
  hits : Nat := 0
  used : Nat := 0
  deriving DecidableEq, Repr

/-- The five flags (R520). -/
structure Flags where
  n : Bool := false
  z : Bool := false
  c : Bool := false
  v : Bool := false
  g : Bool := false
  deriving DecidableEq, Repr

/-- What a task's save area keeps (R484): w0 to w31, the flags and the code pointer. -/
structure Ctx where
  w : Table Word := []
  fl : Flags := {}
  pc : Word := 0
  deriving DecidableEq, Repr

/-- A Tuirus core (R519-R522, R562, R563). Registers not listed read 0. -/
structure Core where
  w : Table Word := []
  fl : Flags := {}
  pc : Word := 0
  lower : Bool := false
  nest : Bool := false
  prev : Bool := false
  tepc : Word := 0
  tflags : Word := 0
  tcause : Word := 0
  taddr : Word := 0
  tvbase : Word := 0
  /-- Projection words 100h + 4p + k by 4p + k (R463); the reset projection until one is written (R740). -/
  proj : Table Word := []
  resetProj : Bool := true
  /-- Registers and flags before the first operation of a paired word (R536). -/
  pair : Option (Table Word × Flags) := none
  icache : Table (List Word) := []
  bearings : List Bearing := []
  tick : Nat := 0
  task : Option Nat := none
  lastTask : Option Nat := none
  ran : Bool := false
  /-- The frame of its present slice; whether step 1 of a boundary has closed it, its task waiting to be requeued (R29, R36). -/
  sliceAt : Nat := 0
  closed : Bool := false
  deriving DecidableEq, Repr

/-- A way mode change (R480): the way, its old and new mode, whether it has started, and the boundary of the start. -/
structure WayChange where
  way : Nat
  old : Nat
  new : Nat
  start : Option Nat := none
  deriving DecidableEq, Repr

/-- A cluster: its cached lines, its pool in effect, way changes under way, and a reset in progress. -/
structure Cluster where
  lines : Table CLine := []
  /-- Fills under way, by line (R472). -/
  fills : Table Fill := []
  pool : Nat := 255
  changes : List WayChange := []
  resetReq : Bool := false
  resetAt : Option Nat := none
  /-- TC_BEARING in effect (R513). -/
  bearing : Nat := 0x80000004
  deriving DecidableEq, Repr

/-- Task states other than FREE (R485). -/
inductive TState where
  | ready | running | delayed | flowWait | blocked
  deriving DecidableEq, Repr

/-- What a blocked task waits for (R485). -/
inductive TWait where
  | job (n : Nat)
  | space (engine : Nat)
  deriving DecidableEq, Repr

/-- A task descriptor (R484). -/
structure Task where
  st : TState
  prio : Nat
  clusters : Nat
  inv : Nat
  root : Bool := false
  last : Option Nat := none
  flow : Option Nat := none
  wake : Nat := 0
  since : Nat := 0
  cluster : Nat := 2
  seq : Nat := 0
  wait : Option TWait := none
  /-- Its register save area; a task not yet dispatched starts at its entry with w1 (R499, R500). -/
  ctx : Ctx := {}
  fresh : Bool := true
  unblock : Bool := false
  deriving DecidableEq, Repr

/-- An atomic flow (R488): its invocation, its holder, and a hand-over to come at the next boundary. -/
structure Flow where
  inv : Nat
  holder : Option Nat := none
  deriving DecidableEq, Repr

/-- A program slot of a parcel (R496). -/
structure Prog where
  compact : Bool
  operatorOnly : Bool := false
  code : Nat
  codeWords : Nat
  data : List Word
  zeroWords : Nat
  stackWords : Nat
  entry : Nat
  budget : Nat
  maxTasks : Nat
  active : Bool := false
  deriving DecidableEq, Repr

/-- A memory range of a parcel (R639, chapter 14). -/
structure MRange where
  phys : Nat
  len : Nat
  light : Bool := false
  deriving DecidableEq, Repr

/-- Who is answered when an invocation ends (R503, R508). -/
inductive InvOwner where
  | ticket (tk : Nat)
  | packet (n : Nat)
  deriving DecidableEq, Repr

/-- An invocation (R499, R503-R505): its owner, its program and ranges, where its data and parameters stand, the
boundary of its acceptance and its budget, and how it ended. -/
structure Invoc where
  owner : InvOwner
  parcel : Nat
  pEdition : Nat
  ticket : Nat := 0
  tEdition : Nat := 0
  prog : Nat
  oper : Bool := false
  ranges : List Nat := []
  paramLen : Nat := 0
  param : Nat := 0
  data : Nat := 0
  dataWords : Nat := 0
  accepted : Nat
  budget : Nat
  maxTasks : Nat
  ended : Option (Status × Nat × Nat) := none
  posted : Bool := false
  deriving DecidableEq, Repr

structure ClusSt where
  cores : Table Core := []
  clusters : Table Cluster := []
  tasks : Table Task := []
  nextTask : Nat := 0
  flows : Table Flow := []
  /-- Order of entry to lists. -/
  seq : Nat := 0
  invs : Table Invoc := []
  nextInv : Nat := 0
  /-- Programs by parcel * 64 + index; memory ranges by parcel * 4096 + number; range sets by parcel * 16 + set. -/
  progs : Table Prog := []
  ranges : Table MRange := []
  sets : Table (List Nat) := []
  stalled : List Nat := []
  /-- TS_AFFINITY in effect (R516). -/
  affinity : Nat := 0x040004
  /-- The clusters that had a pool core idle after the last dispatch, and its boundary (R487). -/
  idle : List Nat := []
  idleAt : Nat := 0
  deriving DecidableEq, Repr

/-! ## Chapters 07 and 08: engines, key slots and trust -/

/-- What a job or HMAC context captured (R410): the slot, its edition and the key. -/
structure Capture where
  slot : Nat
  edition : Nat
  key : Bytes
  deriving DecidableEq, Repr

/-- An engine of the job queues: compression, digest, cipher or the Gazetteer (R500, R572). -/
inductive Eng where
  | cz | dg | cp | gz
  deriving DecidableEq, Repr

/-- Where a job stands: waiting for its first slice, running, its held plaintext being written out (R429), its work done
and its record due; recorded, its
status kept for ENGINE_WAIT. -/
inductive JPhase where
  | waiting | running | writeout | done | ended
  deriving DecidableEq, Repr

/-- A verified entry of a GCM verify job (R431). -/
structure Verified where
  slot : Nat
  edition : Nat
  iv : Bytes
  aadLen : Nat
  len : Nat
  src : Nat
  tag : Bytes
  frame : Nat
  deriving DecidableEq, Repr

/-- An engine job (R354, R355, R423, R358). `parcel` is none for a device job; `inv` is the invocation that submitted it. -/
structure Job where
  eng : Eng
  desc : Bytes
  parcel : Option Nat := none
  pEdition : Nat := 0
  ticket : Nat := 0
  tEdition : Nat := 0
  inv : Option Nat := none
  order : Nat := 0
  phase : JPhase := .waiting
  lane : Option Nat := none
  /-- Frame of its last slice and slices run without a break (R350). -/
  ranAt : Option Nat := none
  row : Nat := 0
  /-- The context used, FFFFh for a one-shot job (R357). -/
  ctx : Nat := 65535
  /-- Octets worked off, octets written at DST, what it read, and what it will write. -/
  pos : Nat := 0
  written : Nat := 0
  input : Bytes := []
  output : Bytes := []
  cap : Option Capture := none
  gran : Nat := 0
  iv : Bytes := []
  vEnt : Option Verified := none
  status : Nat := 0
  flags : Nat := 0
  consumed : Nat := 0
  produced : Nat := 0
  aux0 : Nat := 0
  aux1 : Nat := 0
  /-- The handle that ENGINE_WAIT names it by (R500, R572). -/
  handle : Word := 0
  /-- Search answers of a Gazetteer job that are still to come from the cascade (R605). -/
  awaits : List Nat := []
  deriving DecidableEq, Repr

/-- States of an engine context (R365). -/
inductive CState where
  | opened | finished | invalid | revoked
  deriving DecidableEq, Repr

/-- A compression context (R361, R364): its owner, what its stream has taken and delivered. -/
structure CzCtx where
  st : CState := .opened
  parcel : Option Nat := none
  pEdition : Nat := 0
  parts : List (Nat × Bytes) := []
  input : Bytes := []
  orig : Bytes := []
  out : Nat := 0
  ended : Bool := false
  deriving DecidableEq, Repr

/-- A digest context (R362, R364, R381): its algorithm, key, declared length, octets fed since its last restart. -/
structure DgCtx where
  st : CState := .opened
  parcel : Option Nat := none
  pEdition : Nat := 0
  alg : Nat := 0
  cap : Option Capture := none
  hmac : Bool := false
  declared : Nat := 0
  data : Bytes := []
  result : Bytes := []
  restarts : Nat := 0
  restarted : Bool := false
  tap : Bool := false
  deriving DecidableEq, Repr

/-- A snoop tap of a namespace (R389, R390): the namespace and context it feeds since it attached, its backlog, and the
frame since which a write is held. -/
structure Tap where
  ns : Nat
  ctx : Nat
  backlog : List (Nat × Bytes) := []
  heldSince : Option Nat := none
  closing : Bool := false
  /-- Tiles of the backlog that a finish waits for: those that had entered before it started (R391). -/
  due : Nat := 0
  deriving DecidableEq, Repr

/-- A transform job of HQ (R350 step 1): its ticket and parcel, and its steps in order, each an engine and the slices left
on each lane it runs on at once (R349, R420). -/
structure XJob where
  tk : Nat
  parcel : Nat
  steps : List (Eng × List Nat)
  deriving DecidableEq, Repr

structure EngSt where
  jobs : Table Job := []
  nextJob : Nat := 0
  /-- Transform jobs, by the order of their start. -/
  xjobs : Table XJob := []
  nextX : Nat := 0
  cz : Table CzCtx := []
  dg : Table DgCtx := []
  taps : Table Tap := []
  /-- Lanes that have run a slice in this frame, by engine. -/
  ranCz : List Nat := []
  ranDg : List Nat := []
  ranCp : List Nat := []
  ranGz : List Nat := []
  /-- Rotation starts of R350. -/
  rotCz : Nat := 0
  rotDg : Nat := 0
  rotCp : Nat := 0
  rotGz : Nat := 0
  verified : List Verified := []
  deriving DecidableEq, Repr

/-- A key slot (R400, R401): LOADED is `valid`. A FRESH slot that persists keeps its nonce (R408, R409). -/
structure KSlot where
  valid : Bool := false
  alg : Nat := 0
  key : Bytes := []
  uses : Nat := 0
  device : Bool := false
  owner : Nat := 0
  persist : Bool := false
  derived : Bool := false
  edition : Nat := 0
  deriving DecidableEq, Repr

/-- What waits for step 4 on a slot (R411): a packet in flight, an erasure of the SV9640's own, or the new media key of a
Format NVM, by its ticket, the ticket's edition and the NSID (R434). -/
inductive KeyReq where
  | packet (n slot : Nat)
  | erase (slot : Nat)
  | renew (tk edition nsid slot : Nat)
  deriving DecidableEq, Repr

structure KeySt where
  slots : Table KSlot := []
  reqs : List KeyReq := []
  /-- Persistent slots as the system pairs keep them (R409). -/
  kept : Table KSlot := []
  /-- The DRBG (R450, R451): frame of its failure, start-up tests repeated since, frame of the last reseed, and whether the
  grace of R422 has ended. -/
  failedAt : Option Nat := none
  retries : Nat := 0
  reseeded : Nat := 0
  grace : Bool := false
  /-- Blocks of each cipher lane since its mask generator was reseeded (R422). -/
  blocks : Table Nat := []
  /-- The anti-rollback fuses blown, and a blow in progress: its target and the packet it answers (R445). -/
  fuses : Nat := 0
  blowing : Option (Nat × Nat) := none
  deriving DecidableEq, Repr

/-! ## Chapter 14: manager packets in flight -/

/-- A packet in flight (R704): its opcode, its frame of intake, whether it has taken effect, and who interprets it. -/
structure Flight where
  op : Nat
  p : Packet
  intake : Nat
  applied : Bool := false
  fevoum : Bool := false
  /-- The edition of the ticket that carried it, on the admin carrier (R67). -/
  tkEd : Nat := 0
  /-- A reply whose data wait for Bus Master Enable (R68): its status, result and data. -/
  reply : Option (RStat × Bytes × Bytes) := none
  deriving DecidableEq, Repr

/-- A cached reply (R710). -/
structure CachedReply where
  op : Nat
  p : Packet
  st : RStat
  result : Bytes
  data : Bytes
  deriving DecidableEq, Repr

structure MgSt where
  flights : Table Flight := []
  next : Nat := 0
  /-- Reply caches by carrier: 0 the admin queue, 1 + e the MCTP endpoint e. -/
  caches : Table (List CachedReply) := []
  deriving DecidableEq, Repr

/-! ## Chapters 15 and 16: power, hold-up and boot -/

/-- A dump (R751): its serial, the boundary at which it began, its frames, whether its closing record is written, and the
map, write buffer, cadastre, meters and records it carries. -/
structure Dump where
  serial : Nat
  boundary : Nat
  frames : Nat := 0
  closed : Bool := false
  atl : AtlasSt
  pc : ParSt
  deriving DecidableEq, Repr

/-- What the system pairs keep for the next media-ready (R289, R293, R738): the Atlas's and the cadastre's records. -/
structure Kept where
  atl : AtlasSt := {}
  pc : ParSt := {}
  sealed_ : Bool := false
  deriving DecidableEq, Repr

/-- The energy test (R744): waiting for the bank to settle, or under way since a frame with V1 recorded. -/
inductive TestPhase where
  | settling
  | running (v1 since : Nat)
  deriving DecidableEq, Repr

/-- An energy test in progress: the packets that asked for it, each with whether it arms (R746, R805); a retest (R748); the
test of media-ready (R747). -/
structure ETest where
  phase : TestPhase := .settling
  asks : List (Nat × Bool) := []
  retest : Bool := false
  boot : Bool := false
  start : Nat := 0
  deriving DecidableEq, Repr

/-- How far the boot ROM is: not yet run, stopped by a DRAM training failure, in recovery, or done (R741, R743). -/
inductive RomSt where
  | waiting | failed | recovery | done
  deriving DecidableEq, Repr

structure PowSt where
  /-- PWR_FAIL_N was seen and step 2 of the next boundary has not yet acted (R750). -/
  stop : Bool := false
  /-- A dump is being written (R751). -/
  dumping : Bool := false
  /-- The dump that the dump blocks hold, and the serial of the last one. -/
  dump : Option Dump := none
  serial : Nat := 0
  kept : Kept := {}
  /-- The last choice of HOLDUP_CONTROL, kept in the system pairs: armed (R746). -/
  choice : Bool := true
  /-- A HOLDUP_CONTROL disarm is to take effect at the next boundary. -/
  disarm : Bool := false
  test : Option ETest := none
  /-- The end of the last test, and whether this boot has tested and not yet armed (R747, R748). -/
  lastTest : Nat := 0
  /-- A SYS_RESET_N that waits for the end of a dump (R737); boot halted by PWR_FAIL_N (R755). -/
  sysReset : Bool := false
  halted : Bool := false
  rom : RomSt := .waiting
  /-- Self-heating has brought the die to its grade's minimum (R783). -/
  warm : Bool := false
  /-- The life record in tenths of a weighted hour, the frame of its last update, the weight in tenths that the hottest
  reading since then sets (R788, R789). -/
  life : Nat := 0
  lifeAt : Nat := 0
  hot : Nat := 10
  /-- The firmware slots as written since manufacture, the boot record (none: unreadable), the override of the boot
  configuration, and what the running image brought (R440-R446, R727). -/
  fw : Table Bytes := []
  next : Option Nat := some 1
  overrd : Option (List Nat) := none
  /-- The DRAM repair record of the firmware flash (R647). -/
  repairs : List RowRepair := []
  running : Nat := 0
  usedOver : Bool := false
  /-- The snapshot that DIAG_DUMP reads (R728). -/
  diag : Bytes := []
  deriving DecidableEq, Repr

/-! ## Chapter 11: the Gazetteer -/

/-- An entry of the Gazetteer (R566) that holds a key: its cells, and the shadow copy of VALUE and MASK with its parity
(R589). An entry not listed is a hole. -/
structure GzEntry where
  value : BitVec 160
  mask : BitVec 160
  prio : Nat := 0
  result : Word := 0
  suspect : Bool := false
  sval : BitVec 160
  smask : BitVec 160
  parityBad : Bool := false
  deriving DecidableEq, Repr

/-- A table (R568): its owner (none for the device), its span, hole interval and cascade number; the packet that deletes it
(R570), and a respread that is due (R587). -/
structure GzTab where
  owner : Option Nat
  bank : Nat
  base : Nat
  cap : Nat
  hole : Nat := 64
  casc : Nat := 0
  deleting : Option Nat := none
  /-- A respread under way: the entry writes done (R587). -/
  spread : Option Nat := none
  deriving DecidableEq, Repr

/-- An automaton slot (R592): its owner and image while loaded, its edition. -/
structure GzSlot where
  loaded : Bool := false
  owner : Option Nat := none
  image : Bytes := []
  edition : Nat := 0
  deriving DecidableEq, Repr

/-- A scan context (R598). -/
structure GzCtx where
  st : CState := .opened
  parcel : Option Nat := none
  pEdition : Nat := 0
  slot : Nat := 0
  state : Nat := 0
  offset : Nat := 0
  deriving DecidableEq, Repr

/-- The cascade (R602-R609): role of the boot configuration (0 none, 1 member, 2 head), the announced change, the searches
taken and not yet in a batch, the batch under way with this device's hits, the mark last seen and a retrain under way. -/
structure CascSt where
  role : Nat := 0
  change : Option (Nat × Nat × Nat) := none
  changePacket : Option Nat := none
  taken : List CascKey := []
  open_ : Option Mark := none
  /-- Batches searched and not yet driven on the match chain: each search with this device's hit. -/
  batches : List (List (CascKey × Option (Nat × Nat × Word))) := []
  searched : Bool := false
  level : Nat := 0
  lastMark : Nat := 0
  retrain : Bool := false
  deriving DecidableEq, Repr

structure GzSt where
  entries : Table GzEntry := []
  tabs : Table GzTab := []
  slots : Table GzSlot := []
  ctxs : Table GzCtx := []
  /-- The automaton slot and edition each scan lane holds (R597). -/
  lanes : Table (Nat × Nat) := []
  /-- Quotas of a parcel: automaton slots, scan contexts, tables (R592). -/
  limits : Table (Nat × Nat × Nat) := []
  /-- The idle comparison: the entry last compared and the frame its pass began in (R591). -/
  checkAt : Nat := 0
  lapStart : Nat := 0
  casc : CascSt := {}
  deriving DecidableEq, Repr

/-! ## The whole machine -/

structure State where
  /-- Commands waiting, first in, first out. -/
  pending : List Instr := []
  /-- What the device has sent on its ports, oldest first. -/
  out : List Out := []
  /-- Uses of the free value so far (log 3). -/
  fresh : Nat := 0
  /-- Management registers, by offset in the window; an unlisted one holds its reset value. -/
  regs : Table Reg := []
  fr : FrameSt := {}
  host : HostSt := {}
  cq : CmdSt := {}
  pc : ParSt := {}
  ev : EvSt := {}
  atl : AtlasSt := {}
  fl : FlashSt := {}
  
  dr : DramSt := {}
  cs : ClusSt := {}
  en : EngSt := {}
  ks : KeySt := {}
  mg : MgSt := {}
  pw : PowSt := {}
  gz : GzSt := {}
  deriving DecidableEq, Repr

/-- The SV9640 right after power-on reset: every register at the Reset column's value, nothing booted, no parcel, no
command waiting. Values the spec does not give are named in INVENTORY.md and the log. -/
def State.reset : State := {}

end Sys2Proof.Machine
end

