-- ==== Sys2Proof/Machine/Flags.lean ====
section
/-! DEFINITION. Chapter 10: the results and flags of Tuirus arithmetic, logic, shifts, multiplication and division
(R520, R545-R550), in 36 bits and under the L32 prefix. -/
namespace Sys2Proof.Machine

/-- Bits an operation works in: 36, or 32 under L32 (R545). -/
def opWidth (l : Bool) : Nat := if l then 32 else 36

/-- A source as the operation sees it (R545). -/
def opSrc (l : Bool) (a : Word) : Nat := a.toNat % 2 ^ opWidth l

/-- A result as the operation writes it, zero-extended under L32 (R545). -/
def opRes (l : Bool) (r : Nat) : Word := BitVec.ofNat 36 (r % 2 ^ opWidth l)

/-- The sign bit of a number of the operation's width. -/
def opNeg (l : Bool) (r : Nat) : Bool := bitOf r (opWidth l - 1)

/-- Z and N of a result (R520). -/
def zn (l : Bool) (r : Nat) (f : Flags) : Flags :=
  { f with z := r % 2 ^ opWidth l == 0, n := opNeg l (r % 2 ^ opWidth l) }

/-- Addition with a carry in (R520): C out of the top bit, G out of bit 31. -/
def addOp (l : Bool) (a b : Word) (cin : Bool) (f : Flags) : Word × Flags :=
  let x := opSrc l a
  let y := opSrc l b
  let r := x + y + b2n cin
  (opRes l r, zn l r { f with
    c := decide (2 ^ opWidth l ≤ r)
    v := (opNeg l x == opNeg l y) && (opNeg l (r % 2 ^ opWidth l) != opNeg l x)
    g := decide (2 ^ 32 ≤ x % 2 ^ 32 + y % 2 ^ 32 + b2n cin) })

/-- Subtraction with a borrow in (R520): C and G are 1 when no borrow occurs. -/
def subOp (l : Bool) (a b : Word) (bin : Bool) (f : Flags) : Word × Flags :=
  let x := opSrc l a
  let y := opSrc l b
  let r := x + 2 ^ opWidth l - y - b2n bin
  (opRes l r, zn l r { f with
    c := decide (y + b2n bin ≤ x)
    v := (opNeg l x != opNeg l y) && (opNeg l (r % 2 ^ opWidth l) != opNeg l x)
    g := decide (y % 2 ^ 32 + b2n bin ≤ x % 2 ^ 32) })

/-- A logical result: Z and N alone (R546). -/
def logicOp (l : Bool) (r : Word) (f : Flags) : Word × Flags := (opRes l r.toNat, zn l r.toNat f)

/-- SHL (R547). -/
def shlOp (l : Bool) (a : Word) (k : Nat) (f : Flags) : Word × Flags :=
  let w := opWidth l
  let x := opSrc l a
  let r := if k < w then x * 2 ^ k else 0
  (opRes l r, zn l r { f with c := if k = 0 then f.c else if k ≤ w then bitOf x (w - k) else false })

/-- SHR (R547). -/
def shrOp (l : Bool) (a : Word) (k : Nat) (f : Flags) : Word × Flags :=
  let w := opWidth l
  let x := opSrc l a
  let r := if k < w then x / 2 ^ k else 0
  (opRes l r, zn l r { f with c := if k = 0 then f.c else if k ≤ w then bitOf x (k - 1) else false })

/-- SAR (R547): from the width on, copies of the sign bit. -/
def sarOp (l : Bool) (a : Word) (k : Nat) (f : Flags) : Word × Flags :=
  let w := opWidth l
  let x := opSrc l a
  let j := min k w
  let r := x / 2 ^ j + if opNeg l x then 2 ^ w - 2 ^ (w - j) else 0
  (opRes l r, zn l r { f with c := if k = 0 then f.c else if k ≤ w then bitOf x (k - 1) else opNeg l x })

/-- ROR (R547): by the count modulo the width; C is the top bit of the result. -/
def rorOp (l : Bool) (a : Word) (k : Nat) (f : Flags) : Word × Flags :=
  let w := opWidth l
  let x := opSrc l a
  let j := k % w
  let r := x / 2 ^ j + x % 2 ^ j * 2 ^ (w - j)
  (opRes l r, zn l r { f with c := if k = 0 then f.c else opNeg l (r % 2 ^ w) })

/-- A number of the operation's width read as two's complement. -/
def opInt (l : Bool) (x : Nat) : Int := if opNeg l x then (x : Int) - 2 ^ opWidth l else x

/-- A two's-complement number in `w` bits. -/
def fromInt (w : Nat) (i : Int) : Nat := (i % (2 ^ w : Nat)).toNat

/-- MULU and MULS (R545, R548): low word, high word, flags; under L32 the 64-bit product as LDO64 lays out a pair. -/
def mulOp (signed l : Bool) (a b : Word) (f : Flags) : Word × Word × Flags :=
  let w := opWidth l
  let x := opSrc l a
  let y := opSrc l b
  let p := if signed then fromInt (2 * w) (opInt l x * opInt l y) else x * y
  let lo := p % 2 ^ w
  let hi := p / 2 ^ w % 2 ^ w
  (opRes l lo, opRes l hi,
    { f with z := p == 0, n := bitOf p (2 * w - 1), c := false, g := false
             v := if signed then hi != (if opNeg l lo then 2 ^ w - 1 else 0) else hi != 0 })

/-- DIVU and DIVS (R548): quotient toward zero, remainder with the sign of the dividend; a zero divisor, and the most
negative number by -1, set V. -/
def divOp (signed l : Bool) (a b : Word) (f : Flags) : Word × Word × Flags :=
  let w := opWidth l
  let x := opSrc l a
  let y := opSrc l b
  let big := signed && x == 2 ^ (w - 1) && y == 2 ^ w - 1
  let q := if y = 0 then 0 else if big then x
    else if signed then fromInt w (Int.tdiv (opInt l x) (opInt l y)) else x / y
  let r := if y = 0 then x else if big then 0
    else if signed then fromInt w (Int.tmod (opInt l x) (opInt l y)) else x % y
  (opRes l q, opRes l r, { zn l q f with c := false, g := false, v := y == 0 || big })

/-- Leading zeros of a number of `w` bits. -/
def clzGo (x : Nat) : Nat → Nat
  | 0 => 0
  | w + 1 => if bitOf x w then 0 else 1 + clzGo x w

/-- Bits set in the low `w` bits. -/
def popGo (x : Nat) : Nat → Nat
  | 0 => 0
  | w + 1 => b2n (bitOf x w) + popGo x w

/-- EXT and EXTS: bits [p + n - 1 : p], zero- or sign-extended (R549). -/
def extOp (signed l : Bool) (a : Word) (p n : Nat) (f : Flags) : Word × Flags :=
  let v := opSrc l a / 2 ^ p % 2 ^ n
  let r := if signed && bitOf v (n - 1) then v + (2 ^ 36 - 2 ^ n) else v
  (opRes l r, zn l r f)

/-- INS: bits [p + n - 1 : p] of rd replaced by bits [n - 1 : 0] of ra (R549). -/
def insOp (l : Bool) (d a : Word) (p n : Nat) (f : Flags) : Word × Flags :=
  let x := opSrc l d
  let r := x - x / 2 ^ p % 2 ^ n * 2 ^ p + opSrc l a % 2 ^ n * 2 ^ p
  (opRes l r, zn l r f)

/-- The conditions of B, SEL and PRED (R550). -/
def condHolds (c : Nat) (f : Flags) : Bool :=
  match c with
  | 0 => f.z
  | 1 => !f.z
  | 2 => f.c
  | 3 => !f.c
  | 4 => f.n
  | 5 => !f.n
  | 6 => f.v
  | 7 => !f.v
  | 8 => f.c && !f.z
  | 9 => !f.c || f.z
  | 10 => f.n == f.v
  | 11 => f.n != f.v
  | 12 => !f.z && f.n == f.v
  | 13 => f.z || f.n != f.v
  | _ => true

/-- The flags in one word (R521). -/
def flagsWord (f : Flags) : Word :=
  BitVec.ofNat 36 (b2n f.n * 16 + b2n f.z * 8 + b2n f.c * 4 + b2n f.v * 2 + b2n f.g)

/-- The flags that bits [4:0] of a word hold (R521). -/
def wordFlags (w : Word) : Flags := ⟨w.getLsbD 4, w.getLsbD 3, w.getLsbD 2, w.getLsbD 1, w.getLsbD 0⟩

end Sys2Proof.Machine
end

