-- ==== Sys2Proof/Config.lean ====
section
/-! DEFINITION. The free values of the model: constants without a body, so that no proof can see what they are.
Each stands for a value that the spec leaves open or for a function that the spec names and does not define. -/
namespace Sys2Proof

/-- A value the spec leaves open, for the `n`-th use (State.fresh counts the uses). DESIGN CHOICE, log 3. -/
opaque Config.freeNat : Nat → Nat
/-- The level of the ball SB_MODE at the `n`-th use of a free value (R97). Log 127. -/
opaque Config.sbMode : Nat → Bool
/-- DEFLATE compression of a tile, in one block or the two of R349, by table and effort level (R368: the coded octets are not
fixed). Log 4. -/
opaque Config.deflate : Bool → Nat → Nat → Bytes → Bytes
/-- The DEFLATE octets that the last part of a stream delivers, by table and effort, from the parts so far, each with its
flush (R367-R369). Log 4. -/
opaque Config.deflateStream : Nat → List (Nat × Bytes) → Bytes
/-- What a DEFLATE stream's octets so far decode to: none where malformed; else the output, whether the stream has ended
and the octets up to its end (R372). Log 4. -/
opaque Config.inflateStream : Bytes → Option (Bytes × Bool × Nat)
/-- Where the decoder stops at the last whole symbol that fits a capacity: octets consumed and produced (R373). Log 4. -/
opaque Config.inflateStop : Bytes → Nat → Nat × Nat
/-- Where the controller puts a DRAM line: rank, bank and row in one number (R622: no interface exposes it). Log 3. -/
opaque Config.dramPlace : Nat → Nat
/-- SHA-2 and the other digests of the digest engine, by algorithm number. Log 4. -/
opaque Config.digest : Nat → Bytes → Bytes
/-- AES in a mode, under a key, with an initial value or tweak: encryption. Log 4. -/
opaque Config.aesEnc : Nat → Bytes → Bytes → Bytes → Bytes
/-- AES in a mode, under a key, with an initial value or tweak: decryption. Log 4. -/
opaque Config.aesDec : Nat → Bytes → Bytes → Bytes → Bytes
/-- The GCM tag under a key and nonce of additional data and cipher text. Log 4. -/
opaque Config.gcmTag : Bytes → Bytes → Bytes → Bytes → Bytes
/-- AES-KW wrapping of key data under a key. Log 4. -/
opaque Config.kwWrap : Bytes → Bytes → Bytes
/-- AES-KW unwrapping; none where the integrity check fails. Log 4. -/
opaque Config.kwUnwrap : Bytes → Bytes → Option Bytes
/-- The ECDH or key agreement of KEY_UNWRAP and KEY_DERIVE; none where a check fails. Log 4. -/
opaque Config.agree : Bytes → Bytes → Option Bytes
/-- ECDSA signature by a device key over a message. Log 4. -/
opaque Config.sign : Nat → Bytes → Bytes
/-- Verification of a signature by scheme (0 ECDSA P-384, 1 HashML-DSA-65): key, digest, signature (R441). Log 4. -/
opaque Config.verify : Nat → Bytes → Bytes → Bytes → Bool
/-- Field `n` of a boot configuration block, none where it holds no valid value: 0 frame period, 1 links, 2 port mode,
3 cascade (1 head, 2 member), 4 SRAM code, 5 V_MIN in mV. The block's layout is not the spec's. Log 4. -/
opaque Config.bootField : Bytes → Nat → Option Nat
/-- Octets of the deterministic random bit generator for its `n`-th output. Log 4. -/
opaque Config.drbg : Nat → Nat → Bytes
/-- The certificate chain and other octets burnt at manufacture, by kind. Log 4. -/
opaque Config.vault : Nat → Bytes
/-- Where the MSI-X and the power management capabilities stand in configuration space (R65 gives no offsets). Log 38. -/
opaque Config.msixCap : Nat
opaque Config.pmCap : Nat
/-- Where the PCI Express and the SR-IOV capabilities stand. Log 38. -/
opaque Config.pcieCap : Nat
opaque Config.sriovCap : Nat

/-- The scrambling sequence of a codeword, by logical die, page, codeword index and octets (R323: the scrambler is the maker's
own). Log 70. -/
opaque Config.scrambler : Nat → Nat → Nat → Nat → Bytes
/-- The LDPC parity octets of a scrambled codeword, by codeword index (R323). Log 70. -/
opaque Config.ldpcParity : Nat → Bytes → Bytes

/-- A record of the dump with a serial: 0 opening, 1 metadata, 2 closing (R751 gives their contents no layout). Log 3. -/
opaque Config.dumpRecord : Nat → Nat → Bytes
/-- A diagnostic snapshot, for the `n`-th capture (R728 gives it no content). Log 3. -/
opaque Config.diag : Nat → Bytes
/-- The handle of the `n`-th flow or engine job (R500 gives handles no values). Log 3. -/
opaque Config.handle : Nat → Nat
/-- Entries of an engine's job queue (R485 names a full queue and gives no number). Log 3. -/
opaque Config.queueDepth : Nat → Nat

end Sys2Proof
end

