-- ==== Sys2Proof/Machine/Registers.lean ====
section
/-! DEFINITION. The management register window (R2, R9-R14): the offset of every register the chapters assign, under
the spec's own names, and for each its reset value (R12) and its access masks: RW bits, W1C bits and RC bits (R14). -/
namespace Sys2Proof.Machine

/-- R786. -/
def FR_ID : Nat := 0x0
/-- R787. -/
def FR_TEMP : Nat := 0x10
/-- R789. -/
def FR_LIFE_USED : Nat := 0x14
/-- R26. -/
def FR_FRAME_PERIOD : Nat := 0x1000
/-- R27. -/
def FR_FRAME_COUNT_LO : Nat := 0x1004
/-- R27. -/
def FR_FRAME_COUNT_HI : Nat := 0x1008
/-- R28. -/
def FR_FRAME_MARK : Nat := 0x100C
/-- R39. -/
def FR_OVERRUN_COUNT (i : Nat) : Nat := 0x1010 + 0x4 * i
/-- R40. -/
def FR_OVERRUN_LAST : Nat := 0x1030
/-- R41. -/
def FR_OVERRUN_EVENT_EN : Nat := 0x1034
/-- R42. -/
def FR_DIAG_OVERRUN : Nat := 0x1038
/-- R55. -/
def FR_AUDIT_STATUS : Nat := 0x1040
/-- R56. -/
def FR_AUDIT_LAST : Nat := 0x1044
/-- R56. -/
def FR_AUDIT_FAILS : Nat := 0x1048
/-- R57. -/
def FR_AUDIT_GRANULES : Nat := 0x104C
/-- R760. -/
def PW_STATUS : Nat := 0x100000
/-- R760. -/
def PW_RESET_CAUSE : Nat := 0x100004
/-- R760. -/
def PW_HOLDUP_CFG : Nat := 0x100008
/-- R760. -/
def PW_HOLDUP_CAP : Nat := 0x10000C
/-- R760. -/
def PW_HOLDUP_ENERGY : Nat := 0x100010
/-- R760. -/
def PW_HOLDUP_VOLT : Nat := 0x100014
/-- R760. -/
def PW_DUMP : Nat := 0x100018
/-- R760. -/
def PW_DUMP_LOST : Nat := 0x10001C
/-- R760. -/
def PW_CLUSTER_RESET : Nat := 0x100020
/-- R691. -/
def EV_PENDING (i : Nat) : Nat := 0x200000 + 0x4 * i
/-- R691. -/
def EV_MASK (i : Nat) : Nat := 0x200040 + 0x4 * i
/-- R691. -/
def EV_SUMMARY : Nat := 0x200080
/-- R691. -/
def EV_TEST : Nat := 0x200084
/-- R692. -/
def EV_ROUTE (i : Nat) : Nat := 0x201000 + 0x4 * i
/-- R154. -/
def HQ_TICKETS_FREE : Nat := 0x300000
/-- R155. -/
def HQ_QUARANTINE_COUNT : Nat := 0x300004
/-- R156. -/
def HQ_STALE_COUNT : Nat := 0x300008
/-- R155. -/
def HQ_INTERNAL_COUNT : Nat := 0x30000C
/-- R157. -/
def HQ_DURABILITY : Nat := 0x300010
/-- R158. -/
def HQ_WBUF_BUDGET : Nat := 0x300014
/-- R159. -/
def HQ_WBUF_OCCUPANCY : Nat := 0x300018
/-- R155. -/
def HQ_ABORT_CAUGHT : Nat := 0x30001C
/-- R155. -/
def HQ_ABORT_MISSED : Nat := 0x300020
/-- R94. -/
def FX_PORT_MODE : Nat := 0x400000
/-- R95. -/
def FX_PORT_STATUS (i : Nat) : Nat := 0x400010 + 0x4 * i
/-- R96. -/
def FX_CONN_ACTIVE : Nat := 0x400100
/-- R96. -/
def FX_STALE_COUNT : Nat := 0x400104
/-- R96. -/
def FX_FATAL_COUNT : Nat := 0x400108
/-- R96. -/
def FX_DIGEST_ERR_COUNT : Nat := 0x40010C
/-- R222. -/
def PC_STATE (i : Nat) : Nat := 0x800000 + 0x800 * i
/-- R223. -/
def PC_EDITION (i : Nat) : Nat := 0x800004 + 0x800 * i
/-- R224. -/
def PC_ATTACH (i : Nat) : Nat := 0x800008 + 0x800 * i
/-- R225. -/
def PC_CORE_MASK (i : Nat) : Nat := 0x80000C + 0x800 * i
/-- R226. -/
def PC_RESET_STATUS (i : Nat) : Nat := 0x800010 + 0x800 * i
/-- R227. -/
def PC_SHARE (i j : Nat) : Nat := 0x800020 + 0x800 * i + 0x4 * j
/-- R227. -/
def PC_DEPTH (i j : Nat) : Nat := 0x800030 + 0x800 * i + 0x4 * j
/-- R228. -/
def PC_BALANCE (i j : Nat) : Nat := 0x800040 + 0x800 * i + 0x4 * j
/-- R229. -/
def PC_METER_LO (i j : Nat) : Nat := 0x800100 + 0x800 * i + 0x8 * j
/-- R229. -/
def PC_METER_HI (i j : Nat) : Nat := 0x800104 + 0x800 * i + 0x8 * j
/-- R229. -/
def PC_SNAP_INTERVAL : Nat := 0xA00000
/-- R230. -/
def PC_SNAP_STATUS : Nat := 0xA00004
/-- R229. -/
def PC_SNAP_LAST_LO : Nat := 0xA00008
/-- R229. -/
def PC_SNAP_LAST_HI : Nat := 0xA0000C
/-- R231. -/
def PC_MB_SUMMARY (i : Nat) : Nat := 0xA00100 + 0x4 * i
/-- R175. -/
def PC_MB_IN_SLOT (i j : Nat) : Nat := 0xC00000 + 0x1000 * i + 0x4 * j
/-- R175. -/
def PC_MB_OUT_SLOT (i j : Nat) : Nat := 0xC00400 + 0x1000 * i + 0x4 * j
/-- R176. -/
def PC_MB_IN_POST (i : Nat) : Nat := 0xC00800 + 0x1000 * i
/-- R176. -/
def PC_MB_IN_PENDING (i : Nat) : Nat := 0xC00804 + 0x1000 * i
/-- R176. -/
def PC_MB_OUT_POST (i : Nat) : Nat := 0xC00808 + 0x1000 * i
/-- R176. -/
def PC_MB_OUT_PENDING (i : Nat) : Nat := 0xC0080C + 0x1000 * i
/-- R176. -/
def PC_MB_STATUS (i : Nat) : Nat := 0xC00810 + 0x1000 * i
/-- R300. -/
def AT_MEDIA_STATE : Nat := 0x1000000
/-- R301. -/
def AT_GEOMETRY : Nat := 0x1000004
/-- R302. -/
def AT_FREE : Nat := 0x1000008
/-- R303. -/
def AT_SPARE : Nat := 0x100000C
/-- R304. -/
def AT_WEAR : Nat := 0x1000010
/-- R305. -/
def AT_CONVERT : Nat := 0x1000014
/-- R306. -/
def AT_TABLES_BUDGET : Nat := 0x1000018
/-- R306. -/
def AT_TABLES_USED : Nat := 0x100001C
/-- R306. -/
def AT_OVERLAYS : Nat := 0x1000020
/-- R307. -/
def AT_REBUILD : Nat := 0x1000024
/-- R308. -/
def AT_CAPACITY_LO : Nat := 0x1000028
/-- R308. -/
def AT_CAPACITY_HI : Nat := 0x100002C
/-- R309. -/
def AT_RELOC_STALE : Nat := 0x1000030
/-- R309. -/
def AT_PROGRAM_FAILS : Nat := 0x1000034
/-- R309. -/
def AT_REBUILT_PAGES : Nat := 0x1000038
/-- R309. -/
def AT_UNRECOVERED : Nat := 0x100003C
/-- R341. -/
def FC_STATUS (i : Nat) : Nat := 0x1100000 + 0x10000 * i
/-- R342. -/
def FC_CONFIG (i : Nat) : Nat := 0x1100004 + 0x10000 * i
/-- R343. -/
def FC_QUEUE_RD (i : Nat) : Nat := 0x1100008 + 0x10000 * i
/-- R343. -/
def FC_QUEUE_WR (i : Nat) : Nat := 0x110000C + 0x10000 * i
/-- R344. -/
def FC_CORR_BITS (i : Nat) : Nat := 0x1100010 + 0x10000 * i
/-- R344. -/
def FC_RETRY_COUNT (i : Nat) : Nat := 0x1100014 + 0x10000 * i
/-- R344. -/
def FC_SOFT_COUNT (i : Nat) : Nat := 0x1100018 + 0x10000 * i
/-- R344. -/
def FC_UNCORR_COUNT (i : Nat) : Nat := 0x110001C + 0x10000 * i
/-- R344. -/
def FC_SUSPEND_COUNT (i : Nat) : Nat := 0x1100020 + 0x10000 * i
/-- R344. -/
def FC_RETRAIN_COUNT (i : Nat) : Nat := 0x1100024 + 0x10000 * i
/-- R344. -/
def FC_ERR_THRESHOLD (i : Nat) : Nat := 0x1100028 + 0x10000 * i
/-- R345. -/
def FC_DIE (i j : Nat) : Nat := 0x1100100 + 0x10000 * i + 0x4 * j
/-- R392. -/
def CZ_ARB : Nat := 0x1300000
/-- R393. -/
def CZ_CTX_QUOTA : Nat := 0x1300004
/-- R393. -/
def CZ_CTX_OPEN : Nat := 0x1300008
/-- R393. -/
def CZ_LANE_BUSY : Nat := 0x130000C
/-- R394. -/
def CZ_CHECK_FAIL : Nat := 0x1300010
/-- R394. -/
def CZ_DATA_INVALID : Nat := 0x1300014
/-- R394. -/
def CZ_RAW_TILES : Nat := 0x1300018
/-- R394. -/
def CZ_MEM_ERR : Nat := 0x130001C
/-- R395. -/
def CZ_CTX_AREA_LO : Nat := 0x1300020
/-- R395. -/
def CZ_CTX_AREA_HI : Nat := 0x1300024
/-- R392. -/
def DG_ARB : Nat := 0x1400000
/-- R393. -/
def DG_CTX_QUOTA : Nat := 0x1400004
/-- R393. -/
def DG_CTX_OPEN : Nat := 0x1400008
/-- R393. -/
def DG_LANE_BUSY : Nat := 0x140000C
/-- R394. -/
def DG_RESTART_COUNT : Nat := 0x1400010
/-- R394. -/
def DG_NOT_EQUAL_COUNT : Nat := 0x1400014
/-- R394. -/
def DG_MEM_ERR : Nat := 0x1400018
/-- R396. -/
def DG_NS_TAP (i : Nat) : Nat := 0x1400100 + 0x4 * i
/-- R397. -/
def DG_RESULT (i j : Nat) : Nat := 0x1410000 + 0x40 * i + 0x4 * j
/-- R398. -/
def DG_CTX_STATUS (i : Nat) : Nat := 0x1420000 + 0x4 * i
/-- R435. -/
def CP_ARB : Nat := 0x1500000
/-- R436. -/
def CP_STATES : Nat := 0x1500004
/-- R436. -/
def CP_LANE_BUSY : Nat := 0x1500008
/-- R436. -/
def CP_TAG_FAIL : Nat := 0x150000C
/-- R436. -/
def CP_REVOKED : Nat := 0x1500010
/-- R436. -/
def CP_LIMIT : Nat := 0x1500014
/-- R437. -/
def KS_SUMMARY : Nat := 0x1600000
/-- R437. -/
def KS_UNWRAP_FAIL : Nat := 0x1600004
/-- R452. -/
def KS_ENTROPY : Nat := 0x1600008
/-- R446. -/
def KS_TRUST : Nat := 0x160000C
/-- R438. -/
def KS_SLOT_LO (i : Nat) : Nat := 0x1610000 + 0x8 * i
/-- R438. -/
def KS_SLOT_HI (i : Nat) : Nat := 0x1610004 + 0x8 * i
/-- R509. -/
def TC_STATUS (i : Nat) : Nat := 0x1800000 + 0x80000 * i
/-- R510. -/
def TC_POOL (i : Nat) : Nat := 0x1800004 + 0x80000 * i
/-- R511. -/
def TC_WAY_MODE (i : Nat) : Nat := 0x1800008 + 0x80000 * i
/-- R511. -/
def TC_WAY_STATE (i : Nat) : Nat := 0x180000C + 0x80000 * i
/-- R513. -/
def TC_BEARING (i : Nat) : Nat := 0x1800010 + 0x80000 * i
/-- R514. -/
def TC_LOCK_DISCARD (i : Nat) : Nat := 0x1800014 + 0x80000 * i
/-- R514. -/
def TC_FILL_WAITS (i : Nat) : Nat := 0x1800018 + 0x80000 * i
/-- R514. -/
def TC_MCHECK_COUNT (i : Nat) : Nat := 0x180001C + 0x80000 * i
/-- R512. -/
def TC_WAY_OWNER (i j : Nat) : Nat := 0x1800040 + 0x80000 * i + 0x4 * j
/-- R515. -/
def TS_TASKS : Nat := 0x1C00000
/-- R515. -/
def TS_FLOWS : Nat := 0x1C00004
/-- R516. -/
def TS_AFFINITY : Nat := 0x1C00008
/-- R517. -/
def TS_DELAYED : Nat := 0x1C0000C
/-- R517. -/
def TS_BUDGET_ENDS : Nat := 0x1C00010
/-- R517. -/
def TS_TRAP_ENDS : Nat := 0x1C00014
/-- R517. -/
def TS_READY (i : Nat) : Nat := 0x1C00020 + 0x4 * i
/-- R610. -/
def GZ_STATUS : Nat := 0x1D00000
/-- R610. -/
def GZ_ARB : Nat := 0x1D00004
/-- R611. -/
def GZ_THROTTLE : Nat := 0x1D00008
/-- R612. -/
def GZ_FALSE_HITS : Nat := 0x1D0000C
/-- R612. -/
def GZ_SUSPECT : Nat := 0x1D00010
/-- R612. -/
def GZ_CHECK : Nat := 0x1D00014
/-- R614. -/
def GZ_CASCADE : Nat := 0x1D00018
/-- R612. -/
def GZ_CASCADE_ERR : Nat := 0x1D0001C
/-- R612. -/
def GZ_BUSY : Nat := 0x1D00020
/-- R613. -/
def GZ_STORE_LO : Nat := 0x1D00024
/-- R613. -/
def GZ_STORE_HI : Nat := 0x1D00028
/-- R615. -/
def GZ_TABLE_LO (i : Nat) : Nat := 0x1D10000 + 0x8 * i
/-- R615. -/
def GZ_TABLE_HI (i : Nat) : Nat := 0x1D10004 + 0x8 * i
/-- R657. -/
def DM_CONFIG : Nat := 0x1E00000
/-- R657. -/
def DM_CAPACITY : Nat := 0x1E00004
/-- R657. -/
def DM_STATUS : Nat := 0x1E00008
/-- R657. -/
def DM_PAGE : Nat := 0x1E0000C
/-- R657. -/
def DM_DISTURB : Nat := 0x1E00010
/-- R658. -/
def DM_NEIGHBOUR_COUNT : Nat := 0x1E00014
/-- R658. -/
def DM_CA_RETRY_COUNT : Nat := 0x1E00018
/-- R657. -/
def DM_PORT_QOS (i : Nat) : Nat := 0x1E00100 + 0x4 * i
/-- R658. -/
def DM_LATE (i : Nat) : Nat := 0x1E00140 + 0x4 * i
/-- R657. -/
def DM_REFRESH (i : Nat) : Nat := 0x1E00200 + 0x4 * i
/-- R659. -/
def EC_CE_COUNT : Nat := 0x1F00000
/-- R659. -/
def EC_UE_COUNT : Nat := 0x1F00004
/-- R659. -/
def EC_LAST_ERR_LO : Nat := 0x1F00008
/-- R659. -/
def EC_LAST_ERR_HI : Nat := 0x1F0000C
/-- R660. -/
def EC_LAST_ERR_INFO : Nat := 0x1F00010
/-- R660. -/
def EC_SURVEY : Nat := 0x1F00014
/-- R659. -/
def EC_SURVEY_LAP : Nat := 0x1F00018
/-- R659. -/
def EC_WRONG_KIND : Nat := 0x1F0001C
/-- R659. -/
def EC_TAG_MISMATCH : Nat := 0x1F00020
/-- R659. -/
def EC_POISONED : Nat := 0x1F00024
/-- R660. -/
def EC_SRAM_CODE : Nat := 0x1F00028
/-- R660. -/
def EC_ERASURE (i : Nat) : Nat := 0x1F00100 + 0x4 * i
/-- R660. -/
def EC_REMAP (i : Nat) : Nat := 0x1F00110 + 0x4 * i
/-- R660. -/
def EC_SRAM_REMAP (i : Nat) : Nat := 0x1F00180 + 0x4 * i
/-- R660. -/
def EC_REGION_LO (i : Nat) : Nat := 0x1F01000 + 0x8 * i
/-- R660. -/
def EC_REGION_HI (i : Nat) : Nat := 0x1F01004 + 0x8 * i
/-- R678. -/
def DX_CTRL (i : Nat) : Nat := 0x2000000 + 0x1000 * i
/-- R679. -/
def DX_STATUS (i : Nat) : Nat := 0x2000004 + 0x1000 * i
/-- R681. -/
def DX_SRC_LO (i : Nat) : Nat := 0x2000008 + 0x1000 * i
/-- R681. -/
def DX_SRC_HI (i : Nat) : Nat := 0x200000C + 0x1000 * i
/-- R681. -/
def DX_DST_LO (i : Nat) : Nat := 0x2000010 + 0x1000 * i
/-- R681. -/
def DX_DST_HI (i : Nat) : Nat := 0x2000014 + 0x1000 * i
/-- R681. -/
def DX_COUNT (i : Nat) : Nat := 0x2000018 + 0x1000 * i
/-- R680. -/
def DX_ATTR (i : Nat) : Nat := 0x200001C + 0x1000 * i
/-- R681. -/
def DX_NEXT_LO (i : Nat) : Nat := 0x2000020 + 0x1000 * i
/-- R681. -/
def DX_NEXT_HI (i : Nat) : Nat := 0x2000024 + 0x1000 * i
/-- R681. -/
def DX_CQ_BASE_LO (i : Nat) : Nat := 0x2000028 + 0x1000 * i
/-- R681. -/
def DX_CQ_BASE_HI (i : Nat) : Nat := 0x200002C + 0x1000 * i
/-- R681. -/
def DX_CQ_CFG (i : Nat) : Nat := 0x2000030 + 0x1000 * i
/-- R681. -/
def DX_CQ_HEAD (i : Nat) : Nat := 0x2000034 + 0x1000 * i
/-- R681. -/
def DX_CQ_TAIL (i : Nat) : Nat := 0x2000038 + 0x1000 * i
/-- R681. -/
def DX_DONE (i : Nat) : Nat := 0x200003C + 0x1000 * i
/-- R682. -/
def DX_SUMMARY_LO : Nat := 0x2040000
/-- R682. -/
def DX_SUMMARY_HI : Nat := 0x2040004
/-- R730. -/
def MG_INFLIGHT : Nat := 0x2100000
/-- R730. -/
def MG_REFUSED : Nat := 0x2100004
/-- R730. -/
def MG_LAST : Nat := 0x2100008
/-- R730. -/
def MG_LAST_SEQ : Nat := 0x210000C
/-- R730. -/
def MG_REPLIES : Nat := 0x2100010

/-- One row of the register map: `n` pages `stride` apart of `m` registers `step` apart, first at `base`; what each
reads after reset and which of its bits are RW, W1C and RC (R14). -/
structure RegDesc where
  base : Nat
  n : Nat
  stride : Nat
  m : Nat
  step : Nat
  reset : Nat
  rw : Nat
  w1c : Nat
  rc : Nat
  deriving DecidableEq, Repr

/-- The registers of block FR. FR_ID reads as on an HC part, GRADE 1h: R786 leaves the grade to fuses. DESIGN CHOICE, log 55. -/
def regsFR : List RegDesc :=
  [⟨0x0, 1, 0x10000000, 1, 4, 0x9640B110, 0x0, 0x0, 0x0⟩,
   ⟨0x10, 1, 0x10000000, 1, 4, 0x0, 0x0, 0x0, 0x0⟩,
   ⟨0x14, 1, 0x10000000, 1, 4, 0x0, 0x0, 0x0, 0x0⟩,
   ⟨0x1000, 1, 0x10000000, 1, 4, 0x3E80000, 0x0, 0x0, 0x0⟩,
   ⟨0x1004, 1, 0x10000000, 1, 4, 0x0, 0x0, 0x0, 0x0⟩,
   ⟨0x1008, 1, 0x10000000, 1, 4, 0x0, 0x0, 0x0, 0x0⟩,
   ⟨0x100C, 1, 0x10000000, 1, 4, 0x80000014, 0x8000001F, 0x0, 0x0⟩,
   ⟨0x1010, 1, 0x10000000, 5, 4, 0x0, 0x0, 0x0, 0x0⟩,
   ⟨0x1030, 1, 0x10000000, 1, 4, 0x0, 0x0, 0x0, 0x0⟩,
   ⟨0x1034, 1, 0x10000000, 1, 4, 0x7, 0x1F, 0x0, 0x0⟩,
   ⟨0x1038, 1, 0x10000000, 1, 4, 0x0, 0x0, 0x0, 0x0⟩,
   ⟨0x1040, 1, 0x10000000, 1, 4, 0x0, 0x0, 0x3, 0x0⟩,
   ⟨0x1044, 1, 0x10000000, 1, 4, 0x0, 0x0, 0x0, 0x0⟩,
   ⟨0x1048, 1, 0x10000000, 1, 4, 0x0, 0x0, 0x0, 0x0⟩,
   ⟨0x104C, 1, 0x10000000, 1, 4, 0x4000, 0x0, 0x0, 0x0⟩]
/-- The registers of block PW. -/
def regsPW : List RegDesc :=
  [⟨0x100000, 1, 0x10000000, 1, 4, 0x20000000, 0x0, 0x7000000, 0x0⟩,
   ⟨0x100004, 1, 0x10000000, 1, 4, 0x0, 0x0, 0x0, 0x0⟩,
   ⟨0x100008, 1, 0x10000000, 1, 4, 0x210000, 0x3F0000, 0x0, 0x0⟩,
   ⟨0x10000C, 1, 0x10000000, 1, 4, 0x0, 0x0, 0x0, 0x0⟩,
   ⟨0x100010, 1, 0x10000000, 1, 4, 0x0, 0x0, 0x0, 0x0⟩,
   ⟨0x100014, 1, 0x10000000, 1, 4, 0x0, 0x0, 0x0, 0x0⟩,
   ⟨0x100018, 1, 0x10000000, 1, 4, 0x0, 0x0, 0x0, 0x0⟩,
   ⟨0x10001C, 1, 0x10000000, 1, 4, 0x0, 0x0, 0x0, 0x0⟩,
   ⟨0x100020, 1, 0x10000000, 1, 4, 0x0, 0x0, 0x0, 0x0⟩]
/-- The registers of block EV. -/
def regsEV : List RegDesc :=
  [⟨0x200000, 1, 0x10000000, 16, 4, 0x0, 0x0, 0xFFFFFFFF, 0x0⟩,
   ⟨0x200040, 1, 0x10000000, 16, 4, 0xFFFFFFFF, 0xFFFFFFFF, 0x0, 0x0⟩,
   ⟨0x200080, 1, 0x10000000, 1, 4, 0x0, 0x0, 0x0, 0x0⟩,
   ⟨0x200084, 1, 0x10000000, 1, 4, 0x0, 0x0, 0x0, 0x0⟩,
   ⟨0x201000, 1, 0x10000000, 512, 4, 0x0, 0xC00007FF, 0x20000000, 0x0⟩]
/-- The registers of block HQ. -/
def regsHQ : List RegDesc :=
  [⟨0x300000, 1, 0x10000000, 1, 4, 0x4000, 0x0, 0x80000000, 0x0⟩,
   ⟨0x300004, 1, 0x10000000, 1, 4, 0x0, 0x0, 0x0, 0x0⟩,
   ⟨0x300008, 1, 0x10000000, 1, 4, 0x0, 0x0, 0x0, 0x0⟩,
   ⟨0x30000C, 1, 0x10000000, 1, 4, 0x0, 0x0, 0x0, 0x0⟩,
   ⟨0x300010, 1, 0x10000000, 1, 4, 0x0, 0x0, 0x20000000, 0x0⟩,
   ⟨0x300014, 1, 0x10000000, 1, 4, 0x0, 0x0, 0x0, 0x0⟩,
   ⟨0x300018, 1, 0x10000000, 1, 4, 0x0, 0x0, 0x80000000, 0x0⟩,
   ⟨0x30001C, 1, 0x10000000, 1, 4, 0x0, 0x0, 0x0, 0x0⟩,
   ⟨0x300020, 1, 0x10000000, 1, 4, 0x0, 0x0, 0x0, 0x0⟩]
/-- The registers of block FX. -/
def regsFX : List RegDesc :=
  [⟨0x400000, 1, 0x10000000, 1, 4, 0x0, 0x0, 0x0, 0x0⟩,
   ⟨0x400010, 1, 0x10000000, 16, 4, 0x0, 0x0, 0x20000000, 0xFFFF⟩,
   ⟨0x400100, 1, 0x10000000, 1, 4, 0x0, 0x0, 0x0, 0x0⟩,
   ⟨0x400104, 1, 0x10000000, 1, 4, 0x0, 0x0, 0x0, 0x0⟩,
   ⟨0x400108, 1, 0x10000000, 1, 4, 0x0, 0x0, 0x0, 0x0⟩,
   ⟨0x40010C, 1, 0x10000000, 1, 4, 0x0, 0x0, 0x0, 0x0⟩]
/-- The registers of block PC. -/
def regsPC : List RegDesc :=
  [⟨0x800000, 1024, 0x800, 1, 4, 0x0, 0x0, 0x0, 0x0⟩,
   ⟨0x800004, 1024, 0x800, 1, 4, 0x0, 0x0, 0x0, 0x0⟩,
   ⟨0x800008, 1024, 0x800, 1, 4, 0x0, 0x0, 0x0, 0x0⟩,
   ⟨0x80000C, 1024, 0x800, 1, 4, 0x0, 0xFC, 0x0, 0x0⟩,
   ⟨0x800010, 1024, 0x800, 1, 4, 0x0, 0x0, 0x0, 0x0⟩,
   ⟨0x800020, 1024, 0x800, 4, 4, 0x0, 0xFFFFFF, 0x0, 0x0⟩,
   ⟨0x800030, 1024, 0x800, 4, 4, 0x40, 0xFFFFFF, 0x0, 0x0⟩,
   ⟨0x800040, 1024, 0x800, 4, 4, 0x0, 0x0, 0x0, 0x0⟩,
   ⟨0x800100, 1024, 0x800, 9, 8, 0x0, 0x0, 0x0, 0x0⟩,
   ⟨0x800104, 1024, 0x800, 9, 8, 0x0, 0x0, 0x0, 0x0⟩,
   ⟨0xA00000, 1, 0x10000000, 1, 4, 0x7270E00, 0xFFFFFFFF, 0x0, 0x0⟩,
   ⟨0xA00004, 1, 0x10000000, 1, 4, 0x0, 0x0, 0x80000000, 0x0⟩,
   ⟨0xA00008, 1, 0x10000000, 1, 4, 0x0, 0x0, 0x0, 0x0⟩,
   ⟨0xA0000C, 1, 0x10000000, 1, 4, 0x0, 0x0, 0x0, 0x0⟩,
   ⟨0xA00100, 1, 0x10000000, 32, 4, 0x0, 0x0, 0x0, 0x0⟩,
   ⟨0xC00000, 1024, 0x1000, 256, 4, 0x0, 0x0, 0x0, 0x0⟩,
   ⟨0xC00400, 1024, 0x1000, 256, 4, 0x0, 0xFFFFFFFF, 0x0, 0x0⟩,
   ⟨0xC00800, 1024, 0x1000, 1, 4, 0x0, 0x0, 0x0, 0x0⟩,
   ⟨0xC00804, 1024, 0x1000, 1, 4, 0x0, 0x0, 0x0, 0x0⟩,
   ⟨0xC00808, 1024, 0x1000, 1, 4, 0x0, 0x0, 0x0, 0x0⟩,
   ⟨0xC0080C, 1024, 0x1000, 1, 4, 0x0, 0x0, 0xFFFF, 0x0⟩,
   ⟨0xC00810, 1024, 0x1000, 1, 4, 0x0, 0x0, 0x40000000, 0x0⟩]
/-- The registers of block AT. -/
def regsAT : List RegDesc :=
  [⟨0x1000000, 1, 0x10000000, 1, 4, 0x4000000, 0x0, 0x40000000, 0x0⟩,
   ⟨0x1000004, 1, 0x10000000, 1, 4, 0x0, 0x0, 0x0, 0x0⟩,
   ⟨0x1000008, 1, 0x10000000, 1, 4, 0x0, 0x0, 0x0, 0x0⟩,
   ⟨0x100000C, 1, 0x10000000, 1, 4, 0x64000000, 0x0, 0x80000000, 0x0⟩,
   ⟨0x1000010, 1, 0x10000000, 1, 4, 0x1F4, 0xFFFF, 0x0, 0x0⟩,
   ⟨0x1000014, 1, 0x10000000, 1, 4, 0x84000040, 0x8FFFFFFF, 0x0, 0x0⟩,
   ⟨0x1000018, 1, 0x10000000, 1, 4, 0x0, 0x7FFFF, 0x0, 0x0⟩,
   ⟨0x100001C, 1, 0x10000000, 1, 4, 0x0, 0x0, 0x0, 0x0⟩,
   ⟨0x1000020, 1, 0x10000000, 1, 4, 0x0, 0x0, 0x0, 0x0⟩,
   ⟨0x1000024, 1, 0x10000000, 1, 4, 0x0, 0x0, 0x0, 0x0⟩,
   ⟨0x1000028, 1, 0x10000000, 1, 4, 0x0, 0x0, 0x0, 0x0⟩,
   ⟨0x100002C, 1, 0x10000000, 1, 4, 0x0, 0x0, 0x0, 0x0⟩,
   ⟨0x1000030, 1, 0x10000000, 1, 4, 0x0, 0x0, 0x0, 0x0⟩,
   ⟨0x1000034, 1, 0x10000000, 1, 4, 0x0, 0x0, 0x0, 0x0⟩,
   ⟨0x1000038, 1, 0x10000000, 1, 4, 0x0, 0x0, 0x0, 0x0⟩,
   ⟨0x100003C, 1, 0x10000000, 1, 4, 0x0, 0x0, 0x0, 0x0⟩]
/-- The registers of block FC. -/
def regsFC : List RegDesc :=
  [⟨0x1100000, 32, 0x10000, 1, 4, 0x20000000, 0x0, 0x600000, 0x0⟩,
   ⟨0x1100004, 32, 0x10000, 1, 4, 0xE800F408, 0xF800FF0F, 0x0, 0x0⟩,
   ⟨0x1100008, 32, 0x10000, 1, 4, 0x0, 0x0, 0x0, 0x0⟩,
   ⟨0x110000C, 32, 0x10000, 1, 4, 0x0, 0x0, 0x0, 0x0⟩,
   ⟨0x1100010, 32, 0x10000, 1, 4, 0x0, 0x0, 0x0, 0xFFFFFFFF⟩,
   ⟨0x1100014, 32, 0x10000, 1, 4, 0x0, 0x0, 0x0, 0x0⟩,
   ⟨0x1100018, 32, 0x10000, 1, 4, 0x0, 0x0, 0x0, 0x0⟩,
   ⟨0x110001C, 32, 0x10000, 1, 4, 0x0, 0x0, 0x0, 0x0⟩,
   ⟨0x1100020, 32, 0x10000, 1, 4, 0x0, 0x0, 0x0, 0x0⟩,
   ⟨0x1100024, 32, 0x10000, 1, 4, 0x0, 0x0, 0x0, 0x0⟩,
   ⟨0x1100028, 32, 0x10000, 1, 4, 0x400, 0xFFFF, 0x0, 0x0⟩,
   ⟨0x1100100, 32, 0x10000, 32, 4, 0x0, 0x0, 0x0, 0x0⟩]
/-- The registers of block CZ. -/
def regsCZ : List RegDesc :=
  [⟨0x1300000, 1, 0x10000000, 1, 4, 0x208, 0xFFF, 0x0, 0x0⟩,
   ⟨0x1300004, 1, 0x10000000, 1, 4, 0x20, 0x3FF, 0x0, 0x0⟩,
   ⟨0x1300008, 1, 0x10000000, 1, 4, 0x0, 0x0, 0x0, 0x0⟩,
   ⟨0x130000C, 1, 0x10000000, 1, 4, 0x0, 0x0, 0x0, 0x0⟩,
   ⟨0x1300010, 1, 0x10000000, 1, 4, 0x0, 0x0, 0x0, 0x0⟩,
   ⟨0x1300014, 1, 0x10000000, 1, 4, 0x0, 0x0, 0x0, 0x0⟩,
   ⟨0x1300018, 1, 0x10000000, 1, 4, 0x0, 0x0, 0x0, 0x0⟩,
   ⟨0x130001C, 1, 0x10000000, 1, 4, 0x0, 0x0, 0x0, 0x0⟩,
   ⟨0x1300020, 1, 0x10000000, 1, 4, 0x0, 0x0, 0x0, 0x0⟩,
   ⟨0x1300024, 1, 0x10000000, 1, 4, 0x0, 0x0, 0x0, 0x0⟩]
/-- The registers of block DG. -/
def regsDG : List RegDesc :=
  [⟨0x1400000, 1, 0x10000000, 1, 4, 0x108, 0xFFF, 0x0, 0x0⟩,
   ⟨0x1400004, 1, 0x10000000, 1, 4, 0x10, 0x1FF, 0x0, 0x0⟩,
   ⟨0x1400008, 1, 0x10000000, 1, 4, 0x0, 0x0, 0x0, 0x0⟩,
   ⟨0x140000C, 1, 0x10000000, 1, 4, 0x0, 0x0, 0x0, 0x0⟩,
   ⟨0x1400010, 1, 0x10000000, 1, 4, 0x0, 0x0, 0x0, 0x0⟩,
   ⟨0x1400014, 1, 0x10000000, 1, 4, 0x0, 0x0, 0x0, 0x0⟩,
   ⟨0x1400018, 1, 0x10000000, 1, 4, 0x0, 0x0, 0x0, 0x0⟩,
   ⟨0x1400100, 1, 0x10000000, 16, 4, 0x0, 0x800FFFFF, 0x60000000, 0x0⟩,
   ⟨0x1410000, 256, 0x40, 16, 4, 0x0, 0x0, 0x0, 0x0⟩,
   ⟨0x1420000, 1, 0x10000000, 256, 4, 0x0, 0x0, 0x0, 0x0⟩]
/-- The registers of block CP. -/
def regsCP : List RegDesc :=
  [⟨0x1500000, 1, 0x10000000, 1, 4, 0x208, 0xFFF, 0x0, 0x0⟩,
   ⟨0x1500004, 1, 0x10000000, 1, 4, 0x80, 0x0, 0x0, 0x0⟩,
   ⟨0x1500008, 1, 0x10000000, 1, 4, 0x0, 0x0, 0x0, 0x0⟩,
   ⟨0x150000C, 1, 0x10000000, 1, 4, 0x0, 0x0, 0x0, 0x0⟩,
   ⟨0x1500010, 1, 0x10000000, 1, 4, 0x0, 0x0, 0x0, 0x0⟩,
   ⟨0x1500014, 1, 0x10000000, 1, 4, 0x0, 0x0, 0x0, 0x0⟩]
/-- The registers of block KS. -/
def regsKS : List RegDesc :=
  [⟨0x1600000, 1, 0x10000000, 1, 4, 0x0, 0x0, 0x0, 0x0⟩,
   ⟨0x1600004, 1, 0x10000000, 1, 4, 0x0, 0x0, 0x0, 0x0⟩,
   ⟨0x1600008, 1, 0x10000000, 1, 4, 0x0, 0x0, 0x20000000, 0x0⟩,
   ⟨0x160000C, 1, 0x10000000, 1, 4, 0x10000000, 0x0, 0x0, 0x0⟩,
   ⟨0x1610000, 4096, 0x8, 1, 4, 0x0, 0x0, 0x0, 0x0⟩,
   ⟨0x1610004, 4096, 0x8, 1, 4, 0x0, 0x0, 0x0, 0x0⟩]
/-- The registers of block TC. -/
def regsTC : List RegDesc :=
  [⟨0x1800000, 8, 0x80000, 1, 4, 0x80000000, 0x0, 0x0, 0x0⟩,
   ⟨0x1800004, 8, 0x80000, 1, 4, 0xFF, 0xFF, 0x0, 0x0⟩,
   ⟨0x1800008, 8, 0x80000, 1, 4, 0x0, 0xFFFFFFFF, 0x0, 0x0⟩,
   ⟨0x180000C, 8, 0x80000, 1, 4, 0x0, 0x0, 0x80000000, 0x0⟩,
   ⟨0x1800010, 8, 0x80000, 1, 4, 0x80000004, 0x8000000F, 0x0, 0x0⟩,
   ⟨0x1800014, 8, 0x80000, 1, 4, 0x0, 0x0, 0x0, 0x0⟩,
   ⟨0x1800018, 8, 0x80000, 1, 4, 0x0, 0x0, 0x0, 0x0⟩,
   ⟨0x180001C, 8, 0x80000, 1, 4, 0x0, 0x0, 0x0, 0x0⟩,
   ⟨0x1800040, 8, 0x80000, 16, 4, 0x0, 0x800003FF, 0x0, 0x0⟩]
/-- The registers of block TS. -/
def regsTS : List RegDesc :=
  [⟨0x1C00000, 1, 0x10000000, 1, 4, 0x10000, 0x0, 0x80000000, 0x0⟩,
   ⟨0x1C00004, 1, 0x10000000, 1, 4, 0x4000, 0x0, 0x80000000, 0x0⟩,
   ⟨0x1C00008, 1, 0x10000000, 1, 4, 0x40004, 0xFFFFFF, 0x0, 0x0⟩,
   ⟨0x1C0000C, 1, 0x10000000, 1, 4, 0x0, 0x0, 0x0, 0x0⟩,
   ⟨0x1C00010, 1, 0x10000000, 1, 4, 0x0, 0x0, 0x0, 0x0⟩,
   ⟨0x1C00014, 1, 0x10000000, 1, 4, 0x0, 0x0, 0x0, 0x0⟩,
   ⟨0x1C00020, 1, 0x10000000, 8, 4, 0x0, 0x0, 0x0, 0x0⟩]
/-- The registers of block GZ. -/
def regsGZ : List RegDesc :=
  [⟨0x1D00000, 1, 0x10000000, 1, 4, 0x0, 0x0, 0x0, 0x0⟩,
   ⟨0x1D00004, 1, 0x10000000, 1, 4, 0x208, 0xFFF, 0x0, 0x0⟩,
   ⟨0x1D00008, 1, 0x10000000, 1, 4, 0x0, 0x0, 0x20000000, 0xFFFF⟩,
   ⟨0x1D0000C, 1, 0x10000000, 1, 4, 0x0, 0x0, 0x0, 0x0⟩,
   ⟨0x1D00010, 1, 0x10000000, 1, 4, 0x0, 0x0, 0x0, 0x0⟩,
   ⟨0x1D00014, 1, 0x10000000, 1, 4, 0x0, 0x0, 0x0, 0x0⟩,
   ⟨0x1D00018, 1, 0x10000000, 1, 4, 0x0, 0x0, 0x10000000, 0x0⟩,
   ⟨0x1D0001C, 1, 0x10000000, 1, 4, 0x0, 0x0, 0x0, 0x0⟩,
   ⟨0x1D00020, 1, 0x10000000, 1, 4, 0x0, 0x0, 0x0, 0x0⟩,
   ⟨0x1D00024, 1, 0x10000000, 1, 4, 0x0, 0x0, 0x0, 0x0⟩,
   ⟨0x1D00028, 1, 0x10000000, 1, 4, 0x0, 0x0, 0x0, 0x0⟩,
   ⟨0x1D10000, 1024, 0x8, 1, 4, 0x0, 0x0, 0x0, 0x0⟩,
   ⟨0x1D10004, 1024, 0x8, 1, 4, 0x0, 0x0, 0x0, 0x0⟩]
/-- The registers of block DM. -/
def regsDM : List RegDesc :=
  [⟨0x1E00000, 1, 0x10000000, 1, 4, 0x0, 0x0, 0x0, 0x0⟩,
   ⟨0x1E00004, 1, 0x10000000, 1, 4, 0x0, 0x0, 0x0, 0x0⟩,
   ⟨0x1E00008, 1, 0x10000000, 1, 4, 0x0, 0x0, 0xC0000000, 0x0⟩,
   ⟨0x1E0000C, 1, 0x10000000, 1, 4, 0xFA, 0xC0000FFF, 0x0, 0x0⟩,
   ⟨0x1E00010, 1, 0x10000000, 1, 4, 0xA, 0x1F, 0x0, 0x0⟩,
   ⟨0x1E00014, 1, 0x10000000, 1, 4, 0x0, 0x0, 0x0, 0x0⟩,
   ⟨0x1E00018, 1, 0x10000000, 1, 4, 0x0, 0x0, 0x0, 0x0⟩,
   ⟨0x1E00100, 1, 0x10000000, 12, 4, 0x0, 0xFF0FFF, 0x0, 0x0⟩,
   ⟨0x1E00140, 1, 0x10000000, 12, 4, 0x0, 0x0, 0x0, 0x0⟩,
   ⟨0x1E00200, 1, 0x10000000, 4, 4, 0x10000000, 0x10000000, 0x40000000, 0x0⟩]
/-- The registers of block EC. -/
def regsEC : List RegDesc :=
  [⟨0x1F00000, 1, 0x10000000, 1, 4, 0x0, 0x0, 0x0, 0x0⟩,
   ⟨0x1F00004, 1, 0x10000000, 1, 4, 0x0, 0x0, 0x0, 0x0⟩,
   ⟨0x1F00008, 1, 0x10000000, 1, 4, 0x0, 0x0, 0x0, 0x0⟩,
   ⟨0x1F0000C, 1, 0x10000000, 1, 4, 0x0, 0x0, 0x0, 0x0⟩,
   ⟨0x1F00010, 1, 0x10000000, 1, 4, 0x0, 0x0, 0x0, 0x0⟩,
   ⟨0x1F00014, 1, 0x10000000, 1, 4, 0x80000200, 0x8000FFFF, 0x40000000, 0x0⟩,
   ⟨0x1F00018, 1, 0x10000000, 1, 4, 0x0, 0x0, 0x0, 0x0⟩,
   ⟨0x1F0001C, 1, 0x10000000, 1, 4, 0x0, 0x0, 0x0, 0x0⟩,
   ⟨0x1F00020, 1, 0x10000000, 1, 4, 0x0, 0x0, 0x0, 0x0⟩,
   ⟨0x1F00024, 1, 0x10000000, 1, 4, 0x0, 0x0, 0x0, 0x0⟩,
   ⟨0x1F00028, 1, 0x10000000, 1, 4, 0x201F, 0x0, 0x0, 0x0⟩,
   ⟨0x1F00100, 1, 0x10000000, 4, 4, 0x0, 0x0, 0x0, 0x0⟩,
   ⟨0x1F00110, 1, 0x10000000, 4, 4, 0x0, 0x0, 0x0, 0x0⟩,
   ⟨0x1F00180, 1, 0x10000000, 14, 4, 0x0, 0x0, 0x0, 0x0⟩,
   ⟨0x1F01000, 64, 0x8, 1, 4, 0x0, 0x0, 0x0, 0x0⟩,
   ⟨0x1F01004, 64, 0x8, 1, 4, 0x0, 0x0, 0x0, 0x0⟩]
/-- The registers of block DX. -/
def regsDX : List RegDesc :=
  [⟨0x2000000, 64, 0x1000, 1, 4, 0x0, 0x3BFF0000, 0x0, 0x0⟩,
   ⟨0x2000004, 64, 0x1000, 1, 4, 0x0, 0x0, 0x1F, 0x0⟩,
   ⟨0x2000008, 64, 0x1000, 1, 4, 0x0, 0xFFFFFFFF, 0x0, 0x0⟩,
   ⟨0x200000C, 64, 0x1000, 1, 4, 0x0, 0xFFFFFFFF, 0x0, 0x0⟩,
   ⟨0x2000010, 64, 0x1000, 1, 4, 0x0, 0xFFFFFFFF, 0x0, 0x0⟩,
   ⟨0x2000014, 64, 0x1000, 1, 4, 0x0, 0xFFFFFFFF, 0x0, 0x0⟩,
   ⟨0x2000018, 64, 0x1000, 1, 4, 0x0, 0x1FFFFFF, 0x0, 0x0⟩,
   ⟨0x200001C, 64, 0x1000, 1, 4, 0x0, 0x83FFFFF0, 0x0, 0x0⟩,
   ⟨0x2000020, 64, 0x1000, 1, 4, 0x0, 0xFFFFFFFF, 0x0, 0x0⟩,
   ⟨0x2000024, 64, 0x1000, 1, 4, 0x0, 0xFFFFFFFF, 0x0, 0x0⟩,
   ⟨0x2000028, 64, 0x1000, 1, 4, 0x0, 0xFFFFFFFF, 0x0, 0x0⟩,
   ⟨0x200002C, 64, 0x1000, 1, 4, 0x0, 0xFFFFFFFF, 0x0, 0x0⟩,
   ⟨0x2000030, 64, 0x1000, 1, 4, 0x0, 0x8000001F, 0x0, 0x0⟩,
   ⟨0x2000034, 64, 0x1000, 1, 4, 0x0, 0xFFFF, 0x0, 0x0⟩,
   ⟨0x2000038, 64, 0x1000, 1, 4, 0x10000, 0x0, 0x0, 0x0⟩,
   ⟨0x200003C, 64, 0x1000, 1, 4, 0x0, 0x0, 0x0, 0x0⟩,
   ⟨0x2040000, 1, 0x10000000, 1, 4, 0x0, 0x0, 0x0, 0x0⟩,
   ⟨0x2040004, 1, 0x10000000, 1, 4, 0x0, 0x0, 0x0, 0x0⟩]
/-- The registers of block MG. -/
def regsMG : List RegDesc :=
  [⟨0x2100000, 1, 0x10000000, 1, 4, 0x0, 0x0, 0x0, 0x7F0000⟩,
   ⟨0x2100004, 1, 0x10000000, 1, 4, 0x0, 0x0, 0x0, 0x0⟩,
   ⟨0x2100008, 1, 0x10000000, 1, 4, 0x0, 0x0, 0x0, 0x0⟩,
   ⟨0x210000C, 1, 0x10000000, 1, 4, 0x0, 0x0, 0x0, 0x0⟩,
   ⟨0x2100010, 1, 0x10000000, 1, 4, 0x0, 0x0, 0x0, 0x0⟩]

/-- Does `d` cover the offset `a`? -/
def RegDesc.covers (d : RegDesc) (a : Nat) : Bool :=
  d.base ≤ a && (a - d.base) / d.stride < d.n && (a - d.base) % d.stride % d.step == 0
    && (a - d.base) % d.stride / d.step < d.m

/-- The rows of the block that holds offset `a` (chapter 00, Registers and the management window). -/
def regsOfBlock (a : Nat) : List RegDesc :=
  if 0x0 ≤ a ∧ a < 0x100000 then regsFR
  else if 0x100000 ≤ a ∧ a < 0x200000 then regsPW
  else if 0x200000 ≤ a ∧ a < 0x300000 then regsEV
  else if 0x300000 ≤ a ∧ a < 0x400000 then regsHQ
  else if 0x400000 ≤ a ∧ a < 0x500000 then regsFX
  else if 0x800000 ≤ a ∧ a < 0x1000000 then regsPC
  else if 0x1000000 ≤ a ∧ a < 0x1100000 then regsAT
  else if 0x1100000 ≤ a ∧ a < 0x1300000 then regsFC
  else if 0x1300000 ≤ a ∧ a < 0x1400000 then regsCZ
  else if 0x1400000 ≤ a ∧ a < 0x1500000 then regsDG
  else if 0x1500000 ≤ a ∧ a < 0x1600000 then regsCP
  else if 0x1600000 ≤ a ∧ a < 0x1700000 then regsKS
  else if 0x1800000 ≤ a ∧ a < 0x1C00000 then regsTC
  else if 0x1C00000 ≤ a ∧ a < 0x1D00000 then regsTS
  else if 0x1D00000 ≤ a ∧ a < 0x1E00000 then regsGZ
  else if 0x1E00000 ≤ a ∧ a < 0x1F00000 then regsDM
  else if 0x1F00000 ≤ a ∧ a < 0x2000000 then regsEC
  else if 0x2000000 ≤ a ∧ a < 0x2100000 then regsDX
  else if 0x2100000 ≤ a ∧ a < 0x2200000 then regsMG
  else []

/-- The row of an assigned offset; none for a reserved one (R9). -/
def regDesc (a : Nat) : Option RegDesc := (regsOfBlock a).find? (·.covers a)

/-- Reset TARGET and MIN_PCT of DM_PORT_QOS for ports 0 to 11 (R625). -/
def portQosReset : List (Nat × Nat) :=
  [(0x1E, 10), (0x32, 10), (0x1E, 8), (0x64, 30), (0x64, 4), (0x64, 4), (0x32, 2), (0xC8, 2), (0x28, 4), (0x32, 2),
   (0x32, 2), (0x32, 2)]

/-- What offset `a` reads after power-on reset and SYS_RESET_N (R12); 0 where it is reserved (R9). -/
def regReset (a : Nat) : Reg :=
  if 0x1E00100 ≤ a ∧ a < 0x1E00130 ∧ a % 4 = 0 then
    let p := portQosReset.getD ((a - 0x1E00100) / 4) (0, 0)
    BitVec.ofNat 32 (p.2 * 0x10000 + p.1)
  else match regDesc a with
    | none => 0
    | some d =>
      -- DX_STATUS.FIRMWARE (R679) reads 1 on channels 0 to 31; TC_STATUS.FIRMWARE (R509) on clusters 0 and 1
      -- and TC_POOL reads 0 there (R510)
      if d.base = 0x2000004 ∧ a < 0x2020000 then BitVec.ofNat 32 (d.reset + 0x10000000)
      else if d.base = 0x1800000 ∧ a < 0x1900000 then BitVec.ofNat 32 (d.reset + 0x40000000)
      else if d.base = 0x1800004 ∧ a < 0x1900000 then 0
      else BitVec.ofNat 32 d.reset

end Sys2Proof.Machine
end

