-- ==== Sys2Proof/Machine/Table.lean ====
section
/-! DEFINITION. Operations on the sparse tables of Word.lean: look up, set, erase, change. Every one keeps the keys
strictly rising (Laws/Table.lean). -/
namespace Sys2Proof.Machine

/-- The entry at `k`, if one is listed. -/
def tabGet {α : Type} : Table α → Nat → Option α
  | [], _ => none
  | (i, a) :: t, k => if i = k then some a else if k < i then none else tabGet t k

/-- The entry at `k`, or `d` where none is listed. -/
def tabGetD {α : Type} (t : Table α) (k : Nat) (d : α) : α := (tabGet t k).getD d

/-- `t` with the entry at `k` set to `a`. -/
def tabSet {α : Type} : Table α → Nat → α → Table α
  | [], k, a => [(k, a)]
  | (i, b) :: t, k, a =>
    if i = k then (k, a) :: t else if k < i then (k, a) :: (i, b) :: t else (i, b) :: tabSet t k a

/-- `t` without an entry at `k`. -/
def tabErase {α : Type} : Table α → Nat → Table α
  | [], _ => []
  | (i, b) :: t, k => if i = k then t else if k < i then (i, b) :: t else (i, b) :: tabErase t k

/-- The entry at `k` changed by `f`, where one is listed. -/
def tabMod {α : Type} : Table α → Nat → (α → α) → Table α
  | [], _, _ => []
  | (i, b) :: t, k, f => if i = k then (i, f b) :: t else if k < i then (i, b) :: t else (i, b) :: tabMod t k f

/-- The entry at `k` changed by `f`, starting from `d` where none is listed. -/
def tabModD {α : Type} (t : Table α) (k : Nat) (d : α) (f : α → α) : Table α := tabSet t k (f (tabGetD t k d))

/-- Every entry changed by `f`. -/
def tabMap {α : Type} (t : Table α) (f : Nat → α → α) : Table α := t.map fun e => (e.1, f e.1 e.2)

/-- The entries for which `p` holds. -/
def tabFilter {α : Type} (t : Table α) (p : Nat → α → Bool) : Table α := t.filter fun e => p e.1 e.2

/-- The keys whose entries satisfy `p`, rising. -/
def tabKeys {α : Type} (t : Table α) (p : α → Bool) : List Nat := (t.filter fun e => p e.2).map (·.1)

/-- How many entries satisfy `p`. -/
def tabCount {α : Type} (t : Table α) (p : α → Bool) : Nat := (t.filter fun e => p e.2).length

/-- The keys of a table rise strictly: its canonical form. -/
def tabSorted {α : Type} : Table α → Bool
  | [] => true
  | [_] => true
  | (i, _) :: (j, b) :: t => decide (i < j) && tabSorted ((j, b) :: t)

/-- The lowest number from `lo`, below `hi`, at which nothing is listed. -/
def tabFree {α : Type} (t : Table α) (lo : Nat) : Nat → Option Nat
  | 0 => none
  | n + 1 => if (tabGet t lo).isNone then some lo else tabFree t (lo + 1) n

/-- A number put in its place in a list that rises by `key`, behind equals. -/
def insertBy (key : Nat → Nat) (x : Nat) : List Nat → List Nat
  | [] => [x]
  | y :: t => if key x < key y then x :: y :: t else y :: insertBy key x t

/-- Numbers sorted to rise by `key`, equals in their order. -/
def sortBy (key : Nat → Nat) (l : List Nat) : List Nat := l.foldl (fun a x => insertBy key x a) []

end Sys2Proof.Machine
end

