-- ==== Sys2Proof/Machine/Ops.lean ====
section
/-! DEFINITION. The shared operations on the state: registers, events and MSI-X messages, staging granules, service
tokens, meters, flow credits, tickets and completions. Every command's meaning is written over these. -/
namespace Sys2Proof.Machine

/-- What a command answers. -/
abbrev Res := Host.Outcome State Fault Refusal

/-! ## Registers (R10-R16) -/

/-- The stored value of the register at window offset `a`; its reset value where nothing has written it (R12). -/
def regRaw (s : State) (a : Nat) : Reg := tabGetD s.regs a (regReset a)

/-- The stored value as a number. -/
def regNat (s : State) (a : Nat) : Nat := (regRaw s a).toNat

/-- Bits `[hi:lo]` of the register at `a` (R4). -/
def regFld (s : State) (a hi lo : Nat) : Nat := bitsOf (regNat s a) hi lo

/-- Bit `i` of the register at `a`. -/
def regBit (s : State) (a i : Nat) : Bool := bitOf (regNat s a) i

/-- The register at `a` set to the low 32 bits of `v`. -/
def regPut (s : State) (a v : Nat) : State := { s with regs := tabSet s.regs a (BitVec.ofNat 32 v) }

/-- The number `v` with bits `[hi:lo]` replaced by `n`. -/
def putBits (v hi lo n : Nat) : Nat := v - bitsOf v hi lo * 2 ^ lo + n % 2 ^ (hi + 1 - lo) * 2 ^ lo

/-- Bits `[hi:lo]` of the register at `a` set to `n`. -/
def regPutFld (s : State) (a hi lo n : Nat) : State := regPut s a (putBits (regNat s a) hi lo n)

/-- Bit `i` of the register at `a` set to `b`. -/
def regPutBit (s : State) (a i : Nat) (b : Bool) : State := regPutFld s a i i (b2n b)

/-- A counting register one higher, modulo 2^32 (R39, R96, R155). -/
def regInc (s : State) (a : Nat) : State := regPut s a (regNat s a + 1)

/-- A counting register `n` higher, modulo 2^32. -/
def regAdd (s : State) (a n : Nat) : State := regPut s a (regNat s a + n)

/-- A write by access code (R14): RW bits take the value, W1C bits clear where it is 1, all others stay. -/
def maskWrite (d : RegDesc) (old v : Nat) : Nat :=
  let o := BitVec.ofNat 32 old
  let n := BitVec.ofNat 32 v
  let rw := BitVec.ofNat 32 d.rw
  let wc := BitVec.ofNat 32 d.w1c
  (((o &&& ~~~rw) ||| (n &&& rw)) &&& ~~~(n &&& wc)).toNat

/-- The register at `a` written with `v` by its access codes; nothing where the offset is reserved (R9, R14). -/
def regWrite (s : State) (a v : Nat) : State :=
  match regDesc a with
  | none => s
  | some d => regPut s a (maskWrite d (regNat s a) v)

/-- Number of the frame the machine is in (R22, R24). -/
def frameNo (s : State) : Nat := s.fr.count.toNat

/-- The frame period in nanoseconds (R19, R26). -/
def periodNs (s : State) : Nat :=
  match regFld s FR_FRAME_PERIOD 1 0 with
  | 1 => 250
  | 2 => 1000
  | _ => 500

/-- Frames in `ns` nanoseconds, rounded up (R8). -/
def framesOf (s : State) (ns : Nat) : Nat := (ns + periodNs s - 1) / periodNs s

/-- One more message on the device's ports. -/
def emit (s : State) (o : Out) : State := { s with out := s.out ++ [o] }

/-- Several more messages on the device's ports. -/
def emits (s : State) (os : List Out) : State := { s with out := s.out ++ os }

/-- The next free value, and the state that has used it (log 3). -/
def takeFree (s : State) : Nat × State := (Config.freeNat s.fresh, { s with fresh := s.fresh + 1 })

/-- The next `len` octets of the DRBG, drawn as free octets (R450, log 4). -/
def drbgBytes (s : State) (len : Nat) : Bytes × State := (Config.drbg s.fresh len, { s with fresh := s.fresh + 1 })

/-! ## Functions and controllers -/

def fnGet (s : State) (f : Nat) : Fn := tabGetD s.host.fns f {}
def fnMod (s : State) (f : Nat) (g : Fn → Fn) : State :=
  { s with host := { s.host with fns := tabModD s.host.fns f {} g } }
def ctrlGet (s : State) (c : Nat) : Ctrl := tabGetD s.host.ctrls c {}
def ctrlMod (s : State) (c : Nat) (g : Ctrl → Ctrl) : State :=
  { s with host := { s.host with ctrls := tabModD s.host.ctrls c {} g } }
def connGet (s : State) (c : Nat) : Option Conn := tabGet s.host.conns c
def connMod (s : State) (c : Nat) (g : Conn → Conn) : State :=
  { s with host := { s.host with conns := tabMod s.host.conns c g } }

/-- The companion function's number (R59); virtual function `n` of link B is `compFn + n`. -/
def compFn : Nat := 512

/-- Is `f` a virtual function (R60)? -/
def isVf (f : Nat) : Bool := f != 0 && f != compFn && f ≤ 768

/-- The functions of a link (R60). -/
def onLinkB (f : Nat) : Bool := f ≥ compFn

/-- Vectors of a function's MSI-X table (R62). -/
def vectors (f : Nat) : Nat := if f = 0 then 2048 else if f = compFn then 64 else 65

/-- The controllers' first number past the PCIe functions: fabric controllers are allocated from here (R78). -/
def fabricBase : Nat := 1024

/-! ## MSI-X (R687, R793) -/

/-- May an MSI-X message of a vector go out now (R793)? -/
def msixOpen (s : State) (f vec : Nat) : Bool :=
  let x := fnGet s f
  x.msixEn && !x.fmask && x.vopen.contains vec && x.bme

/-- An interrupt falls due on a vector: sent, or its pending bit set (R793). -/
def msixDue (s : State) (f vec : Nat) : State :=
  if msixOpen s f vec then emit s (.msix f vec)
  else fnMod s f fun x => { x with pba := if x.pba.contains vec then x.pba else x.pba ++ [vec] }

/-- A pending vector that has become open is sent and its pending bit cleared (R793). -/
def msixDeliver (s : State) (f vec : Nat) : State :=
  if (fnGet s f).pba.contains vec && msixOpen s f vec then
    emit (fnMod s f fun x => { x with pba := x.pba.filter (· != vec) }) (.msix f vec)
  else s

/-! ## Events (R683-R692) -/

/-- Is the event number in use (R683)? -/
def eventInUse (n : Nat) : Bool :=
  n ≤ 2 || (16 ≤ n && n ≤ 26) || (32 ≤ n && n ≤ 34) || (96 ≤ n && n ≤ 116) || (160 ≤ n && n ≤ 166)
    || (224 ≤ n && n ≤ 235) || (272 ≤ n && n ≤ 338) || (352 ≤ n && n ≤ 355) || (368 ≤ n && n ≤ 375)
    || (384 ≤ n && n ≤ 431 && (n - 384) % 6 ≤ 4) || (432 ≤ n && n ≤ 437) || (448 ≤ n && n ≤ 455)
    || (464 ≤ n && n ≤ 468) || (480 ≤ n && n ≤ 493) || (496 ≤ n && n ≤ 501)

/-- Is the event pending in the manager latch? -/
def evPending (s : State) (n : Nat) : Bool := regBit s (EV_PENDING (n / 32)) (n % 32)

/-- Is a pending event deliverable: not masked, and routed with MSIX_EN (R687)? -/
def evDeliverable (s : State) (n : Nat) : Bool :=
  evPending s n && !regBit s (EV_MASK (n / 32)) (n % 32) && regBit s (EV_ROUTE n) 31

/-- Events that have just become deliverable wait for their message (R687). -/
def evArm (s : State) (n : Nat) : State :=
  if evDeliverable s n && !s.ev.send.contains n then { s with ev := { s.ev with send := s.ev.send ++ [n] } } else s

/-- The manager latch of an event is set; a bit already pending sends nothing again (R687). -/
def raiseManager (s : State) (n : Nat) : State :=
  if eventInUse n && !evPending s n then evArm (regPutBit s (EV_PENDING (n / 32)) (n % 32) true) n else s

/-- An event is raised: both latches are set (R686); a reserved event never is (R689). -/
def raise (s : State) (n : Nat) : State :=
  if eventInUse n then
    raiseManager { s with ev := { s.ev with fwLatch := s.ev.fwLatch ||| (1#512 <<< n) } } n
  else s

/-- The function and vector to which an event is routed (R692). -/
def evRouted (s : State) (n : Nat) : Nat × Nat :=
  (if regBit s (EV_ROUTE n) 30 then compFn else 0, regFld s (EV_ROUTE n) 10 0)

/-- The message of an event that waits for delivery is sent, or held in the PBA (R687). -/
def evDeliver (s : State) (n : Nat) : State :=
  if s.ev.send.contains n then
    let s := { s with ev := { s.ev with send := s.ev.send.filter (· != n) } }
    let r := evRouted s n
    msixDue s r.1 r.2
  else s

/-! ## Staging granules (R43-R45) -/

/-- The owner map with the `k` lowest granules of the pool from granule `i` on given to `o`; the first number is fuel, the
granules looked at. -/
def ownTake (o : GOwner) : Nat → Nat → Nat → Table GOwner → Table GOwner
  | 0, _, _, t => t
  | _ + 1, 0, _, t => t
  | f + 1, k + 1, i, [] => (i, o) :: ownTake o f k (i + 1) []
  | f + 1, k + 1, i, (j, b) :: t =>
    if i = j then (j, b) :: ownTake o f (k + 1) (i + 1) t else (i, o) :: ownTake o f k (i + 1) ((j, b) :: t)

/-- The owner map with `k` granules of owner `o` passed to `q`, or back to the pool. -/
def ownPass (o : GOwner) (q : Option GOwner) : Nat → Table GOwner → Table GOwner
  | _, [] => []
  | 0, t => t
  | k + 1, (j, b) :: t =>
    if b = o then
      match q with
      | some c => (j, c) :: ownPass o q k t
      | none => ownPass o q k t
    else (j, b) :: ownPass o q (k + 1) t

/-- Granules leave the pool for ticket `i`; their owner entries and both counts change together (R44). -/
def granToTick (s : State) (i n : Nat) : State :=
  let k := min n s.fr.pool
  { s with fr := { s.fr with pool := s.fr.pool - k, tick := s.fr.tick + k
                             owners := ownTake (.ticket i) (k + s.fr.owners.length) k 0 s.fr.owners } }

/-- Granules of ticket `i` return to the pool. -/
def granFromTick (s : State) (i n : Nat) : State :=
  let k := min n s.fr.tick
  { s with fr := { s.fr with pool := s.fr.pool + k, tick := s.fr.tick - k
                             owners := ownPass (.ticket i) none k s.fr.owners } }

/-- Granules leave the pool for engine job `j`. -/
def granToEng (s : State) (j n : Nat) : State :=
  let k := min n s.fr.pool
  { s with fr := { s.fr with pool := s.fr.pool - k, eng := s.fr.eng + k
                             owners := ownTake (.job j) (k + s.fr.owners.length) k 0 s.fr.owners } }

/-- Granules of engine job `j` return to the pool. -/
def granFromEng (s : State) (j n : Nat) : State :=
  let k := min n s.fr.eng
  { s with fr := { s.fr with pool := s.fr.pool + k, eng := s.fr.eng - k
                             owners := ownPass (.job j) none k s.fr.owners } }

/-- Granules of ticket `i` pass to a discarding path (R45). -/
def granDiscardTick (s : State) (i n : Nat) : State :=
  let k := min n s.fr.tick
  if k = 0 then s
  else { s with fr := { s.fr with tick := s.fr.tick - k, disc := s.fr.disc + k
                                  owners := ownPass (.ticket i) (some .discarding) k s.fr.owners
                                  discards := s.fr.discards ++ [(s.fr.count.toNat, k)] } }

/-- Granules of engine job `j` pass to a discarding path (R45, R50). -/
def granDiscardEng (s : State) (j n : Nat) : State :=
  let k := min n s.fr.eng
  if k = 0 then s
  else { s with fr := { s.fr with eng := s.fr.eng - k, disc := s.fr.disc + k
                                  owners := ownPass (.job j) (some .discarding) k s.fr.owners
                                  discards := s.fr.discards ++ [(s.fr.count.toNat, k)] } }

/-- `n` taken off the oldest discards. -/
def takeDiscards : List (Nat × Nat) → Nat → List (Nat × Nat)
  | [], _ => []
  | (f, k) :: t, n => if k ≤ n then takeDiscards t (n - k) else (f, k - n) :: t

/-- `n` granules on discarding paths return to the pool, the oldest first (R45). -/
def granReturn (s : State) (n : Nat) : State :=
  let k := min n s.fr.disc
  { s with fr := { s.fr with pool := s.fr.pool + k, disc := s.fr.disc - k, discards := takeDiscards s.fr.discards k
                             owners := ownPass .discarding none k s.fr.owners } }

/-- Granules whose two frames have passed return to the pool (R45). -/
def granDue (s : State) : State :=
  granReturn s ((s.fr.discards.filter fun d => d.1 + 2 ≤ frameNo s).map (·.2)).sum

/-! ## Parcels, tokens and meters -/

def parGet (s : State) (p : Nat) : Parcel := tabGetD s.pc.parcels p {}
def parMod (s : State) (p : Nat) (g : Parcel → Parcel) : State :=
  { s with pc := { s.pc with parcels := tabModD s.pc.parcels p {} g } }

/-- State codes of R166. -/
def pstateCode : PState → Nat
  | .vacant => 0
  | .provisioned => 1
  | .active => 2
  | .frozen => 3
  | .resetting => 4
  | .enabling => 5
  | .retiring => 6

/-- Element `i` of a list changed by `f`. -/
def modAt {α : Type} : List α → Nat → (α → α) → List α
  | [], _, _ => []
  | a :: t, 0, f => f a :: t
  | a :: t, i + 1, f => a :: modAt t i f

/-- A meter of a parcel counts `n`, and the device total with it (R189, R190); never for a VACANT parcel (R797). -/
def meterAdd (s : State) (p m n : Nat) : State :=
  if (parGet s p).st = .vacant ∨ n = 0 then s
  else
    let s := parMod s p fun x => { x with meters := modAt x.meters m (· + n) }
    { s with pc := { s.pc with dev := modAt s.pc.dev m (· + n) } }

/-- Tokens of a class move out of a balance into the device's spends (R46). -/
def tokenSpendRaw (s : State) (p cls : Nat) (n : Int) : State :=
  let s := parMod s p fun x => { x with bal := modAt x.bal cls (· - n) }
  { s with fr := { s.fr with spends := modAt s.fr.spends cls (· + n) } }

/-- Tokens of a class are granted, and the device's grants count them (R46). -/
def tokenGrantRaw (s : State) (p cls : Nat) (n : Int) : State :=
  let s := parMod s p fun x => { x with bal := modAt x.bal cls (· + n) }
  { s with fr := { s.fr with grants := modAt s.fr.grants cls (· + n) } }

/-- Has a reset or a freeze of the parcel taken effect at the boundary that opened this frame (R30)? -/
def parHalted (s : State) (p : Nat) : Bool :=
  let x := parGet s p
  (x.st == .frozen || x.st == .resetting || x.st == .enabling) && x.effect == frameNo s

/-- May a step of the parcel that needs tokens of a class start (R181, R188)? Never in the frame in which a reset or a freeze of
it took effect (R30). -/
def tokenOk (s : State) (p cls : Nat) : Bool :=
  let x := parGet s p
  (decide (1 ≤ x.bal.getD cls 0) || x.st == .frozen) && !parHalted s p

/-- A step starts and spends `n` tokens of a class (R181); media and engine tokens are metered (R189). -/
def tokenSpend (s : State) (p cls n : Nat) : State :=
  let s := tokenSpendRaw s p cls n
  if cls = 1 then meterAdd s p 7 n else if cls = 2 then meterAdd s p 6 n else s

/-- The periodic grant of one class (R183): the new accrual and the tokens granted. -/
def grantOf (rate depth accr : Nat) (bal : Int) : Nat × Int :=
  let a := accr + rate
  if bal ≥ depth then (0, 0) else (a % 256, min ((a / 256 : Nat) : Int) (depth - bal))

/-- DEPTH as it acts: 0 acts as 1 (R227). -/
def depthOf (x : Parcel) (cls : Nat) : Nat := max 1 (x.depth.getD cls 64)

/-- The periodic grant of one class to one parcel (R183). -/
def grantClass (s : State) (p cls : Nat) : State :=
  let x := parGet s p
  let g := grantOf (x.rate.getD cls 0) (depthOf x cls) (x.accr.getD cls 0) (x.bal.getD cls 0)
  tokenGrantRaw (parMod s p fun x => { x with accr := modAt x.accr cls fun _ => g.1 }) p cls g.2

/-- Step 6: every ACTIVE parcel receives its accrued tokens in each class (R183, R184). -/
def grantAll (s : State) : State :=
  let s := (tabKeys s.pc.parcels fun x => x.st == .active).foldl
    (fun s p => [0, 1, 2, 3].foldl (fun s c => grantClass s p c) s) s
  { s with pc := { s.pc with parcels := tabMap s.pc.parcels fun _ x => { x with shown := x.bal } } }

/-! ## Flow credits (R83) -/

def creditGrant (s : State) (c n : Nat) : State :=
  connMod s c fun x => { x with granted := x.granted + n, outstanding := x.outstanding + n }
def creditConsume (s : State) (c : Nat) : State :=
  connMod s c fun x =>
    if x.outstanding = 0 then x else { x with consumed := x.consumed + 1, outstanding := x.outstanding - 1 }
def creditReturn (s : State) (c n : Nat) : State :=
  connMod s c fun x =>
    let k := min n x.outstanding
    { x with returned := x.returned + k, outstanding := x.outstanding - k }

/-! ## Tickets (R112-R114) -/

def tkGet (s : State) (i : Nat) : Ticket := tabGetD s.cq.tickets i {}
def tkMod (s : State) (i : Nat) (g : Ticket → Ticket) : State :=
  { s with cq := { s.cq with tickets := tabModD s.cq.tickets i {} g } }

/-- The tickets in use for which `p` holds, in rising number. -/
def tksWhere (s : State) (p : Ticket → Bool) : List Nat := tabKeys s.cq.tickets fun t => t.busy && p t

/-- The edition a ticket takes next (R112). -/
def nextEdition (t : Ticket) : Nat := (t.edition + 1) % 256

/-- Is a free ticket quarantined (R113)? -/
def quarantined (s : State) (t : Ticket) : Bool :=
  t.earlier.any (·.edition == nextEdition t) || decide (3 ≤ t.earlier.length) ||
    t.r2ts.any fun r => r.2.1 == nextEdition t % 4 && decide (frameNo s < r.2.2 + 200000)

/-- The oldest free ticket of a kind that is not quarantined, and how many were skipped (R112, R114). -/
def pickFreed (s : State) (adm : Bool) : List Nat → Nat → Option Nat × Nat
  | [], k => (none, k)
  | i :: t, k =>
    if decide (i ≥ 16128) != adm then pickFreed s adm t k
    else if quarantined s (tkGet s i) then pickFreed s adm t (k + 1)
    else (some i, k)

/-- A ticket is allocated with its next edition (R112), I/O tickets apart from the 256 reserved ones (R111); each skip of a
quarantined ticket is counted (R114). None where every ticket of the kind is in use or quarantined. The reserved tickets are
those of index 16,128 to 16,383. DESIGN CHOICE, log 58: R111 gives their number alone. -/
def tkAlloc (s : State) (adm : Bool) : Option Nat × State :=
  let fresh := if adm then s.cq.nextAdm else s.cq.nextIo
  let lim := if adm then 16384 else 16128
  if fresh < lim then
    let s := { s with cq := if adm then { s.cq with nextAdm := fresh + 1 } else { s.cq with nextIo := fresh + 1 } }
    (some fresh, tkMod s fresh fun t => { edition := nextEdition t, busy := true })
  else
    let r := pickFreed s adm s.cq.freed 0
    let s := regAdd s HQ_QUARANTINE_COUNT r.2
    match r.1 with
    | none => (none, s)
    | some i =>
      let s := { s with cq := { s.cq with freed := s.cq.freed.filter (· != i) } }
      (some i, tkMod s i fun t => { edition := nextEdition t, busy := true, earlier := t.earlier, r2ts := t.r2ts })

/-- Is a connection an RDMA queue pair? -/
def onRdma (s : State) (t : Ticket) : Bool :=
  match t.src with
  | .fabric c => ((connGet s c).map fun x => !x.tcp).getD false
  | _ => false

/-- Messages outstanding of a ticket: reads that dies have not answered, and its RDMA Read (R88, R113). -/
def tkOut (s : State) (t : Ticket) : Nat :=
  (t.reads.filter fun r => r.die.isSome && r.got.isNone && !r.bad).length + b2n (t.r2t && onRdma s t)

/-- A ticket is freed at the tail of the free list, keeping its edition, and keeping as an earlier edition the one it had if
messages are outstanding, with the granules they carry (R50, R112, R113). -/
def tkFree (s : State) (i : Nat) : State :=
  let t := tkGet s i
  let n := tkOut s t
  let s := tkMod s i fun t =>
    { edition := t.edition, busy := false, r2ts := t.r2ts
      earlier := if n = 0 then t.earlier else t.earlier ++ [⟨t.edition, t.parcel.getD 0, t.pEdition, n, t.gran⟩] }
  { s with cq := { s.cq with freed := s.cq.freed ++ [i] } }

/-- A command's work has ended with a status; its completion is due (R143). An end is for good: a command caught or ended
before keeps its status (R140). -/
def tkFinish (s : State) (i : Nat) (st : Status) : State :=
  tkMod s i fun t => if t.phase = .done then t else { t with phase := .done, released := true, status := st }

/-- As tkFinish, with dword 0 of the completion. -/
def tkFinishW (s : State) (i : Nat) (st : Status) (d0 : Nat) : State :=
  tkMod s i fun t => if t.phase = .done then t else { t with phase := .done, released := true, status := st, dw0 := d0 }

/-- Granules taken for a ticket (R44). -/
def tkGranTake (s : State) (i n : Nat) : State :=
  let k := min n s.fr.pool
  tkMod (granToTick s i k) i fun t => { t with gran := t.gran + k }

/-- A ticket's granules return to the pool. -/
def tkGranPool (s : State) (i : Nat) : State :=
  tkMod (granFromTick s i (tkGet s i).gran) i fun t => { t with gran := 0 }

/-- Has a ticket a transform job (R350)? -/
def tkXform (s : State) (i : Nat) : Bool := s.en.xjobs.any fun e => e.2.tk == i

/-- A ticket's granules where its command ends early (R50): those of a cancelled transform pass to a discarding path; those
of a ticket with a message still in flight stay until it is discarded; all others return to the pool. -/
def tkGranFree (s : State) (i : Nat) : State :=
  let t := tkGet s i
  if tkXform s i then
    let s := { s with en := { s.en with xjobs := tabFilter s.en.xjobs fun _ x => x.tk != i } }
    tkMod (granDiscardTick s i t.gran) i fun t => { t with gran := 0 }
  else if tkOut s t = 0 then tkGranPool s i
  else s

def qkey (owner qid : Nat) : Nat := owner * 65536 + qid

/-- Is a completion queue full (R144)? -/
def cqFull (q : Cq) : Bool := q.depth != 0 && (q.tail + 1) % q.depth == q.head

/-- A completed I/O command interrupts its vector, at once or coalesced (R152). -/
def cqInterrupt (s : State) (fn qid vec : Nat) : State :=
  let c := ctrlGet s fn
  let thr := bitsOf c.coal 7 0
  let time := bitsOf c.coal 15 8
  if qid = 0 ∨ time = 0 ∨ !isVf fn ∨ ((c.vecCfg.find? (·.1 == vec)).map (·.2)) = some 1 then msixDue s fn vec
  else
    let k := fn * 4096 + vec
    match tabGet s.cq.coal k with
    | none =>
      if thr = 0 then msixDue s fn vec
      else { s with cq := { s.cq with coal := tabSet s.cq.coal k (1, frameNo s + framesOf s (time * 100000)) } }
    | some (n, dl) =>
      if n + 1 > thr then msixDue { s with cq := { s.cq with coal := tabErase s.cq.coal k } } fn vec
      else { s with cq := { s.cq with coal := tabSet s.cq.coal k (n + 1, dl) } }

/-- An entry is written at the tail of a completion queue and its vector interrupted (R143, R145). -/
def cqPost (s : State) (fn cqid : Nat) (e : Cqe) : State :=
  match tabGet s.cq.cqs (qkey fn cqid) with
  | none => emit s (.cqe fn cqid e)
  | some q =>
    let s := emit s (.cqe fn cqid { e with phase := q.phase })
    let last := q.tail + 1 == q.depth
    let q' := { q with tail := if last then 0 else q.tail + 1, phase := if last then !q.phase else q.phase }
    let s := { s with cq := { s.cq with cqs := tabSet s.cq.cqs (qkey fn cqid) q' } }
    match q.vec with
    | some v => cqInterrupt s fn cqid v
    | none => s

/-- The code and the type of a status: the numbers of NVM Express Base 2.1 for its own statuses (PRESUMED, log 59: R146 and R790
name them; only 81h of type 2 stands in R244), R146 for the vendor ones, whose type is 7. -/
def statusCode : Status → Nat × Nat
  | .success => (0x00, 0)
  | .invalidOpcode => (0x01, 0)
  | .invalidField => (0x02, 0)
  | .dataTransfer => (0x04, 0)
  | .internalError => (0x06, 0)
  | .abortRequested => (0x07, 0)
  | .abortSqDeletion => (0x08, 0)
  | .fusedFailed => (0x09, 0)
  | .fusedMissing => (0x0A, 0)
  | .invalidNsFormat => (0x0B, 0)
  | .sequenceError => (0x0C, 0)
  | .sglLength => (0x0F, 0)
  | .transientTransport => (0x22, 0)
  | .lbaRange => (0x80, 0)
  | .nsNotReady => (0x82, 0)
  | .cqInvalid => (0x00, 1)
  | .invalidQid => (0x01, 1)
  | .queueSize => (0x02, 1)
  | .abortLimit => (0x03, 1)
  | .aerLimit => (0x05, 1)
  | .invalidFwImage => (0x07, 1)
  | .invalidVector => (0x08, 1)
  | .invalidLogPage => (0x09, 1)
  | .invalidFormat => (0x0A, 1)
  | .fwNeedsReset => (0x0B, 1)
  | .invalidQueueDeletion => (0x0C, 1)
  | .featNotSave => (0x0D, 1)
  | .nsCapacity => (0x15, 1)
  | .nsAttached => (0x18, 1)
  | .nsNotAttached => (0x1A, 1)
  | .ctrlListInvalid => (0x1C, 1)
  | .selfTestRunning => (0x1D, 1)
  | .invalidCtrl => (0x1F, 1)
  | .controllerBusy => (0x81, 1)
  | .connInvalidParam => (0x82, 1)
  | .connTotal => (0x82, 1)
  | .connInvalidHost => (0x84, 1)
  | .maxQueues => (0x01, 1)
  | .rangesInUse => (0x0C, 0)
  | .progInUse => (0x0C, 0)
  | .maxRanges => (0x02, 0)
  | .invalidRange => (0x02, 0)
  | .invalidProgram => (0x02, 0)
  | .noProgram => (0x02, 0)
  | .writeFault => (0x80, 2)
  | .unrecoveredRead => (0x81, 2)
  | .compareFailure => (0x85, 2)
  | .mediaSealed => (0x80, 7)
  | .keyRevoked => (0x81, 7)
  | .lengthMismatch => (0x82, 7)
  | .parcelResetting => (0x83, 7)
  | .tagMismatch => (0x84, 7)
  | .programTrap => (0x85, 7)
  | .programFrameOverrun => (0x86, 7)
  | .shareExhausted => (0x87, 7)
  | .holdupUnavailable => (0x88, 7)
  | .engineContextInvalid => (0x89, 7)

/-- The DNR bit of a status (R146, R790): 0 for the listed ones that a retry may clear, 1 for every other but success. -/
def statusDnr : Status → Bool
  | .success | .dataTransfer | .transientTransport | .abortRequested | .abortSqDeletion | .abortLimit | .controllerBusy
  | .nsNotReady | .connTotal | .keyRevoked | .parcelResetting | .shareExhausted | .holdupUnavailable => false
  | _ => true

/-- The 15-bit status field of a completion: code, type, More = 0 and DNR (R146, R790). -/
def statusField (st : Status) : Nat :=
  (statusCode st).1 + (statusCode st).2 * 2 ^ 8 + b2n (statusDnr st) * 2 ^ 14

/-- The completion entry of a command (R145). -/
def mkCqe (cid : Nat) (st : Status) (d0 d1 sqid sqhd : Nat) : Cqe :=
  { cid := cid, status := st, field := statusField st, dw0 := d0, dw1 := d1, sqid := sqid, sqhd := sqhd }

/-- The ledgers of a completion: the parcel's posted or internal count, and its command meter (R43, R143, R189). -/
def tkCount (s : State) (i : Nat) (int : Bool) : State :=
  let s := if int then regInc s HQ_INTERNAL_COUNT else s
  let t := tkGet s i
  let s := if int || t.status == .success then s
    else { s with cq := { s.cq with errLog := s.cq.errLog ++ [(match t.src with
      | .pcie _ q => q
      | _ => 0, t.cmd.cid, t.status)] } }
  match (tkGet s i).parcel with
  | none => s
  | some p =>
    let s := meterAdd s p 0 1
    parMod s p fun x => if int then { x with internal := x.internal + 1 } else { x with posted := x.posted + 1 }

/-- An R2T outstanding on a ticket is withdrawn: its credit returns and the record of R86 is kept (R83); records beyond the
200,000 frames of R113 go. -/
def r2tWithdraw (s : State) (i : Nat) : State :=
  let t := tkGet s i
  match t.src with
  | .fabric c =>
    if t.r2t && !onRdma s t then
      tkMod (creditReturn s c 1) i fun t => { t with
        r2t := false
        r2ts := (c, t.edition % 4, frameNo s) :: t.r2ts.filter fun r => decide (frameNo s < r.2.2 + 200000) }
    else s
  | _ => s

/-- The internal completion of a command with no path to its host (R143): counted, its granules and R2T settled, its
ticket freed. -/
def tkInternal (s : State) (i : Nat) : State :=
  if (tkGet s i).busy then
    let s := r2tWithdraw s i
    let s := tkGranFree s i
    tkFree (tkCount s i true) i
  else s

/-- A string cut into pieces of at most `n` octets; the second number is fuel. -/
def pieces (n : Nat) : Nat → Bytes → List Bytes
  | 0, _ => []
  | f + 1, d => if d.length ≤ n then [d] else d.take n :: pieces n f (d.drop n)

/-- The transmission unit of MCTP on the sideband (R98). -/
def mctpUnit : Nat := 64

/-- An answer on the sideband, in packets of one transmission unit: message type, status, octets (R98). -/
def mctpSend (s : State) (eid kind status : Nat) (d : Bytes) : State :=
  let m := [BitVec.ofNat 8 kind, BitVec.ofNat 8 status] ++ d
  emit s (.mctp eid kind status (pieces mctpUnit (m.length / mctpUnit + 1) m))

/-- The completion of a ticket whose work has ended goes out on its queue or connection (R143); it holds while the
completion queue is full (R144) or Bus Master Enable is 0 (R68); with no path left it is internal. Nothing is posted in
FATAL (R759). -/
def tkPost (s : State) (i : Nat) : State :=
  let t := tkGet s i
  if t.busy && t.phase == .done && !s.fr.fatal then
    let e := mkCqe t.cmd.cid t.status t.dw0 t.dw1 0 0
    match t.src with
    | .pcie fn qid =>
      if !(fnGet s fn).bme then tkMod s i fun t => { t with held := true }
      else match tabGet s.cq.sqs (qkey fn qid) with
        | none => tkInternal s i
        | some q =>
          match tabGet s.cq.cqs (qkey fn q.cqid) with
          | none => tkInternal s i
          | some cq =>
            if cqFull cq then s
            else
              let s := r2tWithdraw s i
              let s := cqPost s fn q.cqid { e with sqid := qid, sqhd := q.head }
              tkFree (tkCount (tkGranFree s i) i false) i
    | .fabric c =>
      match connGet s c with
      | none => tkInternal s i
      | some x =>
        let s := r2tWithdraw s i
        let flag := if x.tcp then decide (t.cmd.opc = 2) && t.status == .success else t.cmd.inval
        let s := emit s (.capsule c { e with sqid := x.qid, sqhd := x.sqhd } flag)
        tkFree (tkCount (tkGranFree s i) i false) i
    | .side eid =>
      let s := mctpSend s eid 4 0 (leBytes 4 t.dw0 ++ leBytes 4 t.dw1 ++ leBytes 4 (t.cmd.cid % 65536 + e.field * 2 ^ 17))
      tkFree (tkCount (tkGranFree s i) i false) i
  else s

/-- A transport connection's tickets complete internally, its credits return, and it is gone (R90, R203); no answer to an RDMA
Read of it can come any more. A fabric controller without connections is gone with its last one. -/
def connClose (s : State) (c : Nat) : State :=
  match connGet s c with
  | none => s
  | some x =>
    let s := (tksWhere s fun t => t.src == .fabric c).foldl (fun s i =>
      tkInternal (if x.tcp then s else tkMod s i fun t => { t with r2t := false }) i) s
    let s := creditReturn s c ((connGet s c).map (·.outstanding) |>.getD 0)
    let s := { s with host := { s.host with conns := tabErase s.host.conns c } }
    if tabCount s.host.conns (fun y => y.ctrl == x.ctrl) = 0 then
      { s with host := { s.host with ctrls := tabErase s.host.ctrls x.ctrl } }
    else s

/-- A fatal transport error (R90): over TCP a C2HTermReq carries the fatal error status `fes` (R87). -/
def connFatal (s : State) (c fes : Nat) : State :=
  match connGet s c with
  | none => s
  | some x =>
    let s := regInc s FX_FATAL_COUNT
    let s := if x.tcp then emit s (.transport c 2 fes 0) else s
    raise (connClose s c) 112

/-- An internal or fabric message whose editions match no live ticket is discarded, counted, and its granules pass to
a discarding path (R198, R45). -/
def msgStale (s : State) (m : Msg) : Bool :=
  let t := tkGet s m.ticket
  !t.busy || t.edition != m.tkEdition || (parGet s m.parcel).edition != m.pEdition

/-- The entries of earlier editions after one message of an edition, which took `k` granules with it (R113). -/
def lateGot (e k : Nat) : List Late → List Late
  | [] => []
  | l :: t =>
    if l.edition = e then (if l.count ≤ 1 then t else { l with count := l.count - 1, gran := l.gran - k } :: t)
    else l :: lateGot e k t

/-- A stale message is discarded and counted (R88, R156, R198); the granules it was to fill pass from its ticket to a discarding path (R45), and
its edition is done with once no message of it is outstanding (R113). -/
def msgDiscard (s : State) (m : Msg) : State :=
  let s := if m.fabric then raise (regInc s FX_STALE_COUNT) 113 else regInc s HQ_STALE_COUNT
  let t := tkGet s m.ticket
  match t.earlier.find? (·.edition == m.tkEdition) with
  | some l =>
    let k := if l.count ≤ 1 then l.gran else min m.granules l.gran
    granDiscardTick (tkMod s m.ticket fun t => { t with earlier := lateGot m.tkEdition k t.earlier }) m.ticket k
  | none =>
    let k := min m.granules t.gran
    granDiscardTick (tkMod s m.ticket fun t => { t with gran := t.gran - k }) m.ticket k

/-! ## Data to the host (R68, R81, R82) -/

/-- May a command write to host memory: Bus Master Enable of its function (R68)? -/
def tkBme (s : State) (i : Nat) : Bool :=
  match (tkGet s i).src with
  | .pcie f _ => (fnGet s f).bme
  | _ => true

/-- What carries the data of a command to its host: C2H Data PDUs of at most 65,536 octets on a TCP connection, SUCCESS in the
last (R82); else its data writes or RDMA Writes (R81). -/
def dataOuts (s : State) (i : Nat) (d : Bytes) : List Out :=
  let t := tkGet s i
  match t.src with
  | .fabric c =>
    if onRdma s t then [.data i d]
    else
      let ps := pieces 65536 (d.length / 65536 + 1) d
      ((List.range ps.length).zip ps).map fun x =>
        .c2h c t.cmd.cid (65536 * x.1) x.2 (x.1 + 1 == ps.length) (x.1 + 1 == ps.length)
  | _ => [.data i d]

/-- Data of a command go to its host. -/
def dataSend (s : State) (i : Nat) (d : Bytes) : State := emits s (dataOuts s i d)

/-- Does a controller's Asynchronous Event Configuration enable an event (R152)? SMART events go by their Critical Warning
bits, notices by their own; error events are always on. -/
def aenOn (k : Ctrl) (code : Nat) : Bool :=
  match bitsOf code 2 0, bitsOf code 15 8 with
  | 1, 0 => bitsOf k.aen 4 2 != 0
  | 1, 1 => bitOf k.aen 1
  | 1, 2 => bitOf k.aen 0
  | 2, 0 => bitOf k.aen 8
  | 2, 0xF0 => bitOf k.aen 31
  | _, _ => true

/-- An asynchronous event on a controller: where enabled, it completes an outstanding Asynchronous Event Request, or waits for one
(R148). The code is dword 0 of the completion. -/
def aenRaise (s : State) (c code : Nat) : State :=
  if !aenOn (ctrlGet s c) code then s
  else match (ctrlGet s c).aers with
  | [] => ctrlMod s c fun x => { x with events := if x.events.contains code then x.events else x.events ++ [code] }
  | i :: t => tkFinishW (ctrlMod s c fun x => { x with aers := t }) i .success code

/-- Parcel editions that messages outstanding still carry (R197). -/
def carriedEds (s : State) (p : Nat) : List Nat :=
  s.cq.tickets.flatMap fun t => (t.2.earlier.filter (·.parcel == p)).map (·.pEdition)

/-- An edition one higher, past any of a list. -/
def bumpEdition (l : List Nat) : Nat → Nat → Nat
  | 0, e => (e + 1) % 65536
  | n + 1, e => if l.contains ((e + 1) % 65536) then bumpEdition l n ((e + 1) % 65536) else (e + 1) % 65536

/-- The next edition of a parcel (R197). -/
def nextPEdition (s : State) (p : Nat) : Nat :=
  bumpEdition (carriedEds s p) (carriedEds s p).length (parGet s p).edition

/-- The parcel bound to a virtual function (R61). -/
def boundParcel (s : State) (fn : Nat) : Option Nat := (tabKeys s.pc.parcels fun x => x.vf == some fn).head?

/-- A reset request of a parcel for the next boundary (R167). -/
def reqReset (s : State) (p cause : Nat) (hold : Bool) (w : Waiter) : State :=
  parMod s p fun x => { x with reqs := x.reqs ++ [.reset cause hold w] }

end Sys2Proof.Machine
end

