-- ==== Sys2Proof/Machine/Graticule.lean ====
section
/-! DEFINITION. Chapter 01: the frame counter and mark, frame overruns, the audit, discarded granules and stale
messages. -/
namespace Sys2Proof.Machine

/-- The frame mark of the boundary that began the present frame (R28): a SHIFT below 0Ah acts as 0Ah. -/
def frameMarkTest (s : State) : State :=
  let shift := max 10 (regFld s FR_FRAME_MARK 4 0)
  if regBit s FR_FRAME_MARK 31 && frameNo s % 2 ^ shift == 0 then raise s 0 else s

/-- FRAME_MARK (R28). -/
def execFrameMark (s : State) : Res := .next (frameMarkTest s)

/-- FRAME_COUNT_LO_READ (R25): the low half is returned and the upper half shadowed. -/
def frameCountLoRead (s : State) : State :=
  let s := regPut s FR_FRAME_COUNT_HI (s.fr.count.toNat / 2 ^ 32)
  emit s (.regRead FR_FRAME_COUNT_LO (s.fr.count.setWidth 32))
def execFrameCountLoRead (s : State) : Res := .next (frameCountLoRead s)

/-- A frame overrun is counted for its class, recorded, and raises event 1 where enabled (R37, R40). -/
def overrun (s : State) (cls unit frame : Nat) (synth : Bool) : State :=
  let s := regInc s (FR_OVERRUN_COUNT cls)
  let s := regPut s FR_OVERRUN_LAST
    (b2n synth * 2 ^ 31 + cls % 8 * 2 ^ 28 + unit % 64 * 2 ^ 22 + frame % 2 ^ 22)
  if regBit s FR_OVERRUN_EVENT_EN cls then raise s 1 else s

/-- DIAG_OVERRUN_FIRE (R42): a write of FR_DIAG_OVERRUN; values 5 to 7 of CLASS are ignored. -/
def execDiagOverrunFire (value : Nat) (s : State) : Res :=
  .next (if bitOf value 31 && bitsOf value 2 0 < 5 then { s with fr := { s.fr with synth := s.fr.synth ++ [bitsOf value 2 0] } }
         else s)

/-- Each synthetic overrun that is due is recorded with SYNTH = 1 and UNIT = 0, against the frame that ends (R42). -/
def synthRecord (s : State) : State :=
  s.fr.synth.foldl (fun s c => overrun s c 0 (frameNo s - 1) true) { s with fr := { s.fr with synth := [] } }

/-- SYNTHETIC_OVERRUN_RECORD (R42). -/
def execSyntheticOverrunRecord (s : State) : Res := .next (synthRecord s)

/-- The token ledger of a class: grants less spends, less the sum of all balances; 0 when it balances (R52). -/
def tokenGap (s : State) (cls : Nat) : Int :=
  s.fr.grants.getD cls 0 - s.fr.spends.getD cls 0 - (s.pc.parcels.map fun e => e.2.bal.getD cls 0).sum

/-- The staging-granule sum (R43). -/
def granSum (s : State) : Nat := s.fr.pool + s.fr.tick + s.fr.eng + s.fr.disc

/-- The audit snapshot of a boundary that is a positive multiple of 1,024 (R52); one snapshot a boundary. -/
def auditTake (s : State) : State :=
  let b := frameNo s
  if b ≠ 0 ∧ b % 1024 = 0 ∧ (s.fr.snap.map (·.boundary)) ≠ some b then
    { s with fr := { s.fr with snap := some ⟨b, granSum s, [0, 1, 2, 3].map (tokenGap s)⟩ } }
  else s

/-- AUDIT_SNAPSHOT (R52). -/
def execAuditSnapshot (s : State) : Res := .next (auditTake s)

/-- The audit comparison: the registers take the snapshot's result, and an imbalance raises event 2 and changes no
ledger (R53-R57). -/
def auditCompare (s : State) : State :=
  match s.fr.snap with
  | none => s
  | some a =>
    let s := { s with fr := { s.fr with snap := none } }
    let s := regPut (regPut s FR_AUDIT_LAST a.boundary) FR_AUDIT_GRANULES (a.sum % 32768)
    let badG := a.sum ≠ 16384
    let badT := a.tokens.findIdx? (· ≠ 0)
    let s := if badG then regPutBit s FR_AUDIT_STATUS 0 true else s
    let s := match badT with
      | some c => regPutFld (regPutBit s FR_AUDIT_STATUS 1 true) FR_AUDIT_STATUS 4 2 c
      | none => s
    if badG ∨ badT.isSome then raise (regInc s FR_AUDIT_FAILS) 2 else s

/-- AUDIT_COMPARISON (R53). -/
def execAuditComparison (s : State) : Res := .next (auditCompare s)

/-- DISCARDED_GRANULE_RETURN (R45): `n` granules of discarding paths return to the pool. -/
def execDiscardedGranuleReturn (n : Nat) (s : State) : Res := .next (granReturn s n)

end Sys2Proof.Machine
end

