-- ==== Sys2Proof/Machine/Dram.lean ====
section
/-! DEFINITION. Chapter 12: DRAM regions, octet and word access, bursts and their codes, side tags, poison, banks and disturbance, the
queue of requests and its order, refresh, hard faults and remaps, and the DRAM commands. -/
namespace Sys2Proof.Machine

def drMod (s : State) (f : DramSt → DramSt) : State := { s with dr := f s.dr }

/-! ## Lines, regions and memory -/

/-- The line of a device physical address (R622). -/
def lineOf (a : Nat) : Nat := a / 64

/-- Subchannel number of a line: L[2:0] xor L[13:11] xor L[24:22] (R622). -/
def lineSub (l : Nat) : Nat := (bitsOf l 2 0 ^^^ bitsOf l 13 11) ^^^ bitsOf l 24 22

/-- Channel and subchannel of a line (R622). -/
def lineChannel (l : Nat) : Nat := lineSub l / 2
def lineSubchannel (l : Nat) : Nat := lineSub l % 2

/-- Rank, bank and row of a line, which the controller chooses (R622; free, log 3). One rank where RANKS is 0. -/
def lineRank (s : State) (l : Nat) : Nat := if regBit s DM_CONFIG 26 then Config.dramPlace l % 2 else 0
def lineBank (l : Nat) : Nat := Config.dramPlace l / 2 % 32
def lineRow (l : Nat) : Nat := Config.dramPlace l / 64

/-- Protection classes (R638): 0 W, 1 S, 2 L. -/
def classW : Nat := 0

/-- Does region `r` hold the span of `n` octets at `a` (R637)? -/
def regionHas (s : State) (a n r : Nat) : Bool :=
  regBit s (EC_REGION_LO r) 31 && regFld s (EC_REGION_LO r) 15 0 * 2 ^ 24 ≤ a
    && a + n ≤ (regFld s (EC_REGION_HI r) 15 0 + 1) * 2 ^ 24

/-- The class of the valid region that holds the span of `n` octets at `a` (R637, R641). -/
def spanClass (s : State) (a n : Nat) : Option Nat :=
  ((List.range 64).find? (regionHas s a n)).map fun r => regFld s (EC_REGION_LO r) 30 29

/-- First address of the scratchpad ways (R482). -/
def scratchBase : Nat := 0xF0000000000

/-- Is the address in the scratchpad space of some cluster (R482)? -/
def isScratch (a : Nat) : Bool := scratchBase ≤ a && a < scratchBase + 8 * 0x200000

/-- Cluster and way of a scratchpad address (R482). -/
def scratchCluster (a : Nat) : Nat := (a - scratchBase) / 0x200000
def scratchWay (a : Nat) : Nat := (a - scratchBase) % 0x200000 / 0x20000

/-- The mode of a way in effect (R479): a changing way is in neither mode. 0 SERVICE, 1 FENCED, 2 LOCK, 3 SCRATCH. -/
def clusterGet (s : State) (cl : Nat) : Cluster := tabGetD s.cs.clusters cl {}
def clusterMod (s : State) (cl : Nat) (f : Cluster → Cluster) : State :=
  { s with cs := { s.cs with clusters := tabModD s.cs.clusters cl {} f } }
def wayChanging (s : State) (cl w : Nat) : Bool := (clusterGet s cl).changes.any fun c => c.way == w && c.start.isSome
def wayMode (s : State) (cl w : Nat) : Nat :=
  match (clusterGet s cl).changes.find? fun c => c.way == w with
  | some c => if c.start.isSome then 1 else c.old
  | none => regFld s (TC_WAY_MODE cl) (2 * w + 1) (2 * w)

/-- May scratchpad contents be reached at an address: is its way in SCRATCH (R482)? -/
def scratchLive (s : State) (a : Nat) : Bool := wayMode s (scratchCluster a) (scratchWay a) == 3

/-- The octet at a device physical address (R620: initialised lines read zero; R482). -/
def memGet (s : State) (a : Nat) : Octet := tabGetD s.dr.mem a 0

/-- Memory with one octet set, in canonical form: an octet of zero is not listed. -/
def cellPut (m : List Host.Cell) (a : Nat) (b : Octet) : List Host.Cell := if b = 0 then tabErase m a else tabSet m a b

/-- The canonical form of memory: addresses strictly rising, no entry of zero. -/
def Memory.wf (m : List Host.Cell) : Bool := tabSorted m && m.all fun c => c.2 != 0

def cellsPut (m : List Host.Cell) (a : Nat) : Bytes → List Host.Cell
  | [] => m
  | b :: t => cellsPut (cellPut m a b) (a + 1) t

/-- `n` octets from `a` on. A scratchpad way not in SCRATCH reads 0 (R482). -/
def memRead (s : State) (a n : Nat) : Bytes :=
  if isScratch a && !scratchLive s a then zeros n else (List.range n).map fun k => memGet s (a + k)

/-- Octets written from `a` on; discarded in a scratchpad way not in SCRATCH (R482). -/
def memStore (s : State) (a : Nat) (d : Bytes) : State :=
  if isScratch a && !scratchLive s a then s else drMod s fun x => { x with mem := cellsPut x.mem a d }

/-- The word at a physical address (a multiple of 4) of a word line. -/
def wordGet (s : State) (a : Nat) : Word := tabGetD s.dr.words (a / 4) 0

/-- A word table with one word set; a word of zero is not listed. -/
def wcellPut (m : Table Word) (k : Nat) (w : Word) : Table Word := if w = 0 then tabErase m k else tabSet m k w

def wordStore (s : State) (a : Nat) (w : Word) : State := drMod s fun x => { x with words := wcellPut x.words (a / 4) w }

def wordsStore (s : State) (a : Nat) : List Word → State
  | [] => s
  | w :: t => wordsStore (wordStore s a w) (a + 4) t

def wordsRead (s : State) (a n : Nat) : List Word := (List.range n).map fun k => wordGet s (a + 4 * k)

/-! ## Activates, neighbours and refresh -/

def bankKey (s : State) (l : Nat) : Nat := (lineSub l * 2 + lineRank s l) * 32 + lineBank l

/-- The predictor after a request for a row (R630). -/
def predNext (b : Bank) (row : Nat) : Nat := if b.last = some row then min 3 (b.pred + 1) else b.pred - 1

/-- Does the row stay open after an access (R630, DM_PAGE.POLICY)? -/
def pageOpen (s : State) (pred : Nat) : Bool :=
  match regFld s DM_PAGE 31 30 with
  | 1 => true
  | 2 => false
  | _ => decide (2 ≤ pred)

/-- K of R631. -/
def disturbK (s : State) : Nat := max 6 (min 14 (regFld s DM_DISTURB 3 0))

/-- An activate refreshes the neighbour rows with probability 2^-K (R631): the draw is a free value. -/
def neighbourRefresh (s : State) : State :=
  let r := takeFree s
  if r.1 % 2 ^ disturbK s = 0 then regAdd r.2 DM_NEIGHBOUR_COUNT (if regBit s DM_DISTURB 4 then 4 else 2) else r.2

/-- A column access to a line: predictor, row and activate of its bank (R630-R632). -/
def bankAccess (s : State) (l : Nat) : State :=
  let k := bankKey s l
  let b := tabGetD s.dr.banks k {}
  let row := lineRow l
  let hit := b.row == some row
  let p := predNext b row
  let b' : Bank := { row := if pageOpen s p then some row else none, last := some row, pred := p,
                     acts := if hit then b.acts else b.acts + 1 }
  let s := drMod s fun x => { x with banks := tabSet x.banks k b' }
  if hit then s else neighbourRefresh s

/-- Every bank of a rank changed. -/
def rankBanks (s : State) (ch sub rank : Nat) (f : Bank → Bank) : State :=
  let k := ((2 * ch + sub) * 2 + rank) * 32
  drMod s fun x => { x with banks := tabMap x.banks fun i b => if k ≤ i && i < k + 32 then f b else b }

/-- A refresh of a rank is issued: its open rows close (R630), and it takes the threshold from the rolling activate count of each
bank, as JESD79-5 has it (R632; PRESUMED, log 79). -/
def refreshIssue (s : State) (ch sub rank : Nat) : State :=
  rankBanks s ch sub rank fun b => { b with row := none, acts := b.acts - s.dr.rfmAt }

/-- The open rows of a rank close when a refresh of it is due (R630). -/
def rankClose (s : State) (ch sub rank : Nat) : State := rankBanks s ch sub rank fun b => { b with row := none }

/-- OWED of a subchannel and rank (R657). -/
def owedLo (sub rank : Nat) : Nat := 8 * sub + 4 * rank
def owedGet (s : State) (ch sub rank : Nat) : Nat := regFld s (DM_REFRESH ch) (owedLo sub rank + 3) (owedLo sub rank)
def owedPut (s : State) (ch sub rank n : Nat) : State :=
  regPutFld s (DM_REFRESH ch) (owedLo sub rank + 3) (owedLo sub rank) n

/-- PAYDOWN clears when OWED is 0 again (R636). -/
def paydownEnd (s : State) (ch : Nat) : State :=
  if regFld s (DM_REFRESH ch) 15 0 = 0 then regPutBit s (DM_REFRESH ch) 29 false else s

/-! ## Requests (R626-R628) -/

/-- MT/s of the DRAM (R657). -/
def dramRate (s : State) : Nat :=
  match regFld s DM_CONFIG 29 28 with
  | 0 => 6400
  | 1 => 5600
  | _ => 4800

/-- B: the bursts of an epoch (R627); an eighth of them are the issue opportunities of a subchannel. -/
def epochBursts (s : State) : Nat := dramRate s * periodNs s / 2000

/-- DM_PORT_QOS of a port as it stands for this epoch (R629): TARGET in ns, 0 acting as 1, and MIN_PCT (R657). -/
def portTarget (s : State) (p : Nat) : Nat := 4 * max 1 (bitsOf (s.dr.qos.getD p 0) 11 0)
def portPct (s : State) (p : Nat) : Nat := bitsOf (s.dr.qos.getD p 0) 23 16

/-- The urgency of a request (R626, R654). Its age counts the issue opportunities of its subchannel since it came, one a burst of 16
transfers long: commands have no time within a frame (DESIGN CHOICE, log 76). -/
def urgency (s : State) (r : DramReq) : Nat :=
  let a := r.age * 16000
  let t := portTarget s r.port * (if r.pre then 4 else 1) * dramRate s
  if s.ev.powerFail && (r.port == 2 || r.port == 3) then 3
  else
    let u := if 2 * a < t then 0 else if 4 * a < 3 * t then 1 else if a < t then 2 else 3
    if r.pre then min 1 u else u

/-- Is a port below its share of the epoch (R627)? -/
def belowShare (s : State) (p : Nat) : Bool := decide (100 * tabGetD s.dr.served p 0 < portPct s p * epochBursts s)

/-- Does a request hit the open row of its bank? -/
def rowHit (s : State) (l : Nat) : Bool := (tabGetD s.dr.banks (bankKey s l) {}).row == some (lineRow l)

/-- Those of a list for which `f` holds, where there are any, else all. -/
def prefer {α : Type} (f : α → Bool) (l : List α) : List α := if l.any f then l.filter f else l

/-- The requests queued for a subchannel, the oldest first. -/
def subReqs (s : State) (sub : Nat) : List DramReq := s.dr.reqs.filter fun r => lineSub r.line == sub

/-- The request a subchannel chooses (R628): the highest urgency; then ports below their share; then, but for urgency 3, row
hits; then the oldest. -/
def chooseReq (s : State) (sub : Nat) : Option DramReq :=
  let q := subReqs s sub
  let u := ((q.map (urgency s)).max?).getD 0
  let q := prefer (fun r => belowShare s r.port) (q.filter fun r => urgency s r == u)
  (if u = 3 then q else prefer (fun r => rowHit s r.line) q).head?

/-- An owed refresh of a rank is issued (R635, R636). -/
def owedTake (s : State) (ch sub rank : Nat) : State :=
  paydownEnd (owedPut (refreshIssue s ch sub rank) ch sub rank (owedGet s ch sub rank - 1)) ch

/-- One issue opportunity of a subchannel (R628): the chosen request is served, counted for its port and, at urgency 3, in
DM_LATE (R629); during a pay-down an owed refresh of its rank goes first, but for urgency 3 (R636). The others grow older. -/
def dramServe (s : State) (sub : Nat) : State :=
  match chooseReq s sub with
  | none => s
  | some r =>
    let u := urgency s r
    let older := fun (s : State) => drMod s fun x =>
      { x with reqs := x.reqs.map fun q => if lineSub q.line == sub then { q with age := q.age + 1 } else q
               slots := tabModD x.slots sub 0 (· + 1) }
    let rank := lineRank s r.line
    if regBit s (DM_REFRESH (sub / 2)) 29 && owedGet s (sub / 2) (sub % 2) rank != 0 && u != 3 then
      older (owedTake s (sub / 2) (sub % 2) rank)
    else
      let s := older (drMod s fun x => { x with reqs := x.reqs.erase r, served := tabModD x.served r.port 0 (· + 1) })
      bankAccess (if u = 3 then regInc s (DM_LATE r.port) else s) r.line

/-- Opportunities of a subchannel until no requester waits there, `fuel` at most. -/
def dramDrain (s : State) (sub : Nat) : Nat → State
  | 0 => s
  | fuel + 1 => if (subReqs s sub).any (·.wait) then dramDrain (dramServe s sub) sub fuel else s

/-- A request joins the queue. -/
def dramPost (s : State) (r : DramReq) : State := drMod s fun x => { x with reqs := x.reqs ++ [r] }

/-- A read of a line by a port: it waits until it is served. At most 8 refreshes of each rank can go before. -/
def dramTouch (s : State) (l port : Nat) : State :=
  let s := dramPost s { line := l, port := port, wait := true }
  dramDrain s (lineSub l) ((subReqs s (lineSub l)).length + 16)

/-- Opportunities of a subchannel, `n` at most, while it has requests. -/
def dramServes (s : State) (sub : Nat) : Nat → State
  | 0 => s
  | n + 1 => if (subReqs s sub).isEmpty then s else dramServes (dramServe s sub) sub n

/-- The epoch turns at a boundary (R627, R629): what is left of the frame's opportunities is used, the counts start again, and
DM_PORT_QOS takes effect. -/
def dramEpoch (s : State) : State :=
  let n := epochBursts s / 8
  let s := (List.range 8).foldl (fun s sub => dramServes s sub (n - tabGetD s.dr.slots sub 0)) s
  let q := (List.range 12).map fun p => regNat s (DM_PORT_QOS p)
  drMod s fun x => { x with served := [], slots := [], qos := q }

/-! ## Poison -/

def poisoned (s : State) (l : Nat) : Bool := s.dr.poison.contains l

/-- Lines of a span. -/
def spanLines (a n : Nat) : List Nat := if n = 0 then [] else (List.range (lineOf (a + n - 1) - lineOf a + 1)).map (lineOf a + ·)

/-- Does a span hold an uncorrectable line? -/
def spanPoisoned (s : State) (a n : Nat) : Bool := (spanLines a n).any (poisoned s)

/-! ## Side tags (R642-R644) -/

/-- CRC-12 of the low 52 bits of a number, the highest bit first (R642; the order of the bits DESIGN CHOICE, log 78). -/
def crc12 (v : Nat) : Nat :=
  (List.range 52).foldl (fun c k =>
    let x := c * 2 % 4096
    if (c / 2048 % 2 == 1) != bitOf v (51 - k) then x ^^^ 0x80F else x) 0

/-- Bits [51:0] of a side tag (R642). -/
def tagBits (parcel edition holder ticket tEdition : Nat) : Nat :=
  parcel % 1024 + edition % 65536 * 2 ^ 10 + holder % 8 * 2 ^ 26 + ticket % 16384 * 2 ^ 29 + tEdition % 256 * 2 ^ 43

/-- A side tag with its CHECK (R642). -/
def tagWord (v : Nat) : Nat := v % 2 ^ 52 + crc12 v * 2 ^ 52

/-- Who writes: the port, and the tag written with every line of class L; 0 where HOLDER is 0 (R643). -/
structure Writer where
  port : Nat
  tag : Nat := 0
  deriving DecidableEq, Repr

/-- Every line of a class L span that is written takes the writer's tag (R643). -/
def tagPut (s : State) (a n tag : Nat) : State :=
  if spanClass s a n = some 2 then
    drMod s fun x => { x with tags := (spanLines a n).foldl (fun t l =>
      if tagWord tag = 0 then tabErase t l else tabSet t l (tagWord tag)) x.tags }
  else s

/-- A full-line write clears poison; a write of part of a line leaves it (R652). -/
def poisonWrite (s : State) (a n : Nat) : State :=
  drMod s fun x => { x with poison := x.poison.filter fun l => !(decide (a ≤ 64 * l) && decide (64 * l + 64 ≤ a + n)) }

/-- What a write does to the lines of its span beside their data: poison and side tags. -/
def lineWrites (s : State) (a n tag : Nat) : State := poisonWrite (tagPut s a n tag) a n

/-! ## Bursts and their codes (R624, R638) -/

/-- Symbol j of a burst consists of the nibbles that device j / 8 drives on beats 2 (j mod 8) and the next (R624). -/
def symbolDevice (j : Nat) : Nat := j / 8
def symbolBeat (j : Nat) : Nat := 2 * (j % 8)
/-- The symbols that a failed device corrupts (R624). -/
def deviceSymbols (d : Nat) : List Nat := (List.range 8).map (8 * d + ·)

/-- The bits of a symbol that are flipped, and the symbols that are wrong. -/
def errBits (e : Ecc) (j : Nat) : Nat := ((e.errs.filter (·.1 == j)).map (·.2 % 256)).foldl (· ^^^ ·) 0
def errSymbols (e : Ecc) : List Nat := (List.range 80).filter fun j => errBits e j != 0

/-- The one device that some symbols come from, or none. -/
def errDevice (l : List Nat) : Option Nat :=
  match (l.map symbolDevice).eraseDups with
  | [d] => some d
  | _ => none

/-- Wrong bits of SECDED word k of a class L line: octets 8k to 8k + 7 and check octet 64 + k (R638). -/
def secdedBits (e : Ecc) (k : Nat) : Nat := ((errBits e (64 + k) :: (List.range 8).map fun i => errBits e (8 * k + i)).map (popGo · 8)).sum

/-- The side tag as a burst brings it: symbols 72 to 79, the lowest octet first (R638, R642). -/
def tagArrived (s : State) (l : Nat) (e : Ecc) : Nat :=
  tabGetD s.dr.tags l 0 ^^^ leNat ((List.range 8).map fun i => BitVec.ofNat 8 (errBits e (72 + i)))

/-- What the protection code makes of a line: clean; corrected, in so many symbols of a device where it is one; uncorrectable. -/
inductive Coded where
  | clean
  | corrected (symbols : Nat) (dev : Option Nat)
  | uncorrectable
  deriving DecidableEq, Repr

/-- The device marked as an erasure for the rank and subchannel of a line (R648). -/
def erasureOf (s : State) (l : Nat) : Option Nat :=
  let o := 8 * (2 * lineSubchannel l + lineRank s l)
  if regBit s (EC_ERASURE (lineChannel l)) (o + 7) then some (regFld s (EC_ERASURE (lineChannel l)) (o + 3) o) else none

/-- A class W line has 8 check symbols and a class S line 16, each wrong symbol costing 2 of them, a marked device 8 in all; a class L line
corrects 1 bit of a SECDED word and detects 2, more than 2 taken as detected (DESIGN CHOICE, log 78), and fails where the marked device errs;
its side tag is not covered (R638, R648). -/
def coded (s : State) (l cls : Nat) (e : Ecc) : Coded :=
  let mk := erasureOf s l
  let ofMarked := fun j => mk == some (symbolDevice j)
  let sy := if cls = 2 then (errSymbols e).filter fun j => decide (j < 72) else errSymbols e
  if sy = [] then .clean
  else
    let rest := sy.filter fun j => !ofMarked j
    let ok := if cls = 2 then !sy.any ofMarked && (List.range 8).all fun k => decide (secdedBits e k ≤ 1)
      else decide (2 * rest.length + (if mk.isSome then 8 else 0) ≤ (if cls = classW then 8 else 16))
    if ok then .corrected (min 8 sy.length) (errDevice sy) else .uncorrectable

/-! ## Errors (R641, R646-R649, R655, R659, R660) -/

/-- EC_LAST_ERR and its INFO take an error (R659, R660). -/
def lastErr (s : State) (a : Nat) (ue poison : Bool) (cls dev symbols src : Nat) : State :=
  let l := lineOf a
  let s := regPut (drMod s fun x => { x with lastErr := a % 2 ^ 44 }) EC_LAST_ERR_LO (a % 2 ^ 32)
  let place := if cls = 3 then 0
    else lineChannel l * 2 ^ 26 + lineSubchannel l * 2 ^ 25 + lineRank s l * 2 ^ 24
  regPut s EC_LAST_ERR_INFO
    (b2n ue * 2 ^ 31 + b2n poison * 2 ^ 30 + cls % 4 * 2 ^ 28 + place + dev % 16 * 2 ^ 20 + symbols % 16 * 2 ^ 16 + src % 256)

/-- An uncorrectable DRAM read is counted and reported (R655). -/
def uncorrected (s : State) (a src : Nat) : State :=
  let cls := (spanClass s a 1).getD 1
  raise (lastErr (regInc s EC_UE_COUNT) a true (poisoned s (lineOf a)) cls 15 0 src) 481

/-- An access of the wrong kind or outside every region (R641). -/
def wrongKind (s : State) : State := raise (regInc s EC_WRONG_KIND) 488

/-- Key of a subchannel and rank (R648). -/
def placeKey (s : State) (l : Nat) : Nat := lineSub l * 2 + lineRank s l

/-- Is a device marked for the rank and subchannel of a line? -/
def erasureMarked (s : State) (l : Nat) : Bool := (erasureOf s l).isSome

/-- A hard fault of a device in a bank; with 4 distinct banks within 16,777,216 frames the device is marked (R648). -/
def erasureMark (s : State) (l dev : Nat) : State :=
  let k := placeKey s l
  let s := drMod s fun x => { x with hard := x.hard ++ [⟨k, dev, lineBank l, frameNo s⟩] }
  let bs := ((s.dr.hard.filter fun h => h.place == k && h.dev == dev && decide (frameNo s < h.frame + 16777216)).map
    (·.bank)).eraseDups
  if 4 ≤ bs.length ∧ !erasureMarked s l then
    let o := 8 * (2 * lineSubchannel l + lineRank s l)
    raise (regPutFld s (EC_ERASURE (lineChannel l)) (o + 7) o (128 + dev % 16)) 484
  else s

/-- A row with a hard fault: soft repair, else a remap, else only reported (R646). The switch comes later (R647). -/
def rowRepair (s : State) (l : Nat) : State :=
  let ch := lineChannel l
  let g := placeKey s l * 8 + lineBank l / 4
  let row := (placeKey s l * 32 + lineBank l) * 2 ^ 32 + lineRow l
  if s.dr.rows.any fun r => r.ch == ch && r.row == row then s
  else if !s.dr.spares.contains g && regFld s (EC_REMAP ch) 21 16 < 32 then
    regPutFld (drMod s fun x => { x with spares := x.spares ++ [g], rows := x.rows ++ [⟨ch, row, some g⟩] }) (EC_REMAP ch) 21 16
      (regFld s (EC_REMAP ch) 21 16 + 1)
  else if regFld s (EC_REMAP ch) 5 0 < 32 then
    regPutFld (drMod s fun x => { x with rows := x.rows ++ [⟨ch, row, none⟩] }) (EC_REMAP ch) 5 0 (regFld s (EC_REMAP ch) 5 0 + 1)
  else raise s 483

/-- A read that corrected a line (R646): written back and read again; an error that recurs is a hard fault. -/
def corrected (s : State) (a symbols : Nat) (dev : Option Nat) (src : Nat) (recurs : Bool) : State :=
  let cls := (spanClass s a 1).getD 1
  let s := lastErr (regInc s EC_CE_COUNT) a false false cls (dev.getD 15) symbols src
  if recurs then
    let s := rowRepair (raise s 480) (lineOf a)
    match dev with
    | some d => erasureMark s (lineOf a) d
    | none => s
  else s

/-- A DRAM line read by a requester, with what its code made of it; whether it is uncorrectable (R646, R655). -/
def dramLine (s : State) (a src : Nat) (e : Ecc) : State × Bool :=
  let s := dramTouch s (lineOf a) src
  if poisoned s (lineOf a) then (uncorrected s a src, true)
  else match coded s (lineOf a) ((spanClass s a 1).getD 1) e with
    | .clean => (s, false)
    | .corrected sy dv => (corrected s a sy dv src e.recurs, false)
    | .uncorrectable => (uncorrected s a src, true)

/-- Every line of a span read, or its writes posted, by a port. -/
def dramTouchAll (s : State) (a n port : Nat) : State := (spanLines a n).foldl (fun s l => dramTouch s l port) s
def dramPostAll (s : State) (a n port : Nat) : State := (spanLines a n).foldl (fun s l => dramPost s { line := l, port := port }) s

/-- Octets read by an engine or a DMA channel: none on an uncorrectable line or a wrong kind (R641, R655). -/
def octetsIn (s : State) (a n src : Nat) : State × Option Bytes :=
  if n = 0 then (s, some [])
  else if isScratch a then (s, some (memRead s a n))
  else match spanClass s a n with
    | none => (wrongKind s, none)
    | some c =>
      if c = classW then (wrongKind s, none)
      else
        let s := dramTouchAll s a n src
        match (spanLines a n).find? (poisoned s) with
        | some l => (uncorrected s (64 * l) src, none)
        | none => (s, some (memRead s a n))

/-- Octets written by HQ, an engine or a DMA channel, with its side tag on class L lines; nothing on a wrong kind (R641, R643). -/
def octetsOut (s : State) (w : Writer) (a : Nat) (d : Bytes) : State × Bool :=
  if d = [] then (s, true)
  else if isScratch a then (memStore s a d, true)
  else match spanClass s a d.length with
    | none => (wrongKind s, false)
    | some c =>
      if c = classW then (wrongKind s, false)
      else (lineWrites (memStore (dramPostAll s a d.length w.port) a d) a d.length w.tag, true)

/-- Words read by a DMA channel from a word region. -/
def wordsIn (s : State) (a n src : Nat) : State × Option (List Word) :=
  if spanClass s a (4 * n) = some classW then
    let s := dramTouchAll s a (4 * n) src
    match (spanLines a (4 * n)).find? (poisoned s) with
    | some l => (uncorrected s (64 * l) src, none)
    | none => (s, some (wordsRead s a n))
  else (wrongKind s, none)

/-! ## Tagged reads (R643, R644) -/

/-- A reader of a ticket's data names the tag it expects; does the line bring another, or one whose CHECK fails (R644)? -/
def tagWrong (s : State) (m : Msg) (l : Nat) : Bool :=
  tagArrived s l m.ecc != tagWord (tagBits m.parcel m.pEdition 1 m.ticket m.tkEdition)

/-- A message is discarded where its editions match no live ticket (R198); one that is not stale is not this event and changes
nothing. -/
def messageTake (s : State) (m : Msg) : State := if msgStale s m then msgDiscard s m else s

/-- STALE_MESSAGE_DISCARD (R198, R644): a message whose data are read from a class L line is discarded as stale too where its side tag
differs, with EC_TAG_MISMATCH and event 489. -/
def execStaleMessageDiscard (m : Msg) (s : State) : Res :=
  .next (match m.line with
    | none => messageTake s m
    | some l =>
      if spanClass s (64 * l) 64 ≠ some 2 then messageTake s m
      else
        let r := dramLine s (64 * l) (b2n m.fabric) m.ecc
        if r.2 then r.1
        else if tagWrong r.1 m l then msgDiscard (raise (regInc r.1 EC_TAG_MISMATCH) 489) m
        else messageTake r.1 m)

/-! ## The lines of the map journal (R640) -/

/-- The line of a copy of a journal record: the two copies lie 2 lines apart, hence on different channels (R622, R640). Four records to a
line and a ring of 2,097,152 lines a copy in the 256 MiB of R298 (DESIGN CHOICE, log 77). -/
def journalLine (s : State) (copy k : Nat) : Nat :=
  let m := k / 4 % 2097152
  s.dr.journalAt + 4 * (m / 2) + m % 2 + 2 * copy

/-! ## Placement by control firmware (log 41) -/

/-- Is the span free of every placed span? -/
def spanFree (s : State) (a n : Nat) : Bool := s.dr.allocs.all fun e => decide (a + n ≤ e.1) || decide (e.1 + e.2 ≤ a)

/-- Where control firmware can place `n` octets of a class: the lowest region start or end of a placed span that is free.
Placement is firmware's own; the model takes the first fit (DESIGN CHOICE, log 41). -/
def placeSpan (s : State) (cls n : Nat) : Option Nat :=
  let starts := (List.range 64).filterMap fun r =>
    if regBit s (EC_REGION_LO r) 31 && regFld s (EC_REGION_LO r) 30 29 == cls then
      some (regFld s (EC_REGION_LO r) 15 0 * 2 ^ 24) else none
  let ends := s.dr.allocs.map fun e => (e.1 + e.2 + 4095) / 4096 * 4096
  ((starts ++ ends).filter fun a => spanClass s a n == some cls && spanFree s a n).min?

/-- A span placed. -/
def spanTake (s : State) (a n : Nat) : State := drMod s fun x => { x with allocs := x.allocs ++ [(a, n)] }
/-- A span given up. -/
def spanGive (s : State) (a : Nat) : State := drMod s fun x => { x with allocs := x.allocs.filter fun e => e.1 != a }

/-- Octets of a span set to zero. -/
def memZero (s : State) (a n : Nat) : State :=
  drMod s fun x => { x with mem := x.mem.filter fun c => !(decide (a ≤ c.1) && decide (c.1 < a + n)) }
def wordsZero (s : State) (a n : Nat) : State :=
  drMod s fun x => { x with words := x.words.filter fun c => !(decide (a ≤ 4 * c.1) && decide (4 * c.1 < a + n)) }

/-! ## Commands -/

/-- CA_PARITY_ALERT (R621): on RDIMMs the commands since the last completed one are reissued; no request sees an error. -/
def caAlert (s : State) (ch : Nat) : State :=
  if ch < 4 && regBit s DM_CONFIG 27 then raise (regPutBit (regInc s DM_CA_RETRY_COUNT) DM_STATUS 30 true) 468 else s
def execCaParityAlert (ch : Nat) (s : State) : Res := .next (caAlert s ch)

/-- PORT_QOS_WRITE (R629, R657): ignored, with REFUSED, where the sum of MIN_PCT would rise above 80; MIN_PCT is 0 to
100. -/
def qosWrite (s : State) (p v : Nat) : State :=
  if p < 12 then
    let old := ((List.range 12).map fun k => regFld s (DM_PORT_QOS k) 23 16).sum
    let new := old - regFld s (DM_PORT_QOS p) 23 16 + bitsOf v 23 16
    if (80 < new ∧ old < new) ∨ 100 < bitsOf v 23 16 then regPutBit s DM_STATUS 31 true else regWrite s (DM_PORT_QOS p) v
  else s
def execPortQosWrite (port value : Nat) (s : State) : Res := .next (qosWrite s port value)

def bankMod (s : State) (k : Nat) (f : Bank → Bank) : State := drMod s fun x => { x with banks := tabModD x.banks k {} f }

/-- ROW_IDLE_CLOSE (R630): the open row of a bank closes. -/
def execRowIdleClose (bank : Nat) (s : State) : Res :=
  .next (if (tabGetD s.dr.banks bank {}).row.isSome then bankMod s bank fun b => { b with row := none } else s)

/-- RFM_ISSUE (R632): where the devices require refresh management and a bank's rolling count has reached the threshold they
report, RFM takes the threshold from the count (PRESUMED from JESD79-5, log 79). -/
def execRfmIssue (bank : Nat) (s : State) : Res :=
  .next (if regBit s DM_DISTURB 31 && decide (s.dr.rfmAt ≤ (tabGetD s.dr.banks bank {}).acts)
      && (tabGet s.dr.banks bank).isSome then
    bankMod s bank fun b => { b with acts := b.acts - s.dr.rfmAt } else s)

def rankExists (s : State) (ch sub rank : Nat) : Bool := ch < 4 && sub < 2 && rank < 1 + b2n (regBit s DM_CONFIG 26)

/-- Is a request of urgency `u` or above queued for a subchannel, or for a rank of it (R635)? -/
def urgentSub (s : State) (ch sub u : Nat) : Bool := (subReqs s (2 * ch + sub)).any fun r => decide (u ≤ urgency s r)
def urgentRank (s : State) (ch sub rank u : Nat) : Bool :=
  (subReqs s (2 * ch + sub)).any fun r => lineRank s r.line == rank && decide (u ≤ urgency s r)

/-- A refresh falls due. While POSTPONE_EN = 1, PAYDOWN = 0, a request of urgency 2 or above is queued for its subchannel and OWED is below
4, the controller may postpone it: `postpone` is its choice (log 128); else it is issued (R633, R635). -/
def refreshDue (s : State) (ch sub rank : Nat) (postpone : Bool) : State :=
  if !rankExists s ch sub rank then s
  else if postpone && urgentSub s ch sub 2 && regBit s (DM_REFRESH ch) 28 && !regBit s (DM_REFRESH ch) 29 && owedGet s ch sub rank < 4 then
    owedPut (rankClose s ch sub rank) ch sub rank (owedGet s ch sub rank + 1)
  else refreshIssue s ch sub rank
def execRefreshDue (ch sub rank : Nat) (postpone : Bool) (s : State) : Res := .next (refreshDue s ch sub rank postpone)

/-- OWED_REFRESH_ISSUE: where no request of urgency 2 or above is queued for the rank (R635); during a pay-down ahead of every request but
those of urgency 3 (R636). -/
def owedIssue (s : State) (ch sub rank : Nat) : State :=
  if rankExists s ch sub rank && owedGet s ch sub rank != 0
      && !urgentRank s ch sub rank (if regBit s (DM_REFRESH ch) 29 then 3 else 2) then owedTake s ch sub rank
  else s
def execOwedRefreshIssue (ch sub rank : Nat) (s : State) : Res := .next (owedIssue s ch sub rank)

/-- Every OWED of a channel doubled (R636). -/
def owedDouble (s : State) (ch : Nat) : State :=
  [(0, 0), (0, 1), (1, 0), (1, 1)].foldl (fun s e => owedPut s ch e.1 e.2 (2 * owedGet s ch e.1 e.2)) s

/-- Entry to the doubled rate (R636): recount, PAYDOWN, events 464 and 466. OWED of 0 needs no PAYDOWN. -/
def doubledEntry (s : State) (ch : Nat) : State :=
  let s := regPutBit (owedDouble s ch) (DM_REFRESH ch) 31 true
  let s := drMod s fun x => { x with mr4 := tabSet x.mr4 ch 0 }
  raise (raise (paydownEnd (regPutBit s (DM_REFRESH ch) 29 true) ch) 464) 466

/-- MR4 codes: 0 the normal rate, 1 the doubled rate, 2 and above over the operating range. -/
def mr4Read (s : State) (ch : Nat) (codes : List Nat) : State :=
  if ch < 4 ∧ frameNo s % 256 = 64 * ch then
    let hot := codes.any (1 ≤ ·)
    let excess := codes.any (2 ≤ ·)
    let s := if excess then raise (regPutBit s (DM_REFRESH ch) 30 true) 467 else s
    if regBit s (DM_REFRESH ch) 31 then
      if hot then drMod s fun x => { x with mr4 := tabSet x.mr4 ch 0 }
      else
        let n := tabGetD s.dr.mr4 ch 0 + 1
        if 2 ≤ n then raise (regPutBit (drMod s fun x => { x with mr4 := tabSet x.mr4 ch 0 }) (DM_REFRESH ch) 31 false) 465
        else drMod s fun x => { x with mr4 := tabSet x.mr4 ch n }
    else if hot then doubledEntry s ch
    else s
  else s
/-- MR4_READ (R634), at the boundaries whose number is 64c modulo 256. -/
def execMr4Read (ch : Nat) (codes : List Nat) (s : State) : Res := .next (mr4Read s ch codes)

/-- ROW_REPAIR_SWITCH (R647): a row whose repair waits is switched to its new place and recorded in the firmware flash. -/
def rowSwitch (s : State) (ch row : Nat) : State :=
  match s.dr.rows.find? fun r => r.ch == ch && r.row == row with
  | some r =>
    let s := drMod s fun x => { x with rows := x.rows.erase r, repaired := x.repaired ++ [r] }
    raise { s with pw := { s.pw with repairs := s.dr.repaired } } 482
  | none => s
def execRowRepairSwitch (ch row : Nat) (s : State) : Res := .next (rowSwitch s ch row)

/-- The next initialised line from `l` on (R650): within a valid region, else the first region above it. -/
def surveyNext (s : State) (l : Nat) : Option Nat :=
  if (spanClass s (64 * l) 64).isSome then some l
  else (((List.range 64).filter fun r => regBit s (EC_REGION_LO r) 31 && decide (l ≤ regFld s (EC_REGION_LO r) 15 0 * 2 ^ 18)).map
    fun r => regFld s (EC_REGION_LO r) 15 0 * 2 ^ 18).min?

/-- SURVEYOR_LAP_END (R653): due when no initialised line is left above the surveyor. -/
def surveyLap (s : State) : State :=
  if !regBit s EC_SURVEY 31 || s.ev.powerFail || (surveyNext s s.dr.surveyAt).isSome then s
  else
    let lap := frameNo s - s.dr.lapStart
    let s := regPut (drMod s fun x => { x with surveyAt := 0, lapStart := frameNo s }) EC_SURVEY_LAP (min lap (2 ^ 32 - 1))
    let s := raise s 490
    if max 1 (regFld s EC_SURVEY 15 0) * 2 ^ 20 < lap then raise (regPutBit s EC_SURVEY 30 true) 491 else s
def execSurveyorLapEnd (s : State) : Res := .next (surveyLap s)

/-- LAST_ERR_LO_READ (R659, R25): the low half is returned and the upper half shadowed. -/
def lastErrLoRead (s : State) : State :=
  emit (regPut s EC_LAST_ERR_HI (s.dr.lastErr / 2 ^ 32)) (.regRead EC_LAST_ERR_LO (BitVec.ofNat 32 s.dr.lastErr))
def execLastErrLoRead (s : State) : Res := .next (lastErrLoRead s)

end Sys2Proof.Machine
end

