-- ==== Sys2Proof/Machine/Map.lean ====
section
/-! DEFINITION. Chapter 05, the map: quadrangle, map and sheet words, the lookup of R241, word changes and their
journal, blocks, groups and stripes, the write buffer, overlays, and the flash queues they feed (R325). -/
namespace Sys2Proof.Machine

/-! ## Words (R237-R240, R249) -/

def wDie (w : Word) : Nat := bitsOf w.toNat 35 26
def wPage (w : Word) : Nat := bitsOf w.toNat 25 2
def wSlot (w : Word) : Nat := bitsOf w.toNat 1 0
def wLow (w : Word) : Nat := bitsOf w.toNat 25 0

/-- The map word of a flash address (R239). -/
def flashWord (die page slot : Nat) : Word := BitVec.ofNat 36 (die * 2 ^ 26 + page % 2 ^ 24 * 4 + slot % 4)

/-- Special forms (R240). -/
def wUnmapped : Word := BitVec.ofNat 36 (0x3FF * 2 ^ 26)
def wZero : Word := BitVec.ofNat 36 (0x3FE * 2 ^ 26)
def wElse : Word := BitVec.ofNat 36 (0x3FC * 2 ^ 26)
/-- A reserved form, to which a lookup through a reserved sheet DIE comes (R241, R249). -/
def wReserved : Word := BitVec.ofNat 36 (0x3F8 * 2 ^ 26)
/-- The tile is in the write buffer entry `slot`, 4 KiB each, at an offset in 16-octet units (R240). -/
def wBuffer (slot : Nat) : Word := BitVec.ofNat 36 (0x3FD * 2 ^ 26 + slot * 256)
def wBufSlot (w : Word) : Nat := wLow w / 256

/-- Mapping forms (R238). -/
def formFree : Nat := 0
def formEmpty : Nat := 1
def formPage : Nat := 2
def formSheet : Nat := 3
def formToSheet : Nat := 4
def formToPage : Nat := 5

def qForm (w : Word) : Nat := bitsOf w.toNat 35 33
def qPin (w : Word) : Bool := bitOf w.toNat 32
def qNs (w : Word) : Nat := bitsOf w.toNat 31 20
def qTable (w : Word) : Nat := bitsOf w.toNat 19 0

/-- A quadrangle word (R237). -/
def quadWord (form : Nat) (pin : Bool) (ns table : Nat) : Word :=
  BitVec.ofNat 36 (form * 2 ^ 33 + b2n pin * 2 ^ 32 + ns % 4096 * 2 ^ 20 + table % 2 ^ 20)

def sDie (w : Word) : Nat := bitsOf w.toNat 35 26
def sBlock (w : Word) : Nat := bitsOf w.toNat 25 13
def sOv (w : Word) : Bool := bitOf w.toNat 12
def sOverlay (w : Word) : Nat := bitsOf w.toNat 11 0

/-- A sheet word (R249). -/
def sheetWord (die block : Nat) (ov : Option Nat) : Word :=
  BitVec.ofNat 36 (die * 2 ^ 26 + block % 2 ^ 13 * 2 ^ 13 + match ov with
    | some o => 2 ^ 12 + o % 4096
    | none => 0)

/-- A sheet with no base, every tile unmapped (R249). -/
def sheetNone : Word := sheetWord 0x3FF 0 none

/-! ## Geometry -/

/-- The format the media has, or that of an unformatted device (R301). -/
def fmtOf (s : State) : Fmt := s.atl.fmt.getD ⟨8, 1024, 0, 1, 0, 0⟩

/-- Pages in a block, P. -/
def ppb (s : State) : Nat := (fmtOf s).p
/-- Tiles in a sheet, 4P. -/
def sheetTiles (s : State) : Nat := 4 * ppb s
/-- Tiles in a quadrangle. -/
def quadTiles : Nat := 262144

/-! ## Lookup (R241) -/

/-- Where a tile lives. -/
inductive Loc where
  | unmapped
  | zero
  | buffer (slot : Nat)
  | flash (die page slot : Nat)
  | bad
  deriving DecidableEq, Repr

def dirGet (s : State) (q : Nat) : Word := tabGetD s.atl.dir q 0
def sheetGet (s : State) (q sh : Nat) : Word := tabGetD (tabGetD s.atl.sheets q []) sh sheetNone
def pageWord (s : State) (q t : Nat) : Word :=
  match tabGet s.atl.tabs (qTable (dirGet s q)) with
  | none => wUnmapped
  | some p => tabGetD p.words t p.fill
def overlayWord (s : State) (o i : Nat) : Word :=
  match tabGet s.atl.overlays o with
  | none => wElse
  | some v => tabGetD v.words i wElse

/-- What a map word other than 3FCh says. -/
def wordLoc (w : Word) : Loc :=
  if wDie w = 0x3FF then .unmapped else if wDie w = 0x3FE then .zero
  else if wDie w = 0x3FD then .buffer (wBufSlot w)
  else if wDie w < 1016 then .flash (wDie w) (wPage w) (wSlot w) else .bad

/-- Resolution of a tile through its sheet (R241), with the word it rests on. -/
def sheetFind (s : State) (q t : Nat) : Word :=
  let sh := t / sheetTiles s
  let i := t % sheetTiles s
  let v := sheetGet s q sh
  let m := if sOv v then overlayWord s (sOverlay v) i else wElse
  if wDie m ≠ 0x3FC then m
  else if sDie v = 0x3FF then wUnmapped
  else if sDie v = 0x3FE then wZero
  else if 1016 ≤ sDie v then wReserved
  else flashWord (sDie v) (sBlock v * ppb s + i / 4) (i % 4)

/-- The word to which device tile `d` resolves (R241). -/
def mapWord (s : State) (d : Nat) : Word :=
  let q := d / quadTiles
  let t := d % quadTiles
  let w := dirGet s q
  let f := qForm w
  if f = formFree ∨ f = formEmpty then wUnmapped
  else if f = formSheet then sheetFind s q t
  else
    let m := pageWord s q t
    if wDie m ≠ 0x3FC then m else sheetFind s q t

/-- Where device tile `d` lives (R241). -/
def mapLookup (s : State) (d : Nat) : Loc := wordLoc (mapWord s d)

/-! ## Word changes and the journal (R295) -/

def atlSet (s : State) (f : AtlasSt → AtlasSt) : State := { s with atl := f s.atl }
def flSet (s : State) (f : FlashSt → FlashSt) : State := { s with fl := f s.fl }

/-- Journal kinds: 0 directory, 1 map, 2 sheet, 3 overlay word. A record is written twice (R640). -/
def journalAdd (s : State) (kind idx : Nat) (w : Word) : State :=
  atlSet s fun a => { a with journal := a.journal ++ [(kind, idx, w)], journal2 := a.journal2 ++ [(kind, idx, w)] }

def dirPut (s : State) (q : Nat) (w : Word) : State :=
  journalAdd (atlSet s fun a => { a with dir := if w = 0 then tabErase a.dir q else tabSet a.dir q w }) 0 q w

def sheetPut (s : State) (q sh : Nat) (w : Word) : State :=
  journalAdd (atlSet s fun a => { a with sheets := tabSet a.sheets q (tabSet (tabGetD a.sheets q []) sh w) })
    2 (q * 256 + sh) w

def pagePut (s : State) (q t : Nat) (w : Word) : State :=
  let ti := qTable (dirGet s q)
  journalAdd (atlSet s fun a => { a with tabs := tabMod a.tabs ti fun p => { p with words := tabSet p.words t w } })
    1 (q * quadTiles + t) w

def overlayPut (s : State) (o i : Nat) (w : Word) : State :=
  let f := fun (v : Overlay) => { v with words := if w = wElse then tabErase v.words i else tabSet v.words i w }
  journalAdd (atlSet s fun a => { a with overlays := tabMod a.overlays o f }) 3 (o * 65536 + i) w

/-- Is there a word that a write of tile `d` sets: in a page table, or in an attached overlay? -/
def canPut (s : State) (d : Nat) : Bool :=
  let q := d / quadTiles
  let f := qForm (dirGet s q)
  if f = formSheet then sOv (sheetGet s q (d % quadTiles / sheetTiles s))
  else f == formPage || f == formToSheet || f == formToPage

/-- The word of tile `d` set where writes of its quadrangle set it: its page word, or its overlay's index word. -/
def tilePut (s : State) (d : Nat) (w : Word) : State :=
  let q := d / quadTiles
  let t := d % quadTiles
  if !canPut s d then s
  else if qForm (dirGet s q) = formSheet then
    overlayPut s (sOverlay (sheetGet s q (t / sheetTiles s))) (t % sheetTiles s) w
  else pagePut s q t w

/-- The sheet whose base gives tile `d` (R241): its own words leave it at its home position. -/
def viaBase (s : State) (d : Nat) : Option (Nat × Nat) :=
  let q := d / quadTiles
  let t := d % quadTiles
  let sh := t / sheetTiles s
  let v := sheetGet s q sh
  let f := qForm (dirGet s q)
  let ov := if sOv v then overlayWord s (sOverlay v) (t % sheetTiles s) else wElse
  let pw := if f = formSheet then wElse else pageWord s q t
  if (f = formSheet ∨ f = formToSheet ∨ f = formToPage) ∧ wDie pw = 0x3FC ∧ wDie ov = 0x3FC ∧ sDie v < 1016 then some (q, sh) else none

/-! ## Dies and their queues (R325) -/

def dieGet (s : State) (d : Nat) : Option Die := tabGet s.fl.dies d
def dieMod (s : State) (d : Nat) (f : Die → Die) : State := flSet s fun x => { x with dies := tabMod x.dies d f }

/-- Is a logical die there, not lost and on a live channel (FC_STATUS.STATE ACTIVE or RETRAINING)? -/
def dieLive (s : State) (d : Nat) : Bool :=
  match dieGet s d with
  | none => false
  | some x => !x.lost && (let st := regFld s (FC_STATUS x.ch) 31 29; st == 2 || st == 3)

def liveDies (s : State) : List Nat := (s.fl.dies.map (·.1)).filter (dieLive s)

/-- Operations put to a die's four queues (R325). The first 64 reads, 16 move reads and 4 erases of a list are the queue; what
follows them waits in the Atlas's own order. A program is issued only where its queue has room. -/
def queueRead (s : State) (d : Nat) (o : FOp) : State := dieMod s d fun x => { x with readQ := x.readQ ++ [o] }
def queueMove (s : State) (d : Nat) (o : FOp) : State := dieMod s d fun x => { x with moveQ := x.moveQ ++ [o] }
def queueProg (s : State) (d : Nat) (o : FOp) : State := dieMod s d fun x => { x with progQ := x.progQ ++ [o] }
def queueErase (s : State) (d : Nat) (o : FOp) : State := dieMod s d fun x => { x with eraseQ := x.eraseQ ++ [o] }

/-! ## Blocks (R278-R284) -/

def blkKey (die block : Nat) : Nat := die * 8192 + block
def blkGet (s : State) (die block : Nat) : Blk := tabGetD s.atl.blks (blkKey die block) {}
def blkMod (s : State) (die block : Nat) (f : Blk → Blk) : State :=
  atlSet s fun a => { a with blks := tabModD a.blks (blkKey die block) {} f }

/-- Free blocks of a die outside the reserves. -/
def dieFree (x : Die) : Nat := (x.freshHi - x.freshLo) + x.freed.length

/-- Free blocks outside the reserves (R302). -/
def freeBlocks (s : State) : Nat := ((liveDies s).map fun d => ((dieGet s d).map dieFree).getD 0).sum

/-- Can free blocks outside the reserves form `f` groups of N distinct dies? -/
def canForm (s : State) (f : Nat) : Bool :=
  decide ((fmtOf s).n * f ≤ ((liveDies s).map fun d => min f (((dieGet s d).map dieFree).getD 0)).sum)

/-- The most groups up to `k` that can be formed. -/
def formable (s : State) : Nat → Nat
  | 0 => 0
  | k + 1 => if canForm s (k + 1) then k + 1 else formable s k

/-- F of R277, saturating at FFh (R302). -/
def hotGroups (s : State) : Nat := formable s 255

/-- Is wear levelling in dynamic mode (R280)? -/
def dynamicWear (s : State) : Bool :=
  !regBit s AT_MEDIA_STATE 0 || s.cq.selfTest.isSome || regBit s AT_REBUILD 31

/-- The least worn of a list of blocks of a die. -/
def leastWorn (s : State) (d : Nat) : List Nat → Option Nat
  | [] => none
  | b :: t => match leastWorn s d t with
    | none => some b
    | some c => if (blkGet s d c).erases < (blkGet s d b).erases then some c else some b

/-- A free block of a die is taken: in the order of release in static mode, the least worn in dynamic mode (R279,
R280). A block never used since format was released at format. -/
def takeBlock (s : State) (d : Nat) : Option (Nat × State) :=
  match dieGet s d with
  | none => none
  | some x =>
    if x.freshLo < x.freshHi then some (x.freshLo, dieMod s d fun x => { x with freshLo := x.freshLo + 1 })
    else match (if dynamicWear s then leastWorn s d x.freed else x.freed.head?) with
      | none => none
      | some b => some (b, dieMod s d fun x => { x with freed := x.freed.filter (· != b) })

/-- AT_CAPACITY in tiles (R801). -/
def capacity (s : State) : Nat :=
  let f := fmtOf s
  let d := ((liveDies s).map fun d => match dieGet s d with
    | none => 0
    | some x => f.blocks - 2 - f.sys - f.spares - (x.resHi - x.resLo) - x.lossBlocks).sum
  (f.n - 1) * (4 * f.p) * d / f.n

/-- Available Spare and the die that sets it (R291). -/
def spareNow (s : State) : Nat × Nat :=
  (liveDies s).foldl (fun (m : Nat × Nat) d => match dieGet s d with
    | none => m
    | some x => let v := if (fmtOf s).spares = 0 then 100 else 100 * (x.spareHi - x.spareLo) / (fmtOf s).spares
                if v < m.1 then (v, d) else m) (100, 0)

/-- The capacity registers follow the media (R284, R308): event 234 where AT_CAPACITY has changed. -/
def capacityUpdate (s : State) : State :=
  let c := capacity s
  if regNat s AT_CAPACITY_LO ≠ c % 2 ^ 32 then raise (regPut s AT_CAPACITY_LO c) 234 else s

/-- AT_SPARE follows the spares; falling below 10 sets BELOW and raises event 224 (R291, R303). -/
def spareUpdate (s : State) : State :=
  let v := spareNow s
  let before := regFld s AT_SPARE 30 24
  let s := regPutFld (regPutFld s AT_SPARE 30 24 v.1) AT_SPARE 9 0 v.2
  if v.1 < 10 ∧ 10 ≤ before then raise (regPutBit s AT_SPARE 31 true) 224 else s

/-- A block is retired (R282-R284): event 227, a spare of its die in its place, or one usable block fewer. -/
def retireBlock (s : State) (d b : Nat) : State :=
  let s := raise (blkMod s d b fun x => { x with role := .retired }) 227
  match dieGet s d with
  | none => s
  | some x =>
    if x.spareLo < x.spareHi then
      spareUpdate (dieMod s d fun x => { x with freed := x.freed ++ [x.spareLo], spareLo := x.spareLo + 1 })
    else capacityUpdate (dieMod s d fun x => { x with lossBlocks := x.lossBlocks + 1 })

/-! ## Groups (R267) -/

/-- Members chosen so far share a channel how often? -/
def chanUse (s : State) (ms : List (Nat × Nat)) (ch : Nat) : Nat :=
  (ms.filter fun m => ((dieGet s m.1).map (·.ch)) == some ch).length

/-- The better of two candidate dies: the channel used less, then the die with more free blocks, then the lower. -/
def betterDie (s : State) (ms : List (Nat × Nat)) (a b : Nat) : Nat :=
  let ca := ((dieGet s a).map fun x => chanUse s ms x.ch).getD 0
  let cb := ((dieGet s b).map fun x => chanUse s ms x.ch).getD 0
  let fa := ((dieGet s a).map dieFree).getD 0
  let fb := ((dieGet s b).map dieFree).getD 0
  if cb < ca then b else if ca < cb then a else if fa < fb then b else a

/-- The next member of a group: a live die that holds none, on a channel used least (R267). -/
def pickDie (s : State) (ms : List (Nat × Nat)) (noChan : Option Nat) : Option Nat :=
  let c := (liveDies s).filter fun d => !(ms.map (·.1)).contains d && (match dieGet s d with
    | none => false
    | some x => decide (0 < dieFree x) && some x.ch != noChan)
  match c with
  | [] => none
  | d :: t => some (t.foldl (betterDie s ms) d)

/-- `n` members with a free block each. -/
def pickMembers (s : State) (ms : List (Nat × Nat)) : Nat → Option (List (Nat × Nat) × State)
  | 0 => some (ms, s)
  | n + 1 => match pickDie s ms none with
    | none => none
    | some d => match takeBlock s d with
      | none => none
      | some (b, s) => pickMembers s (ms ++ [(d, b)]) n

/-- Are two members of a list on one channel (R286)? -/
def sharesChan (s : State) (ms : List (Nat × Nat)) : Bool :=
  ms.any fun m => chanUse s ms (((dieGet s m.1).map (·.ch)).getD 99) > 1

/-- AT_MEDIA_STATE.DEGRADED follows the groups (R286). -/
def degradedUpdate (s : State) : State :=
  regPutBit s AT_MEDIA_STATE 28 (s.atl.groups.any fun g => sharesChan s g.2.members)

/-- A block group is opened for a stream on members found. -/
def groupNew (s : State) (st : Stream) (ms : List (Nat × Nat)) : Nat × State :=
  let g := s.atl.nextGroup
  let s := atlSet s fun a => { a with nextGroup := g + 1, groups := tabSet a.groups g { stream := st, members := ms } }
  let s := ms.foldl (fun s m => blkMod s m.1 m.2 fun b => { b with role := .data, group := some g, released := false }) s
  (g, degradedUpdate s)

/-- The flush reserve gives one block on each of N dies (R290, R293). -/
def pickReserve (s : State) (ms : List (Nat × Nat)) : Nat → Option (List (Nat × Nat) × State)
  | 0 => some (ms, s)
  | n + 1 =>
    match (liveDies s).find? fun d => !(ms.map (·.1)).contains d && (match dieGet s d with
      | none => false
      | some x => decide (x.resLo < x.resHi)) with
    | none => none
    | some d => match dieGet s d with
      | none => none
      | some x => pickReserve (dieMod s d fun x => { x with resLo := x.resLo + 1 }) (ms ++ [(d, x.resLo)]) n

/-- The open group of a stream with a stripe left and no die lost, or a new one (R267, R268, R290). -/
def openGroup (s : State) (st : Stream) : Option (Nat × State) :=
  match (s.atl.groups.filter fun g => g.2.stream == st && g.2.closed.isNone && g.2.next < ppb s
      && g.2.members.all fun m => dieLive s m.1).head? with
  | some (g, _) => some (g, s)
  | none =>
    if st = .flush then (pickReserve s [] (fmtOf s).n).map fun r =>
      groupNew (atlSet r.2 fun a => { a with reserveUsed := a.reserveUsed + 1 }) st r.1
    else (pickMembers s [] (fmtOf s).n).map fun r => groupNew r.2 st r.1

/-- A group is closed, and keeps its place in the order of closing (R275). -/
def groupClose (s : State) (g : Nat) : State :=
  let n := s.atl.closeNo
  atlSet s fun a => { a with closeNo := n + 1, groups := tabMod a.groups g fun x => { x with closed := some n } }

/-! ## The write buffer (R126) -/

/-- Acknowledged data not yet programmed, in 4 KiB units (R159). -/
def occupancy (s : State) : Nat := tabCount s.atl.wbuf fun e => e.ack

/-- Units of 4 KiB the hold-up budget allows (R158). -/
def budgetUnits (s : State) : Nat := regFld s HQ_WBUF_BUDGET 10 0 * 256

/-- AT_BUDGET is set when the occupancy reaches the budget, with event 32 (R159, R160). -/
def atBudget (s : State) (before : Nat) : State :=
  if armed' s && decide (before < budgetUnits s) && decide (budgetUnits s ≤ occupancy s) then
    raise (regPutBit s HQ_WBUF_OCCUPANCY 31 true) 32 else s
where
  armed' (s : State) : Bool := regBit s HQ_DURABILITY 31

/-- A write-buffer entry is released. -/
def wbufDrop (s : State) (slot : Nat) : State := atlSet s fun a => { a with wbuf := tabErase a.wbuf slot }

/-- A slot's fragment leaves the stripe that is being filled: its place in the page stays empty. -/
def fragDrop (s : State) (slot : Nat) : State :=
  atlSet s fun a => { a with stripes := tabMap a.stripes fun _ x =>
    if x.issued then x else { x with frags := x.frags.filter fun f => f.move || f.src != slot } }

/-- The entry a tile's word names stops holding the tile: its space and its fragment go at once unless its stripe is being
programmed. -/
def wbufSupersede (s : State) (w : Word) : State :=
  if wDie w = 0x3FD then
    match tabGet s.atl.wbuf (wBufSlot w) with
    | some e => if e.issued then s else fragDrop (wbufDrop s (wBufSlot w)) (wBufSlot w)
    | none => s
  else s

/-! ## Page tables and overlays (R251-R257, R299) -/

/-- The namespace that owns a quadrangle. -/
def quadNs (s : State) (q : Nat) : Option Ns := tabGet s.atl.nss (qNs (dirGet s q))

/-- Tables reserved for namespaces with the compression transform (R251). -/
def tablesReserved (s : State) : Nat :=
  (s.atl.nss.map fun e => if e.2.compress then e.2.quads.length else 0).sum

/-- AT_TABLES_BUDGET as it acts (R299). -/
def tablesBudget (s : State) : Nat := max (regFld s AT_TABLES_BUDGET 18 0) (tablesReserved s + 16)

/-- Tables of compressed namespaces not yet in use. -/
def tablesPromised (s : State) : Nat :=
  (s.atl.nss.map fun e => if e.2.compress then
      (e.2.quads.filter fun q => qForm (dirGet s q) == formEmpty).length else 0).sum

/-- Tables free for any quadrangle. -/
def tablesFree (s : State) : Nat := tablesBudget s - s.atl.tabs.length - tablesPromised s

/-- A page table is taken for a quadrangle, which takes a form (R237). -/
def tableTake (s : State) (q form : Nat) (fill : Word) : State :=
  match tabFree s.atl.tabs 0 262145 with
  | none => s
  | some t =>
    let w := dirGet s q
    let s := atlSet s fun a => { a with tabs := tabSet a.tabs t { fill := fill } }
    dirPut s q (quadWord form (qPin w) (qNs w) t)

/-- A conversion to page form starts, at most 4 at once (R259, R262): its table is filled with 3FCh; FORM is set at the next
boundary. -/
def convToPage (s : State) (q : Nat) : State :=
  if s.atl.convs.any (·.quad == q) ∨ 4 ≤ (s.atl.convs.filter (·.toPage)).length then s
  else atlSet s fun a => { a with convs := a.convs ++ [{ quad := q, toPage := true, start := frameNo s }] }

/-- An overlay pair on dies of different channels is attached to a sheet (R252, R253). -/
def overlayAttach (s : State) (q sh : Nat) : Option State :=
  match tabFree s.atl.overlays 0 4096 with
  | none => none
  | some o => match pickDie s [] none with
    | none => none
    | some d => match takeBlock s d with
      | none => none
      | some (b, s) =>
        match pickDie s [(d, b)] ((dieGet s d).map (·.ch)) with
        | none => none
        | some d2 => match takeBlock s d2 with
          | none => none
          | some (b2, s) =>
            let v : Overlay := { quad := q, sheet := sh, primDie := d, primBlk := b, mirDie := d2, mirBlk := b2 }
            let s := atlSet s fun a => { a with overlays := tabSet a.overlays o v }
            let s := blkMod (blkMod s d b fun x => { x with role := .data }) d2 b2 fun x => { x with role := .data }
            let w := sheetGet s q sh
            some (sheetPut s q sh (sheetWord (sDie w) (sBlock w) (some o)))

/-- The sheet of a tile made ready for a write: an overlay is attached to it (R252), if one is free. -/
def sheetReady (s : State) (q sh : Nat) : State × Bool :=
  if sOv (sheetGet s q sh) then (s, true)
  else match overlayAttach s q sh with
    | some s => (s, true)
    | none => (s, false)

/-- The quadrangle of a tile made ready for a write (R252, R256), and whether it is. The first write that reaches an EMPTY one
makes it PAGE or SHEET, ready or not (R257). -/
def quadReady (s : State) (d : Nat) : State × Bool :=
  let q := d / quadTiles
  let sh := d % quadTiles / sheetTiles s
  let w := dirGet s q
  let f := qForm w
  if f = formPage ∨ f = formToPage ∨ f = formToSheet then (s, true)
  else if f = formEmpty then
    let comp := ((quadNs s q).map (·.compress)).getD false
    if comp ∨ tablesFree s > 16 then (tableTake s q formPage wUnmapped, true)
    else sheetReady (dirPut s q (quadWord formSheet (qPin w) (qNs w) 0)) q sh
  else if f = formSheet then sheetReady s q sh
  else (s, false)

/-- What holding a write for want of an overlay does (R256): the quadrangle starts converting to page form if a table
is free above the reserve; with no table the write holds and event 232 is raised. -/
def quadBlocked (s : State) (d : Nat) : State :=
  if tablesFree s > 16 then convToPage s (d / quadTiles) else raise s 232

/-! ## Packing and stripes (R265, R269, R270) -/

/-- Pages of a stripe that carry data. -/
def dataPages (s : State) (st : Stripe) : Nat := if st.overlay.isSome then 1 else (fmtOf s).n - 1

/-- A fragment added to a stripe by the packing rules of R265; none where it does not fit. -/
def pack (s : State) (st : Stripe) (raw : Bool) (packedNs : Bool) (len tile : Nat) (move : Bool) (src : Nat) : Option Stripe :=
  let need := if packedNs then (len + 15) / 16 * 16 else 4096
  let fits := decide (0 < st.pages) && st.packed == packedNs && decide (st.fill + need ≤ 16384)
    && decide (st.cnt < (if packedNs then 28 else 4))
  if fits then
    some { st with frags := st.frags ++ [⟨st.pages - 1, st.fill, len, raw, tile, move, src⟩]
                   fill := st.fill + need, cnt := st.cnt + 1 }
  else if st.pages < dataPages s st then
    some { st with frags := st.frags ++ [⟨st.pages, 0, len, raw, tile, move, src⟩]
                   pages := st.pages + 1, fill := need, cnt := 1, packed := packedNs }
  else none

/-- Is a stripe full, so that it is programmed without padding? -/
def stripeFull (s : State) (st : Stripe) : Bool :=
  st.pages == dataPages s st && (if st.packed then st.cnt == 28 || decide (st.fill + 512 > 16384) else st.cnt == 4)

/-- The stripe of a stream that is being filled: the last one not yet issued. -/
def openStripe (s : State) (st : Stream) (ov : Option Nat) : Option Nat :=
  ((s.atl.stripes.filter fun e => e.2.stream == st && e.2.overlay == ov && !e.2.issued).getLast?).map (·.1)

/-- A fragment is added to the stripe being filled, or to a fresh one. -/
def stripeAdd (s : State) (st : Stream) (ov : Option Nat) (raw packedNs : Bool) (len tile : Nat) (move : Bool) (src : Nat) : State :=
  let fresh : State → State := fun s =>
    let n := s.atl.nextStripe
    let e : Stripe := { stream := st, overlay := ov, first := frameNo s }
    match pack s e raw packedNs len tile move src with
    | none => s
    | some e => atlSet s fun a => { a with nextStripe := n + 1, stripes := tabSet a.stripes n e }
  match openStripe s st ov with
  | none => fresh s
  | some k => match tabGet s.atl.stripes k with
    | none => s
    | some e => match pack s e raw packedNs len tile move src with
      | some e => atlSet s fun a => { a with stripes := tabSet a.stripes k e }
      | none => fresh s

/-- The stream of a tile leaving the write buffer (R268). -/
def tileStream (s : State) (d : Nat) : Stream × Option Nat :=
  let q := d / quadTiles
  if qForm (dirGet s q) = formSheet then
    let v := sheetGet s q (d % quadTiles / sheetTiles s)
    (.overlay, if sOv v then some (sOverlay v) else none)
  else if regBit s AT_MEDIA_STATE 31 then (.flush, none) else (.hot, none)

/-- A tile enters the write buffer (R246, R252): an entry, its word set to 3FDh, its fragment in the stripe its stream
fills. The quadrangle is ready. -/
def enterTile (s : State) (d parcel order : Nat) (raw packedNs : Bool) (image : Bytes) (ack : Bool) : State :=
  match tabFree s.atl.wbuf 0 262144 with
  | none => s
  | some slot =>
    let before := occupancy s
    let w := mapWord s d
    let old := if wDie w = 0x3FD then ((tabGet s.atl.wbuf (wBufSlot w)).map (·.old)).getD wUnmapped else w
    let prev := if wDie w = 0x3FD then (tabGet s.atl.wbuf (wBufSlot w)).map (·.order) else none
    let e : WEnt := { tile := d, parcel := parcel, image := image, raw := raw, ack := ack, old := old,
                      order := min order (prev.getD order) }
    let s := atlSet (wbufSupersede s w) fun a => { a with wbuf := tabSet a.wbuf slot e }
    let s := tilePut s d (wBuffer slot)
    let q := d / quadTiles
    let s := atlSet s fun a => { a with
      wcount := tabModD a.wcount q 0 (· + 1)
      convs := a.convs.map fun c => if c.quad == q then { c with writes := c.writes + 1 } else c }
    let t := tileStream s d
    let s := match t.2 with
      | some o => atlSet s fun a => { a with overlays := tabMod a.overlays o fun v => { v with lastWrite := frameNo s } }
      | none => s
    atBudget (stripeAdd s t.1 t.2 raw packedNs image.length d false slot) before

/-- A tile's word set to 3FFh or 3FEh (R243, R245). -/
def markTile (s : State) (d : Nat) (w : Word) : State :=
  let s := tilePut (wbufSupersede s (mapWord s d)) d w
  atlSet s fun a => { a with wcount := tabModD a.wcount (d / quadTiles) 0 (· + 1) }

/-- The image of a stripe's fragment: from the write buffer or the move buffer. -/
def fragImage (s : State) (f : Frag) : Bytes :=
  if f.move then ((tabGet s.atl.moves f.src).bind (·.image)).getD []
  else ((tabGet s.atl.wbuf f.src).map (·.image)).getD []

/-- Octets placed in a page, the rest zero (R265). -/
def placeAll (s : State) : List Frag → Bytes → Bytes
  | [], d => d
  | f :: t, d =>
    let im := fragImage s f
    placeAll s t (d.take f.off ++ zeros (f.off - d.length) ++ im ++ d.drop (f.off + im.length))

/-- Page `j` of a stripe as it is programmed (R263-R265). -/
def stripePage (s : State) (st : Stripe) (g j : Nat) (kind : Nat) : Page :=
  let fs := st.frags.filter (·.page == j)
  { kind := kind, group := g, seq := st.seq
    dir := fs.map fun f => ⟨f.raw, f.len, f.off, f.tile⟩
    data := let d := placeAll s fs []; d ++ zeros (16384 - d.length) }

/-- The XOR of two pages' data (R267). -/
def xorBytes : Bytes → Bytes → Bytes
  | [], b => b
  | a, [] => a
  | a :: as, b :: bs => (a ^^^ b) :: xorBytes as bs

/-- Kind of a data page (R263). -/
def pageKind (st : Stripe) (j : Nat) : Nat :=
  if st.overlay.isSome then (if j = 0 then 4 else 5)
  else if (st.frags.filter (·.page == j)).any (fun f => !f.raw) then 2 else 1

/-- Member of a group that holds parity (R267). -/
def parityMember (g n : Nat) : Nat := if n = 0 then 0 else g % n

/-- Data page `j`'s member in a group of `n` with serial `g` (R267). -/
def pageMember (g n j : Nat) : Nat := if j < parityMember g n then j else j + 1

/-- The data page that member `m` of a stripe carries; none on the parity member. -/
def memberPage (g n m : Nat) : Option Nat :=
  if m = parityMember g n then none else some (if m < parityMember g n then m else m - 1)

/-- The pages a stripe programs, member by member (R267, R253). -/
def stripePages (s : State) (st : Stripe) (g : Nat) (ms : List (Nat × Nat)) : List (Nat × Nat × Page) :=
  let n := ms.length
  if st.overlay.isSome then
    (List.range n).zip ms |>.map fun m => (m.2.1, m.2.2 * ppb s + st.k, { stripePage s st g 0 1 with kind := 4 + m.1 })
  else
    let data := (List.range (n - 1)).map fun j => stripePage s st g j (pageKind st j)
    let par : Page := { kind := 3, group := g, seq := st.seq, dir := [], data := data.foldl (fun d p => xorBytes d p.data) [] }
    (List.range n).zip ms |>.map fun m =>
      (m.2.1, m.2.2 * ppb s + st.k, match memberPage g n m.1 with
        | none => par
        | some j => data.getD j par)

/-- Operations that a die's PROGRAM queue holds (R325). -/
def progDepth : Nat := 8

/-- Has the PROGRAM queue of every die among these members room, so that the Atlas may offer it a program (R325)? -/
def progRoom (s : State) (ms : List (Nat × Nat)) : Bool :=
  ms.all fun m => decide (((dieGet s m.1).map fun x => x.progQ.length).getD 0 < progDepth)

/-- Members of a list that a stripe programs: those of `need`. -/
def needOf (ms : List (Nat × Nat)) (need : List Nat) : List (Nat × Nat) := need.filterMap fun i => ms[i]?

/-- Every program of an issued stripe is queued to its die in the same frame (R269). -/
def stripeQueue (s : State) (k : Nat) (st : Stripe) : State :=
  st.need.foldl (fun s i => match st.mem[i]? with
    | some m => queueProg s m.1 (.prog k i (m.2 * ppb s + st.k))
    | none => s) s

/-- A stripe is issued to its members (R269): its sequence number, its write-buffer tiles marked, its programs queued. -/
def stripeSend (s : State) (k : Nat) (st : Stripe) (ms : List (Nat × Nat)) (need : List Nat) : State :=
  let st := { st with issued := true, mem := ms, need := need, seq := s.atl.seq }
  let s := atlSet s fun a => { a with seq := a.seq + 1, stripes := tabSet a.stripes k st }
  let s := st.frags.foldl (fun s f => if f.move then s
    else atlSet s fun a => { a with wbuf := tabMod a.wbuf f.src fun e => { e with issued := true } }) s
  stripeQueue s k st

/-- The stream a stripe is programmed in: in SEALED, host data go through the flush reserve (R136, R293). -/
def streamNow (s : State) (st : Stripe) : Stream :=
  if regBit s AT_MEDIA_STATE 31 && st.stream == .hot then .flush else st.stream

/-- Can an overlay's pair take programs: are both dies there and neither block marked as failing (R282)? -/
def overlayGood (s : State) (v : Overlay) : Bool :=
  dieLive s v.primDie && dieLive s v.mirDie && !(blkGet s v.primDie v.primBlk).marked && !(blkGet s v.mirDie v.mirBlk).marked

/-- A stripe is issued, padded if it is not full (R269, R270): it takes the next stripe of its stream's group, or the
next page of its overlay pair. It stays unissued where no group can be formed or a die's queue is full (R325). An overlay
whose pair takes no more programs gives its quadrangle over to page form. The fold stream's stripes are foldIssue's. -/
def stripeIssue (s : State) (k : Nat) : State :=
  match tabGet s.atl.stripes k with
  | none => s
  | some st =>
    if st.issued || st.frags.isEmpty || st.stream == .fold then s
    else match st.overlay with
      | some o => match tabGet s.atl.overlays o with
        | none => s
        | some v =>
          let ms := [(v.primDie, v.primBlk), (v.mirDie, v.mirBlk)]
          if overlayGood s v ∧ v.pages < ppb s then
            if progRoom s ms then
              stripeSend (atlSet s fun a => { a with overlays := tabMod a.overlays o fun v => { v with pages := v.pages + 1 } }) k
                { st with k := v.pages } ms [0, 1]
            else s
          else if !overlayGood s v ∨ regBit s AT_MEDIA_STATE 31 then convToPage s v.quad
          else s
      | none => match openGroup s (streamNow s st) with
        | none => s
        | some (g, t) =>
          let ms := ((tabGet t.atl.groups g).map (·.members)).getD []
          if progRoom t ms then
            let kk := ((tabGet t.atl.groups g).map (·.next)).getD 0
            let t := atlSet t fun a => { a with groups := tabMod a.groups g fun x => { x with next := x.next + 1 } }
            let t := if kk + 1 ≥ ppb t then groupClose t g else t
            stripeSend t k { st with stream := streamNow s st, group := some g, k := kk } ms (List.range ms.length)
          else s

/-! ## Flash content -/

def pageKey (die page : Nat) : Nat := die * 2 ^ 24 + page
def flashGet (s : State) (die page : Nat) : Option Page := tabGet s.fl.pages (pageKey die page)

/-- Octets scrambled, or unscrambled, with the sequence of a codeword (R323). -/
def scramble (die page k : Nat) (d : Bytes) : Bytes :=
  List.zipWith (· ^^^ ·) d ((Config.scrambler die page k d.length ++ zeros d.length).take d.length)

/-- A codeword as the cells hold it (R322, R323): its octets scrambled, then their LDPC parity. -/
def codeword (die page k par : Nat) (d : Bytes) : Bytes :=
  let x := scramble die page k d
  x ++ (Config.ldpcParity k x ++ zeros par).take par

/-- A directory entry as it is stored (R264). -/
def dirWord (e : DirEnt) : Nat := b2n e.raw * 2 ^ 63 + e.len * 2 ^ 50 + e.off * 2 ^ 36 + e.tile

/-- A page header (R263). -/
def pageHeader (p : Page) : Bytes :=
  let d := leBytes 2 p.kind ++ leBytes 1 p.dir.length ++ zeros 1 ++ leBytes 4 p.group ++ leBytes 8 p.seq ++ zeros 16
    ++ (p.dir.map fun e => leBytes 8 (dirWord e)).flatten
  (d ++ zeros 256).take 256

/-- The slot tag of slot `k` (R322): the page's KIND and the RAW tile that starts there, all ones where none does. -/
def slotTag (p : Page) (k : Nat) : Bytes :=
  leBytes 2 p.kind ++ zeros 6 ++ leBytes 8 (match p.dir.find? fun e => e.raw && e.off == 4096 * k && p.kind != 2 with
    | some e => e.tile
    | none => 2 ^ 64 - 1)

/-- The five codewords of a page (R322). -/
def pageCells (die page : Nat) (p : Page) : List Bytes :=
  ((List.range 4).map fun k => codeword die page k 352 (slice p.data (4096 * k) 4096 ++ slotTag p k))
    ++ [codeword die page 4 64 (pageHeader p)]

/-- The 16 KiB that a page's codewords give once decoded (R322, R333). -/
def pageData (die page : Nat) (p : Page) : Bytes :=
  ((List.range 4).map fun k => (scramble die page k ((p.cells.getD k []).take 4112)).take 4096).flatten

/-- A page is programmed: its cells hold its codewords. -/
def flashPut (s : State) (die page : Nat) (p : Page) : State :=
  flSet s fun x => { x with pages := tabSet x.pages (pageKey die page) { p with data := [], cells := pageCells die page p } }

/-- Pages of a block are gone: it is erased. -/
def flashErase (s : State) (die block : Nat) : State :=
  flSet s fun x => { x with pages := x.pages.filter fun e =>
    !(e.1 / 2 ^ 24 == die && e.1 % 2 ^ 24 / ppb s == block) }

/-- A tile's entry in a page, found by R266: by slot tag in a plain page, by directory in a packed one. -/
def pageEnt (p : Page) (slot tile : Nat) : Option DirEnt :=
  p.dir.find? fun e => e.tile == tile && (p.kind == 2 || e.off == 4096 * slot)

/-- The stored image of a tile in a page. -/
def pageTile (die page : Nat) (p : Page) (slot tile : Nat) : Option (Bool × Bytes) :=
  (pageEnt p slot tile).map fun e => (e.raw, slice (pageData die page p) e.off e.len)

/-- Can a page be rebuilt, the other pages of its stripe being readable (R273), or its mirror (R253)? -/
def rebuildable (s : State) (die page : Nat) : Bool :=
  let b := page / ppb s
  match (blkGet s die b).group.bind (tabGet s.atl.groups) with
  | some g => (g.members.filter fun m => m.1 != die).all fun m =>
      dieLive s m.1 && (match flashGet s m.1 (m.2 * ppb s + page % ppb s) with
        | some p => !p.bad
        | none => true)
  | none => match s.atl.overlays.find? fun o => (o.2.primDie == die && o.2.primBlk == b) || (o.2.mirDie == die && o.2.mirBlk == b) with
    | some (_, v) =>
      let m := if v.primDie == die then (v.mirDie, v.mirBlk) else (v.primDie, v.primBlk)
      dieLive s m.1 && (match flashGet s m.1 (m.2 * ppb s + page % ppb s) with
        | some p => !p.bad
        | none => false)
    | none => false

/-- A tile is found unrecoverable (R274, R266): AT_UNRECOVERED and event 230. -/
def tileLost (s : State) : State := raise (regInc s AT_UNRECOVERED) 230

/-! ## Validity (R276, R248) -/

/-- Does device tile `t` resolve to this page (R276)? -/
def fragValid (s : State) (die page t : Nat) : Bool :=
  match mapLookup s t with
  | .flash d p _ => d == die && p == page
  | _ => false

/-- The valid tiles of a block: page and tile. -/
def blockValid (s : State) (die block : Nat) : List (Nat × Nat) :=
  (s.fl.pages.filter fun e => e.1 / 2 ^ 24 == die && e.1 % 2 ^ 24 / ppb s == block).flatMap fun e =>
    (e.2.dir.filter fun f => fragValid s die (e.1 % 2 ^ 24) f.tile).map fun f => (e.1 % 2 ^ 24, f.tile)

/-- Valid tiles of a group, and tiles it holds at all. -/
def groupValid (s : State) (g : Group) : Nat := (g.members.map fun m => (blockValid s m.1 m.2).length).sum
def groupTiles (s : State) (g : Group) : Nat :=
  (g.members.map fun m => ((s.fl.pages.filter fun e =>
    e.1 / 2 ^ 24 == m.1 && e.1 % 2 ^ 24 / ppb s == m.2).map fun e => e.2.dir.length).sum).sum

/-- Is a flash read into a block in flight (R248)? -/
def readInFlight (s : State) (die block : Nat) : Bool :=
  let into := fun (o : FOp) => match o with
    | .read _ _ _ page _ => page / ppb s == block
    | .move _ page => page / ppb s == block
    | _ => false
  match dieGet s die with
  | none => false
  | some x => x.readQ.any into || x.moveQ.any into || (x.run.map into).getD false || x.more.any into

/-- Does a sheet word, or a fold that has not ended, name a block as a base (R248, R255)? -/
def baseNamed (s : State) (die block : Nat) : Bool :=
  (s.atl.sheets.any fun e => e.2.any fun w => sDie w.2 == die && sBlock w.2 == block)
    || s.atl.folds.any fun f => f.die == die && f.block == block

/-- Is a stripe in progress that programs a block? -/
def stripeInto (s : State) (die block : Nat) : Bool := s.atl.stripes.any fun e => e.2.issued && e.2.mem.contains (die, block)

/-- A block no word points into is queued for erase, once (R248), or retired where a program has failed in it (R282) or a second page
of it was uncorrectable (R273). -/
def eraseRelease (s : State) (die block : Nat) : State :=
  let b := blkGet s die block
  if b.role == .data && !b.released && (blockValid s die block).isEmpty && !baseNamed s die block
    && !stripeInto s die block && !readInFlight s die block
    && (match b.group.bind (tabGet s.atl.groups) with
      | some g => g.closed.isSome
      | none => !(s.atl.overlays.any fun o => (o.2.primDie == die && o.2.primBlk == block) || (o.2.mirDie == die && o.2.mirBlk == block))) then
    if b.marked then
      retireBlock (regInc (blkMod s die block fun x => { x with released := true }) AT_PROGRAM_FAILS) die block
    else if 2 ≤ b.uncorr then retireBlock (blkMod s die block fun x => { x with released := true }) die block
    else queueErase (blkMod s die block fun x => { x with released := true }) die (.erase block)
  else s

/-- A sheet is to be folded, once the fold stream takes it (R254, R271). -/
def foldAsk (s : State) (q sh : Nat) : State :=
  if s.atl.foldWait.contains (q, sh) || s.atl.folds.any (fun f => f.quad == q && f.sheet == sh) then s
  else atlSet s fun a => { a with foldWait := a.foldWait ++ [(q, sh)] }

/-- The sheet that has to be folded for tile `d` to move: that of a SHEET quadrangle whose base gives it, since no word of its own
can name a new place (R276). -/
def moveSheet (s : State) (d : Nat) : Option (Nat × Nat) :=
  if qForm (dirGet s (d / quadTiles)) = formSheet then viaBase s d else none

/-- A tile's move starts (R247, R272): the word is captured and the page read queued. A tile of a sheet base moves with its
sheet (R276). -/
def moveStart (s : State) (tile : Nat) : State :=
  match moveSheet s tile with
  | some (q, sh) => foldAsk s q sh
  | none => match mapLookup s tile with
  | .flash d p _ =>
    if s.atl.moves.any (fun m => m.2.tile == tile) then s
    else
      let n := s.atl.nextMove
      let m : Move := { tile := tile, word := mapWord s tile, die := d, page := p }
      queueMove (atlSet s fun a => { a with nextMove := n + 1, moves := tabSet a.moves n m }) d (.move n p)
  | _ => s

end Sys2Proof.Machine
end

