-- ==== Sys2Proof/Machine/Transform.lean ====
section
/-! DEFINITION. The stored image of a tile: the tile format of compression (R375-R377) and the XTS data unit of
encryption (R432, R433), on the way in and on the way out. -/
namespace Sys2Proof.Machine

/-! ## Engine status codes (R359) -/
def esOk : Nat := 0
def esDescriptor : Nat := 1
def esLength : Nat := 2
def esCheck : Nat := 3
def esData : Nat := 4
def esFull : Nat := 5
def esContext : Nat := 6
def esBusy : Nat := 7
def esNoContext : Nat := 8
def esRevoked : Nat := 9
def esDenied : Nat := 10
def esNotEqual : Nat := 11
def esMemory : Nat := 12
def esLimit : Nat := 13

/-- The reflected CRC-32 of one octet more (R375: IEEE 802.3 polynomial). -/
def crcBit : Nat → BitVec 32 → BitVec 32
  | 0, c => c
  | n + 1, c => crcBit n (if c.getLsbD 0 then (c >>> 1) ^^^ 0xEDB88320#32 else c >>> 1)

def crcGo : Bytes → BitVec 32 → BitVec 32
  | [], c => c
  | b :: t, c => crcGo t (crcBit 8 (c ^^^ b.setWidth 32))

/-- CRC-32 of a string of octets. -/
def crc32 (d : Bytes) : Nat := (crcGo d 0xFFFFFFFF#32 ^^^ 0xFFFFFFFF#32).toNat

/-- A tile compressed into the tile format (R375): version, flags, CLEN, CRC-32, the coded octets, at the 250 ns period in the
two-block form of R349; none where 8 + CLEN exceeds 4,032 (R376). `table` is 1 for a dynamic table. -/
def tileFormat (two : Bool) (level table : Nat) (data : Bytes) : Option Bytes :=
  let c := Config.deflate two table level data
  if 8 + c.length > 4032 then none
  else some (1 :: leBytes 1 (b2n (table == 1) + 2 * b2n two) ++ leBytes 2 c.length ++ leBytes 4 (crc32 data) ++ c)

/-- What a tile-format decompression finds (R375, R378, R379). -/
def tileInflate (d : Bytes) : Nat × Bytes × Nat :=
  let clen := leAt d 2 2
  if d.length < 8 ∨ leAt d 0 1 ≠ 1 ∨ bitsOf (leAt d 1 1) 7 2 ≠ 0 then (esData, [], d.length)
  else if d.length < clen + 8 then (esLength, [], d.length)
  else if !(d.drop (8 + clen)).all (· == 0) then (esData, [], d.length)
  else match Config.inflateStream (slice d 8 clen) with
    | none => (esData, [], d.length)
    | some (out, ended, used) =>
      if !ended ∨ used ≠ clen ∨ out.length ≠ 4096 then (esLength, [], d.length)
      else if crc32 out ≠ leAt d 4 4 then (esCheck, [], d.length)
      else (esOk, out, d.length)

/-- A tile-format image decoded, with the status that it gives otherwise (R378). -/
def tileUnformat (im : Bytes) : Option Bytes :=
  let r := tileInflate im
  if r.1 = esOk then some r.2.1 else none

/-- An image padded for encryption: a multiple of 16 octets and at least 512 (R265). -/
def xtsPad (d : Bytes) : Bytes :=
  let n := max 512 ((d.length + 15) / 16 * 16)
  d ++ zeros (n - d.length)

/-- The AES mode number of XTS in Config.aesEnc. -/
def modeXts : Nat := 4

/-- The media key of a namespace, if its slot holds one (R432). -/
def mediaKey (s : State) (n : Ns) : Option Bytes :=
  match n.media.bind (tabGet s.ks.slots) with
  | some k => if k.valid then some k.key else none
  | none => none

/-- The stored image of a tile (R433: compress, then encrypt); whether it is RAW; none where its key is gone. -/
def tileEncode (s : State) (n : Ns) (tile : Nat) (data : Bytes) : Option (Bool × Bytes) :=
  let c := if n.compress then tileFormat (periodNs s == 250) n.effort n.huff data else none
  let raw := c.isNone
  let im := c.getD data
  if n.encrypt then
    (mediaKey s n).map fun k => (raw, Config.aesEnc modeXts k (leBytes 16 tile) (if raw then im else xtsPad im))
  else some (raw, im)

/-- A stored image decrypted, where its namespace encrypts; none where its key is gone. -/
def tileDecrypt (s : State) (n : Ns) (tile : Nat) (im : Bytes) : Option Bytes :=
  if n.encrypt then (mediaKey s n).map fun k => Config.aesDec modeXts k (leBytes 16 tile) im else some im

/-- The content of a stored image (R433: decrypt, then decompress). -/
def tileDecode (s : State) (n : Ns) (tile : Nat) (raw : Bool) (im : Bytes) : Option Bytes :=
  let d := tileDecrypt s n tile im
  if raw then d else d.bind tileUnformat

/-- Every quadrangle of a namespace takes a form and every tile it held becomes invalid (R236). -/
def quadsClear (s : State) (n : Ns) (k form : Nat) : State :=
  let s := n.quads.foldl (fun s q =>
    let w := dirGet s q
    let s := atlSet s fun a => { a with
      tabs := if [formPage, formToSheet, formToPage].contains (qForm w) then tabErase a.tabs (qTable w) else a.tabs
      sheets := tabErase a.sheets q
      overlays := a.overlays.filter fun o => o.2.quad != q
      convs := a.convs.filter (·.quad != q)
      folds := a.folds.filter (·.quad != q), foldWait := a.foldWait.filter (·.1 != q)
      wbuf := a.wbuf.filter fun e => e.2.tile / quadTiles != q || e.2.issued }
    dirPut s q (if form = formFree then 0 else quadWord form (qPin w) k 0)) s
  s

/-- Stripes that are not yet issued lose the fragments of entries that are gone. -/
def stripePrune (s : State) : State :=
  atlSet s fun a => { a with stripes := tabMap a.stripes fun _ st =>
    if st.issued then st else { st with frags := st.frags.filter fun f => f.move || (tabGet a.wbuf f.src).isSome } }

/-- Slices in which a lane that works `rate` octets a nanosecond works off `n` octets (R35). -/
def slicesOf (s : State) (rate n : Nat) : Nat := (n + rate * periodNs s - 1) / (rate * periodNs s)

/-- Compressing a tile: at 250 ns two lanes take half of it each (R347, R349). -/
def compressSteps (s : State) : List (Eng × List Nat) :=
  [(.cz, if periodNs s = 250 then [slicesOf s 8 2048, slicesOf s 8 2048] else [slicesOf s 8 4096])]

/-- Decompressing a tile, counted by its output (R347). -/
def decompressSteps (s : State) : List (Eng × List Nat) := [(.cz, [slicesOf s 16 4096])]

/-- XTS over `n` octets: at 250 ns two lanes, split at the first 16-octet boundary at or after the half (R420). -/
def cipherSteps (s : State) (n : Nat) : List (Eng × List Nat) :=
  let a := (n / 2 + 15) / 16 * 16
  [(.cp, if periodNs s = 250 then [slicesOf s 8 a, slicesOf s 8 (n - a)] else [slicesOf s 8 n])]

/-- The engine steps of a tile read: decryption of its stored octets, then decompression unless it is RAW (R163, R433). -/
def decodeSteps (s : State) (n : Ns) (raw : Bool) (len : Nat) : List (Eng × List Nat) :=
  (if n.encrypt then cipherSteps s len else []) ++ (if n.compress && !raw then decompressSteps s else [])

/-- The engine steps of a tile written, `len` its stored octets (R163, R433). -/
def encodeSteps (s : State) (n : Ns) (len : Nat) : List (Eng × List Nat) :=
  (if n.compress then compressSteps s else []) ++ (if n.encrypt then cipherSteps s len else [])

/-- A transform job of a ticket waits for lanes (R350). -/
def xformAdd (s : State) (i p : Nat) (steps : List (Eng × List Nat)) : State :=
  if steps.isEmpty then s
  else { s with en := { s.en with xjobs := tabSet s.en.xjobs s.en.nextX ⟨i, p, steps⟩, nextX := s.en.nextX + 1 } }

/-- A stage of a ticket's transforms begins, goes on or has passed: its jobs are handed to the engines once, and it has passed
when none of them is left. -/
def xformStage (s : State) (i p : Nat) (st : XStage) (put : XStage → Ticket → Ticket)
    (jobs : List (List (Eng × List Nat))) : Bool × State :=
  match st with
  | .past => (true, s)
  | .running => if tkXform s i then (false, s) else (true, tkMod s i (put .past))
  | .idle =>
    let s := jobs.foldl (fun s j => xformAdd s i p j) s
    if tkXform s i then (false, tkMod s i (put .running)) else (true, tkMod s i (put .past))

/-- Transforms of a namespace. -/
def transforms (n : Ns) : Nat := b2n n.compress + b2n n.encrypt

end Sys2Proof.Machine
end

