-- ==== Sys2Proof/Machine/Engines.lean ====
section
/-! DEFINITION. Chapters 07 and 08, engine jobs: descriptors and results, contexts, the compression and digest engines.
Lanes, arbitration and the cipher engine follow in Cipher.lean. -/
namespace Sys2Proof.Machine

def enMod (s : State) (f : EngSt → EngSt) : State := { s with en := f s.en }
def jobGet (s : State) (j : Nat) : Option Job := tabGet s.en.jobs j
def jobMod (s : State) (j : Nat) (f : Job → Job) : State := enMod s fun e => { e with jobs := tabMod e.jobs j f }

/-- The NVMe status of an engine status that ends a command (R359). -/
def engStatus (n : Nat) : Status :=
  match n with
  | 1 => .invalidField
  | 2 => .lengthMismatch
  | 3 => .dataTransfer
  | 4 => .dataTransfer
  | 5 => .dataTransfer
  | 6 => .engineContextInvalid
  | 7 => .engineContextInvalid
  | 8 => .engineContextInvalid
  | 9 => .keyRevoked
  | 10 => .invalidField
  | 11 => .tagMismatch
  | 12 => .unrecoveredRead
  | 13 => .invalidField
  | _ => .success

/-! ## Descriptor fields (R354, R355) -/

def dByte (j : Job) (o : Nat) : Nat := leAt j.desc o 1
def dOp (j : Job) : Nat := dByte j 0
def dCtx (j : Job) : Nat := leAt j.desc 4 2
def dSrc (j : Job) : Nat := leAt j.desc 16 8
def dDst (j : Job) : Nat := leAt j.desc 24 8
def dSrcLen (j : Job) : Nat := leAt j.desc 32 4
def dDstCap (j : Job) : Nat := leAt j.desc 36 4
def dResult (j : Job) : Nat := leAt j.desc 40 8
def dExpect (j : Job) : Nat := leAt j.desc 48 4
def dLen (j : Job) : Nat := leAt j.desc 24 8
def dOut (j : Job) : Nat := leAt j.desc 48 8
def dKeySlot (j : Job) : Nat := leAt j.desc 14 2
def czWrap (j : Job) : Nat := bitsOf (dByte j 1) 7 6
def czTable (j : Job) : Nat := bitsOf (dByte j 1) 5 4
def czEffort (j : Job) : Nat := bitsOf (dByte j 1) 3 2
def czFlush (j : Job) : Nat := bitsOf (dByte j 1) 1 0
def czStream (j : Job) : Bool := bitOf (dByte j 2) 7
def czCheckEn (j : Job) : Bool := bitOf (dByte j 2) 6
def dgAlg (j : Job) : Nat := bitsOf (dByte j 1) 7 5
def dgHmac (j : Job) : Bool := bitOf (dByte j 1) 4
def dgFinish (j : Job) : Bool := bitOf (dByte j 1) 3
def dgToMem (j : Job) : Bool := bitOf (dByte j 1) 2

/-- A span of addresses with bits [63:44] zero. -/
def addrOk (a : Nat) : Bool := decide (a < 2 ^ 44)

/-- Are `n` octets of the descriptor from `o` on zero? -/
def dZero (j : Job) (o n : Nat) : Bool := leAt j.desc o n == 0

/-! ## Digests (R380, RFC 2104) -/

def dgBlock (alg : Nat) : Nat := [64, 128, 128, 136, 72].getD alg 64
def dgSize (alg : Nat) : Nat := [32, 48, 64, 32, 64].getD alg 32

/-- A digest, cut to its algorithm's size. -/
def digestOf (alg : Nat) (d : Bytes) : Bytes := (Config.digest alg d ++ zeros 64).take (dgSize alg)

/-- HMAC under RFC 2104 (R380). -/
def hmacOf (alg : Nat) (key d : Bytes) : Bytes :=
  let b := dgBlock alg
  let k := if b < key.length then digestOf alg key else key
  let k := k ++ zeros (b - k.length)
  digestOf alg (k.map (· ^^^ 0x5C) ++ digestOf alg (k.map (· ^^^ 0x36) ++ d))

/-- Longest message of an algorithm in octets (R381). -/
def dgLimit (alg : Nat) : Nat := if alg = 0 then 2 ^ 61 - 1 else if alg ≤ 2 then 2 ^ 125 - 1 else 2 ^ 128 - 1

/-! ## Key slots as jobs see them (R403, R414) -/

/-- May a job use a slot: empty gives KEY_REVOKED, ALG, USES or owner that do not permit it KEY_DENIED (R414). -/
def keyCheck (s : State) (parcel : Option Nat) (slot use : Nat) (algs : List Nat) : Nat :=
  match tabGet s.ks.slots slot with
  | none => esRevoked
  | some k =>
    if !k.valid then esRevoked
    else if !bitOf k.uses use || !algs.contains k.alg then esDenied
    else match parcel with
      | none => if k.device then esOk else esDenied
      | some p => if !k.device && k.owner == p then esOk else esDenied

/-- The captured key of a slot (R410). -/
def capture (s : State) (slot : Nat) : Option Capture := (tabGet s.ks.slots slot).map fun k => ⟨slot, k.edition, k.key⟩

/-! ## Contexts (R361-R365) -/

/-- Does a job own a context (R364)? -/
def ownsCtx (j : Job) (parcel : Option Nat) (ed : Nat) : Bool :=
  parcel == j.parcel && (j.parcel.isNone || ed == j.pEdition)

def czQuota (s : State) : Nat := min 512 (regFld s CZ_CTX_QUOTA 9 0)
def dgQuota (s : State) : Nat := min 254 (regFld s DG_CTX_QUOTA 8 0)

/-- The context an open of the compression engine takes, or its status (R363, R365). -/
def czOpenTarget (s : State) (j : Job) : Nat × Option Nat :=
  match tabGet s.en.cz (dCtx j) with
  | some c => (if c.st = .invalid then esContext else esBusy, none)
  | none =>
    let full := j.parcel.isSome && decide (czQuota s ≤ tabCount s.en.cz fun c => c.parcel == j.parcel)
    let t := if dCtx j = 0xFFFF then tabFree s.en.cz 0 512 else some (dCtx j)
    if full ∨ t.isNone then (esNoContext, none) else (esOk, t)

def dgOpenTarget (s : State) (j : Job) : Nat × Option Nat :=
  match tabGet s.en.dg (dCtx j) with
  | some c => (match c.st with
    | .invalid => esContext
    | .revoked => esRevoked
    | _ => esBusy, none)
  | none =>
    let full := j.parcel.isSome && decide (dgQuota s ≤ tabCount s.en.dg fun c => c.parcel == j.parcel)
    let t := if dCtx j = 0xFFFF then tabFree s.en.dg 2 254 else some (dCtx j)
    if full ∨ t.isNone then (esNoContext, none) else (esOk, t)

/-- The context check of a job that uses context `c` (R364, R365). -/
def czUse (s : State) (j : Job) (close : Bool) : Nat :=
  match tabGet s.en.cz (dCtx j) with
  | none => esContext
  | some c =>
    if c.st = .invalid then (if close && c.parcel == j.parcel then esOk else esContext)
    else if ownsCtx j c.parcel c.pEdition then esOk else esContext

def dgUse (s : State) (j : Job) (close : Bool) : Nat :=
  match tabGet s.en.dg (dCtx j) with
  | none => esContext
  | some c => match c.st with
    | .invalid => if close && c.parcel == j.parcel then esOk else esContext
    | .revoked => if close && c.parcel == j.parcel then esOk else esRevoked
    | _ =>
      if !ownsCtx j c.parcel c.pEdition then esContext
      else if !close && c.tap && !(dLen j == 0 && dgFinish j) then esBusy
      else esOk

/-! ## Checks at job start (R360) -/

def firstErr : List Nat → Nat
  | [] => esOk
  | e :: t => if e = esOk then firstErr t else e

def bad (b : Bool) (e : Nat) : Nat := if b then e else esOk

/-- Fields of a compression descriptor (R354, R379). A stream-format open or close needs STREAM; a tile is 4,096 octets
(DEDUCED, log 42). -/
def czFields (j : Job) : Bool :=
  let op := dOp j
  (1 ≤ op && op ≤ 4) && czTable j < 2 && bitsOf (dByte j 2) 5 0 == 0 && dZero j 3 1 && bitsOf (leAt j.desc 10 2) 15 14 == 0
    && dZero j 13 3 && addrOk (dSrc j) && addrOk (dDst j) && addrOk (dResult j) && dZero j 52 12
    && (czStream j || op ≤ 2) && (!czStream j || czWrap j != 3)
    && (dCtx j < 512 || (op == 3 && dCtx j == 0xFFFF) || !czStream j)
    && dDstCap j ≤ 16777216 && (op != 1 || dSrcLen j != 0 || czFlush j != 0)
    && (op != 1 || czWrap j != 3 || dSrcLen j == 4096)

def czCheck (s : State) (j : Job) : Nat :=
  firstErr [bad (!czFields j) esDescriptor,
    match dOp j with
    | 3 => (czOpenTarget s j).1
    | 4 => czUse s j true
    | _ => if czStream j then czUse s j false else esOk,
    bad (16777216 < dSrcLen j) esDescriptor]

/-- Fields of a digest descriptor (R355). -/
def dgFields (s : State) (j : Job) : Bool :=
  let op := dOp j
  let keyed := ((tabGet s.en.dg (dCtx j)).map (·.hmac)).getD false
  (1 ≤ op && op ≤ 3) && bitsOf (dByte j 1) 1 0 == 0 && dZero j 2 2 && bitsOf (leAt j.desc 10 2) 15 14 == 0
    && addrOk (dSrc j) && addrOk (dResult j) && dZero j 32 8 && addrOk (dOut j) && dZero j 56 8
    && dgAlg j ≤ 4 && (op == 1 || !dgHmac j) && (op == 2 || !dgFinish j)
    && ((2 ≤ dCtx j && dCtx j < 256) || (op == 1 && dCtx j == 0xFFFF))
    && (!(op == 1 && dgHmac j) || dKeySlot j < 4096)
    && (!(op == 2 && dgFinish j && keyed) ||
      (16 ≤ dByte j 13 && dByte j 13 ≤ dgSize ((tabGetD s.en.dg (dCtx j) {}).alg)))

def dgCheck (s : State) (j : Job) : Nat :=
  let c := tabGetD s.en.dg (dCtx j) {}
  let fed := if c.st = .finished then 0 else c.data.length
  firstErr [bad (!dgFields s j) esDescriptor,
    match dOp j with
    | 1 => (dgOpenTarget s j).1
    | 3 => dgUse s j true
    | _ => dgUse s j false,
    if dOp j = 1 ∧ dgHmac j then keyCheck s j.parcel (dKeySlot j) 6 [4 + dgAlg j] else esOk,
    bad (dOp j == 2 && 2 ^ 32 < dLen j) esDescriptor,
    bad (dOp j == 2 && dgLimit c.alg < fed + dLen j) esLimit]

/-! ## Records (R357, R358) -/

/-- The result record of a job (R357, R575); the cipher's differs (R425). -/
def jobRecord (j : Job) : Bytes :=
  match j.eng with
  | .cp => [BitVec.ofNat 8 j.status, 3] ++ leBytes 2 0xFFFF ++ leBytes 2 j.ticket ++ leBytes 1 j.tEdition ++ leBytes 1 j.flags
      ++ leBytes 8 j.produced ++ (j.iv ++ zeros (16 - j.iv.length)).take 16
  | e => [BitVec.ofNat 8 j.status, if e = .cz then 1 else if e = .dg then 2 else 4] ++ leBytes 2 j.ctx ++ leBytes 2 j.ticket ++ leBytes 1 j.tEdition
      ++ leBytes 1 j.flags ++ leBytes 8 j.consumed ++ leBytes 8 j.produced ++ leBytes 4 j.aux0 ++ leBytes 4 j.aux1

/-- An engine as it writes for a job (R625, R643): HOLDER is the engine job; a device job has no parcel, and its PARCEL reads all ones. -/
def jobWriter (j : Job) : Writer :=
  ⟨match j.eng with
    | .cz => 4
    | .dg => 5
    | .cp => 5
    | .gz => 6, tagBits (j.parcel.getD 0x3FF) j.pEdition 3 0 0⟩

/-- A job's work has ended with a status; its record is due. -/
def jobDone (s : State) (j st : Nat) : State := jobMod s j fun x => { x with phase := .done, status := st }

/-! ## Compression (R367-R379) -/

/-- The Adler-32 of some octets (RFC 1950). -/
def adler32 (d : Bytes) : Nat :=
  let r := d.foldl (fun (a : Nat × Nat) b => let x := (a.1 + b.toNat) % 65521; (x, (a.2 + x) % 65521)) (1, 0)
  r.2 * 65536 + r.1

/-- `n` octets of a number, most significant first. -/
def beBytes (n v : Nat) : Bytes := (leBytes n v).reverse

/-- The header a wrapper writes at the start of a stream (R370). -/
def wrapHeader (wrap effort : Nat) : Bytes :=
  match wrap with
  | 1 => [0x78, [0x01, 0x5E, 0x9C, 0xDA].getD effort 0x01]
  | 2 => [0x1F, 0x8B, 0x08, 0, 0, 0, 0, 0, [4, 0, 0, 2].getD effort 0, 0xFF]
  | _ => []

/-- The trailer a wrapper writes at finish (R370). -/
def wrapTrailer (wrap : Nat) (orig : Bytes) : Bytes :=
  match wrap with
  | 1 => beBytes 4 (adler32 orig)
  | 2 => leBytes 4 (crc32 orig) ++ leBytes 4 (orig.length % 2 ^ 32)
  | _ => []

/-- The longest output of a compression of `n` octets with `f` flushes (R371). -/
def deflateBound (n f : Nat) : Nat := n + 5 * ((n + 16383) / 16384) + 18 + 5 * f

/-- The octets a compress job delivers (R367-R371): those of its stream's last part, and the wrapper's; with the `done` octets
delivered before they keep the bound of R371. -/
def compressOut (j : Job) (parts : List (Nat × Bytes)) (orig inp : Bytes) (done : Nat) : Bytes :=
  let body := Config.deflateStream (czTable j * 4 + czEffort j) (parts ++ [(czFlush j, inp)])
  let head := if parts.isEmpty then wrapHeader (czWrap j) (czEffort j) else []
  let tail := if czFlush j = 3 then wrapTrailer (czWrap j) (orig ++ inp) else []
  let out := head ++ body ++ tail
  let flushes := ((parts.map (·.1) ++ [czFlush j]).filter (· != 0)).length
  let lim := deflateBound (orig.length + inp.length) flushes - done
  if lim < out.length then head ++ body.take (lim - head.length - tail.length) ++ tail else out

/-- The octets up to and with the next zero. -/
def skipZero : Bytes → Nat → Option Nat
  | [], _ => none
  | b :: t, n => if b = 0 then some (n + 1) else skipZero t (n + 1)

/-- Length of a gzip header with its optional fields, or none where it is malformed (R372); more than there is of the stream where
the header is not all there. -/
def gzipHeader (d : Bytes) : Option Nat :=
  let flg := leAt d 3 1
  let more := d.length + 1
  if d.take 3 ≠ ([0x1F, 0x8B, 8] : Bytes).take d.length ∨ bitsOf flg 7 5 ≠ 0 then none
  else if d.length < 10 then some more
  else
    let text := fun (n : Nat) => ((skipZero (d.drop n) 0).map (n + ·)).getD more
    let n := if bitOf flg 2 then 12 + leAt d 10 2 else 10
    let n := if bitOf flg 3 then text n else n
    let n := if bitOf flg 4 then text n else n
    if !bitOf flg 1 then some n
    else if d.length < n + 2 then some more
    else if leAt d n 2 = crc32 (d.take n) % 65536 then some (n + 2) else none

/-- The header of a wrapper in a compressed stream (R372): its length, more than there is of the stream where it is not all there;
none where it is malformed. -/
def wrapParse (wrap : Nat) (d : Bytes) : Option Nat :=
  match wrap with
  | 1 => if d.length < 2 then some 2 else if bitsOf (leAt d 0 1) 3 0 = 8 ∧ bitsOf (leAt d 0 1) 7 4 ≤ 7 ∧ !bitOf (leAt d 1 1) 5
      ∧ (leAt d 0 1 * 256 + leAt d 1 1) % 31 = 0 then some 2 else none
  | 2 => gzipHeader d
  | _ => some 0

/-- Octets of a wrapper's trailer. -/
def trailerLen (wrap : Nat) : Nat := if wrap = 1 then 4 else if wrap = 2 then 8 else 0

/-- Does the trailer of a stream agree with its output (R374)? -/
def trailerOk (wrap : Nat) (t out : Bytes) : Bool :=
  match wrap with
  | 1 => t.take 4 == beBytes 4 (adler32 out)
  | 2 => leAt t 0 4 == crc32 out && leAt t 4 4 == out.length % 2 ^ 32
  | _ => true

/-- What a decompression finds: its status, the output so far, and the octets of its stream it consumed. -/
def inflateAll (j : Job) (d : Bytes) : Nat × Bytes × Nat :=
  match wrapParse (czWrap j) d with
  | none => (esData, [], d.length)
  | some h =>
    if d.length < h then (if czFlush j = 3 then esLength else esOk, [], d.length)
    else match Config.inflateStream (d.drop h) with
    | none => (esData, [], d.length)
    | some (out, ended, used) =>
      let e := h + used + trailerLen (czWrap j)
      let fin := ended && decide (e ≤ d.length)
      if czFlush j = 3 then
        if !fin then (esLength, out, d.length)
        else if e < d.length then (esLength, out, e)
        else if !trailerOk (czWrap j) (d.drop (h + used)) out
          || (czWrap j == 0 && czCheckEn j && crc32 out != dExpect j) then (esCheck, out, e)
        else (esOk, out, e)
      else if fin then (esLength, out, e)
      else (esOk, out, d.length)

/-- The stream a job continues. -/
def czGet (s : State) (j : Job) : CzCtx := if czStream j then tabGetD s.en.cz (dCtx j) {} else {}
def czMod (s : State) (c : Nat) (f : CzCtx → CzCtx) : State := enMod s fun e => { e with cz := tabMod e.cz c f }

/-- Is the history window of a stream not empty (R352)? A full flush empties that of a compression (R369). -/
def hasHistory (c : CzCtx) : Bool :=
  if c.parts.isEmpty then c.orig != [] else (c.parts.reverse.takeWhile fun p => p.1 != 2).any fun p => p.2 != []

/-- A finished record's check values over original octets (R357). -/
def sums (x : Job) (d : Bytes) : Job := { x with aux0 := crc32 d, aux1 := adler32 d }

/-- A compress job whose input is all read ends (R367-R371, R375, R376). -/
def compressEnd (s : State) (n : Nat) (j : Job) : State :=
  let c := czGet s j
  let tile := tileFormat (periodNs s == 250) (czEffort j + 1) (czTable j) j.input
  let out := if czWrap j = 3 then tile.getD j.input else compressOut j c.parts c.orig j.input c.out
  let raw := czWrap j = 3 ∧ tile.isNone
  let s := if raw then regInc s CZ_RAW_TILES else s
  if dDstCap j < out.length then
    let st := Config.inflateStop out (dDstCap j)
    let k := min st.1 (dSrcLen j)
    let m := min st.2 (dDstCap j)
    let r := octetsOut s (jobWriter j) (dDst j) (out.take m)
    let s := if czStream j then czMod r.1 (dCtx j) fun c =>
      { c with parts := c.parts ++ [(0, j.input.take k)], orig := c.orig ++ j.input.take k, out := c.out + m } else r.1
    jobDone (jobMod s n fun x => sums { x with consumed := k, produced := m } (c.orig ++ j.input.take k)) n esFull
  else
    let all := c.orig ++ j.input
    let r := octetsOut s (jobWriter j) (dDst j) out
    let s := if czStream j then czMod r.1 (dCtx j) fun c =>
      if czFlush j = 3 then { c with parts := [], orig := [], input := [], out := 0 }
      else { c with parts := c.parts ++ [(czFlush j, j.input)], orig := all, out := c.out + out.length } else r.1
    if r.2 then
      jobDone (jobMod s n fun x => sums { x with consumed := dSrcLen j, produced := out.length, flags := b2n raw } all) n esOk
    else jobDone (jobMod s n fun x => sums { x with consumed := dSrcLen j } all) n esMemory

/-- A decompress job ends (R372-R374, R378, R379). -/
def decompressEnd (s : State) (n : Nat) (j : Job) : State :=
  let c := czGet s j
  let d := c.input ++ j.input
  let r := if czWrap j = 3 then tileInflate d else inflateAll j d
  let new := r.2.1.drop c.out
  if dDstCap j < new.length then
    let st := Config.inflateStop d (c.out + dDstCap j)
    let k := min (st.1 - c.input.length) j.input.length
    let m := min (st.2 - c.out) (dDstCap j)
    let w := octetsOut s (jobWriter j) (dDst j) (new.take m)
    let s := if czStream j then czMod w.1 (dCtx j) fun c =>
      { c with input := c.input ++ j.input.take k, out := c.out + m, orig := (r.2.1).take (c.out + m) } else w.1
    jobDone (jobMod s n fun x => sums { x with consumed := k, produced := m } ((r.2.1).take (c.out + m))) n esFull
  else
    let w := octetsOut s (jobWriter j) (dDst j) new
    let s := if czStream j then czMod w.1 (dCtx j) fun c =>
      if czFlush j = 3 then { c with input := [], out := 0, orig := [] }
      else { c with input := d, out := c.out + new.length, orig := r.2.1 } else w.1
    let s := if r.1 = esData then regInc s CZ_DATA_INVALID else s
    jobDone (jobMod s n fun x => sums { x with consumed := r.2.2 - c.input.length, produced := new.length } r.2.1) n
      (if w.2 then r.1 else esMemory)

/-- An open of a compression context takes effect (R363, R365). -/
def czOpen (s : State) (n : Nat) (j : Job) : State :=
  match (czOpenTarget s j).2 with
  | none => jobDone s n esNoContext
  | some c =>
    let s := enMod s fun e => { e with cz := tabSet e.cz c { parcel := j.parcel, pEdition := j.pEdition } }
    jobDone (jobMod s n fun x => sums { x with ctx := c } []) n esOk

/-- A close frees the context and zeroizes it (R365). -/
def czClose (s : State) (n : Nat) (j : Job) : State :=
  let orig := (czGet s j).orig
  jobDone (jobMod (enMod s fun e => { e with cz := tabErase e.cz (dCtx j) }) n fun x => sums x orig) n esOk

/-! ## Digest contexts (R365, R381-R386) -/

def dgMod (s : State) (c : Nat) (f : DgCtx → DgCtx) : State := enMod s fun e => { e with dg := tabMod e.dg c f }

/-- Data reach a context (R365, R386): a FINISHED one restarts silently, an excess over its declared length makes it
INVALID. Answers how many octets it took and whether it is still in use. -/
def dgFeed (s : State) (c : Nat) (d : Bytes) (tapFed : Bool) : State × Nat × Bool :=
  match tabGet s.en.dg c with
  | none => (s, 0, false)
  | some x =>
    if x.st = .invalid ∨ x.st = .revoked then (s, 0, false)
    else if d = [] then (s, 0, true)
    else
      let s := if x.st = .finished then
          let s := regInc (dgMod s c fun x => { x with st := .opened, data := [], result := [], restarts := x.restarts + 1, restarted := true })
            DG_RESTART_COUNT
          if tapFed then raise s 352 else s
        else s
      let x := tabGetD s.en.dg c {}
      if x.declared ≠ 0 ∧ x.declared < x.data.length + d.length then
        let k := x.declared - x.data.length
        (dgMod s c fun x => { x with st := .invalid, data := [], result := [], cap := none }, k, false)
      else (dgMod s c fun x => { x with data := x.data ++ d }, d.length, true)

/-- The MAC or digest of a context's octets. -/
def dgValue (c : DgCtx) : Bytes :=
  if c.hmac then hmacOf c.alg ((c.cap.map (·.key)).getD []) c.data else digestOf c.alg c.data

/-- A finish delivers the result (R382, R384). -/
def dgDeliver (s : State) (n : Nat) (j : Job) : State :=
  let ci := dCtx j
  let c := tabGetD s.en.dg ci {}
  if c.declared ≠ 0 ∧ c.data.length < c.declared then jobDone s n esLength
  else
    let v := dgValue c
    let s := jobMod s n fun x => { x with flags := 2 * b2n c.restarted, aux1 := min c.restarts (2 ^ 32 - 1) }
    let s := dgMod s ci fun c => { c with st := .finished, result := if c.hmac then [] else v, restarted := false }
    if c.hmac then
      let r := octetsIn s (dOut j) (dByte j 13) 5
      match r.2 with
      | none => jobDone r.1 n esMemory
      | some e => if e = v.take (dByte j 13) then jobDone r.1 n esOk
        else jobDone (regInc r.1 DG_NOT_EQUAL_COUNT) n esNotEqual
    else if dgToMem j then
      let r := octetsOut s (jobWriter j) (dOut j) v
      jobDone (jobMod r.1 n fun x => { x with produced := if r.2 then v.length else 0 }) n (if r.2 then esOk else esMemory)
    else jobDone s n esOk

/-- An update whose data are all fed (R365, R379). -/
def updateEnd (s : State) (n : Nat) (j : Job) : State :=
  let c := tabGetD s.en.dg (dCtx j) {}
  let s := jobMod s n fun x => { x with consumed := dLen j, aux1 := min c.restarts (2 ^ 32 - 1), flags := 2 * b2n c.restarted }
  if dgFinish j then dgDeliver s n j else jobDone s n esOk

/-- An open of a digest context (R363, R365, R383). -/
def dgOpen (s : State) (n : Nat) (j : Job) : State :=
  match (dgOpenTarget s j).2 with
  | none => jobDone s n esNoContext
  | some c =>
    let x : DgCtx := { parcel := j.parcel, pEdition := j.pEdition, alg := dgAlg j, hmac := dgHmac j, declared := dLen j
                       cap := if dgHmac j then capture s (dKeySlot j) else none }
    jobDone (jobMod (enMod s fun e => { e with dg := tabSet e.dg c x }) n fun x => { x with ctx := c }) n esOk

/-- Is a context fed by a namespace tap that still stands? -/
def ctxTapped (s : State) (c : Nat) : Bool := s.en.taps.any fun e => e.2.ctx == c

/-- A tap is gone: its context is no longer fed by it. -/
def tapGone (s : State) (t : Nat) : State :=
  match tabGet s.en.taps t with
  | none => s
  | some x =>
    let s := enMod s fun e => { e with taps := tabErase e.taps t }
    if ctxTapped s x.ctx then s else dgMod s x.ctx fun c => { c with tap := false }

/-- A close of a digest context (R365). The taps that feed it stop and their EN clears. DESIGN CHOICE, log 73: R365 says so of a
context that becomes INVALID. -/
def dgClose (s : State) (n : Nat) (j : Job) : State :=
  let s := (tabKeys s.en.taps fun x => x.ctx == dCtx j).foldl (fun s t => tapGone (regPutBit s (DG_NS_TAP t) 31 false) t) s
  jobDone (enMod s fun e => { e with dg := tabErase e.dg (dCtx j) }) n esOk

/-- DG_RESULT register `k` of context `c` (R397). -/
def dgResult (s : State) (c k : Nat) : Nat :=
  match tabGet s.en.dg c with
  | some x => if x.st = .finished ∧ !x.hmac then leAt x.result (4 * k) 4 else 0
  | none => 0

/-- DG_CTX_STATUS (R398). -/
def dgStatus (s : State) (c : Nat) : Nat :=
  match tabGet s.en.dg c with
  | none => 0
  | some x =>
    let st := match x.st with
      | .opened => 1
      | .finished => 2
      | .invalid => 3
      | .revoked => 4
    st * 2 ^ 29 + x.alg % 8 * 2 ^ 26 + b2n x.hmac * 2 ^ 25 + b2n x.tap * 2 ^ 24 + b2n x.parcel.isNone * 2 ^ 23
      + x.parcel.getD 0 % 1024 * 2 ^ 13 + min x.restarts 8191

end Sys2Proof.Machine
end

