-- ==== Sys2Proof/Machine/Firmware.lean ====
section
/-! DEFINITION. Chapter 08, the firmware flash: image slots, their verification, the boot record and the boot
configuration (R20, R440-R445, R726, R727). -/
namespace Sys2Proof.Machine

/-- The octets of a slot, 1 or 2: as last written, or as delivered (Config.vault 7 and 8). -/
def fwSlot (s : State) (k : Nat) : Bytes := (tabGet s.pw.fw k).getD (Config.vault (6 + k))

/-- Octets are written into a slot at an offset; the slot holds up to 32 MiB (R440). -/
def fwPut (s : State) (k off : Nat) (d : Bytes) : State :=
  let b := fwSlot s k
  let b := b.take off ++ zeros (off - b.length) ++ d ++ b.drop (off + d.length)
  { s with pw := { s.pw with fw := tabSet s.pw.fw k b } }

/-- The slot that is not running (R444); slot 1 in recovery. -/
def fwOther (s : State) : Nat := if s.pw.running = 1 then 2 else 1

/-- Header fields of an image (R440). -/
def fwSvn (d : Bytes) : Nat := leAt d 6 2
def fwLength (d : Bytes) : Nat := leAt d 8 8
def fwKeygen (d : Bytes) : Nat := leAt d 16 1
def fwVersion (d : Bytes) : Bytes := slice d 24 8

/-- Generations fused as revoked, and the fused hash of a generation's keys (Config.vault 20 and 16 to 19). -/
def fwRevoked : Nat := leNat (Config.vault 20) % 16
def fwKeyHash (g : Nat) : Bytes := Config.vault (16 + g)

/-- The boot ROM's verification of a slot, every step of R441. -/
def slotValid (s : State) (k : Nat) : Bool :=
  let d := fwSlot s k
  let n := fwLength d
  let body := d.take n
  let keys := slice d 32 2048
  slice d 0 4 == [0x53, 0x56, 0x39, 0x36] && leAt d 4 2 == 1
    && decide (2080 ≤ n) && decide (n + 3405 ≤ d.length) && decide (d.length ≤ 33554432)
    && decide (fwKeygen d ≤ 3) && digestOf 1 keys == fwKeyHash (fwKeygen d) && !bitOf fwRevoked (fwKeygen d)
    && Config.verify 0 (slice d 32 96) (digestOf 1 body) (slice d n 96)
    && Config.verify 1 (slice d 128 1952) (digestOf 2 body) (slice d (n + 96) 3309)
    && decide (s.ks.fuses ≤ fwSvn d)

/-- A slot's header and body are loaded through the boot taps (R387, R441): contexts 0 and 1, SHA-384 and SHA-512, opened at the
first load, are fed every octet and finished. -/
def bootTap (s : State) (k : Nat) : State :=
  let d := (fwSlot s k).take (fwLength (fwSlot s k))
  [(0, 1), (1, 2)].foldl (fun s c =>
    let s := if (tabGet s.en.dg c.1).isSome then s else enMod s fun e => { e with dg := tabSet e.dg c.1 { alg := c.2 } }
    dgMod (dgFeed s c.1 d true).1 c.1 fun x => { x with st := .finished, result := digestOf x.alg x.data, restarted := false }) s

/-- The boot measurement that a context holds (R387, R449). -/
def bootDigest (s : State) (c : Nat) : Bytes := ((tabGet s.en.dg c).map (·.result)).getD []

/-- The slots in the order in which the boot ROM tries them (R442). -/
def slotOrder (s : State) : List Nat := if s.pw.next = some 2 then [2, 1] else [1, 2]

/-- The slot that boots, and whether it was the second tried (R442); none is recovery (R443). -/
def bootSlot (s : State) : Option (Nat × Bool) :=
  match slotOrder s with
  | [a, b] => if slotValid s a then some (a, false) else if slotValid s b then some (b, true) else none
  | _ => none

/-- What the boot ROM loads: the slot tried first, and the other where that one is not valid (R442). -/
def bootLoad (s : State) : State :=
  match slotOrder s with
  | [a, b] => let t := bootTap s a; if slotValid s a then t else bootTap t b
  | _ => s

/-- The boot configuration block of the running image (R20, R440). -/
def imageConfig (s : State) : Bytes :=
  let d := fwSlot s s.pw.running
  slice d (leAt d 20 4) 4096

/-- A field of the boot configuration in use: the override's where one is used (R727), else the image's; an override whose
MAC fails holds no valid values. V_MIN is not among an override's fields. -/
def bootField (s : State) (overOk : Bool) (n : Nat) : Option Nat :=
  match s.pw.overrd with
  | none => Config.bootField (imageConfig s) n
  | some fs => if n = 5 then Config.bootField (imageConfig s) 5 else if overOk then fs[n]? else none

/-- A field's value where it is valid for the field, below `lim` (R21, R94). -/
def bootValue (s : State) (overOk : Bool) (n lim : Nat) : Option Nat :=
  (bootField s overOk n).bind fun v => if v < lim then some v else none

end Sys2Proof.Machine
end

