-- ==== Sys2Proof/Machine/Cipher.lean ====
section
/-! DEFINITION. Chapters 07 and 08: the cipher engine, the slices and lanes of the compression, digest and cipher engines,
the ends of their jobs, and the snoop taps of namespaces. -/
namespace Sys2Proof.Machine

/-! ## Cipher descriptors (R423, R424, R427) -/

def cpMode (j : Job) : Nat := bitsOf (dByte j 1) 7 5
def cpIvGen (j : Job) : Bool := bitOf (dByte j 1) 4
def cpKey (j : Job) : Nat := leAt j.desc 2 2
def cpTag (j : Job) : Nat := dByte j 13
def cpAad (j : Job) : Nat := leAt j.desc 14 2
def cpLen (j : Job) : Nat := leAt j.desc 32 8
def cpIv (j : Job) : Bytes := slice j.desc 48 16
def cpUnit (j : Job) : Nat := leAt j.desc 56 4
def cpUnitNo (j : Job) : Nat := leAt j.desc 48 8
def modeGcm : Nat := 4

def cpFields (j : Job) : Bool :=
  let op := dOp j
  let m := cpMode j
  (1 ≤ op && op ≤ 5) && m ≤ 5 && bitsOf (dByte j 1) 3 0 == 0 && cpKey j < 4096 && dCtx j == 0xFFFF
    && bitsOf (leAt j.desc 10 2) 15 14 == 0 && addrOk (dSrc j) && addrOk (dDst j) && addrOk (dResult j)
    && (m == modeGcm || (cpTag j == 0 && cpAad j == 0)) && (m != modeGcm || (12 ≤ cpTag j && cpTag j ≤ 16))
    && (!cpIvGen j || (m == modeGcm && op == 1)) && ((op != 3 && op != 4) || m == modeGcm)
    && (decide (op = 5) == decide (m = 5)) && (op != 5 || j.parcel.isNone)
    && ((m != 3 && m != modeGcm) || dZero j 60 4)

/-- The use and algorithms a cipher job needs of its slot (R403). -/
def cpKeyCheck (s : State) (j : Job) : Nat :=
  let u := if cpMode j = modeGcm then (if dOp j = 1 then 2 else 3) else if dOp j = 5 then 5 else if dOp j = 1 then 0 else 1
  keyCheck s j.parcel (cpKey j) u (if cpMode j = 3 then [2, 3] else [0, 1])

/-- The tag that stands behind the text (R424). -/
def cpSrcTag (s : State) (j : Job) : Bytes := memRead s (dSrc j + cpAad j + cpLen j) (cpTag j)

/-- The verified entry a GCM decrypt-after-verify job matches (R431). -/
def verifiedFor (s : State) (j : Job) : Option Verified :=
  s.en.verified.find? fun v =>
    v.slot == cpKey j && v.edition == ((tabGet s.ks.slots (cpKey j)).map (·.edition)).getD 0 && v.iv == (cpIv j).take 12
      && v.aadLen == cpAad j && v.len == cpLen j && v.src == dSrc j && v.tag == cpSrcTag s j
      && decide (frameNo s ≤ v.frame + 1048576)

/-- Length limits (R427). -/
def cpLengths (s : State) (j : Job) : Nat :=
  let n := cpLen j
  match cpMode j with
  | 0 => bad (!(n % 16 == 0 && 16 ≤ n && n ≤ 2 ^ 36)) esDescriptor
  | 1 => bad (!(1 ≤ n && n ≤ 2 ^ 36) || leNat ((cpIv j).drop 12).reverse + (n + 15) / 16 - 1 > 2 ^ 32 - 1) esLimit
  | 2 => bad (!(1 ≤ n && n ≤ 2 ^ 36)) esDescriptor
  | 3 => bad (!(cpUnit j % 16 == 0 && 512 ≤ cpUnit j && cpUnit j ≤ 16777216) || n % max 1 (cpUnit j) != 0) esDescriptor
  | 4 =>
    if dOp j = 2 then bad (16777216 < n) esLimit
    else if dOp j = 4 then bad (2 ^ 36 - 32 < n || (verifiedFor s j).isNone) esDescriptor
    else bad (2 ^ 36 - 32 < n) esLimit
  | _ => esOk

def cpCheck (s : State) (j : Job) : Nat :=
  firstErr [bad (!cpFields j) esDescriptor, cpKeyCheck s j, cpLengths s j]

/-- Octets a cipher job counts against its lane (R418: AAD, text and tag alike). -/
def cpTotal (j : Job) : Nat := if cpMode j = modeGcm then cpAad j + cpLen j + cpTag j else cpLen j

/-! ## Modes -/

/-- XTS of successive data units, each under its number (R427). -/
def xtsUnits (enc : Bool) (key : Bytes) (unit no : Nat) : Nat → Bytes → Bytes
  | 0, _ => []
  | fuel + 1, d =>
    if d = [] then []
    else
      let u := d.take unit
      (if enc then Config.aesEnc modeXts key (leBytes 16 no) u else Config.aesDec modeXts key (leBytes 16 no) u)
        ++ xtsUnits enc key unit (no + 1) fuel (d.drop unit)

/-- The octets a mode makes of the text (log 4). GCM text is enciphered in CTR fashion under mode 5 of Config.aesEnc. -/
def cpText (j : Job) (d : Bytes) : Bytes :=
  let key := (j.cap.map (·.key)).getD []
  let enc := dOp j == 1
  match cpMode j with
  | 3 => xtsUnits enc key (cpUnit j) (cpUnitNo j) (d.length + 1) d
  | 4 => if enc then Config.aesEnc 5 key j.iv d else Config.aesDec 5 key j.iv d
  | m => if enc then Config.aesEnc m key (cpIv j) d else Config.aesDec m key (cpIv j) d

/-- NEXT_IV of the record (R425). The counter block after FFFF_FFFFh is open: a free value (log 3). -/
def nextIv (s : State) (j : Job) (cipher : Bytes) : Bytes :=
  match cpMode j with
  | 0 => cipher.drop (cipher.length - 16)
  | 2 => cipher.drop ((cipher.length - 1) / 16 * 16)
  | 1 =>
    let c := leNat ((cpIv j).drop 12).reverse + (cpLen j + 15) / 16
    if c < 2 ^ 32 then (cpIv j).take 12 ++ beBytes 4 c else leBytes 16 (Config.freeNat s.fresh)
  | 4 => if cpIvGen j then j.iv.take 12 else []
  | _ => []

/-! ## Slices (R347, R351, R352, R418) -/

/-- Octets a lane works off in one nanosecond. -/
def laneRate (j : Job) : Nat :=
  match j.eng with
  | .cz => if dOp j = 2 then 16 else 8
  | .dg => 4
  | _ => 8

/-- Octets of work of a job. -/
def jobTotal (s : State) (j : Job) : Nat :=
  match j.eng with
  | .cz => match dOp j with
    | 1 => if czWrap j = 3 ∧ periodNs s = 250 then 2048 else dSrcLen j
    | 2 =>
      let c := czGet s j
      let d := c.input ++ j.input
      ((if czWrap j = 3 then tileInflate d else inflateAll j d).2.1.drop c.out).length
    | _ => 0
  | .dg => if dOp j = 2 then dLen j else 0
  | .cp => cpTotal j
  | .gz => 0

/-- The check of a job that starts (R360). -/
def jobCheck (s : State) (j : Job) : Nat :=
  match j.eng with
  | .cz => czCheck s j
  | .dg => dgCheck s j
  | .cp => cpCheck s j
  | .gz => esOk

/-- A GCM decryption waits until it holds granules for all its plaintext (R429). -/
def granNeed (j : Job) : Nat := if j.eng = .cp ∧ dOp j = 2 ∧ cpMode j = modeGcm then (cpLen j + 4095) / 4096 else 0

/-- Is the DRBG in ERROR (R451, R452)? -/
def drbgError (s : State) : Bool := regFld s KS_ENTROPY 31 30 == 2

/-- Does another job of the same context stand before this one (R353)? -/
def ctxBefore (s : State) (n : Nat) (j : Job) : Bool :=
  let uses := fun (x : Job) => (x.eng == .cz && (czStream x || 3 ≤ dOp x)) || x.eng == .dg
  uses j && dCtx j != 0xFFFF && s.en.jobs.any fun e =>
    e.1 != n && e.2.eng == j.eng && uses e.2 && dCtx e.2 == dCtx j && decide (e.2.order < j.order) &&
      (e.2.phase == .waiting || e.2.phase == .running)

/-- Do taps of a context still have tiles that a finish waits for (R391)? -/
def tapsDue (s : State) (c : Nat) : Bool := s.en.taps.any fun e => e.2.ctx == c && e.2.due != 0

/-- A finish that starts waits for the tiles that its context's taps hold (R391). -/
def finishStart (s : State) (j : Job) : State :=
  if j.eng = .dg ∧ dOp j = 2 then
    enMod s fun e => { e with taps := tabMap e.taps fun _ x => if x.ctx == dCtx j then { x with due := x.backlog.length } else x }
  else s

/-- May a job take a slice now (R181, R350, R353, R422, R429, R451)? -/
def jobEligible (s : State) (n : Nat) (j : Job) : Bool :=
  (j.phase == .waiting || j.phase == .running) && j.ranAt != some (frameNo s)
    && (match j.parcel with
      | none => true
      | some p => tokenOk s p 2)
    && !ctxBefore s n j
    && (j.phase == .running || jobCheck s j != esOk || j.gran == granNeed j)
    && !(j.eng == .cp && (s.ks.grace || (cpIvGen j && drbgError s)))
    && !(j.eng == .dg && j.phase == .running && tapsDue s (dCtx j))

/-- A key leaves a job; its text passes to a discarding path if it holds granules (R45). -/
def jobRelease (s : State) (n : Nat) : State :=
  match jobGet s n with
  | none => s
  | some j => jobMod (granFromEng s n j.gran) n fun x => { x with gran := 0, cap := none }

/-- A job ends for an uncorrectable source (R359, R426). -/
def jobMemory (s : State) (n : Nat) (j : Job) : State :=
  let orig := if dOp j = 1 then (czGet s j).orig ++ j.input else (czGet s j).orig
  let s := jobMod s n fun x =>
    let x := { x with flags := if j.eng = .cp then b2n (x.written != 0) else x.flags, produced := x.written, iv := [] }
    if j.eng = .cz then sums x orig else x
  jobDone (jobRelease s n) n esMemory

/-- The verified table takes an entry, dropping the oldest of 64 (R431). -/
def verifiedAdd (s : State) (v : Verified) : State :=
  enMod s fun e => { e with verified := (if 64 ≤ e.verified.length then e.verified.drop 1 else e.verified) ++ [v] }

/-- A cipher job whose octets are all read ends (R425-R431). -/
def cipherEnd (s : State) (n : Nat) (j : Job) : State :=
  let key := (j.cap.map (·.key)).getD []
  if dOp j = 5 then
    match Config.kwUnwrap key j.input with
    | none => jobDone (jobMod (jobRelease s n) n fun x => { x with iv := [] }) n esNotEqual
    | some d =>
      let r := octetsOut s (jobWriter j) (dDst j) d
      jobDone (jobMod (jobRelease r.1 n) n fun x => { x with produced := d.length, iv := [] }) n (if r.2 then esOk else esMemory)
  else if cpMode j = modeGcm then
    let aad := j.input.take (cpAad j)
    let text := slice j.input (cpAad j) (cpLen j)
    let out := cpText j text
    let tag := ((Config.gcmTag key j.iv aad (if dOp j = 1 then out else text)) ++ zeros 16).take (cpTag j)
    let want := (j.input.drop (cpAad j + cpLen j)).take (cpTag j)
    match dOp j with
    | 1 =>
      let r := octetsOut s (jobWriter j) (dDst j + j.written) ((out ++ tag).drop j.written)
      let s := jobMod (jobRelease r.1 n) n fun x => { x with produced := cpLen j + cpTag j, iv := nextIv s j out }
      jobDone s n (if r.2 then esOk else esMemory)
    | 2 =>
      if want = tag then jobMod s n fun x => { x with phase := .writeout, cap := none, output := out }
      else jobDone (jobMod (jobRelease s n) n fun x => { x with produced := 0, iv := [] }) n esNotEqual
    | 3 =>
      if want = tag then
        let v : Verified := ⟨cpKey j, (j.cap.map (·.edition)).getD 0, j.iv, cpAad j, cpLen j, dSrc j, want, frameNo s⟩
        jobDone (jobMod (jobRelease (verifiedAdd s v) n) n fun x => { x with flags := 2, iv := [] }) n esOk
      else jobDone (jobMod (jobRelease s n) n fun x => { x with iv := [] }) n esNotEqual
    | _ =>
      let r := octetsOut s (jobWriter j) (dDst j + j.written) (out.drop j.written)
      let s := jobMod (jobRelease r.1 n) n fun x =>
        { x with produced := cpLen j, iv := [], flags := if want = tag then 2 else 1 }
      jobDone s n (if !r.2 then esMemory else if want = tag then esOk else esNotEqual)
  else
    let out := cpText j j.input
    let r := octetsOut s (jobWriter j) (dDst j + j.written) (out.drop j.written)
    let s := jobMod (jobRelease r.1 n) n fun x =>
      { x with produced := cpLen j, iv := nextIv s j (if dOp j = 1 then out else j.input) }
    jobDone s n (if r.2 then esOk else esMemory)

/-- The octets of a cipher job read so far are written as far as its mode writes while it runs (R424, R429). -/
def cipherWrite (s : State) (n : Nat) (j : Job) : State :=
  if dOp j = 5 ∨ (cpMode j = modeGcm ∧ (dOp j = 2 ∨ dOp j = 3)) then s
  else
    let text := if cpMode j = modeGcm then slice j.input (cpAad j) (cpLen j) else j.input
    let out := cpText j text
    let r := octetsOut s (jobWriter j) (dDst j + j.written) (out.drop j.written)
    jobMod r.1 n fun x => { x with written := out.length, produced := out.length }

/-- A job starts (R360, R410): its checks, the context it names, the key it captures. -/
def jobStart (s : State) (n : Nat) (j : Job) : State :=
  let e := jobCheck s j
  if e ≠ esOk then jobDone (jobMod s n fun x => if j.eng = .cz then sums x [] else x) n e
  else
    let s := match j.eng with
      | .cp => if cpIvGen j then
          let r := drbgBytes s 12
          jobMod r.2 n fun x => { x with iv := r.1 }
        else jobMod s n fun x => { x with iv := (cpIv j).take 12 }
      | .cz => if czStream j ∧ dOp j ≠ 3 then jobMod s n fun x => { x with ctx := dCtx j } else s
      | .dg => if dOp j ≠ 1 then jobMod s n fun x => { x with ctx := dCtx j } else s
      | .gz => s
    let s := if j.eng = .cp ∧ dOp j = 4 then
        match verifiedFor s j with
        | some v => enMod s fun e => { e with verified := e.verified.filter (· != v) }
        | none => s
      else s
    let s := finishStart s j
    jobMod s n fun x => { x with phase := .running, cap := if j.eng = .cp then capture s (cpKey j) else none }

/-- The source octets a running job has yet to read are read, `k` of them. -/
def jobRead (s : State) (n : Nat) (j : Job) (k : Nat) : State × Bool :=
  let off := j.input.length
  let r := octetsIn s (dSrc j + off) k (if j.eng = .cz then 4 else 5)
  match r.2 with
  | none => (jobMemory r.1 n j, false)
  | some d => (jobMod r.1 n fun x => { x with input := x.input ++ d }, true)

/-- Work of a running job for `cap` octets; what is left of the capacity. -/
def jobWork (s : State) (n cap : Nat) : State × Nat :=
  match jobGet s n with
  | none => (s, 0)
  | some j =>
    if j.phase ≠ .running then (s, cap)
    else match j.eng, dOp j with
      | .cz, 3 => (czOpen s n j, cap)
      | .cz, 4 => (czClose s n j, cap)
      | .dg, 1 => (dgOpen s n j, cap)
      | .dg, 3 => (dgClose s n j, cap)
      | .cz, 1 =>
        let left := jobTotal s j - j.pos
        let k := min cap left
        let r := jobRead s n j (if k = left then dSrcLen j - j.input.length else k)
        if !r.2 then (r.1, 0)
        else
          let s := jobMod r.1 n fun x => { x with pos := x.pos + k }
          if k = left then (match jobGet s n with
            | some j => compressEnd s n j
            | none => s, cap - k) else (s, 0)
      | .cz, _ =>
        let r := jobRead s n j (dSrcLen j - j.input.length)
        if !r.2 then (r.1, 0)
        else
          let s := r.1
          match jobGet s n with
          | none => (s, 0)
          | some j =>
            let left := jobTotal s j - j.pos
            let k := min cap left
            let s := jobMod s n fun x => { x with pos := x.pos + k }
            if k = left then (match jobGet s n with
              | some j => decompressEnd s n j
              | none => s, cap - k) else (s, 0)
      | .dg, _ =>
        if tapsDue s (dCtx j) then (s, 0) else
        let left := dLen j - j.pos
        let k := min cap left
        let r := octetsIn s (dSrc j + j.pos) k 5
        match r.2 with
        | none => (jobMemory r.1 n j, 0)
        | some d =>
          let f := dgFeed r.1 (dCtx j) d false
          let s := jobMod f.1 n fun x => { x with pos := x.pos + f.2.1, consumed := x.consumed + f.2.1 }
          if !f.2.2 then (jobDone s n esLength, cap - k)
          else if k = left then (match jobGet s n with
            | some j => updateEnd s n j
            | none => s, cap - k)
          else (s, 0)
      | _, _ =>
        let left := cpTotal j - j.pos
        let k := min cap left
        let gcmEnc := cpMode j = modeGcm ∧ dOp j = 1
        let rd := if gcmEnc then min k (cpAad j + cpLen j - j.input.length) else k
        let r := jobRead s n j rd
        if !r.2 then (r.1, 0)
        else
          let s := jobMod r.1 n fun x => { x with pos := x.pos + k }
          match jobGet s n with
          | none => (s, 0)
          | some j => if k = left then (cipherEnd s n j, cap - k) else (cipherWrite s n j, 0)

/-- Blocks of a cipher lane's slice, of 16 octets each (R422). -/
def laneBlocks (s : State) (lane n : Nat) : State := { s with ks := { s.ks with blocks := tabModD s.ks.blocks lane 0 (· + n) } }

/-- The lanes a job runs on at once: two where it compresses a tile at the 250 ns period (R349). -/
def lanesOf (s : State) (j : Job) : Nat :=
  if j.eng = .cz ∧ dOp j = 1 ∧ czWrap j = 3 ∧ periodNs s = 250 then 2 else 1

/-- A slice of a job on a lane (R347, R351, R352): its token, its start where it has not started, its work. Answers the
octets of capacity left. -/
def jobSlice (s : State) (n lane : Nat) (spend : Bool) (ns : Nat) : State × Nat :=
  match jobGet s n with
  | none => (s, 0)
  | some j =>
    let s := match j.parcel with
      | some p => if spend then tokenSpend s p 2 (lanesOf s j) else s
      | none => s
    let loads := j.eng == .cz && czStream j && j.lane != some lane && hasHistory (czGet s j)
    let s := if j.phase = .waiting then jobStart s n j else s
    let s := jobMod s n fun x => { x with lane := some lane, ranAt := some (frameNo s), row := x.row + 1 }
    let cap := laneRate j * ns
    let r := jobWork s n (if loads then cap / 2 else cap)
    let s := if j.eng = .cp then laneBlocks r.1 lane ((cap - r.2) / 16) else r.1
    (s, r.2 / laneRate j)

/-- Job states in use on a cipher lane, of 8 (R419). -/
def laneStates (s : State) (lane : Nat) : Nat :=
  tabCount s.en.jobs fun j => j.eng == .cp && j.lane == some lane && j.phase == .running

/-- May a job run on a lane (R419)? A started cipher job keeps its lane; a new one needs a free state there. -/
def laneFits (s : State) (j : Job) (lane : Nat) : Bool :=
  j.eng != .cp || (if j.phase = .running then j.lane == some lane else decide (laneStates s lane < 8))

/-- The next waiting one-shot job that may share a slice: of the same parcel, or of the same submitter (R348). -/
def nextOneShot (s : State) (j : Job) (lane : Nat) : Option Nat :=
  let ok := fun (e : Nat × Job) =>
    e.2.eng == j.eng && e.2.phase == .waiting && e.2.parcel == j.parcel && (j.parcel.isSome || e.2.inv == j.inv)
      && (e.2.eng != .cz || (!czStream e.2 && dOp e.2 ≤ 2 && lanesOf s e.2 == 1)) && (e.2.eng != .dg || dCtx e.2 == 0xFFFF)
      && !ctxBefore s e.1 e.2 && (jobCheck s e.2 != esOk || e.2.gran == granNeed e.2)
      && !(e.2.eng == .cp && (s.ks.grace || (cpIvGen e.2 && drbgError s)))
      && laneFits s e.2 lane
  ((s.en.jobs.filter ok).foldl (fun (b : Option (Nat × Nat)) e =>
    match b with
    | some x => if x.2 ≤ e.2.order then b else some (e.1, e.2.order)
    | none => some (e.1, e.2.order)) none).map (·.1)

/-- A lane's frame: a job's slice, then one-shot jobs of the same parcel while capacity is left (R348). -/
def laneFill (s : State) (j : Job) (lane : Nat) : Nat → Nat → State
  | 0, _ => s
  | fuel + 1, ns =>
    if ns = 0 then s
    else match nextOneShot s j lane with
      | none => s
      | some m =>
        let r := jobSlice s m lane false ns
        laneFill r.1 j lane fuel r.2

def laneCount : Eng → Nat
  | .cz => 16
  | .dg => 8
  | .cp => 16
  | .gz => 8

def ranOf (s : State) : Eng → List Nat
  | .cz => s.en.ranCz
  | .dg => s.en.ranDg
  | .cp => s.en.ranCp
  | .gz => s.en.ranGz

def ranPut (s : State) (g : Eng) (l : List Nat) : State :=
  enMod s fun e => match g with
    | .cz => { e with ranCz := l }
    | .dg => { e with ranDg := l }
    | .cp => { e with ranCp := l }
    | .gz => { e with ranGz := l }

/-- The other lanes of its engine that have run nothing in this frame. -/
def moreLanes (s : State) (j : Job) (lane : Nat) : List Nat :=
  (List.range (laneCount j.eng)).filter fun l => l != lane && !(ranOf s j.eng).contains l

/-- A job takes a slice on a lane (R347-R351), and a second lane where it runs on two at once (R349). -/
def laneRun (s : State) (n lane : Nat) : State :=
  match jobGet s n with
  | none => s
  | some j =>
    let s := ranPut s j.eng (ranOf s j.eng ++ lane :: (moreLanes s j lane).take (lanesOf s j - 1))
    let r := jobSlice s n lane true (periodNs s)
    match jobGet r.1 n with
    | none => r.1
    | some x => if x.phase = .done then laneFill r.1 x lane r.1.en.jobs.length r.2 else r.1

/-- The lowest lane of its engine that a job can take in this frame. -/
def freeLane (s : State) (j : Job) : Option Nat :=
  (List.range (laneCount j.eng)).find? fun l =>
    !(ranOf s j.eng).contains l && laneFits s j l && decide (lanesOf s j ≤ 1 + (moreLanes s j l).length)

/-- CP_STATES.FREE follows the states in use (R436). -/
def cpStates (s : State) : State :=
  regPutFld s CP_STATES 7 0 (128 - tabCount s.en.jobs fun j => j.eng == .cp && j.phase == .running)

/-- A job's own row: its next slice, on the lane it holds or the lowest free one (R347, R350). -/
def jobStep (s : State) (g : Eng) (ok : Job → Bool) (n : Nat) : State :=
  match jobGet s n with
  | none => s
  | some j =>
    if j.eng == g && ok j && jobEligible s n j then
      match freeLane s j with
      | none => s
      | some l => cpStates (laneRun s n l)
    else s

/-! ## Ends of jobs (R358, R505) -/

/-- A task waits for this job: it becomes READY at the next boundary (R485). -/
def jobWake (s : State) (n : Nat) : State :=
  { s with cs := { s.cs with tasks := tabMap s.cs.tasks fun _ t =>
    if t.st == .blocked && t.wait == some (.job n) then { t with unblock := true } else t } }

/-- The counters and events of a job's status (R394, R399, R436, R439). -/
def jobCounts (s : State) (j : Job) : State :=
  let s := if j.status = esRevoked then raise s 370 else s
  match j.eng with
  | .cz =>
    let s := if j.status = esMemory then raise (regInc s CZ_MEM_ERR) 338 else s
    if j.status = esNoContext ∧ dOp j = 3 then raise s 337 else s
  | .dg =>
    let s := if j.status = esMemory then raise (regInc s DG_MEM_ERR) 354 else s
    if j.status = esRevoked then raise s 355 else s
  | .cp =>
    if j.status = esNotEqual then raise (regInc s CP_TAG_FAIL) 368
    else if j.status = esRevoked then regInc s CP_REVOKED
    else if j.status = esLimit then regInc s CP_LIMIT
    else s
  | .gz => s

/-- A job ends: its one record is written, its granules return, its waiter wakes (R358). -/
def jobEnd (s : State) (n : Nat) : State :=
  match jobGet s n with
  | none => s
  | some j =>
    if j.phase ≠ .done then s
    else
      let s := jobRelease s n
      let s := (octetsOut s (jobWriter j) (dResult j) (jobRecord j)).1
      let s := jobCounts s j
      cpStates (jobWake (jobMod s n fun x => { x with phase := .ended, input := [], output := [], cap := none }) n)

/-- Every job whose work is done ends. -/
def jobsEnd (s : State) (g : Eng) : State :=
  (tabKeys s.en.jobs fun j => j.eng == g && j.phase == .done).foldl jobEnd s

/-! ## Arbitration at a boundary (R350, R392, R435) -/

def arbReg : Eng → Nat
  | .cz => CZ_ARB
  | .dg => DG_ARB
  | .cp => CP_ARB
  | .gz => GZ_ARB

def busyReg : Eng → Nat
  | .cz => CZ_LANE_BUSY
  | .dg => DG_LANE_BUSY
  | .cp => CP_LANE_BUSY
  | .gz => GZ_BUSY

/-- Jobs in rising order of submission. -/
def byOrder (s : State) (l : List Nat) : List Nat :=
  sortBy (fun n => ((jobGet s n).map (·.order)).getD 0) l

/-- One job per parcel per pass, parcels rising from the rotation start, passes until no job is left (R350 step 4). -/
def passes (s : State) (jobs : List Nat) (rot : Nat) : List Nat :=
  let pOf := fun n => ((jobGet s n).bind (·.parcel)).getD 0
  let ps := sortBy (fun p => (p + 1024 - rot) % 1024) (jobs.map pOf).eraseDups
  (List.range jobs.length).flatMap fun k => ps.filterMap fun p => (byOrder s (jobs.filter (pOf · == p)))[k]?

/-- The jobs of a list take lanes one after another while lanes are left. -/
def takeLanes (s : State) : List Nat → Nat → State
  | [], _ => s
  | _, 0 => s
  | n :: t, k + 1 =>
    match jobGet s n with
    | none => takeLanes s t (k + 1)
    | some j =>
      if jobEligible s n j ∧ lanesOf s j ≤ k + 1 then
        match (match j.lane with
          | some l => if (ranOf s j.eng).contains l || !laneFits s j l || (moreLanes s j l).length + 1 < lanesOf s j then none else some l
          | none => none).orElse fun _ => freeLane s j with
        | none => takeLanes s t (k + 1)
        | some l => takeLanes (laneRun s n l) t (k + 1 - lanesOf s j)
      else takeLanes s t (k + 1)

def rotOf (s : State) : Eng → Nat
  | .cz => s.en.rotCz
  | .dg => s.en.rotDg
  | .cp => s.en.rotCp
  | .gz => s.en.rotGz

def rotNext (s : State) (g : Eng) : State :=
  enMod s fun e => match g with
    | .cz => { e with rotCz := (e.rotCz + 1) % 1024 }
    | .dg => { e with rotDg := (e.rotDg + 1) % 1024 }
    | .cp => { e with rotCp := (e.rotCp + 1) % 1024 }
    | .gz => { e with rotGz := (e.rotGz + 1) % 1024 }

/-- Lanes that firmware and device jobs may take, and the consecutive slices of a job (R392). -/
def fwLanes (s : State) (g : Eng) : Nat := min 4 (regFld s (arbReg g) 11 8)
def quantum (s : State) (g : Eng) : Nat := max 1 (regFld s (arbReg g) 7 0)

/-- Jobs that did not run in the frame that ended lose their lane (R352), the cipher's excepted (R419). -/
def lanesLeave (s : State) (g : Eng) : State :=
  enMod s fun e => { e with jobs := tabMap e.jobs fun _ j =>
    if j.eng == g && j.ranAt != some (frameNo s - 1) then
      { j with lane := if g = .cp ∧ j.phase = .running then j.lane else none, row := 0 } else j }

/-- A lane group of a transform job's first step takes a slice where it has any left. -/
def xSlices (l : List Nat) : List Nat := l.map (· - 1)

/-- Transform jobs of an engine take lanes, oldest first (R350 step 1), each as many as it works on at once and a token for each
(R180, R349, R420); a cipher slice counts its blocks (R422). -/
def xformOne (s : State) (g : Eng) (k : Nat) : State :=
  match tabGet s.en.xjobs k with
  | some ⟨tk, p, (e, ls) :: rest⟩ =>
    let need := (ls.filter (· != 0)).length
    let free := (List.range (laneCount g)).filter fun l => !(ranOf s g).contains l
    if e ≠ g ∨ need = 0 ∨ free.length < need ∨ !tokenOk s p 2 ∨ (g = .cp ∧ s.ks.grace) then s
    else
      let lanes := free.take need
      let s := ranPut (tokenSpend s p 2 need) g (ranOf s g ++ lanes)
      let s := if g = .cp then lanes.foldl (fun s l => laneBlocks s l (periodNs s / 2)) s else s
      enMod s fun x => { x with xjobs := tabSet x.xjobs k ⟨tk, p, (e, xSlices ls) :: rest⟩ }
  | _ => s
def xformLanes (s : State) (g : Eng) : State := (s.en.xjobs.map (·.1)).foldl (fun s k => xformOne s g k) s

/-- The steps of a transform job without a first one whose slices have all run. -/
def xSteps : List (Eng × List Nat) → List (Eng × List Nat)
  | (e, ls) :: rest => if ls.all (· == 0) then rest else (e, ls) :: rest
  | [] => []

/-- Steps of transform jobs whose slices have all run are over; a job without a step left is gone. -/
def xformEnd (s : State) : State :=
  let js := tabMap s.en.xjobs fun _ j => { j with steps := xSteps j.steps }
  enMod s fun x => { x with xjobs := tabFilter js fun _ j => !j.steps.isEmpty }

/-- Step 8 for one engine (R350): transform jobs, device jobs on FW_LANES lanes, running jobs within their quantum, then the passes. -/
def engineBoundary (s : State) (g : Eng) : State :=
  let s := regPut s (busyReg g) ((ranOf s g).map fun l => 2 ^ l).sum
  let s := lanesLeave (ranPut s g []) g
  let el := (tabKeys s.en.jobs fun j => j.eng == g).filter fun n => ((jobGet s n).map (jobEligible s n)).getD false
  let dev := byOrder s (el.filter fun n => ((jobGet s n).map (·.parcel.isNone)).getD false)
  let own := el.filter fun n => !dev.contains n
  let running := own.filter fun n => ((jobGet s n).map fun j => decide (j.row ≠ 0)).getD false
  let keep := running.filter fun n =>
    ((jobGet s n).map fun j => decide (j.row < quantum s g)).getD false || decide (own.length ≤ running.length)
  let s := takeLanes (xformLanes s g) dev (fwLanes s g)
  let s := takeLanes s (byOrder s keep) (laneCount g)
  let rest := own.filter fun n => !keep.contains n
  let s := takeLanes s (passes s rest (rotOf s g)) (laneCount g)
  cpStates (jobsEnd (rotNext s g) g)

/-! ## Commands: compression -/

/-- COMPRESS (R367): a slice of a compress job; its last one delivers the stream's octets. -/
def execCompress (job : Nat) (s : State) : Res := .next (jobStep s .cz (fun j => dOp j == 1) job)

/-- DECOMPRESS (R372). -/
def execDecompress (job : Nat) (s : State) : Res := .next (jobStep s .cz (fun j => dOp j == 2) job)

/-- CZ_OPEN_CONTEXT (R363, R365). -/
def execCzOpenContext (job : Nat) (s : State) : Res := .next (jobStep s .cz (fun j => dOp j == 3) job)

/-- CZ_CLOSE_CONTEXT (R365). -/
def execCzCloseContext (job : Nat) (s : State) : Res := .next (jobStep s .cz (fun j => dOp j == 4) job)

/-! ## Commands: digest -/

/-- DG_OPEN_CONTEXT (R363, R383). -/
def execDgOpenContext (job : Nat) (s : State) : Res := .next (jobStep s .dg (fun j => dOp j == 1) job)

/-- DG_UPDATE (R381, R382, R384, R386). -/
def execDgUpdate (job : Nat) (s : State) : Res := .next (jobStep s .dg (fun j => dOp j == 2) job)

/-- DG_CLOSE_CONTEXT (R365). -/
def execDgCloseContext (job : Nat) (s : State) : Res := .next (jobStep s .dg (fun j => dOp j == 3) job)

/-- ENGINE_JOB_END (R358): a job whose work is done writes its one record. -/
def execEngineJobEnd (job : Nat) (s : State) : Res := .next (jobEnd s job)

/-! ## Commands: cipher -/

/-- ENCRYPT (R427, R428). -/
def execEncrypt (job : Nat) (s : State) : Res := .next (jobStep s .cp (fun j => dOp j == 1) job)

/-- DECRYPT (R427, R429). -/
def execDecrypt (job : Nat) (s : State) : Res := .next (jobStep s .cp (fun j => dOp j == 2) job)

/-- Granules for a GCM decryption, all at once (R429). -/
def gcmGranules (s : State) (n : Nat) : State :=
  match jobGet s n with
  | none => s
  | some j =>
    if j.phase == .waiting && j.gran == 0 && decide (0 < granNeed j) && decide (granNeed j ≤ s.fr.pool) && jobCheck s j == esOk then
      jobMod (granToEng s n (granNeed j)) n fun x => { x with gran := granNeed j }
    else s
/-- GCM_GRANULE_START (R429). -/
def execGcmGranuleStart (job : Nat) (s : State) : Res := .next (gcmGranules s job)

/-- Held plaintext is written out, `k` octets (R429); the job is done with VERIFIED when all is written. -/
def gcmWrite (s : State) (n k : Nat) : State :=
  match jobGet s n with
  | none => s
  | some j =>
    if j.phase ≠ .writeout then s
    else
      let r := octetsOut s (jobWriter j) (dDst j + j.written) (slice j.output j.written k)
      let w := min (j.written + k) j.output.length
      let s := jobMod r.1 n fun x => { x with written := w, produced := w, iv := [] }
      if w = j.output.length then
        let s := jobRelease s n
        jobDone (jobMod s n fun x => { x with flags := 2 }) n (if r.2 then esOk else esMemory)
      else s
/-- GCM_PLAINTEXT_WRITEOUT_END (R429): the rest of the plaintext is written and the record follows. -/
def execGcmPlaintextWriteoutEnd (job : Nat) (s : State) : Res :=
  .next (match jobGet s job with
    | some j => if j.phase = .writeout then jobEnd (gcmWrite s job j.output.length) job else s
    | none => s)

/-- GCM_VERIFY (R430, R431). -/
def execGcmVerify (job : Nat) (s : State) : Res := .next (jobStep s .cp (fun j => dOp j == 3) job)

/-- GCM_DECRYPT_AFTER_VERIFY (R431). -/
def execGcmDecryptAfterVerify (job : Nat) (s : State) : Res := .next (jobStep s .cp (fun j => dOp j == 4) job)

/-- AES_KW_UNWRAP (R423): a device job. -/
def execAesKwUnwrap (job : Nat) (s : State) : Res := .next (jobStep s .cp (fun j => dOp j == 5) job)

/-- At a boundary: waiting GCM decryptions take granules, oldest first; held plaintext moves at four times the lane rate
(R429). -/
def gcmBoundary (s : State) : State :=
  let s := (byOrder s (tabKeys s.en.jobs fun j => j.eng == .cp && j.phase == .waiting)).foldl gcmGranules s
  (tabKeys s.en.jobs fun j => j.phase == .writeout).foldl (fun s n => gcmWrite s n (32 * periodNs s)) s

/-! ## Namespace taps (R389-R391, R396) -/

def tapMod (s : State) (t : Nat) (f : Tap → Tap) : State := enMod s fun e => { e with taps := tabMod e.taps t f }

/-- Would a DG_NS_TAP value that sets EN name a context or namespace that cannot be tapped (R396)? -/
def tapInvalid (s : State) (v : Nat) : Bool :=
  match tabGet s.en.dg (bitsOf v 7 0), (tabGet s.atl.nss (bitsOf v 19 8)).bind (·.parcel) with
  | some c, some p => c.st != .opened || decide (bitsOf v 7 0 < 2) || (match c.parcel with
    | some q => q != p
    | none => false)
  | _, _ => true

/-- NS_TAP_WRITE (R396). -/
def tapWrite (s : State) (t v : Nat) : State :=
  if 16 ≤ t then s
  else if bitOf v 31 && tapInvalid s v then regPutBit s (DG_NS_TAP t) 29 true
  else regWrite s (DG_NS_TAP t) v
def execNsTapWrite (tap value : Nat) (s : State) : Res := .next (tapWrite s tap value)

/-- A tap attaches, or begins to detach, as its register says (R389, R396). One whose context or namespace has gone since the write
does not attach and its EN clears (log 73). -/
def tapAttach (s : State) (t : Nat) : State :=
  let en := regBit s (DG_NS_TAP t) 31
  match tabGet s.en.taps t with
  | none =>
    if t < 16 && en && tapInvalid s (regNat s (DG_NS_TAP t)) then regPutBit s (DG_NS_TAP t) 31 false
    else if t < 16 && en then
      let c := regFld s (DG_NS_TAP t) 7 0
      dgMod (enMod s fun e => { e with taps := tabSet e.taps t { ns := regFld s (DG_NS_TAP t) 19 8, ctx := c } }) c
        fun x => { x with tap := true }
    else s
  | some x =>
    if en && x.ns == regFld s (DG_NS_TAP t) 19 8 && x.ctx == regFld s (DG_NS_TAP t) 7 0 then s
    else tapMod s t fun x => { x with closing := true }
/-- NS_TAP_ATTACH (R389). -/
def execNsTapAttach (tap : Nat) (s : State) : Res := .next (tapAttach s tap)

/-- `k` octets of a tap's backlog taken off, and the backlog left. -/
def takeBacklog : List (Nat × Bytes) → Nat → Bytes × List (Nat × Bytes)
  | [], _ => ([], [])
  | (n, d) :: t, k =>
    if d.length ≤ k then let r := takeBacklog t (k - d.length); (d ++ r.1, r.2)
    else (d.take k, (n, d.drop k) :: t)

/-- Does a finish of a context run, that waits for its taps (R391)? -/
def finishRuns (s : State) (c : Nat) : Bool :=
  s.en.jobs.any fun e => e.2.eng == .dg && e.2.phase == .running && dOp e.2 == 2 && dCtx e.2 == c

/-- What a tap may feed now: all of its backlog, or under a finish that waits the tiles it waits for (R391). -/
def tapReady (s : State) (x : Tap) : List (Nat × Bytes) := if finishRuns s x.ctx then x.backlog.take x.due else x.backlog

/-- A tap feeds what a digest lane takes in a frame, spending a token of its context's parcel (R351, R389). -/
def tapFeed (s : State) (t : Nat) : State :=
  match tabGet s.en.taps t with
  | none => s
  | some x =>
    if x.backlog = [] then (if x.closing then tapGone s t else s)
    else if tapReady s x = [] then s
    else
      let p := (tabGet s.en.dg x.ctx).bind (·.parcel)
      let ok := match p with
        | some p => tokenOk s p 2
        | none => true
      match ok, (List.range 8).find? fun l => !s.en.ranDg.contains l with
      | true, some lane =>
        let s := match p with
          | some p => tokenSpend s p 2 1
          | none => s
        let s := ranPut s .dg (s.en.ranDg ++ [lane])
        let ready := tapReady s x
        let u := takeBacklog ready (4 * periodNs s)
        let r := (u.1, u.2 ++ x.backlog.drop ready.length)
        let f := dgFeed s x.ctx r.1 true
        if !f.2.2 then tapGone (regPutBit f.1 (DG_NS_TAP t) 31 false) t
        else
          let s := tapMod f.1 t fun x =>
            { x with backlog := r.2, due := min x.due u.2.length, heldSince := if r.2.length < 64 then none else x.heldSince }
          if r.2 = [] && x.closing then tapGone s t else s
      | _, _ => s

/-- A write held for 64 frames raises event 353, once (R390). -/
def tapTimeout (s : State) (t : Nat) : State :=
  match (tabGet s.en.taps t).bind (·.heldSince) with
  | some f =>
    if frameNo s = f + 64 then raise (regPutBit s (DG_NS_TAP t) 30 true) 353 else s
  | none => s
/-- TAP_HOLD_TIMEOUT (R390). -/
def execTapHoldTimeout (tap : Nat) (s : State) : Res := .next (tapTimeout s tap)

/-- Taps at a boundary: attach, feed, time out. -/
def tapsBoundary (s : State) : State :=
  let s := (List.range 16).foldl tapAttach s
  let s := (s.en.taps.map (·.1)).foldl tapFeed s
  (s.en.taps.map (·.1)).foldl tapTimeout s

end Sys2Proof.Machine
end

