-- ==== Sys2Proof/Machine/Events.lean ====
section
/-! DEFINITION. Chapter 13, events: delivery by MSI-X, clearing, test raises, routing and masking (R686-R692), and the
pending vectors of R793. -/
namespace Sys2Proof.Machine

/-- EVENT_MSIX_DELIVERY (R687): the message of a deliverable event goes out on its routed vector. -/
def execEventMsixDelivery (ev : Nat) (s : State) : Res := .next (evDeliver s ev)

/-- EV_PENDING_CLEAR (R688): the bits written 1 clear; the message of an event that had become deliverable is still sent (R687). A
raise of the same cycle is a command after this one, so its bit reads 1 and counts as a new transition. -/
def evClear (s : State) (k v : Nat) : State :=
  if k < 16 then
    regPut s (EV_PENDING k) ((regRaw s (EV_PENDING k)) &&& ~~~(BitVec.ofNat 32 v)).toNat
  else s
def execEvPendingClear (k value : Nat) (s : State) : Res := .next (evClear s k value)

/-- EV_TEST_RAISE (R691): raises a non-reserved event in the manager latch only. -/
def execEvTestRaise (value : Nat) (s : State) : Res :=
  .next (if bitOf value 31 then raiseManager s (bitsOf value 8 0) else s)

/-- Does an EV_ROUTE value name a function or vector that cannot take events (R692)? -/
def routeInvalid (s : State) (v : Nat) : Bool :=
  if bitOf v 30 then !s.host.split || bitsOf v 10 0 > 63 else bitsOf v 10 0 > 2047

/-- EV_ROUTE_WRITE (R692): sets the route, or changes nothing but REFUSED. CLUSTERS is control firmware's own. -/
def evRoute (s : State) (n v : Nat) : State :=
  if n < 512 then
    if routeInvalid s v then regPutBit s (EV_ROUTE n) 29 true
    else evArm (regWrite s (EV_ROUTE n) v) n
  else s
def execEvRouteWrite (ev value : Nat) (s : State) : Res := .next (evRoute s ev value)

/-- A write of EV_MASK: events it unmasks become deliverable (R687). -/
def evMaskWrite (s : State) (k v : Nat) : State :=
  (List.range 32).foldl (fun s j => evArm s (32 * k + j)) (regWrite s (EV_MASK k) v)

/-- EV_SUMMARY (R691): which EV_PENDING words hold an unmasked pending bit. -/
def evSummary (s : State) : Nat :=
  ((List.range 16).map fun k =>
    if (regRaw s (EV_PENDING k)) &&& ~~~(regRaw s (EV_MASK k)) = 0 then 0 else 2 ^ k).sum

/-- MSIX_PENDING_DELIVERY (R793): a pending vector that is open is sent and its PBA bit cleared. -/
def execMsixPendingDelivery (fn vec : Nat) (s : State) : Res := .next (msixDeliver s fn vec)

/-- Every pending vector of a function that is open is sent (R793). -/
def msixFlush (s : State) (fn : Nat) : State := (fnGet s fn).pba.foldl (fun s v => msixDeliver s fn v) s

/-- At a boundary the messages of deliverable events and of opened vectors go out, within their two frames (R687,
R793), and coalesced interrupts whose time has come (R152). -/
def eventsBoundary (s : State) : State :=
  let s := s.ev.send.foldl evDeliver s
  let s := (s.host.fns.map (·.1)).foldl msixFlush s
  (s.cq.coal.filter fun e => e.2.2 ≤ frameNo s).foldl
    (fun s e => msixDue { s with cq := { s.cq with coal := tabErase s.cq.coal e.1 } } (e.1 / 4096) (e.1 % 4096)) s

end Sys2Proof.Machine
end

