-- ==== Sys2Proof/Machine/Ports.lean ====
section
/-! DEFINITION. Chapter 02: PCIe links and functions, Ethernet ports, fabric connections and their credits, the
sideband. -/
namespace Sys2Proof.Machine

/-! ## Functions and controllers -/

/-- Virtual functions that are there in the arrangement of the links (R60): 511 of link A, or 255 of it and 256 of link B. -/
def vfExists (s : State) (f : Nat) : Bool :=
  if s.host.split then (1 ≤ f && f ≤ 255) || (compFn < f && f ≤ compFn + 256) else 1 ≤ f && f ≤ 511

/-- Has boot reached admin-ready (R741)? -/
def adminUp (s : State) : Bool := regFld s PW_STATUS 31 29 == 2 || regFld s PW_STATUS 31 29 == 3

/-- Has boot reached media-ready (R741)? -/
def mediaUp (s : State) : Bool := regFld s PW_STATUS 31 29 == 3

/-- Is hold-up armed (R157)? -/
def armed (s : State) : Bool := regBit s HQ_DURABILITY 31

/-- The composite temperature in kelvin (R782, R787): FR_TEMP.MAX is in two's complement. -/
def kelvin (s : State) : Nat :=
  let v := regFld s FR_TEMP 23 16
  if v < 128 then v + 273 else v + 17

/-- The state code that a controller's parcel has, for readiness (R207). -/
def vfReady (s : State) (fn : Nat) : Bool :=
  match boundParcel s fn with
  | none => false
  | some p => let st := (parGet s p).st
              mediaUp s && (st == .active || st == .frozen)

/-- A controller becomes ready: CSTS.RDY is 1, its VWC is reported for this enable (R129), its admin queue pair stands
at head and tail 0 with the sizes of AQA. -/
def ctrlReady (s : State) (fn : Nat) : State :=
  let s := ctrlMod s fn fun c => { c with rdy := true, vwc := !armed s, wce := true }
  let a := (ctrlGet s fn).aqa
  let sq : Sq := { cqid := 0, depth := bitsOf a 11 0 + 1 }
  let cq : Cq := { depth := bitsOf a 27 16 + 1, vec := some 0 }
  { s with cq := { s.cq with sqs := tabSet s.cq.sqs (qkey fn 0) sq, cqs := tabSet s.cq.cqs (qkey fn 0) cq } }

/-- What a controller reset leaves of a controller: CC but for EN, the admin queue registers; its features return to
their reset values. -/
def ctrlClear (keepCc : Bool) (c : Ctrl) : Ctrl :=
  { parcel := c.parcel, cc := if keepCc then c.cc else 0, aqa := c.aqa, asq := c.asq, acq := c.acq, vwc := c.vwc,
    cfs := c.cfs }

/-- A table without the queues of a function. -/
def dropQueues {α : Type} (t : Table α) (fn : Nat) : Table α := t.filter fun e => e.1 / 65536 != fn

/-- Every queue of a function is deleted. -/
def fnDropQueues (s : State) (fn : Nat) : State :=
  { s with cq := { s.cq with sqs := dropQueues s.cq.sqs fn, cqs := dropQueues s.cq.cqs fn } }

/-- A reset of a physical function's controller and admin queue pair (R67): commands not fetched never are; those in
flight have no path left and complete internally, manager packets running on to the reply cache. -/
def pfReset (s : State) (fn : Nat) : State :=
  let s := (tksWhere s fun t => match t.src with
    | .pcie f _ => f == fn
    | _ => false).foldl tkInternal s
  ctrlMod (fnDropQueues s fn) fn fun c => ctrlClear true { c with cc := c.cc - c.cc % 2 }

/-- PF_FUNCTION_LEVEL_RESET (R67): the controller and its admin queue pair alone, as a CC.EN write from 1 to 0. -/
def execPfFunctionLevelReset (fn : Nat) (s : State) : Res :=
  .next (if isVf fn then s else pfReset s fn)

/-- PF_CC_EN_CLEAR (R67). -/
def execPfCcEnClear (fn : Nat) (s : State) : Res :=
  .next (if !isVf fn && (ctrlGet s fn).cc % 2 == 1 then pfReset s fn else s)

/-- PF_CC_EN_SET (R791): the controller is enabled, and reports ready once admin-ready has been reached. -/
def execPfCcEnSet (fn : Nat) (s : State) : Res :=
  .next (if !isVf fn && (ctrlGet s fn).cc % 2 == 0 then
      let s := ctrlMod s fn fun c => { c with cc := c.cc + 1 }
      if adminUp s then ctrlReady s fn else s
    else s)

/-- CC.EN goes to 0 behind a pending enable of its parcel: the enable still makes the function ready (R170). -/
def enClear (s : State) (fn p : Nat) : State :=
  if (parGet s p).st = .enabling ∧ (ctrlGet s fn).cc % 2 = 1 then parMod s p fun x => { x with enHeld := true } else s

/-- VF_FUNCTION_LEVEL_RESET (R66): the function's own state clears, CC with it, and the bound parcel's reset is
requested; a function of no parcel, or of a parcel that is RETIRING, is reset plainly (R168). -/
def execVfFunctionLevelReset (fn : Nat) (s : State) : Res :=
  .next (if isVf fn then
      let s := fnMod s fn fun _ => {}
      match boundParcel s fn with
      | none => ctrlMod s fn fun _ => {}
      | some p =>
        let s := enClear s fn p
        let s := ctrlMod s fn fun c => { c with cc := 0, rdy := false }
        if (parGet s p).st = .retiring then s else reqReset s p 1 false (.flr fn)
    else s)

/-- VF_CC_EN_CLEAR (R168): CC.EN 1→0 on a bound function requests a parcel reset; CSTS.RDY falls as that takes effect (R207). -/
def execVfCcEnClear (fn : Nat) (s : State) : Res :=
  .next (if isVf fn && (ctrlGet s fn).cc % 2 == 1 then
      match boundParcel s fn with
      | none => s
      | some p =>
        let s := ctrlMod (enClear s fn p) fn fun c => { c with cc := c.cc - 1 }
        if (parGet s p).st = .retiring then s else reqReset s p 2 false .none
    else s)

/-- CC_EN_SET (R207): an unbound function ignores it (R61); a bound one reads it back, and is ready at once where the
parcel is ACTIVE or FROZEN, else it holds it, as the pending enable where the parcel is RESETTING. -/
def execCcEnSet (fn : Nat) (s : State) : Res :=
  .next (if isVf fn && (ctrlGet s fn).cc % 2 == 0 then
      match boundParcel s fn with
      | none => s
      | some p =>
        let s := ctrlMod s fn fun c => { c with cc := c.cc + 1 }
        if vfReady s fn then ctrlReady s fn
        else if (parGet s p).st = .resetting then parMod s p fun x => { x with reqs := x.reqs ++ [.ccEn fn] }
        else s
    else s)

/-! ## Bus Master Enable (R68) and power state (R65) -/

/-- A held ticket proceeds: a held completion is posted (R68). -/
def heldResume (s : State) (i : Nat) : State :=
  let t := tkGet s i
  if t.busy && t.held then
    match t.src with
    | .pcie fn _ =>
      if (fnGet s fn).bme then tkPost (tkMod s i fun t => { t with held := false }) i else s
    | _ => tkPost (tkMod s i fun t => { t with held := false }) i
  else s

/-- HELD_TICKET_RESUME (R68). -/
def execHeldTicketResume (tk : Nat) (s : State) : Res := .next (heldResume s tk)

/-- BUS_MASTER_ENABLE_SET (R68): pending vectors that are open may go out, and held tickets proceed within 2 frames,
each at its HELD_TICKET_RESUME or at a boundary. -/
def execBusMasterEnableSet (fn : Nat) (s : State) : Res :=
  .next (fnMod s fn fun f => { f with bme := true })

/-- BUS_MASTER_ENABLE_CLEAR (R68): no memory request and no fetch for the function; its tickets hold at their data or
completion steps. -/
def execBusMasterEnableClear (fn : Nat) (s : State) : Res :=
  .next (fnMod s fn fun f => { f with bme := false })

/-- PMCSR_D3HOT_WRITE (R65): accepted in the register, changing nothing else. -/
def execPmcsrD3hotWrite (fn : Nat) (s : State) : Res := .next (fnMod s fn fun f => { f with pm := 3 })

/-! ## Links (R69-R71) -/

def linkGet (s : State) : Link → LinkSt
  | .a => s.host.linkA
  | .b => s.host.linkB
def linkPut (s : State) (l : Link) (x : LinkSt) : State :=
  { s with host := match l with
    | .a => { s.host with linkA := x }
    | .b => { s.host with linkB := x } }

/-- The physical function of a link (R59). -/
def linkPf : Link → Nat
  | .a => 0
  | .b => compFn

/-- Is a function on the link? -/
def fnOn (l : Link) (f : Nat) : Bool := onLinkB f == (l == .b)

/-- Is the link there in the arrangement (R59)? -/
def linkExists (s : State) (l : Link) : Bool := l == .a || s.host.split

/-- Do links train: has the ROM stage ended with a valid slot? In recovery no PCIe link trains (R443), and the links come up in the
stage that follows (R741). -/
def linksTrain (s : State) : Bool := s.pw.rom == .done

/-- PERST_ASSERT (R69): the link's functions reset, every controller register and configuration space with them; its loss is
acted on at the next boundary (R70). -/
def execPerstAssert (l : Link) (s : State) : Res :=
  .next (if linkExists s l then
      let s := pfReset s (linkPf l)
      let s := { s with host := { s.host with
        fns := s.host.fns.filter fun e => !fnOn l e.1
        ctrls := s.host.ctrls.filter fun e => decide (768 < e.1) || !fnOn l e.1 } }
      linkPut s l { up := false, reset := true, loss := true }
    else s)

/-- PERST_DEASSERT (R71): the link accepts configuration requests. -/
def execPerstDeassert (l : Link) (s : State) : Res :=
  .next (if linkExists s l && (linkGet s l).reset then
      linkPut s l { linkGet s l with up := linksTrain s, reset := false } else s)

/-- DL_DOWN (R70). -/
def execDlDown (l : Link) (s : State) : Res :=
  .next (if linkExists s l then linkPut s l { linkGet s l with up := false, loss := true } else s)

/-- PCIE_LINK_UP (R70): a link that was down without its reset input returns. -/
def execPcieLinkUp (l : Link) (s : State) : Res :=
  .next (if linkExists s l && !(linkGet s l).reset && linksTrain s then linkPut s l { linkGet s l with up := true } else s)

/-! ## Ethernet (R72-R76, R94-R96) -/

/-- Ports of the present port mode (R72). -/
def portCount (s : State) : Nat :=
  match regFld s FX_PORT_MODE 1 0 with
  | 1 => 8
  | 2 => 16
  | _ => 4

/-- ETH_LINK_UP (R74): LINK_UP, and AN_DONE where auto-negotiation and training ran. -/
def execEthLinkUp (port : Nat) (anDone : Bool) (s : State) : Res :=
  .next (if port < portCount s ∧ linksTrain s then
      regPutBit (regPutBit s (FX_PORT_STATUS port) 31 true) (FX_PORT_STATUS port) 30 anDone else s)

/-- ETH_LINK_LOST (R95): LINK_UP falls, LINK_LOST is set and event 96 + p raised. AN_DONE falls with it: the training that it
reports as finished has ended. DESIGN CHOICE, log 60. -/
def execEthLinkLost (port : Nat) (s : State) : Res :=
  .next (if port < portCount s && regBit s (FX_PORT_STATUS port) 31 then
      let s := regPutFld s (FX_PORT_STATUS port) 31 30 0
      raise (regPutBit s (FX_PORT_STATUS port) 29 true) (96 + port)
    else s)

/-- Uncorrectable codewords of a port since the last read, saturating at FFFFh (R95). -/
def fecCount (s : State) (port n : Nat) : State :=
  if port < portCount s then
    regPutFld s (FX_PORT_STATUS port) 15 0 (min 0xFFFF (regFld s (FX_PORT_STATUS port) 15 0 + n))
  else s

/-- FEC_UNCORR_READ (R95): the status is returned and the count of uncorrectable codewords clears. -/
def fecRead (s : State) (port : Nat) : State :=
  if port < 16 then
    let s := emit s (.regRead (FX_PORT_STATUS port) (regRaw s (FX_PORT_STATUS port)))
    regPutFld s (FX_PORT_STATUS port) 15 0 0
  else s
def execFecUncorrRead (port : Nat) (s : State) : Res := .next (fecRead s port)

/-- ECN_MARKED_PACKET (R76): answered by a congestion notification, at most one a connection every 4 frames. -/
def execEcnMarkedPacket (conn : Nat) (s : State) : Res :=
  .next (match connGet s conn with
    | none => s
    | some c =>
      if !c.tcp && (match c.cnp with
        | none => true
        | some f => f + 4 ≤ frameNo s) then
        emit (connMod s conn fun x => { x with cnp := some (frameNo s) }) (.transport conn 3 0 0)
      else s)

/-- CNP_RECEIVED (R76): the connection's send rate is one step lower. The size of a step, and that nothing raises the rate again,
are the model's. DESIGN CHOICE, log 61. -/
def execCnpReceived (conn : Nat) (s : State) : Res :=
  .next (match connGet s conn with
    | none => s
    | some c => if c.tcp then s else connMod s conn fun x => { x with rate := x.rate + 1 })

/-! ## Connections (R77-R90) -/

/-- ICREQ (R82): ICResp with MAXH2CDATA = 65,536, CPDA = 0, at most 4 outstanding R2Ts per command, and the digests the host
asked for. -/
def execIcreq (conn : Nat) (hdgst ddgst : Bool) (s : State) : Res :=
  .next (emit { s with host := { s.host with icreq := tabSet s.host.icreq conn (hdgst, ddgst) } }
    (.icresp conn 65536 0 4 hdgst ddgst))

/-- Answers a Connect. -/
def connectReply (s : State) (c : ConnReq) (st : Status) (d0 : Nat) : State :=
  emit s (.capsule c.conn (mkCqe c.cid st d0 0 c.qid 0) false)

/-- The discovery subsystem's NQN (R91). -/
def discoveryNqn : Bytes :=
  [0x6e, 0x71, 0x6e, 0x2e, 0x32, 0x30, 0x31, 0x34, 0x2d, 0x30, 0x38, 0x2e, 0x6f, 0x72, 0x67, 0x2e, 0x6e, 0x76, 0x6d,
   0x65, 0x78, 0x70, 0x72, 0x65, 0x73, 0x73, 0x2e, 0x64, 0x69, 0x73, 0x63, 0x6f, 0x76, 0x65, 0x72, 0x79]

/-- Connections of a parcel's controllers. -/
def parcelConns (s : State) (p : Nat) : List Nat := tabKeys s.host.conns fun c => c.parcel == p && !c.discovery

/-- The fabric controllers of a parcel (R78); one is there until its last connection closes. -/
def parcelCtrls (s : State) (p : Nat) : List Nat :=
  (s.host.ctrls.filter fun e => decide (fabricBase ≤ e.1) && e.2.parcel == some p).map (·.1)

/-- Ports with an IP address configured: every port whose link is up carries one (log 30). -/
def discPorts (s : State) : List Nat := (List.range (portCount s)).filter fun p => regBit s (FX_PORT_STATUS p) 31

/-- The discovery entries of a host (R92): one per parcel subsystem in ACTIVE or FROZEN with a pair of that host. -/
def discEntries (s : State) (h : Bytes) : List (Nat × Bytes) :=
  (s.pc.parcels.filter fun e => e.2.st == .active || e.2.st == .frozen).flatMap fun e =>
    (e.2.pairs.filter fun p => p.1 == h).map fun p => (e.1, p.2)

/-- The entries with the ports they are listed for. -/
def discList (s : State) (h : Bytes) : List (Nat × Bytes × Nat) :=
  (discEntries s h).flatMap fun e => (discPorts s).map fun p => (e.1, e.2, p)

/-- The parcel for which the pair of NQNs is registered (R79). -/
def pairParcel (s : State) (h n : Bytes) : Option Nat := (tabKeys s.pc.parcels fun x => x.pairs.contains (h, n)).head?

/-- A Connect's binding of a connection once it is accepted: receive buffers are posted up to the queue depth
(R84), and the controller of an admin connection is allocated and ready. -/
def connBind (s : State) (c : ConnReq) (p ctrl : Nat) (disc : Bool) : State :=
  let ic := tabGetD s.host.icreq c.conn (false, false)
  let x : Conn := { tcp := c.tcp, parcel := p, ctrl := ctrl, qid := c.qid, hostNqn := c.hostNqn, subNqn := c.subNqn,
                    depth := c.sqsize + 1, ordered := c.qid != 0 && bitOf c.cattr 7, hdgst := ic.1, ddgst := ic.2,
                    discovery := disc, seen := if disc then discList s c.hostNqn else [] }
  let s := { s with host := { s.host with conns := tabSet s.host.conns c.conn x } }
  let s := if c.tcp then s else creditGrant s c.conn x.depth
  let s := if c.qid = 0 then
      ctrlMod s ctrl fun _ => { parcel := if disc then none else some p, rdy := false, vwc := !armed s,
                                kato := c.kato, lastKa := frameNo s }
    else s
  connectReply s c .success (ctrl % 65536)

/-- Does the discovery controller listen where a Connect arrives (R91): TCP port 8009 or RDMA port 4420 of a port that has an IP
address? -/
def discListens (s : State) (c : ConnReq) : Bool := c.svc == (if c.tcp then 8009 else 4420) && (discPorts s).contains c.port

/-- CONNECT (R79): the checks in the order of the parcel's state, the pair and the limits. A Connect with SQSIZE 0, a queue of
one entry, is refused as NVMe refuses it (PRESUMED, log 62); one to the discovery subsystem where nothing listens (R91) finds no
controller. -/
def fabricConnect (s : State) (c : ConnReq) : State :=
  if (connGet s c.conn).isSome then connectReply s c .sequenceError 0
  else if c.subNqn = discoveryNqn then
    if !discListens s c then s
    else if c.sqsize > 31 ∨ c.sqsize = 0 then connectReply s c .connInvalidParam 0
    else if s.host.conns.length ≥ 8192 then raise (connectReply s c .connTotal 0) 115
    else match tabFree s.host.ctrls fabricBase 40000 with
      | none => connectReply s c .connInvalidParam 0
      | some k => connBind s c 0 k true
  else match pairParcel s c.hostNqn c.subNqn with
    | none => connectReply s c .connInvalidHost 0
    | some p =>
      match (parGet s p).st with
      | .resetting | .enabling => connectReply s c .controllerBusy 0
      | .vacant | .provisioned | .retiring => connectReply s c .connInvalidHost 0
      | .active | .frozen =>
        if s.host.conns.length ≥ 8192 then raise (connectReply s c .connTotal 0) 115
        else if c.sqsize > (if c.qid = 0 then 31 else 1023) || c.sqsize = 0 then connectReply s c .connInvalidParam 0
        else if c.qid = 0 then
          if (parcelCtrls s p).length ≥ min 4 (parGet s p).lim.controllers then
            connectReply s c .connInvalidParam 0
          else match tabFree s.host.ctrls fabricBase 40000 with
            | none => connectReply s c .connInvalidParam 0
            | some k => connBind s c p k false
        else
          let k := c.cntlid
          let mine := tabKeys s.host.conns fun x => x.ctrl == k && x.parcel == p
          if ((ctrlGet s k).parcel ≠ some p) ∨ k < fabricBase ∨ mine.length ≥ 65 ∨ c.qid > 64
            ∨ (tabKeys s.host.conns fun x => x.ctrl == k && x.qid == c.qid) ≠ [] then
            connectReply s c .connInvalidParam 0
          else connBind s c p k false
def execConnect (c : ConnReq) (s : State) : Res := .next (fabricConnect s c)

/-- The most in-capsule octets of a connection (R80). -/
def capsuleLimit (c : Conn) : Nat := if c.qid = 0 then 8192 else 16384

/-- CAPSULE_RECEIVED (R83, R89): a capsule consumes a credit of an RDMA connection and is queued for fetch; a header
digest mismatch, an in-capsule length beyond R80 or a capsule beyond its buffer ends the connection. -/
def capsuleIn (s : State) (n : Nat) (c : Capsule) : State :=
  match connGet s n with
  | none => s
  | some x =>
    if x.tcp then
      if !c.headerOk then connFatal s n 3
      else if c.data.length > capsuleLimit x then connFatal s n 5
      else connMod s n fun x => { x with queue := x.queue ++ [c] }
    else if x.outstanding = 0 then s
    else if c.data.length > capsuleLimit x then connClose s n
    else connMod (creditConsume s n) n fun x => { x with queue := x.queue ++ [c] }
def execCapsuleReceived (conn : Nat) (c : Capsule) (s : State) : Res := .next (capsuleIn s conn c)

/-- RECEIVE_BUFFER_REPOST (R84): one buffer whose capsule has been taken is posted again. -/
def bufferRepost (s : State) (n : Nat) : State :=
  match connGet s n with
  | none => s
  | some x =>
    if x.tcp || x.repost = 0 then s
    else creditGrant (connMod s n fun x => { x with repost := x.repost - 1 }) n 1
def execReceiveBufferRepost (conn : Nat) (s : State) : Res := .next (bufferRepost s conn)

/-- All buffers of a connection whose capsules have been taken are posted again. -/
def buffersRepost (s : State) (n : Nat) : State :=
  (List.range (((connGet s n).map (·.repost)).getD 0)).foldl (fun s _ => bufferRepost s n) s

/-- RDMA Reads outstanding on a connection (R81). -/
def readsOut (s : State) (c : Nat) : Nat := (tksWhere s fun t => t.src == .fabric c && t.r2t && !t.admin).length

/-- A command's data are sent for: an R2T, whose credit is granted (R83, R85), or an RDMA Read, at most 16 at once on a
connection, the others waiting (R81, R88). -/
def pullSend (s : State) (i : Nat) : State :=
  let t := tkGet s i
  match t.src with
  | .fabric c =>
    if onRdma s t then
      if 16 ≤ readsOut s c then tkMod s i fun t => { t with pullDue := true }
      else emit (tkMod s i fun t => { t with r2t := true, pullDue := false })
        (.rdmaRead c i t.edition ((t.parcel.map fun p => (parGet s p).edition).getD 0) t.cmd.dlen)
    else emit (tkMod (creditGrant s c 1) i fun t => { t with r2t := true })
      (.pull c (i % 16384 + t.edition % 4 * 16384) t.cmd.dlen)
  | _ => s

/-- The oldest command of a connection that waits for an RDMA Read sends it. -/
def pullNext (s : State) (c : Nat) : State :=
  let ws := tksWhere s fun t => t.src == .fabric c && t.pullDue
  match sortBy (fun i => (tkGet s i).order) ws with
  | [] => s
  | i :: _ => pullSend s i

/-- RDMA_READ_RESPONSE (R88): a completion or response whose editions match its ticket brings the data of the command;
another is discarded and counted; a failed read ends the command with Data Transfer Error (R89). -/
def rdmaResponse (s : State) (conn : Nat) (m : Msg) (ok : Bool) (data : Bytes) : State :=
  if msgStale s m || (tkGet s m.ticket).src != .fabric conn then msgDiscard s { m with fabric := true }
  else if !(tkGet s m.ticket).r2t then s
  else
    let s := tkMod s m.ticket fun t => { t with r2t := false }
    if ok then tkMod s m.ticket fun t => { t with got := t.got ++ data } else tkFinish s m.ticket .dataTransfer
def execRdmaReadResponse (conn : Nat) (m : Msg) (ok : Bool) (data : Bytes) (s : State) : Res :=
  .next (pullNext (rdmaResponse s conn m ok data) conn)

/-- The ticket and edition bits of a transfer tag (R85). -/
def tagTicket (tag : Nat) : Nat := tag % 16384
def tagEdition (tag : Nat) : Nat := tag / 16384 % 4

/-- The R2T transfer tag of a ticket (R85). -/
def r2tTag (i edition : Nat) : Nat := i % 16384 + edition % 4 * 16384

/-- H2C_DATA_PDU (R87, R89): accepted against a live R2T, discarded against the record of R86, else fatal with the transport's
status for an invalid header field; a PDU marked last before all data have come breaks the sequence. The numbers of the fatal
error statuses are those of NVMe/TCP (PRESUMED, log 63). -/
def h2cData (s : State) (n tag off : Nat) (last digestOk headerOk : Bool) (data : Bytes) : State :=
  match connGet s n with
  | none => s
  | some _ =>
    let i := tagTicket tag
    let t := tkGet s i
    if !headerOk then connFatal s n 3
    else if t.busy && t.r2t && t.src == .fabric n && t.edition % 4 == tagEdition tag then
      if data.length > 65536 then connFatal s n 5
      else if off ≠ t.got.length ∨ off + data.length > t.cmd.dlen then connFatal s n 4
      else if last && decide (off + data.length < t.cmd.dlen) then connFatal s n 2
      else if !digestOk then
        tkFinish (r2tWithdraw (regInc (raise s 114) FX_DIGEST_ERR_COUNT) i) i .transientTransport
      else
        let s := tkMod s i fun t => { t with got := t.got ++ data, r2t := !last }
        if last then creditConsume s n else s
    else if (t.r2ts.head?.map fun r => (r.1, r.2.1)) = some (n, tagEdition tag) then
      raise (regInc s FX_STALE_COUNT) 113
    else connFatal s n 1
def execH2cDataPdu (conn tag off : Nat) (last digestOk headerOk : Bool) (data : Bytes) (s : State) : Res :=
  .next (h2cData s conn tag off last digestOk headerOk data)

/-- CONNECTION_CLOSED (R89): its commands have no path left and complete internally, its credits return. -/
def execConnectionClosed (conn : Nat) (s : State) : Res := .next (connClose s conn)

/-! ## Discovery (R91-R93) -/

/-- One discovery log entry of 1,024 octets: transport, port, no security, NVM subsystem (R92). Its octets stand as in NVMe;
the address family 1, the parcel number in octets 8 and 9 and zeros for the transport address and service are the model's, the
addresses of ports being nowhere in the spec. DESIGN CHOICE, log 64. -/
def discEntry (p port tr : Nat) (sub : Bytes) : Bytes :=
  let head : Bytes := [BitVec.ofNat 8 tr, 1, 2, 0] ++ leBytes 2 port ++ leBytes 2 65535 ++ leBytes 2 p
  let body := head ++ zeros (256 - head.length) ++ sub
  body ++ zeros (1024 - body.length)

/-- The discovery log page a host receives (R92): a count, then its entries for each port and transport. -/
def discLog (s : State) (h : Bytes) : Bytes :=
  let es := (discEntries s h).flatMap fun e =>
    (discPorts s).flatMap fun port => [discEntry e.1 port 1 e.2, discEntry e.1 port 3 e.2]
  let head := zeros 8 ++ leBytes 8 es.length
  head ++ zeros (1024 - head.length) ++ es.flatten

/-- A change of the entries that a connected discovery host would see (R93). -/
def discScan (s : State) : State :=
  (tabKeys s.host.conns (·.discovery)).foldl (fun s n =>
    match connGet s n with
    | some c =>
      let l := discList s c.hostNqn
      if c.seen = l then s
      else connMod { s with host := { s.host with discChange := true } } n fun x => { x with seen := l }
    | none => s) s

/-- DISCOVERY_LOG_CHANGE (R93): a change that connected hosts see raises the Discovery Log Page Change event (notice,
type 2, F0h, log page 70h) on every discovery controller. -/
def discNotify (s : State) : State :=
  if s.host.discChange then
    let s := { s with host := { s.host with discChange := false } }
    raise ((tabKeys s.host.conns (·.discovery)).foldl (fun s n =>
      match connGet s n with
      | some c => aenRaise s c.ctrl 0x70F002
      | none => s) s) 116
  else s
def execDiscoveryLogChange (s : State) : Res := .next (discNotify s)

/-- KEEP_ALIVE_TIMEOUT (R152): the controller whose admin connection this is has heard nothing for its Keep Alive
Timer; its connections close, as NVMe requires of an expired timer. -/
def keepAliveOut (s : State) (n : Nat) : State :=
  match connGet s n with
  | none => s
  | some c =>
    let k := ctrlGet s c.ctrl
    if k.kato ≠ 0 ∧ k.lastKa + framesOf s (k.kato * 1000000) ≤ frameNo s then
      (tabKeys s.host.conns fun x => x.ctrl == c.ctrl).foldl connClose s
    else s
def execKeepAliveTimeout (conn : Nat) (s : State) : Res := .next (keepAliveOut s conn)

/-- DOE_DISCOVERY (R65): the data object types of the mailbox: DOE Discovery, then CMA/SPDM; vendor 0001h. The companion function
is there in the x8+x8 arrangement alone (R59). -/
def execDoeDiscovery (fn index : Nat) (s : State) : Res :=
  .next (if isVf fn || (fn == compFn && !s.host.split) then s
    else if index = 0 then emit s (.doe fn [1, 0, 0, 1])
    else if index = 1 then emit s (.doe fn [1, 0, 1, 0])
    else emit s (.doe fn [0xFF, 0xFF, 0, 0]))

end Sys2Proof.Machine
end

