-- ==== Sys2Proof/Machine/PacketOps.lean ====
section
/-! DEFINITION. Chapter 14, manager packets: parameters, replies, the reply cache and the MG registers. Intake and the
opcodes follow in Packets.lean, after the units they act on. -/
namespace Sys2Proof.Machine

def mgMod (s : State) (f : MgSt → MgSt) : State := { s with mg := f s.mg }

/-- Packet octets `o` to `o + n - 1` of PARAMS (R693). -/
def pAt (p : Packet) (o n : Nat) : Nat := leAt p.params (o - 8) n

/-- Reply status codes (R698). -/
def rstatCode : RStat → Nat
  | .ok => 0
  | .badOpcode => 1
  | .badParameter => 2
  | .wrongState => 3
  | .noResource => 4
  | .busy => 5
  | .notAuthentic => 6
  | .aborted => 7
  | .entropyFailed => 8
  | .tooMany => 9
  | .duplicate => 10
  | .notReady => 11
  | .wrongCarrier => 12
  | .hostError => 13

/-- The carrier of a packet as the reply cache numbers it (R710). -/
def carrier (p : Packet) : Nat := if p.mctp then 1 + p.id else 0

/-- Does the Fevoum core interpret packets: are clusters 0 and 1 held in reset (R706)? -/
def fevoum (s : State) : Bool := regBit s (TC_STATUS 0) 31

/-- Packets in flight that cluster 0 counts (R704, R730). -/
def inFlight (s : State) : Nat := tabCount s.mg.flights fun f => !f.fevoum

def flightGet (s : State) (n : Nat) : Option Flight := tabGet s.mg.flights n

/-- The parcel of a packet in flight. -/
def flightParcel (s : State) (n : Nat) : Nat := ((flightGet s n).map (·.p.parcel)).getD 0xFFFF

/-- A packet has taken effect (R804). -/
def flightApplied (s : State) (n : Nat) : State :=
  mgMod s fun m => { m with flights := tabMod m.flights n fun f => { f with applied := true } }

/-- Packets that never wait for another (R708): PARCEL_RESET and the queries. -/
def neverWaits (op : Nat) : Bool := [0x108, 0x10E, 0x204, 0x304, 0x406, 0x707].contains op

/-- Does a packet wait for an earlier one of its PARCEL that has not taken effect (R708)? -/
def pkBlocked (s : State) (n : Nat) : Bool :=
  match flightGet s n with
  | none => false
  | some f => !neverWaits f.op && s.mg.flights.any fun e => decide (e.1 < n) && e.2.p.parcel == f.p.parcel && !e.2.applied

/-- A packet's flag bit. -/
def pFlag (p : Packet) (i : Nat) : Bool := bitOf p.flags i

/-- How a packet uses its buffer (R712-R724). -/
inductive BufUse where
  | none | input | output | both
  deriving DecidableEq, Repr

def bufUse (op : Nat) (p : Packet) : BufUse :=
  match op with
  | 0x105 => .input
  | 0x10B => .output
  | 0x10C => .both
  | 0x201 => .input
  | 0x202 => if pAt p 10 1 = 2 then .input else .none
  | 0x204 => if pFlag p 0 then .output else .none
  | 0x403 => .input
  | 0x404 => .input
  | 0x601 => .output
  | 0x701 => .input
  | 0x705 => .output
  | _ => .none

/-- Does a packet wait for Bus Master Enable to reach its buffer (R68, R697)? -/
def bufHeld (s : State) (op : Nat) (p : Packet) : Bool := !p.mctp && bufUse op p != .none && !(fnGet s 0).bme

/-- Does a packet in flight wait, for an earlier one or for its buffer? -/
def pkWaits (s : State) (n : Nat) : Bool :=
  pkBlocked s n || ((flightGet s n).map fun f => bufHeld s f.op f.p).getD false

/-- Is the ticket that carried a packet still its own? A reset of physical function 0 has freed it (R67). -/
def replyLive (s : State) (p : Packet) (tkEd : Nat) : Bool :=
  let t := tkGet s p.id
  p.mctp || (t.busy && t.admin && t.edition == tkEd && decide (0xC0 ≤ t.cmd.opc))

/-- A reply is made available (R694, R700, R711): it goes out on its carrier, the admin command completes, the MG
registers count it and event 500 is raised. After PWR_FAIL_N and in FATAL no completion is posted to
host memory (R707, R759), and where the admin queue has been reset the reply is discarded from it (R67). -/
def replySend (s : State) (fev : Bool) (op : Nat) (p : Packet) (tkEd : Nat) (st : RStat) (result data : Bytes) : State :=
  let res := if st = .ok then result ++ zeros (28 - result.length) else zeros 28
  let quiet := !p.mctp && (s.ev.powerFail || s.fr.fatal || !replyLive s p tkEd)
  let s := if quiet then s else emit s (.reply p.mctp p.id p.tag p.seq op st res)
  let s := if quiet || data = [] || st != .ok then s else emit s (.packetData p.mctp p.id data)
  let s := if p.mctp || quiet then s
    else tkMod (tkFinishW s p.id .success (p.seq % 65536 + rstatCode st * 65536)) p.id fun t => { t with dw1 := leAt res 0 4 }
  if fev then s
  else
    let s := regPut s MG_LAST (op % 65536 * 65536 + rstatCode st)
    let s := regPut s MG_LAST_SEQ (b2n p.mctp * 2 ^ 31 + (if p.mctp then p.id % 256 else 0) * 2 ^ 16 + p.seq % 65536)
    raise (regInc s MG_REPLIES) 500

/-- The reply cache takes a reply, replacing one of the same SEQUENCE; it keeps the last 64, or 8 under the Fevoum core
(R706, R710). -/
def cachePut (s : State) (fev : Bool) (c : CachedReply) : State :=
  let k := carrier c.p
  let old := (tabGetD s.mg.caches k []).filter fun x => x.p.seq != c.p.seq
  let lim := if fev then 8 else 64
  mgMod s fun m => { m with caches := tabSet m.caches k (old.drop (old.length + 1 - lim) ++ [c]) }

/-- Does a reply hold its data back until Bus Master Enable is set again (R68)? -/
def replyHeld (s : State) (f : Flight) (data : Bytes) : Bool :=
  !f.p.mctp && data != [] && !(fnGet s 0).bme && replyLive s f.p f.tkEd && !s.ev.powerFail && !s.fr.fatal

/-- A packet in flight is answered (R704, R710): reply, cache, and it is no longer in flight. -/
def pkReply (s : State) (n : Nat) (st : RStat) (result : Bytes := []) (data : Bytes := []) : State :=
  match flightGet s n with
  | none => s
  | some f =>
    if replyHeld s f data then
      mgMod s fun m => { m with flights := tabMod m.flights n fun f => { f with applied := true, reply := some (st, result, data) } }
    else
      let s := mgMod s fun m => { m with flights := tabErase m.flights n }
      let s := cachePut s f.fevoum ⟨f.op, f.p, st, result, data⟩
      replySend s f.fevoum f.op f.p f.tkEd st result data

/-- A refusal of a packet in flight. -/
def pkFail (s : State) (n : Nat) (st : RStat) : State := pkReply s n st

end Sys2Proof.Machine
end

