-- ==== Sys2Proof/Machine/Queue.lean ====
section
/-! DEFINITION. Chapter 03, intake and ordering: queues and doorbells, fetch and acceptance, hazards and ordered
commands, durability modes, completion. -/
namespace Sys2Proof.Machine

/-! ## Commands and their ranges -/

/-- Kinds of controller (R148). -/
inductive CtrlKind where
  | pf0 | companion | vf | fabric | discovery
  deriving DecidableEq, Repr

def ctrlKind (s : State) (c : Nat) : CtrlKind :=
  if c = 0 then .pf0 else if c = compFn then .companion else if c ≤ 768 then .vf
  else if s.host.conns.any (fun x => x.2.ctrl == c && x.2.discovery) then .discovery else .fabric

/-- The parcel of a controller. -/
def ctrlParcel (s : State) (c : Nat) : Option Nat :=
  match ctrlKind s c with
  | .vf => boundParcel s c
  | .fabric => (ctrlGet s c).parcel
  | _ => none

/-- The namespace of an NSID: NSID n is namespace index n − 1 (log 31). -/
def nsGet (s : State) (nsid : Nat) : Option Ns := if nsid = 0 then none else tabGet s.atl.nss (nsid - 1)
def nsMod (s : State) (nsid : Nat) (f : Ns → Ns) : State := atlSet s fun a => { a with nss := tabMod a.nss (nsid - 1) f }

/-- Octets of a logical block (R151). -/
def lbaSize (n : Ns) : Nat := if n.lbads = 9 then 512 else 4096

/-- SLBA and block count of a command with CDW10 to CDW12. -/
def cmdSlba (e : Sqe) : Nat := e.cdw10 + e.cdw11 * 2 ^ 32
def cmdNlb (e : Sqe) : Nat := bitsOf e.cdw12 15 0 + 1

/-- The ranges of a Dataset Management list: 16 octets each, length at 4, start at 8. -/
def dsmRanges (e : Sqe) : List (Nat × Nat) :=
  (List.range (bitsOf e.cdw10 7 0 + 1)).map fun k =>
    (leAt (e.list.getD []) (16 * k + 8) 8, leAt (e.list.getD []) (16 * k + 4) 4)

/-- The source ranges of a Copy, Source Format 0: 32 octets each, start at 8, 0-based count at 16. -/
def copyRanges (e : Sqe) : List (Nat × Nat) :=
  (List.range (bitsOf e.cdw12 7 0 + 1)).map fun k =>
    (leAt (e.list.getD []) (32 * k + 8) 8, leAt (e.list.getD []) (32 * k + 16) 2 + 1)

/-- Opcodes of the NVM command set that are supported (R150). -/
def nvmOpcode (o : Nat) : Bool := [0x00, 0x01, 0x02, 0x05, 0x08, 0x09, 0x0C, 0x19].contains o

/-- Opcodes of Execute Program, SLM Read and SLM Write on I/O queues (R495; log 32). -/
def computeOpcode (o : Nat) : Bool := o ≥ 0x81 && o ≤ 0x83

/-- The NSIDs of a parcel's compute namespace, which Execute Program names, and of its memory namespace, which SLM Read and SLM
Write name (R495 gives one of each a parcel and no numbers; log 32). -/
def computeNsid : Nat := 4097
def memoryNsid : Nat := 4098

/-- The opcode of Memory Copy (R495; log 32), whose direction is bit 31 of CDW12: 1 copies out of memory. -/
def copyOpcode : Nat := 0x84
def copiesOut (e : Sqe) : Bool := bitOf e.cdw12 31

/-- Blocks a copy writes: the sum of its sources. -/
def copyBlocks (e : Sqe) : Nat := ((copyRanges e).map (·.2)).sum

/-- Is the command write-like (R118)? -/
def writeLike (e : Sqe) : Bool :=
  (e.opc == copyOpcode && copiesOut e) || e.opc == 1 || e.opc == 8 || (e.opc == 9 && bitOf e.cdw11 2) || e.opc == 0x19 || (e.opc == 5 && e.fused == 1)

/-- The hazard entries of a command (R118): start, count, write-like. -/
def hazards (e : Sqe) : List (Nat × Nat × Bool) :=
  match e.opc with
  | 1 => [(cmdSlba e, cmdNlb e, true)]
  | 2 => [(cmdSlba e, cmdNlb e, false)]
  | 5 => [(cmdSlba e, cmdNlb e, e.fused == 1)]
  | 8 => [(cmdSlba e, cmdNlb e, true)]
  | 0xC => [(cmdSlba e, cmdNlb e, false)]
  | 9 => if bitOf e.cdw11 2 then (dsmRanges e).map fun r => (r.1, r.2, true) else []
  | 0x19 => (copyRanges e).map (fun r => (r.1, r.2, false)) ++ [(cmdSlba e, copyBlocks e, true)]
  | 0x84 => if copiesOut e then [(cmdSlba e, cmdNlb e, true)] else (copyRanges e).map fun r => (r.1, r.2, false)
  | _ => []

/-- Do two block ranges have a block in common? -/
def overlaps (a b : Nat × Nat × Bool) : Bool :=
  decide (a.1 < b.1 + b.2.1) && decide (b.1 < a.1 + a.2.1) && a.2.1 != 0 && b.2.1 != 0

/-- Every block range a command names (R115, R795): those of its hazards, and of a Dataset Management without Deallocate too. -/
def rangesNamed (e : Sqe) : List (Nat × Nat) :=
  if e.opc = 9 then dsmRanges e else (hazards e).map fun r => (r.1, r.2.1)

/-! ## Acceptance (R115, R795) -/

/-- Octets a command transfers by its blocks. -/
def xferLen (n : Ns) (e : Sqe) : Nat :=
  if e.opc = 1 ∨ e.opc = 2 ∨ e.opc = 5 then cmdNlb e * lbaSize n
  else if e.opc = 9 then 16 * (bitsOf e.cdw10 7 0 + 1)
  else if e.opc = 0x19 ∨ (e.opc = copyOpcode ∧ !copiesOut e) then 32 * (bitsOf e.cdw12 7 0 + 1) else 0

/-- The classes of tokens a command needs (R182). -/
def classesNeeded (s : State) (e : Sqe) : List Nat :=
  if computeOpcode e.opc then (if e.opc = 0x81 then [0, 3] else [0])
  else if e.opc = 0 then [0]
  else if ((nsGet s e.nsid).map transforms).getD 0 > 0 then [0, 1, 2] else [0, 1]

/-- Is every zero-share test of R115 order 9 passed? -/
def sharesOk (x : Parcel) (cls : List Nat) : Bool := cls.all fun c => x.rate.getD c 0 != 0

/-- Do the data of a capsule and the length its SGL describes differ (R89)? -/
def capsuleBad (k : Option Capsule) : Bool :=
  match k with
  | some k => k.inCapsule && k.data.length != k.sglLen
  | none => false

/-- The checks of a data pointer against the octets a command moves (R89). -/
def pointerCheck (len : Nat) (e : Sqe) (k : Option Capsule) : Option Status :=
  if e.dlen < len then some .sglLength
  else if !e.dok then some .dataTransfer
  else if capsuleBad k then some .dataTransfer
  else none

/-- Octets that Execute Program, SLM Read and SLM Write move: their own length field (log 32). -/
def computeLen (e : Sqe) : Nat := if e.opc = 0x81 then e.dlen else e.cdw12

/-- The checks of R115 for the commands of the two computational command sets. -/
def computeCheck (s : State) (p : Nat) (e : Sqe) (k : Option Capsule) : Option Status :=
  if e.nsid ≠ (if e.opc = 0x81 then computeNsid else memoryNsid) then some .invalidNsFormat
  else if (e.mark && !s.cq.orderMark.contains p) || e.fused != 0 then some .invalidField
  else if 2097152 < computeLen e then some .invalidField
  else match pointerCheck (computeLen e) e k with
    | some st => some st
    | none => if !sharesOk (parGet s p) (classesNeeded s e) then some .shareExhausted else none

/-- May a command carry its FUSE field: the first of a fused pair is a Compare, the second a Write (R118, R150)? Another
one is an invalid field. DESIGN CHOICE, log 65: the spec names no status for it. -/
def fuseOk (e : Sqe) : Bool := e.fused == 0 || (e.fused == 1 && e.opc == 5) || (e.fused == 2 && e.opc == 1)

/-- The checks of R115 in their order; the first that fails gives its status. A capsule whose receive buffer is lost comes first (R655). -/
def acceptCheck (s : State) (p c : Nat) (e : Sqe) (capsule : Option Capsule) : Option Status :=
  if (capsule.map (·.lost)).getD false then some .transientTransport
  else if computeOpcode e.opc then computeCheck s p e capsule
  else if !nvmOpcode e.opc && e.opc != copyOpcode then some .invalidOpcode
  else match (if e.opc = 0 ∧ e.nsid = 0xFFFFFFFF then some { nsze := 0, lbads := 12, parcel := some p } else nsGet s e.nsid) with
    | none => some .invalidNsFormat
    | some n =>
      if n.parcel ≠ some p ∨ (ctrlParcel s c) ≠ some p then some .invalidNsFormat
      else if (e.mark && !s.cq.orderMark.contains p) || !fuseOk e then some .invalidField
      else if (e.opc = 9 ∨ e.opc = 0x19 ∨ (e.opc = copyOpcode ∧ !copiesOut e)) ∧ e.list.isNone then some .dataTransfer
      else if (rangesNamed e).any fun r => decide (n.nsze < r.1 + r.2) then some .lbaRange
      else if (e.opc = 1 ∨ e.opc = 2 ∨ e.opc = 5) ∧ xferLen n e > 2097152 then some .invalidField
      else if e.opc = 0x19 ∧ (bitsOf e.cdw12 11 8 ≠ 0 ∨ bitsOf e.cdw12 7 0 ≥ 128) then some .invalidField
      else if (pointerCheck (xferLen n e) e capsule).isSome then pointerCheck (xferLen n e) e capsule
      else if writeLike e && regBit s AT_MEDIA_STATE 31 then some .mediaSealed
      else if writeLike e && s.cq.reqHoldup.contains (e.nsid - 1) && (!armed s || regBit s HQ_DURABILITY 30) then
        some .holdupUnavailable
      else if !sharesOk (parGet s p) (classesNeeded s e) then some .shareExhausted
      else none

/-! ## Hazards and order (R119-R125) -/

/-- Does an earlier-accepted command of the parcel block this one (R119)? -/
def hazardBlocked (s : State) (i : Nat) : Bool :=
  let t := tkGet s i
  s.cq.tickets.any fun e =>
    let u := e.2
    u.busy && !u.admin && e.1 != i && u.parcel == t.parcel && decide (u.order < t.order) && !u.released
      && u.cmd.nsid == t.cmd.nsid && u.phase != .done
      && ((hazards t.cmd).any fun a => (hazards u.cmd).any fun b => overlaps a b && (a.2.2 || b.2.2))

/-- Is it held by order (R123): an ordered command by any earlier I/O command, another by an earlier ordered one? -/
def orderBlocked (s : State) (i : Nat) : Bool :=
  let t := tkGet s i
  s.cq.tickets.any fun e =>
    let u := e.2
    u.busy && !u.admin && e.1 != i && u.parcel == t.parcel && decide (u.order < t.order) && (t.ordered || u.ordered)

/-- A command starts (R121): a write over a fabric takes its in-capsule data or sends for them (R81, R85). -/
def tkStart (s : State) (i : Nat) : State :=
  let s := tkMod s i fun t => { t with phase := .started }
  let t := tkGet s i
  let wants := t.cmd.opc == 1 || t.cmd.opc == 5 || t.cmd.opc == 0x81 || t.cmd.opc == 0x83
  if wants && t.got.isEmpty && t.cmd.dlen != 0 then pullSend s i else s

/-- A waiting command that nothing blocks any more starts (R121, R123). -/
def tkTryStart (s : State) (i : Nat) : State :=
  let t := tkGet s i
  if t.busy && t.phase == .waiting && !hazardBlocked s i && !orderBlocked s i then tkStart s i else s

/-- HAZARD_RELEASE_START (R121). -/
def execHazardReleaseStart (tk : Nat) (s : State) : Res :=
  .next (if (tkGet s tk).ordered then s else tkTryStart s tk)

/-- ORDERED_COMMAND_START (R123). -/
def execOrderedCommandStart (tk : Nat) (s : State) : Res :=
  .next (if (tkGet s tk).ordered then tkTryStart s tk else s)

/-! ## Fetch (R107-R111) -/

/-- Does a write accepted now complete only when its data are programmed (R127, R129, R131)? -/
def writeWaits (s : State) (c : Nat) (fua : Bool) : Bool :=
  let k := ctrlGet s c
  if regBit s HQ_DURABILITY 30 then true
  else if armed s then false
  else if !k.vwc then true
  else !k.wce || fua

/-- The Compare taken just before a command from the same queue, if it is the first of a fused pair and in flight (R118). -/
def fusedFirst (s : State) (i : Nat) : Option Nat :=
  let u := tkGet s i
  (tksWhere s fun t => t.src == u.src && t.cmd.fused == 1 && t.qno + 1 == u.qno && !t.admin).head?

/-- A command is accepted on a ticket (R110, R116): a failed check ends it at once, else it waits or starts. The durability
mode of a write is the one of this moment (R129). The second of a fused pair without its first ends at once (R118). `qno` is its
number among the commands of its queue. -/
def accept (s : State) (i p c : Nat) (src : Src) (qno : Nat) (ordq : Bool) (e : Sqe) (cap : Option Capsule) : State :=
  let n := s.cq.acceptNo
  let s := { s with cq := { s.cq with acceptNo := n + 1 } }
  let s := tkMod s i fun t => { t with
    parcel := some p, pEdition := (parGet s p).edition, src := src, ctrl := c, cmd := e, order := n
    qno := qno, through := writeWaits s c (bitOf e.cdw12 30)
    ordered := ordq || (e.mark && s.cq.orderMark.contains p)
    got := (cap.map (·.data)).getD [] }
  let s := parMod s p fun x => { x with accepted := x.accepted + 1 }
  match acceptCheck s p c e cap with
  | some st => tkFinish s i st
  | none => if e.fused = 2 ∧ fusedFirst s i = none then tkFinish s i .fusedMissing else tkTryStart s i

/-- Queue numbers of a parcel's non-empty queues, rising: submission queues by QID, connections from 65,536 on. -/
def parcelQueues (s : State) (p : Nat) : List Nat :=
  let pcie := match (parGet s p).vf with
    | none => []
    | some f => if !(fnGet s f).bme || !(ctrlGet s f).rdy then [] else
      (s.cq.sqs.filter fun e => e.1 / 65536 == f && e.1 % 65536 != 0 && !e.2.waiting.isEmpty && e.2.deleting.isEmpty).map
        fun e => e.1 % 65536
  let fab := (s.host.conns.filter fun e => e.2.parcel == p && e.2.qid != 0 && !e.2.discovery && !e.2.queue.isEmpty
    && (ctrlGet s e.2.ctrl).rdy).map fun e => 65536 + e.1
  pcie ++ fab

/-- The next queue after the one served last (R109). -/
def nextQueue (s : State) (p : Nat) : Option Nat :=
  let qs := parcelQueues s p
  match qs.find? fun q => decide (tabGetD s.cq.lastQ p 0 < q) with
  | some q => some q
  | none => qs.head?

/-- The most commands fetched from a queue in one turn (R106). -/
def burstOf (c : Ctrl) : Nat := min 8 (2 ^ bitsOf c.arb 2 0)

/-- The head command of a connection is taken: its buffer is to be posted again (R84) and its SQ head advances (R145). -/
def connTake (s : State) (n : Nat) (rest : List Capsule) : State :=
  connMod s n fun x => { x with queue := rest, repost := if x.tcp then x.repost else x.repost + 1, taken := x.taken + 1
                                sqhd := (x.sqhd + 1) % max 1 x.depth }

/-- The head command of a submission queue is taken. -/
def sqTake (s : State) (k : Nat) (q : Sq) (rest : List Sqe) : State :=
  let q' := { q with waiting := rest, head := (q.head + 1) % max 1 q.depth, taken := q.taken + 1 }
  { s with cq := { s.cq with sqs := tabSet s.cq.sqs k q' } }

/-- One command is taken from a queue of a parcel into a new ticket, spending its token (R108, R110, R145); whether one was.
Skips of quarantined tickets stay counted where no ticket was to be had (R114). -/
def fetchOne (s : State) (p q : Nat) : Bool × State :=
  let r := tkAlloc s false
  match r.1 with
  | none => (false, r.2)
  | some i =>
    if q ≥ 65536 then
      match connGet s (q - 65536) with
      | none => (false, s)
      | some c => match c.queue with
        | [] => (false, s)
        | k :: rest =>
          (true, accept (tokenSpend (connTake r.2 (q - 65536) rest) p 0 1) i p c.ctrl (.fabric (q - 65536)) c.taken
            c.ordered k.sqe (some k))
    else
      let f := ((parGet s p).vf).getD 0
      match tabGet s.cq.sqs (qkey f q) with
      | none => (false, s)
      | some sq => match sq.waiting with
        | [] => (false, s)
        | e :: rest =>
          (true, accept (tokenSpend (sqTake r.2 (qkey f q) sq rest) p 0 1) i p f (.pcie f q) sq.taken sq.ordered e none)

/-- Up to `n` commands from one queue, while the parcel has a token (R108); how many were taken. -/
def fetchBurst (s : State) (p q : Nat) : Nat → Nat × State
  | 0 => (0, s)
  | n + 1 =>
    if !(decide (1 ≤ (parGet s p).bal.getD 0 0)) then (0, s)
    else
      let x := fetchOne s p q
      if x.1 then
        let r := fetchBurst x.2 p q n
        (r.1 + 1, r.2)
      else (0, x.2)

/-- Burst of a queue of a parcel. -/
def queueBurst (s : State) (p q : Nat) : Nat :=
  if q ≥ 65536 then ((connGet s (q - 65536)).map fun c => burstOf (ctrlGet s c.ctrl)).getD 8
  else burstOf (ctrlGet s (((parGet s p).vf).getD 0))

/-- One turn of the parcels in rotation order (R109): slots left, and whether any command was taken. -/
def fetchRound (s : State) : List Nat → Nat → Bool → Nat × Bool × State
  | [], slots, pr => (slots, pr, s)
  | p :: ps, slots, pr =>
    if slots = 0 then (0, pr, s)
    else if (parGet s p).st ≠ .active then fetchRound s ps slots pr
    else match nextQueue s p with
      | none => fetchRound s ps slots pr
      | some q =>
        let r := fetchBurst s p q (min (queueBurst s p q) slots)
        let s := if r.1 = 0 then r.2 else { r.2 with cq := { r.2.cq with lastQ := tabSet r.2.cq.lastQ p q } }
        fetchRound s ps (slots - r.1) (pr || r.1 != 0)

/-- Rounds until no progress is made or no slot is left (R109). -/
def fetchRounds (s : State) (ps : List Nat) : Nat → Nat → State
  | 0, _ => s
  | k + 1, slots =>
    let r := fetchRound s ps slots false
    if r.2.1 && r.1 != 0 then fetchRounds r.2.2 ps k r.1 else r.2.2

/-- Is a ticket wanted and none to be had (R154)? -/
def ticketStarved (s : State) : Bool :=
  (tkAlloc s false).1.isNone &&
    (s.pc.parcels.any fun e => e.2.st == .active && decide (1 ≤ e.2.bal.getD 0 0) && !(parcelQueues s e.1).isEmpty)

/-- Host fetch of a boundary (R107-R109): the rotation starts one parcel higher at each boundary. -/
def hostFetch (s : State) : State :=
  let ks := s.pc.parcels.map (·.1)
  let start := frameNo s % 1024
  let ps := ks.filter (fun k => decide (start ≤ k)) ++ ks.filter fun k => decide (k < start)
  let s := fetchRounds s ps 33 32
  if ticketStarved s then raise (regPutBit s HQ_TICKETS_FREE 31 true) 34 else s

/-- Admin opcodes by controller (R148). -/
def adminSupported (k : CtrlKind) (o : Nat) : Bool :=
  match k with
  | .pf0 => [0, 1, 2, 4, 5, 6, 8, 9, 0xA, 0xC, 0xD, 0x10, 0x11, 0x14, 0x15, 0x1C].contains o || decide (0xC0 ≤ o)
  | .companion => [0, 1, 2, 4, 5, 6, 8, 9, 0xA, 0xC].contains o
  | .vf => [0, 1, 2, 4, 5, 6, 8, 9, 0xA, 0xC, 0x80].contains o || computeAdmin o
  | .fabric => [2, 6, 8, 9, 0xA, 0xC, 0x18, 0x7F, 0x80].contains o || computeAdmin o
  | .discovery => [2, 6, 8, 0xC, 0x18, 0x7F].contains o
where
  /-- Admin commands of the Computational Programs set (R495; log 32), on virtual functions and fabric controllers. -/
  computeAdmin (o : Nat) : Bool := [0x20, 0x21, 0x22].contains o

/-- An admin command taken on reserved ticket `i` (R111) is accepted: one that the controller does not support ends at once
(R148), as does one whose data pointer or in-capsule data do not hold (R89). -/
def adminTake (s : State) (i c : Nat) (src : Src) (e : Sqe) (cap : Option Capsule) : State :=
  let n := s.cq.acceptNo
  let p := ctrlParcel s c
  let s := { s with cq := { s.cq with acceptNo := n + 1 } }
  let s := tkMod s i fun t => { t with
    parcel := p, pEdition := (p.map fun p => (parGet s p).edition).getD 0, src := src, ctrl := c, admin := true
    cmd := e, order := n, phase := .started, got := (cap.map (·.data)).getD [] }
  let s := match p with
    | some p => parMod s p fun x => { x with accepted := x.accepted + 1 }
    | none => s
  if !adminSupported (ctrlKind s c) e.opc then tkFinish s i .invalidOpcode
  else match pointerCheck 0 e cap with
    | some st => tkFinish s i st
    | none => s

/-- Does a controller's parcel admit the fetch of admin commands (R200)? -/
def adminOpen (s : State) (c : Nat) : Bool :=
  match ctrlParcel s c with
  | none => (ctrlKind s c) != .vf
  | some p => let st := (parGet s p).st
              st == .active || st == .frozen

/-- Admin queues with a command waiting: of functions, then of fabric controllers, each by rising number. Where more than 8 have
one, the first 8 of this order are served, with no rotation. DESIGN CHOICE, log 57: R111 gives the numbers alone. -/
def adminQueues (s : State) : List (Nat × Bool) :=
  ((s.cq.sqs.filter fun e => e.1 % 65536 == 0 && !e.2.waiting.isEmpty && (fnGet s (e.1 / 65536)).bme
    && (ctrlGet s (e.1 / 65536)).rdy && adminOpen s (e.1 / 65536)).map fun e => (e.1 / 65536, false))
  ++ ((s.host.conns.filter fun e => e.2.qid == 0 && !e.2.queue.isEmpty && (e.2.discovery || adminOpen s e.2.ctrl)).map
    fun e => (e.1, true))

/-- One admin command is taken from its queue, or waits there while no reserved ticket is to be had. -/
def adminOne (s : State) (q : Nat × Bool) : State :=
  let r := tkAlloc s true
  match r.1 with
  | none => r.2
  | some i =>
    if q.2 then match connGet s q.1 with
      | none => s
      | some c => match c.queue with
        | [] => s
        | k :: rest => adminTake (connTake r.2 q.1 rest) i c.ctrl (.fabric q.1) k.sqe (some k)
    else match tabGet s.cq.sqs (qkey q.1 0) with
      | none => s
      | some sq => match sq.waiting with
        | [] => s
        | e :: rest => adminTake (sqTake r.2 (qkey q.1 0) sq rest) i q.1 (.pcie q.1 0) e none

/-- Admin fetch of a boundary: at most 8 commands, one a queue, no tokens (R111). -/
def adminFetch (s : State) : State := ((adminQueues s).take 8).foldl adminOne s

/-! ## Doorbells -/

/-- SQ_TAIL_DOORBELL (R109): the entries between the old and the new tail wait for fetch; a tail outside the queue is
reported as an invalid doorbell write (log 33). -/
def sqDoorbell (s : State) (fn qid tail : Nat) (es : List Sqe) : State :=
  match tabGet s.cq.sqs (qkey fn qid) with
  | none => aenRaise s fn 0x10000
  | some q =>
    if tail ≥ q.depth then aenRaise s fn 0x10100
    else
      let n := (tail + q.depth - q.tail) % q.depth
      let q' := { q with tail := tail, waiting := q.waiting ++ es.take n }
      { s with cq := { s.cq with sqs := tabSet s.cq.sqs (qkey fn qid) q' } }
def execSqTailDoorbell (fn qid tail : Nat) (entries : List Sqe) (s : State) : Res :=
  .next (sqDoorbell s fn qid tail entries)

/-- CQ_HEAD_DOORBELL (R144): entries are freed up to the new head. -/
def cqDoorbell (s : State) (fn qid head : Nat) : State :=
  match tabGet s.cq.cqs (qkey fn qid) with
  | none => aenRaise s fn 0x10000
  | some q =>
    if head ≥ q.depth then aenRaise s fn 0x10100
    else { s with cq := { s.cq with cqs := tabSet s.cq.cqs (qkey fn qid) { q with head := head } } }
def execCqHeadDoorbell (fn qid head : Nat) (s : State) : Res := .next (cqDoorbell s fn qid head)

/-- HELD_COMPLETION_POST (R144): a held completion is posted once its queue has room. -/
def execHeldCompletionPost (tk : Nat) (s : State) : Res := .next (tkPost s tk)

/-- COMMAND_COMPLETION (R143): the one completion of a command whose work has ended. -/
def execCommandCompletion (tk : Nat) (s : State) : Res := .next (tkPost s tk)

/-! ## Durability (R127-R131) -/

/-- CTRL_WT (R129, R157): while disarmed, some ready controller reported VWC = 0 at its last enable. -/
def ctrlWt (s : State) : Bool := !armed s && s.host.ctrls.any fun e => e.2.rdy && !e.2.vwc

/-- DURABILITY_MODE_CHANGE (R129, R131): arming or disarming takes effect; event 33 where ARMED or WRITE_THROUGH
changes, event 17 where a HOLDUP_CONTROL asked for it (R761). Re-arming ends the device-wide write-through; a failed
test that disarms brings it (R746, R748). -/
def durabilityChange (s : State) : State :=
  match s.cq.armReq with
  | none => s
  | some a =>
    let s := { s with cq := { s.cq with armReq := none } }
    let ch := a != armed s || (a && regBit s HQ_DURABILITY 30)
    let failed := !a && armed s && !s.pw.disarm
    let s := regPutBit s HQ_DURABILITY 31 a
    let s := if a then regPutBit s HQ_DURABILITY 30 false else regPutFld s HQ_WBUF_BUDGET 10 0 0
    let s := if failed then { regPutBit s HQ_DURABILITY 30 true with cq := { s.cq with smartBit4 := true } } else s
    let s := if s.pw.disarm && !a then raise { s with pw := { s.pw with disarm := false } } 17 else s
    if ch then raise s 33 else s
def execDurabilityModeChange (s : State) : Res := .next (durabilityChange s)

/-- BUDGET_LOWERED (R130): the new budget applies; at 0 while armed the device enters write-through. -/
def budgetApply (s : State) : State :=
  match s.cq.budgetReq with
  | none => s
  | some b =>
    let cut := decide (b < regFld s HQ_WBUF_BUDGET 10 0)
    let s := { s with cq := { s.cq with budgetReq := none } }
    let s := regPutFld s HQ_WBUF_BUDGET 10 0 b
    let s := if cut then regPutBit s HQ_DURABILITY 29 true else s
    if b = 0 ∧ armed s ∧ !regBit s HQ_DURABILITY 30 then
      let s := regPutBit s HQ_DURABILITY 30 true
      raise { s with cq := { s.cq with smartBit4 := true } } 33
    else s
def execBudgetLowered (s : State) : Res := .next (budgetApply s)

end Sys2Proof.Machine
end

