-- ==== Sys2Proof/Machine/Keys.lean ====
section
/-! DEFINITION. Chapter 08, key slots and entropy: how keys enter and leave slots (R404-R417, R806), the fuse bank and
the DRBG (R445, R450-R452). -/
namespace Sys2Proof.Machine

def ksMod (s : State) (f : KeySt → KeySt) : State := { s with ks := f s.ks }
def slotGet (s : State) (k : Nat) : KSlot := tabGetD s.ks.slots k {}

/-- Octets of keys held in the fuse bank and Fevoum core (Config.vault): the device root key, the key-agreement private
key, its public key, its certificate. -/
def vaultRoot : Bytes := Config.vault 0
def vaultAgreePriv : Bytes := Config.vault 3
def vaultAgreePub : Bytes := Config.vault 4
def vaultAgreeCert : Bytes := Config.vault 5

/-- The label under which media keys are derived; the spec gives none (log 3). -/
def mediaLabel : Bytes := Config.vault 6

/-- KEY_LEN of an algorithm (R402). -/
def keyLenOk (alg len : Nat) : Bool :=
  match alg with
  | 0 => len == 16
  | 1 => len == 32
  | 2 => len == 32
  | 3 => len == 64
  | a => a ≤ 8 && len % 8 == 0 && 16 ≤ len && len ≤ 64

/-- USES allowed for an algorithm and owner (R403). -/
def usesOk (alg uses : Nat) (device : Bool) : Bool :=
  uses < 256 && (List.range 8).all fun b => !bitOf uses b ||
    match b with
    | 0 => alg ≤ 3
    | 1 => alg ≤ 3
    | 2 => alg ≤ 1
    | 3 => alg ≤ 1
    | 4 => alg == 3 && device
    | 5 => alg ≤ 1
    | 6 => 4 ≤ alg && alg ≤ 8
    | _ => alg == 1 && device

/-- Is a slot the media key of a namespace (R417, R438)? -/
def slotBound (s : State) (k : Nat) : Bool := s.atl.nss.any fun e => e.2.media == some k

/-- Live captured copies of a slot (R438). -/
def slotCaptures (s : State) (k : Nat) : Nat :=
  tabCount s.en.jobs (fun j => (j.cap.map (·.slot)) == some k) + tabCount s.en.dg fun c => (c.cap.map (·.slot)) == some k

/-- Loaded slots of an owner other than `k` (R405). -/
def ownedSlots (s : State) (p k : Nat) : Nat :=
  (s.ks.slots.filter fun e => e.2.valid && !e.2.device && e.2.owner == p && e.1 != k).length

/-- Do the owner's limit and the device total permit a slot (R407 check 6, R164)? -/
def slotRoom (s : State) (device : Bool) (owner k : Nat) : Bool :=
  device || decide (ownedSlots s owner k < min 128 (parGet s owner).lim.keySlots)

/-! ## Installs and erasures (R404, R409, R412, R413) -/

/-- A key is installed: the edition advances; copies of an earlier key live on (R404, R412). -/
def keyInstall (s : State) (k : Nat) (x : KSlot) : State :=
  let x := { x with valid := true, edition := ((slotGet s k).edition + 1) % 256 }
  ksMod s fun ks => { ks with slots := tabSet ks.slots k x
                              kept := if x.persist then tabSet ks.kept k x else tabErase ks.kept k }

/-- A job that had captured the slot ends with KEY_REVOKED (R413): a GCM decryption writes nothing and its granules pass to
the discarding path. -/
def jobRevoke (s : State) (n : Nat) : State :=
  match jobGet s n with
  | none => s
  | some j =>
    let held := granNeed j != 0
    let w := if held || j.eng != .cp then 0 else j.written
    let s := jobMod (granDiscardEng s n j.gran) n fun x =>
      { x with gran := 0, cap := none, produced := w, flags := if j.eng = .cp then b2n (w != 0) else 0, iv := [] }
    jobEnd (jobDone s n esRevoked) n

/-- Digest jobs at work on a context. -/
def ctxJobs (s : State) (c : Nat) : List Nat :=
  tabKeys s.en.jobs fun j => j.eng == .dg && j.phase == .running && dCtx j == c

/-- A context whose captured key is erased becomes REVOKED (R365, R413). -/
def ctxRevoke (s : State) (c : Nat) : State :=
  let s := (ctxJobs s c).foldl jobRevoke s
  dgMod s c fun x => { x with st := .revoked, cap := none, data := [], result := [] }

/-- A job of a parcel whose reset took effect in step 3 is dropped before the erasure: it loses its copy and yields no record
(R358, R416). -/
def jobErase (s : State) (n : Nat) : State :=
  let due := ((jobGet s n).bind (·.parcel)).any fun p => (parGet s p).cancelDue
  if due then jobMod s n fun x => { x with cap := none } else jobRevoke s n

/-- Commands whose transforms use the media key of a slot end with KEY_REVOKED, those past their point of no return excepted
(R434). -/
def xformsRevoke (s : State) (k : Nat) : State :=
  let hit := fun (i : Nat) => !(tkGet s i).ponr && ((nsGet s (tkGet s i).cmd.nsid).map fun n => n.encrypt && n.media == some k).getD false
  ((s.en.xjobs.map (·.2.tk)).eraseDups.filter hit).foldl (fun s i =>
    tkFinish (enMod s fun e => { e with xjobs := tabFilter e.xjobs fun _ x => x.tk != i }) i .keyRevoked) s

/-- An erasure takes effect (R413): jobs and contexts that captured the slot end, transforms too (R434), copies are zeroized, the
edition advances, event 369 follows. An empty slot is left as it is (R404). -/
def keyErase (s : State) (k : Nat) : State :=
  if !(slotGet s k).valid then s
  else
    let s := xformsRevoke s k
    let jobs := tabKeys s.en.jobs fun j =>
      (j.cap.map (·.slot)) == some k && (j.phase == .running || j.phase == .waiting)
    let ctxs := tabKeys s.en.dg fun c => (c.cap.map (·.slot)) == some k && (c.st == .opened || c.st == .finished)
    let s := jobs.foldl jobErase s
    let s := ctxs.foldl ctxRevoke s
    let e := ((slotGet s k).edition + 1) % 256
    raise (ksMod s fun ks => { ks with slots := tabSet ks.slots k { edition := e }, kept := tabErase ks.kept k }) 369

/-! ## Derivation (R408, R806) -/

/-- KDF in counter mode over HMAC-SHA-384 (R806). -/
def kdfCounter (ki label ctx : Bytes) (len : Nat) : Bytes :=
  let block := fun (i : Nat) => hmacOf 1 ki (beBytes 4 i ++ label ++ [0] ++ ctx ++ beBytes 4 (8 * len))
  (block 1 ++ block 2).take len

/-- The DRBG reseeds (R450, R452). -/
def drbgReseed (s : State) : State := regPutFld s KS_ENTROPY 15 0 (regFld s KS_ENTROPY 15 0 + 1)

/-- A FRESH key: its nonce is drawn with prediction resistance (R408, R450). -/
def freshKey (s : State) (label : Bytes) (len : Nat) : Bytes × State :=
  let r := drbgBytes (drbgReseed s) 32
  (kdfCounter vaultRoot label r.1 len, r.2)

/-- A fresh media key of a namespace (R432). -/
def mediaSlot (key : Bytes) : KSlot :=
  { valid := true, alg := 3, key := key, uses := 16, device := true, persist := true, derived := true }

/-! ## Key packets at step 4 (R407, R411, R717, R718) -/

/-- The device-or-parcel destination of a key packet. -/
def destDevice (p : Packet) : Bool := p.parcel == 0xFFFF

def slotIs (x : KSlot) (p : Packet) : Bool := if destDevice p then x.device else !x.device && x.owner == p.parcel

/-- Is a save of the slot's parcel in progress (R416)? -/
def slotSaving (s : State) (x : KSlot) : Bool :=
  x.valid && !x.device && ((tabGet s.pc.saves x.owner).map fun v => !v.restore).getD false

/-- KEY_UNWRAP takes effect (R407, R718). -/
def keyUnwrapFx (s : State) (n : Nat) (p : Packet) : State :=
  let k := pAt p 8 2
  let kek := slotGet s (pAt p 10 2)
  let saving := slotSaving s (slotGet s k) ||
    (!destDevice p && ((tabGet s.pc.saves p.parcel).map fun v => !v.restore).getD false)
  if 4096 ≤ k ∨ 4096 ≤ pAt p 10 2 then pkFail s n .badParameter
  else if saving then pkFail s n .busy
  else if !kek.valid ∨ !bitOf kek.uses 5 then pkFail s n .badParameter
  else if !kek.device ∧ (destDevice p ∨ kek.owner ≠ p.parcel) then pkFail s n .badParameter
  else match Config.kwUnwrap kek.key p.buf with
    | none => pkFail (raise (regInc s KS_UNWRAP_FAIL) 371) n .notAuthentic
    | some b =>
      let alg := leAt b 0 1
      let uses := leAt b 1 1
      let len := leAt b 2 1
      let fl := leAt b 3 1
      let dev := bitOf fl 1
      let key := slice b 8 len
      let ok := keyLenOk alg len && usesOk alg uses dev && fl / 4 == 0 && leAt b 6 2 == 0 && b.length == 8 + len
        && dev == destDevice p && leAt b 4 2 == (if dev then 0 else p.parcel)
        && !((alg == 2 || alg == 3) && key.take (len / 2) == key.drop (len / 2))
        && (!(slotGet s k).valid || slotIs (slotGet s k) p || !bitOf p.flags 0)
      if !ok then pkFail s n .badParameter
      else if (slotGet s k).valid ∧ !bitOf p.flags 0 then pkFail s n .wrongState
      else if !slotRoom s dev p.parcel k then pkFail s n .noResource
      else
        let s := keyInstall s k { alg := alg, key := key, uses := uses, device := dev, persist := bitOf fl 0
                                  owner := if dev then 0 else p.parcel }
        pkReply s n .ok [BitVec.ofNat 8 (slotGet s k).edition]

/-- The key of a KEY_DERIVE by its mode (R408, R806); none where the peer's public key does not agree. -/
def deriveKey (s : State) (p : Packet) (len : Nat) : Option (Bytes × State) :=
  let label := slice p.params 8 32
  match pAt p 10 1 with
  | 0 => some (kdfCounter vaultRoot label [] len, s)
  | 1 => some (freshKey s label len)
  | _ => (Config.agree vaultAgreePriv p.buf).map fun z => (kdfCounter z label (p.buf ++ vaultAgreePub) len, s)

/-- KEY_DERIVE takes effect (R718, R806). -/
def keyDeriveFx (s : State) (n : Nat) (p : Packet) : State :=
  let k := pAt p 8 2
  let alg := pAt p 11 1
  let uses := pAt p 12 1
  let len := pAt p 13 1
  if 4096 ≤ k ∨ 2 < pAt p 10 1 ∨ !keyLenOk alg len ∨ !usesOk alg uses (destDevice p)
      ∨ (if pAt p 10 1 = 2 then p.buf.length ≠ 96 else p.bufLen ≠ 0) then pkFail s n .badParameter
  else if (slotGet s k).valid ∧ !bitOf p.flags 1 then pkFail s n .wrongState
  else if (slotGet s k).valid ∧ !slotIs (slotGet s k) p then pkFail s n .badParameter
  else if !slotRoom s (destDevice p) p.parcel k then pkFail s n .noResource
  else if pAt p 10 1 = 1 ∧ drbgError s then pkFail s n .entropyFailed
  else match deriveKey s p len with
    | none => pkFail s n .badParameter
    | some (key, s) =>
      let s := keyInstall s k { alg := alg, key := key, uses := uses, device := destDevice p, persist := bitOf p.flags 0
                                owner := if destDevice p then 0 else p.parcel, derived := true }
      pkReply s n .ok [BitVec.ofNat 8 (slotGet s k).edition]

/-- KEY_ERASE takes effect (R404, R413, R415-R418). -/
def keyEraseFx (s : State) (n : Nat) (p : Packet) : State :=
  let k := pAt p 8 2
  let x := slotGet s k
  if 4096 ≤ k then pkFail s n .badParameter
  else if !x.valid then pkReply s n .ok [BitVec.ofNat 8 x.edition]
  else if !slotIs x p then pkFail s n .badParameter
  else if bitOf x.uses 4 && slotBound s k then pkFail s n .wrongState
  else if slotSaving s x then pkFail s n .busy
  else
    let s := keyErase s k
    pkReply s n .ok [BitVec.ofNat 8 (slotGet s k).edition]

/-- KEY_QUERY (R717). -/
def keyQueryFx (s : State) (n : Nat) (p : Packet) : State :=
  let k := pAt p 8 2
  let x := slotGet s k
  if bitOf p.flags 0 then
    if k ≠ 0 then pkFail s n .badParameter
    else pkReply s n .ok (leBytes 4 vaultAgreeCert.length) (vaultAgreeCert.take p.bufLen)
  else if 4096 ≤ k then pkFail s n .badParameter
  else if !x.valid then pkReply s n .ok ([0, 0, 0, 0, 0, 0, BitVec.ofNat 8 x.edition, 0])
  else
    let bits := 1 + 2 * b2n x.persist + 4 * b2n x.device + 8 * b2n x.derived + 16 * b2n (slotBound s k)
    pkReply s n .ok (leBytes 1 x.alg ++ leBytes 1 x.uses ++ leBytes 1 x.key.length ++ leBytes 1 bits ++ leBytes 2 x.owner
      ++ leBytes 1 x.edition ++ leBytes 1 (min 255 (slotCaptures s k)))

/-- Device slots free for a media key: the SV9640 takes one of them, which one is not stated (log 3). -/
def mediaSlotPick (s : State) : Option (Nat × State) :=
  let free := (List.range 4096).filter fun k => !(slotGet s k).valid
  match free with
  | [] => none
  | k :: _ =>
    let f := takeFree s
    some (free.getD (f.1 % free.length) k, f.2)

/-- The encryption transform is turned on or off (R413, R432, R721). -/
def nsEncrypt (s : State) (id : Nat) (v : Ns) (on : Bool) : RStat × State :=
  if on = v.encrypt then (.ok, s)
  else if !on then
    let s := match v.media with
      | some k => keyErase s k
      | none => s
    (.ok, nsMod s id fun v => { v with encrypt := false, media := none })
  else if drbgError s then (.entropyFailed, s)
  else match mediaSlotPick s with
    | none => (.noResource, s)
    | some (k, s) =>
      let r := freshKey s mediaLabel 64
      (.ok, nsMod (keyInstall r.2 k (mediaSlot r.1)) id fun v => { v with encrypt := true, media := some k })

/-- NS_TRANSFORM (R721). -/
def nsTransformFx (s : State) (n : Nat) (p : Packet) : State :=
  let id := pAt p 8 4
  let comp := bitOf (pAt p 12 1) 0
  let enc := bitOf (pAt p 12 1) 1
  match nsGet s id with
  | none => pkFail s n .badParameter
  | some v =>
    let change := comp != v.compress || enc != v.encrypt
    if 1 < pAt p 13 1 ∨ pAt p 14 1 = 0 ∨ 4 < pAt p 14 1 then pkFail s n .badParameter
    else if change && v.quads.any (fun q => qForm (dirGet s q) != formEmpty) then pkFail s n .wrongState
    else if comp && !v.compress && decide (tablesFree s < v.quads.length) then pkFail s n .noResource
    else match nsEncrypt s id v enc with
      | (.ok, s) =>
        let s := nsMod s id fun v => { v with compress := comp, nextTab := some (pAt p 13 1, pAt p 14 1) }
        pkReply s n .ok (leBytes 2 (((nsGet s id).bind (·.media)).getD 0xFFFF))
      | (st, _) => pkFail s n st

/-- An erasure or install of the SV9640's own is asked for; it takes effect in step 4 (R411). -/
def keyAsk (s : State) (r : KeyReq) : State := ksMod s fun k => { k with reqs := k.reqs ++ [r] }

/-- A Format NVM with SES = 010b (R149, R434): the media key slot is erased and a fresh key installed, the namespace is emptied and
the command completes. -/
def mediaRenew (s : State) (i edition nsid k : Nat) : State :=
  match nsGet s nsid with
  | none => s
  | some n =>
    let r := freshKey (keyErase s k) mediaLabel 64
    let s := keyInstall r.2 k (mediaSlot r.1)
    let s := stripePrune (quadsClear s n (nsid - 1) formEmpty)
    if (tkGet s i).busy && (tkGet s i).edition == edition then tkFinish s i .success else s

/-- One request of step 4 (R411). -/
def keyReqRun (s : State) : KeyReq → State
  | .erase k => keyErase s k
  | .renew i e nsid k => mediaRenew s i e nsid k
  | .packet n _ =>
    match flightGet s n with
    | none => s
    | some f =>
      let s := flightApplied s n
      if f.op = 0x305 then nsTransformFx s n f.p
      else if f.op = 0x201 then keyUnwrapFx s n f.p else if f.op = 0x202 then keyDeriveFx s n f.p else keyEraseFx s n f.p

def reqSlot : KeyReq → Nat
  | .erase k => k
  | .renew _ _ _ k => k
  | .packet _ k => k

/-- Does a request erase? -/
def reqErases (s : State) : KeyReq → Bool
  | .erase _ => true
  | .renew _ _ _ _ => true
  | .packet n _ => ((flightGet s n).map fun f => f.op == 0x203 || (f.op == 0x305 && !bitOf (pAt f.p 12 1) 1)).getD false

/-- Step 4: the key requests made before take effect, in the order their packets were received (R411); one whose packet
waits for another of its PARCEL stays (R708), and a new media key waits for the DRBG (R451). DESIGN CHOICE, log 74: R451 names no
outcome for a Format NVM. -/
def keysBoundary (s : State) : State :=
  let wait := fun (s : State) (r : KeyReq) => match r with
    | .packet n _ => pkWaits s n
    | .renew _ _ _ _ => drbgError s
    | .erase _ => false
  s.ks.reqs.foldl (fun s r => if wait s r then ksMod s fun k => { k with reqs := k.reqs ++ [r] } else keyReqRun s r)
    (ksMod s fun k => { k with reqs := [] })

/-- The earliest request of a slot, if it is of the kind asked for, takes effect. -/
def keyReqOne (s : State) (slot : Nat) (erases : Bool) : State :=
  match s.ks.reqs.find? fun r => reqSlot r == slot with
  | none => s
  | some r =>
    if reqErases s r == erases then keyReqRun (ksMod s fun k => { k with reqs := k.reqs.erase r }) r else s

/-- KEY_INSTALL_EFFECT (R411, R412). -/
def execKeyInstallEffect (slot : Nat) (s : State) : Res := .next (keyReqOne s slot false)

/-- KEY_ERASURE_EFFECT (R411, R413). -/
def execKeyErasureEffect (slot : Nat) (s : State) : Res := .next (keyReqOne s slot true)

/-! ## Fuses and entropy (R422, R445, R450-R452) -/

/-- FUSE_BLOW_COMPLETE (R445): the counter stands at the running image's SVN, event 375, and the packet is answered. -/
def fuseDone (s : State) : State :=
  match s.ks.blowing with
  | none => s
  | some (svn, n) =>
    let s := regPutFld (ksMod s fun k => { k with fuses := max k.fuses svn, blowing := none }) KS_TRUST 15 8 (max s.ks.fuses svn)
    pkReply (raise s 375) n .ok [BitVec.ofNat 8 s.ks.fuses]
def execFuseBlowComplete (s : State) : Res := .next (fuseDone s)

/-- HEALTH_TEST_FAILURE (R451, R452). -/
def healthFail (s : State) : State :=
  let s := regPutBit (regPutFld s KS_ENTROPY 31 30 2) KS_ENTROPY 29 true
  let s := regPutFld s KS_ENTROPY 23 16 (min 255 (regFld s KS_ENTROPY 23 16 + 1))
  raise (ksMod s fun k => { k with failedAt := some (frameNo s), retries := 0 }) 372
def execHealthTestFailure (s : State) : Res := .next (healthFail s)

/-- A repeated start-up test is due: 20,000 frames after the failure and after each earlier test, three times (R451). -/
def retryDue (s : State) : Bool :=
  match s.ks.failedAt with
  | none => false
  | some f => drbgError s && decide (s.ks.retries < 3) && decide (f + 20000 * (s.ks.retries + 1) ≤ frameNo s)

/-- STARTUP_TEST_RETRY (R451): a pass reinstantiates the DRBG and raises event 373. -/
def startupRetry (s : State) (pass : Bool) : State :=
  if !retryDue s then s
  else if pass then
    raise (regPutFld (ksMod s fun k => { k with failedAt := none, retries := 0, grace := false }) KS_ENTROPY 31 30 1) 373
  else ksMod s fun k => { k with retries := k.retries + 1 }
def execStartupTestRetry (pass : Bool) (s : State) : Res := .next (startupRetry s pass)

/-- ENTROPY_GRACE_EXPIRY (R422): 1,048,576 frames after the failure the cipher engine starts no slice. -/
def graceExpiry (s : State) : State :=
  match s.ks.failedAt with
  | some f => if drbgError s && decide (f + 1048576 ≤ frameNo s) then ksMod s fun k => { k with grace := true } else s
  | none => s
def execEntropyGraceExpiry (s : State) : Res := .next (graceExpiry s)

/-- DRBG_RESEED (R450): every 1,048,576 frames while READY. -/
def reseedPeriodic (s : State) : State :=
  if regFld s KS_ENTROPY 31 30 = 1 ∧ s.ks.reseeded + 1048576 ≤ frameNo s then
    drbgReseed (ksMod s fun k => { k with reseeded := frameNo s })
  else s
def execDrbgReseed (s : State) : Res := .next (reseedPeriodic s)

/-- MASK_GENERATOR_RESEED (R422): after 65,536 blocks, from the DRBG, while it is READY. -/
def maskReseed (s : State) (lane : Nat) : State :=
  if lane < 16 ∧ 65536 ≤ tabGetD s.ks.blocks lane 0 ∧ regFld s KS_ENTROPY 31 30 = 1 then
    let r := drbgBytes s 32
    ksMod r.2 fun k => { k with blocks := tabSet k.blocks lane (tabGetD k.blocks lane 0 - 65536) }
  else s
def execMaskGeneratorReseed (lane : Nat) (s : State) : Res := .next (maskReseed s lane)

/-- Time-driven entropy steps of a boundary. -/
def entropyBoundary (s : State) : State := graceExpiry (reseedPeriodic ((List.range 16).foldl maskReseed s))

/-- KS_SLOT_LO and KS_SLOT_HI (R438), and KS_SUMMARY (R437). -/
def slotLo (s : State) (k : Nat) : Nat :=
  let x := slotGet s k
  if x.valid then x.alg % 16 * 2 ^ 28 + x.key.length % 256 * 2 ^ 16 + x.uses % 256 else 0
def slotHi (s : State) (k : Nat) : Nat :=
  let x := slotGet s k
  x.edition % 256 * 256 + if x.valid then
    2 ^ 31 + b2n x.persist * 2 ^ 30 + b2n x.device * 2 ^ 29 + b2n x.derived * 2 ^ 28 + b2n (slotBound s k) * 2 ^ 27
      + (if x.device then 0 else x.owner % 1024) * 2 ^ 16 + min 255 (slotCaptures s k) else 0
def keySummary (s : State) : Nat :=
  tabCount s.ks.slots (fun x => x.valid && x.device) * 2 ^ 16 + tabCount s.ks.slots (·.valid)

end Sys2Proof.Machine
end

