-- ==== Sys2Proof/Machine/Nvm.lean ====
section
/-! DEFINITION. Chapter 03, the NVM commands: reads through the map, partial-tile merges, the write buffer, deallocation,
copies, fused pairs and Flush (R118, R127, R133, R242-R245, R807). -/
namespace Sys2Proof.Machine

/-! ## Tiles of a command (R234) -/

/-- Tiles of the logical blocks in one namespace tile. -/
def blocksPerTile (n : Ns) : Nat := if n.lbads = 9 then 8 else 1

/-- The device tile of namespace tile `k` (R234). -/
def devTile (n : Ns) (k : Nat) : Nat := n.quads.getD (k / quadTiles) 0 * quadTiles + k % quadTiles

/-- One tile a range touches: device tile, the first octet and the octets within it, and the octet of the range at which
they stand. -/
structure TileSpan where
  tile : Nat
  off : Nat
  len : Nat
  pos : Nat
  deriving DecidableEq, Repr

/-- The tiles of a range of blocks. -/
def spans (n : Ns) (slba cnt : Nat) : List TileSpan :=
  let b := blocksPerTile n
  let z := lbaSize n
  if cnt = 0 then []
  else (List.range ((slba + cnt - 1) / b - slba / b + 1)).map fun j =>
    let k := slba / b + j
    let lo := max slba (k * b)
    let hi := min (slba + cnt) ((k + 1) * b)
    ⟨devTile n k, (lo - k * b) * z, (hi - lo) * z, (lo - slba) * z⟩

/-! ## Reading tiles -/

/-- Stored octets of a tile that a flash read of it transfers (R189 meter 3). -/
def storedLen (s : State) (die page slot tile : Nat) : Nat :=
  match (flashGet s die page).bind fun p => pageEnt p slot tile with
  | some e => if e.raw then 4096 else e.len
  | none => 0

/-- The content of a tile from flash (R266); none where no tag or entry matches or the image does not decode. -/
def flashTile (s : State) (n : Ns) (die page slot tile : Nat) : Option Bytes :=
  (flashGet s die page).bind fun p => (pageTile die page p slot tile).bind fun r => tileDecode s n tile r.1 r.2

/-- The content of a tile in the write buffer; none where it is poisoned (R244). -/
def bufferTile (s : State) (n : Ns) (slot tile : Nat) : Option Bytes :=
  (tabGet s.atl.wbuf slot).bind fun e => if e.poison then none else tileDecode s n tile e.raw e.image

/-- The present content of a tile without a media operation: zeros, the write buffer, or flash by rebuild. -/
def tileNow (s : State) (n : Ns) (tile : Nat) : Option Bytes :=
  match mapLookup s tile with
  | .unmapped | .zero => some (zeros 4096)
  | .buffer b => bufferTile s n b tile
  | .flash d p k => flashTile s n d p k tile
  | .bad => none

/-- A tile's read for a command begins (R241, R242, R266): answered at once but for a flash tile, whose read is queued
to its die, or served by rebuild where its die is lost (R287). -/
def readTile (s : State) (i : Nat) (n : Ns) (idx tile : Nat) : State :=
  let t := tkGet s i
  let put : State → TileRead → State := fun s r => tkMod s i fun t => { t with reads := t.reads ++ [r] }
  let q := tile / quadTiles
  match mapLookup s tile with
  | .unmapped | .zero => put s { idx := idx, quad := q, tile := tile, got := some (zeros 4096) }
  | .buffer b => match bufferTile s n b tile with
    | some d => put s { idx := idx, quad := q, tile := tile, got := some d
                        stored := (tabGet s.atl.wbuf b).map fun e => (e.raw, e.image.length) }
    | none => put s { idx := idx, quad := q, tile := tile, bad := true }
  | .flash d p k =>
    if dieLive s d then
      queueRead (put s { idx := idx, quad := q, tile := tile, die := some d }) d (.read i t.edition idx p k)
    else if rebuildable s d p then
      match flashTile s n d p k tile with
      | some c =>
        put (meterAdd (regInc s AT_REBUILT_PAGES) (t.parcel.getD 0) 3 (storedLen s d p k tile))
          { idx := idx, quad := q, tile := tile, got := some c
            stored := ((flashGet s d p).bind fun x => pageEnt x k tile).map fun e => (e.raw, e.len) }
      | none => put (tileLost s) { idx := idx, quad := q, tile := tile, bad := true }
    else put (tileLost s) { idx := idx, quad := q, tile := tile, bad := true }
  | .bad => put (raise s 230) { idx := idx, quad := q, tile := tile, bad := true }

/-- Flash tiles among a list. -/
def flashCount (s : State) (ts : List Nat) : Nat :=
  (ts.filter fun t => match mapLookup s t with
    | .flash _ _ _ => true
    | _ => false).length

/-- The read of some tiles, each with the position that numbers it, is one step (R180, R181): it begins once a media token stands
where one of them is in flash, spends one for each of those, and takes a granule for each tile. -/
def readTiles (s : State) (i p : Nat) (n : Ns) (ts : List (Nat × Nat)) : Option State :=
  let f := flashCount s (ts.map (·.2))
  if (f ≠ 0 ∧ !tokenOk s p 1) ∨ s.fr.pool < ts.length then none
  else
    let s := if f = 0 then s else tokenSpend s p 1 f
    let s := tkGranTake s i ts.length
    some (ts.foldl (fun s x => readTile s i n x.1 x.2) s)

/-- Tiles numbered from `base` on. -/
def numbered (base : Nat) (ts : List Nat) : List (Nat × Nat) := ((List.range ts.length).map (base + ·)).zip ts

/-- The transforms of what a ticket has read go through the engines (R163, R350): tiles that are stored, each by its own job. -/
def decodeStage (s : State) (i p : Nat) (n : Ns) : Bool × State :=
  let t := tkGet s i
  xformStage s i p t.xdec (fun x t => { t with xdec := x })
    (t.reads.filterMap fun r => r.stored.map fun x => decodeSteps s n x.1 x.2)

/-- Have all reads of a ticket ended? -/
def readsDone (t : Ticket) : Bool := t.reads.all fun r => r.bad || r.got.isSome

/-- What a read delivered. -/
def gotOf (t : Ticket) (idx : Nat) : Bytes := ((t.reads.find? (·.idx == idx)).bind (·.got)).getD (zeros 4096)

/-- The blocks of a range, out of the tiles read from position `base` on. -/
def gather (t : Ticket) (base : Nat) (sp : List TileSpan) : Bytes :=
  (((List.range sp.length).zip sp).map fun x => slice (gotOf t (base + x.1)) x.2.off x.2.len).flatten

/-- Status of a command one of whose tiles could not be read: its media key gone, or unrecovered (R274, R434). -/
def badStatus (s : State) (n : Ns) : Status := if n.encrypt && (mediaKey s n).isNone then .keyRevoked else .unrecoveredRead

/-! ## Writing tiles -/

/-- One tile that a write-like command changes: marked whole, or given octets at offsets. -/
structure TileOp where
  tile : Nat
  whole : Bool
  mark : Option Word
  parts : List (Nat × Bytes)
  deriving DecidableEq, Repr

/-- The tile operations of data over a range. -/
def dataOps (n : Ns) (slba cnt : Nat) (d : Bytes) : List TileOp :=
  (spans n slba cnt).map fun x => ⟨x.tile, x.len == 4096, none, [(x.off, slice d x.pos x.len)]⟩

/-- The tile operations of a range set to zero or deallocated: whole tiles marked, partial ones merged as zeros
(R245). -/
def zeroOps (n : Ns) (slba cnt : Nat) (w : Word) : List TileOp :=
  (spans n slba cnt).map fun x =>
    if x.len = 4096 then ⟨x.tile, true, some w, []⟩ else ⟨x.tile, false, none, [(x.off, zeros x.len)]⟩

/-- A tile operation of zeros that covers every block of its tile marks it instead. -/
def opWhole (o : TileOp) : TileOp :=
  if o.mark.isSome then o
  else if (List.range 8).all fun b => o.parts.any fun x => decide (x.1 ≤ 512 * b) && decide (512 * b < x.1 + x.2.length) then
    { o with whole := true, mark := some wUnmapped, parts := [] }
  else o

/-- A tile operation put with the others of a command: one operation a tile. -/
def opJoin (o : TileOp) : List TileOp → List TileOp
  | [] => [o]
  | x :: t =>
    if x.tile = o.tile then
      (if o.mark.isSome then o else if x.mark.isSome then x else opWhole { x with parts := x.parts ++ o.parts }) :: t
    else x :: opJoin o t

/-- The tile operations of a Deallocate: of two ranges within one tile the tile is changed once (R245, R795). -/
def dsmOps (n : Ns) (rs : List (Nat × Nat)) : List TileOp :=
  (rs.flatMap fun r => zeroOps n r.1 r.2 wUnmapped).foldl (fun l o => opJoin o l) []

/-- The tile operations of a command (R245, R118). -/
def cmdOps (n : Ns) (t : Ticket) : List TileOp :=
  match t.cmd.opc with
  | 1 => dataOps n (cmdSlba t.cmd) (cmdNlb t.cmd) (t.heldData.getD [])
  | 8 => zeroOps n (cmdSlba t.cmd) (cmdNlb t.cmd) (if bitOf t.cmd.cdw12 25 then wUnmapped else wZero)
  | 9 => dsmOps n (dsmRanges t.cmd)
  | 0x19 => dataOps n (cmdSlba t.cmd) (copyBlocks t.cmd) (t.heldData.getD [])
  | 0x84 => dataOps n (cmdSlba t.cmd) (cmdNlb t.cmd) (t.heldData.getD [])
  | _ => []

/-- Partial tiles of a list of operations, with their positions. -/
def partials (ops : List TileOp) : List (Nat × Nat) :=
  (((List.range ops.length).zip ops).filter fun x => !x.2.whole).map fun x => (x.1, x.2.tile)

/-- The content a tile operation leaves (R244). -/
def mergeOp (t : Ticket) (k : Nat) (o : TileOp) : Bytes :=
  o.parts.foldl (fun c x => putAt c x.1 x.2) (if o.whole then zeros 4096 else gotOf t k)

/-- Is a content all zeros (R243)? -/
def allZero (d : Bytes) : Bool := d.all (· == 0)

/-- Tokens that a write step spends as data (R807): every tile but whole marks. -/
def dataTiles (ops : List TileOp) : Nat := (ops.filter fun o => o.mark.isNone).length

/-- Positions from which the source tiles of a Copy are numbered. -/
def copyBase : Nat := 1000000

/-- Is a merge of another command on one of these tiles in progress (R244)? -/
def mergeBusy (s : State) (i : Nat) (ops : List TileOp) : Bool :=
  let ps := (partials ops).map (·.2)
  !ps.isEmpty && s.cq.tickets.any fun e =>
    e.2.busy && e.1 != i && writeLike e.2.cmd && !e.2.released
      && e.2.reads.any fun r => decide (r.idx < copyBase) && ps.contains r.tile

/-- A tile that enters the write buffer of a tapped namespace waits for its taps (R389): its namespace tile number,
with bit 62 set for 3FEh and bit 63 for 3FFh, and its content. -/
def tapPush (s : State) (n : Ns) (ns tile : Nat) (w : Word) (d : Bytes) : State :=
  let k := n.quads.idxOf (tile / quadTiles) * quadTiles + tile % quadTiles
  let k := if w = wZero then k + 2 ^ 62 else if w = wUnmapped then k + 2 ^ 63 else k
  { s with en := { s.en with taps := tabMap s.en.taps fun _ x =>
    if x.ns == ns && !x.closing then { x with backlog := x.backlog ++ [(k, leBytes 8 k ++ d)] } else x } }

/-- Does a tap of the namespace hold 64 or more tiles not yet fed (R390)? -/
def tapFull (s : State) (ns : Nat) : Bool := s.en.taps.any fun e => e.2.ns == ns && decide (64 ≤ e.2.backlog.length)

/-- A write of the namespace is held by its taps (R390): HELD is set. -/
def tapHold (s : State) (ns : Nat) : State :=
  (tabKeys s.en.taps fun x => x.ns == ns && decide (64 ≤ x.backlog.length)).foldl (fun s k =>
    let s := regPutBit s (DG_NS_TAP k) 30 true
    { s with en := { s.en with taps := tabMod s.en.taps k fun x =>
      { x with heldSince := some (x.heldSince.getD (frameNo s)) } } }) s

/-- One tile operation takes effect. -/
def applyOp (s : State) (i p : Nat) (n : Ns) (ack : Bool) (k : Nat) (o : TileOp) : State :=
  let t := tkGet s i
  match o.mark with
  | some w =>
    let u := tapPush s n (t.cmd.nsid - 1) o.tile w []
    if w = wUnmapped ∧ mapLookup s o.tile = .unmapped then u else markTile u o.tile w
  | none =>
    let c := mergeOp t k o
    if allZero c then markTile (tapPush s n (t.cmd.nsid - 1) o.tile wZero []) o.tile wZero
    else match tileEncode s n o.tile c with
      | none => s
      | some (raw, im) =>
        let s := tapPush s n (t.cmd.nsid - 1) o.tile wElse c
        let s := if raw && n.compress then regInc s CZ_RAW_TILES else s
        enterTile s o.tile p t.order raw n.compress im ack

/-- Quadrangles made ready one tile after another; the first that cannot be, holds the write (R256). -/
def allReady (s : State) : List TileOp → State × Bool
  | [] => (s, true)
  | o :: t =>
    if o.mark = some wUnmapped ∧ mapLookup s o.tile = .unmapped then allReady s t
    else match quadReady s o.tile with
      | (s, false) => (quadBlocked s o.tile, false)
      | (s, true) => allReady s t

/-- Entries of the write buffer that a write of these tiles frees at once: acknowledged ones of theirs not yet issued (R128). -/
def ackFreed (s : State) (ts : List Nat) : Nat :=
  (ts.filter fun d =>
    let w := mapWord s d
    wDie w == 0x3FD && ((tabGet s.atl.wbuf (wBufSlot w)).map fun e => e.ack && !e.issued).getD false).length

/-- Are writes acknowledged before they are programmed: by the mode at acceptance, and not in write-through (R127, R129, R131)? -/
def ackNow (s : State) (t : Ticket) : Bool := !t.through && !regBit s HQ_DURABILITY 30

/-- The transforms of what a ticket writes go through the engines before it enters the write buffer (R163, R350). -/
def encodeStage (s : State) (i p : Nat) (n : Ns) (ops : List TileOp) : Bool × State :=
  let t := tkGet s i
  let ds := ((List.range ops.length).zip ops).filter fun x => x.2.mark.isNone && !allZero (mergeOp t x.1 x.2)
  xformStage s i p t.xenc (fun x t => { t with xenc := x })
    (ds.filterMap fun x => (tileEncode s n x.2.tile (mergeOp t x.1 x.2)).map fun r => encodeSteps s n r.2.length)

/-- The write-like part of a command takes effect: every word of it changes in this step (R120, R139), or it holds for
tokens, budget, an overlay or a table (R128, R256). -/
def writeEffect (s : State) (i p : Nat) (n : Ns) (ops : List TileOp) : State :=
  let t := tkGet s i
  let ack := ackNow s t
  let nd := dataTiles ops
  let buf := ((List.range ops.length).zip ops).filter fun x => x.2.mark.isNone && !allZero (mergeOp t x.1 x.2)
  let excess := armed s && ack && decide (budgetUnits s + ackFreed s (buf.map (·.2.tile)) < occupancy s + buf.length)
  if tapFull s (t.cmd.nsid - 1) then tapHold s (t.cmd.nsid - 1)
  else if (nd ≠ 0 ∧ !tokenOk s p 1) ∨ excess ∨ 262144 < s.atl.wbuf.length + buf.length then s
  else if n.encrypt && (mediaKey s n).isNone && nd != 0 then tkFinish s i .keyRevoked
  else
    let r := allReady s ops
    if !r.2 then r.1
    else
      let s := if nd = 0 then r.1 else tokenSpend r.1 p 1 nd
      let s := ((List.range ops.length).zip ops).foldl (fun s x => applyOp s i p n ack x.1 x.2) s
      let s := meterAdd s p 2 ((ops.map fun o => (o.parts.map fun x => x.2.length).sum).sum)
      let s := tkMod s i fun t => { t with released := true, ponr := true, heldData := none }
      if ack then tkFinish s i .success
      else tkMod s i fun t => { t with waitProg := ops.map (·.tile) }

/-- The reads of a write-like command's partial tiles: all have begun, begin now in one step, or wait for tokens, granules or
another merge (R181, R244). -/
def mergeReads (s : State) (i p : Nat) (n : Ns) (ops : List TileOp) : Bool × State :=
  let t := tkGet s i
  let need := (partials ops).filter fun x => !t.reads.any (·.idx == x.1)
  if need.isEmpty then (true, s)
  else if mergeBusy s i ops then (false, s)
  else match readTiles s i p n need with
    | none => (false, s)
    | some s => (true, s)

/-- A write-like command goes on: partial tiles are read before any tile changes (R244), the engines transform what was read and
what is written (R163), then it takes effect. -/
def writeRun (s : State) (i p : Nat) (n : Ns) : State :=
  let ops := cmdOps n (tkGet s i)
  let r := mergeReads s i p n ops
  let t := tkGet r.2 i
  if !r.1 || !readsDone t then r.2
  else if t.reads.any (·.bad) then tkFinish r.2 i (badStatus r.2 n)
  else
    let d := decodeStage r.2 i p n
    if !d.1 then d.2
    else
      let e := encodeStage d.2 i p n ops
      if !e.1 then e.2 else writeEffect e.2 i p n ops

/-- The tiles of a list are read; when all have come and are decoded, `k` ends or goes on with the command. A read-like command has
reached its release point once all are in granules (R120). -/
def readRun (s : State) (i p : Nat) (n : Ns) (base : Nat) (sp : List TileSpan) (k : State → Bytes → State) : State :=
  let s := if (tkGet s i).reads.isEmpty then (readTiles s i p n (numbered base (sp.map (·.tile)))).getD s else s
  let t := tkGet s i
  if t.reads.isEmpty || !readsDone t then s
  else if t.reads.any (·.bad) then tkFinish s i (badStatus s n)
  else
    let d := decodeStage (if writeLike t.cmd then s else tkMod s i fun t => { t with released := true }) i p n
    if !d.1 then d.2 else k d.2 (gather t base sp)

/-- The tiles of a command's own block range. -/
def cmdSpans (n : Ns) (e : Sqe) : List TileSpan := spans n (cmdSlba e) (cmdNlb e)

/-- The tiles of a Copy's source ranges. -/
def copySpans (n : Ns) (e : Sqe) : List TileSpan := (copyRanges e).flatMap fun r => spans n r.1 r.2

/-- The data a command has gathered are its to write: they stand in its granules, and a new merge may follow. -/
def heldPut (s : State) (i : Nat) (d : Bytes) : State := tkMod s i fun t => { t with heldData := some d, xdec := .idle, reads := [] }

/-- The ticket of the second command of a fused pair takes its data and goes on with the first's success (R118). -/
def fusedGo (s : State) (i j p : Nat) (n : Ns) (ok : Bool) : State :=
  if ok then
    let s := tkFinish s i .success
    writeRun (tkMod s j fun t => { t with phase := .started, begun := true }) j p n
  else tkFinish (tkFinish s i .compareFailure) j .fusedFailed

/-- Does a Flush wait for an earlier write-like command of its namespaces: one that has not completed and has neither failed nor
been caught (R133)? -/
def flushBlocked (s : State) (i p : Nat) : Bool :=
  let t := tkGet s i
  let covers := fun (nsid : Nat) => t.cmd.nsid == 0xFFFFFFFF || nsid == t.cmd.nsid
  s.cq.tickets.any fun e =>
    e.2.busy && !e.2.admin && e.1 != i && e.2.parcel == some p && decide (e.2.order < t.order)
      && writeLike e.2.cmd && covers e.2.cmd.nsid && (e.2.phase != .done || e.2.status == .success)

/-- Is a write-buffer entry of a Flush's namespaces and of an earlier command? -/
def flushCovers (s : State) (i p : Nat) (e : WEnt) : Bool :=
  let t := tkGet s i
  decide (e.order < t.order) && e.parcel == p &&
    (t.cmd.nsid == 0xFFFFFFFF || qNs (dirGet s (e.tile / quadTiles)) == t.cmd.nsid - 1)

/-- The write-buffer entries a Flush covers. -/
def flushEntries (s : State) (i p : Nat) : Table WEnt := s.atl.wbuf.filter fun e => flushCovers s i p e.2

/-- From its acceptance the data a Flush covers are programmed ahead: marked, and their stripes issued (R135). -/
def flushPush (s : State) (i p : Nat) : State :=
  let cov := flushEntries s i p
  let s := cov.foldl (fun s e => atlSet s fun a => { a with wbuf := tabMod a.wbuf e.1 fun x => { x with flush := true } }) s
  let mine := (s.atl.stripes.filter fun k => !k.2.issued && k.2.frags.any fun f =>
    !f.move && (cov.map (·.1)).contains f.src).map (·.1)
  mine.foldl stripeIssue s

/-- A Flush that has started goes on (R133-R135): it ends when none of what it covers is left, with Write Fault where an
uncorrectable tile stays unprogrammed (R656). -/
def flushRun (s : State) (i p : Nat) : State :=
  let cov := flushEntries s i p
  let s := flushPush s i p
  if flushBlocked s i p || cov.any (fun e => !e.2.poison) then s
  else tkFinish s i (if cov.isEmpty then .success else .writeFault)

/-- A started I/O command goes on as far as its operands and the map let it. One whose namespace has been deleted since its
acceptance ends with Invalid Namespace or Format. DESIGN CHOICE, log 66: R236 says what becomes of the tiles alone. -/
def nvmRun (s : State) (i : Nat) : State :=
  let t := tkGet s i
  if !t.busy || t.phase != .started || t.admin then s
  else
    match t.parcel, nsGet s t.cmd.nsid with
    | some p, nso =>
      if t.cmd.opc = 0 then flushRun (tkMod s i fun t => { t with begun := true }) i p
      else match nso with
        | none => tkFinish s i .invalidNsFormat
        | some n =>
          let s := tkMod s i fun t => { t with begun := true }
          if !tkBme s i then tkMod s i fun t => { t with held := true }
          else match t.cmd.opc with
            | 2 => readRun s i p n 0 (cmdSpans n t.cmd) fun s d =>
                let s := meterAdd (dataSend s i d) p 1 d.length
                tkFinish (tkMod s i fun t => { t with ponr := true }) i .success
            | 0xC => readRun s i p n 0 (cmdSpans n t.cmd) fun s _ => tkFinish s i .success
            | 5 => match t.heldData with
              | none => s
              | some c => readRun s i p n 0 (cmdSpans n t.cmd) fun s d => match t.fuse2 with
                | some j => fusedGo s i j p n (c == d)
                | none => tkFinish s i (if c == d then .success else .compareFailure)
            | 1 => if t.heldData.isNone then s
              else if !t.waitProg.isEmpty then s else writeRun s i p n
            | 8 => if !t.waitProg.isEmpty then s else writeRun s i p n
            | 9 => if !t.waitProg.isEmpty then s
              else if bitOf t.cmd.cdw11 2 then writeRun s i p n else tkFinish s i .success
            | 0x19 =>
              if !t.waitProg.isEmpty then s
              else if t.heldData.isSome then writeRun s i p n
              else readRun s i p n copyBase (copySpans n t.cmd) fun s d => writeRun (heldPut s i d) i p n
            | _ => s
    | none, _ => s

/-- A write whose completion waits for programming ends once none of its tiles is in the write buffer (R127). -/
def progWaitCheck (s : State) (i : Nat) : State :=
  let t := tkGet s i
  if t.busy && t.phase == .started && !t.waitProg.isEmpty
    && t.waitProg.all (fun d => decide (wDie (mapWord s d) ≠ 0x3FD)) then tkFinish s i .success else s

/-- READ (R162). -/
def execRead (tk : Nat) (s : State) : Res := .next (if (tkGet s tk).cmd.opc = 2 then nvmRun s tk else s)

/-- The data of a command: those a fabric brought, else those host memory answered with. -/
def hostData (t : Ticket) (d : Bytes) : Bytes := if t.got.isEmpty then d else t.got

/-- The data of a started command are kept in its granules (R115: as long as its blocks). -/
def giveData (s : State) (i : Nat) (d : Bytes) : State :=
  let t := tkGet s i
  if t.busy && t.phase == .started && !t.r2t && t.heldData.isNone && t.waitProg.isEmpty && !t.admin then
    let x := hostData t d
    let s := tkGranTake s i ((x.length + 4095) / 4096)
    tkMod s i fun t => { t with heldData := some x }
  else s

/-- WRITE (R127): its data have been pulled; partial tiles are merged, the tiles enter the write buffer, and it completes
as the durability mode requires. -/
def execWrite (tk : Nat) (data : Bytes) (s : State) : Res :=
  .next (if (tkGet s tk).cmd.opc = 1 ∧ (tkGet s tk).cmd.fused = 0 then nvmRun (giveData s tk data) tk else s)

/-- FLUSH (R133). -/
def execFlush (tk : Nat) (s : State) : Res := .next (if (tkGet s tk).cmd.opc = 0 then nvmRun s tk else s)

/-- COMPARE (R150). -/
def execCompare (tk : Nat) (data : Bytes) (s : State) : Res :=
  .next (let t := tkGet s tk
         if t.cmd.opc = 5 ∧ t.cmd.fused = 0 then nvmRun (giveData s tk data) tk else s)

/-- The second command of a fused pair: the Write next after the Compare in the same queue. -/
def fusedMate (s : State) (i : Nat) : Option Nat :=
  let t := tkGet s i
  (tksWhere s fun u => u.src == t.src && u.cmd.fused == 2 && u.qno == t.qno + 1 && u.cmd.opc == 1).head?

/-- Has the command next after this one been taken from its queue? -/
def fusedNext (s : State) (i : Nat) : Bool :=
  let t := tkGet s i
  match t.src with
  | .pcie f q => ((tabGet s.cq.sqs (qkey f q)).map fun x => decide (t.qno + 1 < x.taken)).getD true
  | .fabric c => ((connGet s c).map fun x => decide (t.qno + 1 < x.taken)).getD true
  | .side _ => true

/-- FUSED_COMPARE_AND_WRITE (R118): one atomic unit over the range of both commands, run once both have been taken; a pair
without its Write, or with another range, ends as NVMe says of a fused pair. -/
def fusedRun (s : State) (i : Nat) (c d : Bytes) : State :=
  let t := tkGet s i
  if t.cmd.opc = 5 ∧ t.cmd.fused = 1 ∧ t.busy ∧ t.phase = .started then
    match fusedMate s i with
    | none => if fusedNext s i then tkFinish s i .fusedMissing else s
    | some j =>
      let u := tkGet s j
      if cmdSlba u.cmd ≠ cmdSlba t.cmd ∨ cmdNlb u.cmd ≠ cmdNlb t.cmd ∨ u.cmd.nsid ≠ t.cmd.nsid then
        tkFinish (tkFinish s i .invalidField) j .fusedFailed
      else
        let s := giveData s i c
        let s := tkMod s j fun u => { u with heldData := some (hostData u d) }
        nvmRun (tkMod s i fun t => { t with fuse2 := some j }) i
  else s
def execFusedCompareAndWrite (tk : Nat) (cmp data : Bytes) (s : State) : Res := .next (fusedRun s tk cmp data)

/-- WRITE_ZEROES (R245). -/
def execWriteZeroes (tk : Nat) (s : State) : Res := .next (if (tkGet s tk).cmd.opc = 8 then nvmRun s tk else s)

/-- DATASET_MANAGEMENT (R795): Deallocate; the other attributes are hints and change nothing (R150). -/
def execDatasetManagement (tk : Nat) (s : State) : Res := .next (if (tkGet s tk).cmd.opc = 9 then nvmRun s tk else s)

/-- VERIFY (R150). -/
def execVerify (tk : Nat) (s : State) : Res := .next (if (tkGet s tk).cmd.opc = 0xC then nvmRun s tk else s)

/-- COPY (R795). -/
def execCopy (tk : Nat) (s : State) : Res := .next (if (tkGet s tk).cmd.opc = 0x19 then nvmRun s tk else s)

/-- HELD_WRITE_BUFFER_ENTRY (R128): a write held in granules enters the write buffer once room exists. -/
def execHeldWriteBufferEntry (tk : Nat) (s : State) : Res :=
  .next (if writeLike (tkGet s tk).cmd && (tkGet s tk).begun then nvmRun s tk else s)

/-- At a boundary every command that has begun, or whose completion waits, goes on. -/
def nvmBoundary (s : State) : State :=
  let s := (tksWhere s fun t => t.phase == .waiting).foldl tkTryStart s
  let s := (tksWhere s fun t => t.phase == .waiting && t.cmd.opc == 0 && !t.admin).foldl
    (fun s i => flushPush s i ((tkGet s i).parcel.getD 0)) s
  let s := (tksWhere s fun t => t.begun && t.phase == .started && !t.held).foldl nvmRun s
  let s := (tksWhere s fun t => !t.waitProg.isEmpty).foldl progWaitCheck s
  let s := (tksWhere s fun t => t.held).foldl heldResume s
  (tksWhere s fun t => t.phase == .done).foldl tkPost s

end Sys2Proof.Machine
end

