-- ==== Sys2Proof/Machine/Admin.lean ====
section
/-! DEFINITION. Chapter 03, admin commands: queues, log pages, Identify, Abort, features, asynchronous events, namespaces
and Format NVM, and the Fabrics property commands (R101-R106, R137-R153, R171-R173, R233-R236, R790-R794). -/
namespace Sys2Proof.Machine

/-- Is ticket `i` an admin command of opcode `o` that has been taken and not ended? -/
def adminIs (s : State) (i o : Nat) : Bool :=
  let t := tkGet s i
  t.busy && t.admin && t.phase == .started && t.cmd.opc == o

/-- As adminIs, of a command that moves data from or to its host: it holds while Bus Master Enable is 0 (R68). -/
def adminData (s : State) (i o : Nat) : Bool := adminIs s i o && tkBme s i

/-- A structure of `n` octets with the given fields, the rest 0. -/
def structure' (n : Nat) (fs : List (Nat × Bytes)) : Bytes := fs.foldl (fun b f => putAt b f.1 f.2) (zeros n)

/-! ## Queues (R64, R101-R105, R794) -/

/-- The queues a controller's parcel may create: its allocation (R102). -/
def queueAlloc (s : State) (c : Nat) : Nat := ((ctrlParcel s c).map fun p => (parGet s p).lim.queuePairs).getD 0

def sqCount (s : State) (c : Nat) : Nat := (s.cq.sqs.filter fun e => e.1 / 65536 == c && e.1 % 65536 != 0).length
def cqCount (s : State) (c : Nat) : Nat := (s.cq.cqs.filter fun e => e.1 / 65536 == c && e.1 % 65536 != 0).length

/-- CREATE_IO_SUBMISSION_QUEUE (R102, R105). -/
def createSq (s : State) (i : Nat) : State :=
  let t := tkGet s i
  let qid := bitsOf t.cmd.cdw10 15 0
  let size := bitsOf t.cmd.cdw10 31 16
  let cqid := bitsOf t.cmd.cdw11 31 16
  if qid = 0 ∨ qid > 64 ∨ sqCount s t.ctrl ≥ queueAlloc s t.ctrl ∨ (tabGet s.cq.sqs (qkey t.ctrl qid)).isSome then
    tkFinish s i .invalidQid
  else if size = 0 ∨ size > 0xFFF then tkFinish s i .queueSize
  else if cqid = 0 ∨ (tabGet s.cq.cqs (qkey t.ctrl cqid)).isNone then tkFinish s i .cqInvalid
  else if !bitOf t.cmd.cdw11 0 then tkFinish s i .invalidField
  else
    let q : Sq := { cqid := cqid, depth := size + 1, ordered := bitOf t.cmd.cdw11 15 }
    tkFinish { s with cq := { s.cq with sqs := tabSet s.cq.sqs (qkey t.ctrl qid) q } } i .success
def execCreateIoSubmissionQueue (tk : Nat) (s : State) : Res := .next (if adminIs s tk 1 then createSq s tk else s)

/-- CREATE_IO_COMPLETION_QUEUE (R102). -/
def createCq (s : State) (i : Nat) : State :=
  let t := tkGet s i
  let qid := bitsOf t.cmd.cdw10 15 0
  let size := bitsOf t.cmd.cdw10 31 16
  let iv := bitsOf t.cmd.cdw11 31 16
  if qid = 0 ∨ qid > 64 ∨ cqCount s t.ctrl ≥ queueAlloc s t.ctrl ∨ (tabGet s.cq.cqs (qkey t.ctrl qid)).isSome then
    tkFinish s i .invalidQid
  else if size = 0 ∨ size > 0xFFF then tkFinish s i .queueSize
  else if bitOf t.cmd.cdw11 1 && decide (iv > 63) then tkFinish s i .invalidVector
  else if !bitOf t.cmd.cdw11 0 then tkFinish s i .invalidField
  else
    let q : Cq := { depth := size + 1, vec := if bitOf t.cmd.cdw11 1 then some iv else none }
    tkFinish { s with cq := { s.cq with cqs := tabSet s.cq.cqs (qkey t.ctrl qid) q } } i .success
def execCreateIoCompletionQueue (tk : Nat) (s : State) : Res := .next (if adminIs s tk 5 then createCq s tk else s)

/-- A command is caught before its point of no return (R50, R141): its transforms stop, its granules return to the pool, it ends with
a status, and no map word changes. -/
def catchTk (s : State) (i : Nat) (st : Status) : State :=
  let s := { s with en := { s.en with xjobs := tabFilter s.en.xjobs fun _ x => x.tk != i } }
  let s := tkGranPool s i
  let s := tkFinish (tkMod s i fun t => { t with caught := true, heldData := none }) i st
  tkPost s i

/-- The commands accepted from a queue. -/
def queueTks (s : State) (c qid : Nat) : List Nat := tksWhere s fun t => t.src == .pcie c qid

/-- DELETE_IO_SUBMISSION_QUEUE (R794): fetch stops; commands before their point of no return are caught; the Delete
waits for the rest. -/
def deleteSq (s : State) (i : Nat) : State :=
  let t := tkGet s i
  let qid := bitsOf t.cmd.cdw10 15 0
  match tabGet s.cq.sqs (qkey t.ctrl qid) with
  | none => tkFinish s i .invalidQid
  | some q =>
    if qid = 0 then tkFinish s i .invalidQid
    else
      let s := { s with cq := { s.cq with sqs := tabSet s.cq.sqs (qkey t.ctrl qid) { q with deleting := q.deleting ++ [i] } } }
      ((queueTks s t.ctrl qid).filter fun j => !(tkGet s j).ponr && (tkGet s j).phase != .done).foldl
        (fun s j => catchTk s j .abortSqDeletion) s
def execDeleteIoSubmissionQueue (tk : Nat) (s : State) : Res := .next (if adminIs s tk 0 then deleteSq s tk else s)

/-- SQ_DELETE_COMPLETION (R794): the Delete completes once every command accepted from its queue has posted, and with it every
later Delete of the queue that waits. -/
def sqDeleteEnd (s : State) (i : Nat) : State :=
  let t := tkGet s i
  let qid := bitsOf t.cmd.cdw10 15 0
  match tabGet s.cq.sqs (qkey t.ctrl qid) with
  | none => s
  | some q =>
    if q.deleting.contains i && (queueTks s t.ctrl qid).isEmpty then
      q.deleting.foldl (fun s j => tkFinish s j .success)
        { s with cq := { s.cq with sqs := tabErase s.cq.sqs (qkey t.ctrl qid) } }
    else s
def execSqDeleteCompletion (tk : Nat) (s : State) : Res := .next (if adminIs s tk 0 then sqDeleteEnd s tk else s)

/-- DELETE_IO_COMPLETION_QUEUE (R794). -/
def deleteCq (s : State) (i : Nat) : State :=
  let t := tkGet s i
  let qid := bitsOf t.cmd.cdw10 15 0
  if qid = 0 ∨ (tabGet s.cq.cqs (qkey t.ctrl qid)).isNone then tkFinish s i .invalidQid
  else if s.cq.sqs.any fun e => e.1 / 65536 == t.ctrl && e.1 % 65536 != 0 && e.2.cqid == qid then
    tkFinish s i .invalidQueueDeletion
  else tkFinish { s with cq := { s.cq with cqs := tabErase s.cq.cqs (qkey t.ctrl qid) } } i .success
def execDeleteIoCompletionQueue (tk : Nat) (s : State) : Res := .next (if adminIs s tk 4 then deleteCq s tk else s)

/-! ## Log pages (R148) -/

/-- A log is returned from the command's offset and length (CDW10 to CDW13), and the events that name it are
acknowledged unless RAE is 1. -/
def logReturn (s : State) (i lid : Nat) (log : Bytes) : State :=
  let t := tkGet s i
  let len := 4 * (bitsOf t.cmd.cdw10 31 16 + bitsOf t.cmd.cdw11 15 0 * 65536 + 1)
  let off := t.cmd.cdw12 + t.cmd.cdw13 * 2 ^ 32
  let d := slice log off len
  let s := if bitOf t.cmd.cdw10 15 then s
    else ctrlMod s t.ctrl fun c => { c with events := c.events.filter fun e => bitsOf e 23 16 != lid }
  tkFinish (dataSend s i (d ++ zeros (len - d.length))) i .success

/-- The Critical Warning bits in force: 0 spare (R291), 1 temperature, 2 die lost (R288), 3 SEALED (R293), 4 hold-up
(R130). -/
def criticalWarning (s : State) (c : Nat) : Nat :=
  let k := ctrlGet s c
  let temp := kelvin s
  b2n (decide (regFld s AT_SPARE 30 24 < 10)) + 2 * b2n (decide (k.tOver ≤ temp) || k.tUnder != 0 && decide (temp ≤ k.tUnder))
    + 4 * b2n s.atl.dieLost + 8 * b2n (regBit s AT_MEDIA_STATE 31) + 16 * b2n s.cq.smartBit4

/-- Critical Warning bits that have come up are told to a controller by the asynchronous events of the SMART / Health log
page (R148, R152): once, until they fall and come up again. -/
def warnTell (s : State) (c : Nat) : State :=
  let w := criticalWarning s c
  let old := (ctrlGet s c).warned
  let up := fun (b : Nat) => bitOf w b && !bitOf old b
  if w = old then s
  else
    let s := ctrlMod s c fun k => { k with warned := w }
    let s := if up 0 then aenRaise s c 0x020201 else s
    let s := if up 1 then aenRaise s c 0x020101 else s
    if up 2 || up 3 || up 4 then aenRaise s c 0x020001 else s

/-- Every controller that is ready is told of new Critical Warning bits. -/
def warnAll (s : State) : State := (tabKeys s.host.ctrls (·.rdy)).foldl warnTell s

/-- Percentage Used (R281): 100 × mean erase count over the rated cycles. -/
def percentUsed (s : State) : Nat :=
  let n := s.atl.blks.length
  if n = 0 ∨ (fmtOf s).cycles = 0 then 0
  else min 255 (100 * (s.atl.blks.map fun b => b.2.erases).sum / (n * (fmtOf s).cycles))

def smartLog (s : State) (c : Nat) : Bytes :=
  let units := fun m => (s.pc.dev.getD m 0 + 511999) / 512000
  structure' 512 [(0, [BitVec.ofNat 8 (criticalWarning s c)]), (1, leBytes 2 (kelvin s)),
    (3, [BitVec.ofNat 8 (regFld s AT_SPARE 30 24)]), (4, [10]), (5, [BitVec.ofNat 8 (percentUsed s)]),
    (32, leBytes 16 (units 1)), (48, leBytes 16 (units 2)), (128, leBytes 16 (regNat s FR_LIFE_USED))]

/-- GET_LOG_PAGE_ERROR_INFORMATION (R148): 64-octet entries, the latest first, each with its queue, its command and its status
field. -/
def errorLog (s : State) : Bytes :=
  (((List.range s.cq.errLog.length).zip s.cq.errLog).reverse.map fun e =>
    structure' 64 [(0, leBytes 8 (e.1 + 1)), (8, leBytes 2 e.2.1), (10, leBytes 2 e.2.2.1),
      (12, leBytes 2 (2 * statusField e.2.2.2))]).flatten

def lidIs (s : State) (i lid : Nat) : Bool := adminData s i 2 && bitsOf (tkGet s i).cmd.cdw10 7 0 == lid

def execGetLogPageErrorInformation (tk : Nat) (s : State) : Res :=
  .next (if lidIs s tk 1 then logReturn s tk 1 (errorLog s) else s)

/-- GET_LOG_PAGE_SMART_HEALTH (R148). -/
def execGetLogPageSmartHealth (tk : Nat) (s : State) : Res :=
  .next (if lidIs s tk 2 then logReturn s tk 2 (smartLog s (tkGet s tk).ctrl) else s)

/-- Commands Supported and Effects: CSUPP of each admin and I/O opcode of the controller (R148, R150). -/
def effectsLog (s : State) (c : Nat) : Bytes :=
  ((List.range 256).map fun o => leBytes 4 (b2n (adminSupported (ctrlKind s c) o))).flatten ++
  ((List.range 256).map fun o => leBytes 4 (b2n ((nvmOpcode o || computeOpcode o) && (ctrlParcel s c).isSome))).flatten

def execGetLogPageCommandsSupported (tk : Nat) (s : State) : Res :=
  .next (if lidIs s tk 5 then logReturn s tk 5 (effectsLog s (tkGet s tk).ctrl) else s)

/-- GET_LOG_PAGE_DEVICE_SELF_TEST (R148): the operation in progress, physical function 0 only. -/
def execGetLogPageDeviceSelfTest (tk : Nat) (s : State) : Res :=
  .next (if lidIs s tk 6 then
      if (tkGet s tk).ctrl = 0 then logReturn s tk 6 (structure' 564 [(0, [BitVec.ofNat 8 (s.cq.selfTest.getD 0)])])
      else tkFinish s tk .invalidLogPage
    else s)

/-- GET_LOG_PAGE_DISCOVERY (R92): the discovery log of the host of the command's connection. -/
def execGetLogPageDiscovery (tk : Nat) (s : State) : Res :=
  .next (if lidIs s tk 0x70 then
      match (tkGet s tk).src with
      | .fabric n => match connGet s n with
        | some c => if c.discovery then logReturn s tk 0x70 (discLog s c.hostNqn) else tkFinish s tk .invalidLogPage
        | none => s
      | _ => tkFinish s tk .invalidLogPage
    else s)

/-! ## Identify (R148, R151, R153, R242, R288, R792) -/

/-- Tiles a create would still be granted, in whole quadrangles (R235). -/
def quadsUsed (s : State) : Nat := (s.atl.nss.map fun e => e.2.quads.length).sum
def quadsLeft (s : State) : Nat :=
  if regBit s AT_MEDIA_STATE 31 then 0
  else min (262144 - quadsUsed s) (capacity s * 93 / 100 / quadTiles - quadsUsed s)

/-- CNTLID (R174, R792). -/
def cntlid (c : Nat) : Nat := if c = compFn then 256 else if compFn < c ∧ c ≤ 768 then 256 + (c - compFn) else c

/-- Identify Controller (R148): MDTS is 9 (R117), VER 2.1 (R792), the limits and the support of chapter 03. -/
def identifyCtrl (s : State) (c : Nat) : Bytes :=
  let k := ctrlGet s c
  structure' 4096 [(77, [9]), (78, leBytes 2 (cntlid c)), (80, leBytes 4 0x20100), (258, [7]), (259, [3]), (263, [0]),
    (280, leBytes 16 (capacity s * 4096)), (296, leBytes 16 (quadsLeft s * quadTiles * 4096)), (512, [0x66]), (513, [0x44]),
    (516, leBytes 4 4096), (520, leBytes 2 0x18D), (524, [0]), (525, [BitVec.ofNat 8 (b2n k.vwc)]),
    (1792, leBytes 4 1028), (1796, leBytes 4 1), (2048, leBytes 2 16500)]

def identifyNs (n : Ns) : Bytes :=
  structure' 4096 [(0, leBytes 8 n.nsze), (8, leBytes 8 n.nsze), (16, leBytes 8 n.nsze), (25, [1]),
    (26, [if n.lbads = 9 then 0 else 1]), (33, [1]), (48, leBytes 16 (n.nsze * lbaSize n)),
    (128, [0, 0, 9, 0]), (132, [0, 0, 12, 0])]

/-- Namespaces attached to a controller, by NSID, rising (R172). -/
def attachedNs (s : State) (c : Nat) : List Nat :=
  match ctrlParcel s c with
  | none => []
  | some p => (s.atl.nss.filter fun e => e.2.parcel == some p).map fun e => e.1 + 1

def idList (ids : List Nat) (after : Nat) : Bytes :=
  let d := ((ids.filter fun x => decide (after < x)).take 1024).flatMap (leBytes 4)
  d ++ zeros (4096 - d.length)

/-- IDENTIFY (R148): namespace (CNS 00h), controller (01h), active namespaces (02h), descriptors (03h), and on physical
function 0 allocated namespaces (10h, 11h) and the controllers of a namespace (12h, 13h). -/
def identify (s : State) (i : Nat) : State :=
  let t := tkGet s i
  let c := t.ctrl
  let ok := fun (d : Bytes) => tkFinish (dataSend s i d) i .success
  match bitsOf t.cmd.cdw10 7 0 with
  | 0 => match nsGet s t.cmd.nsid with
    | some n => if n.parcel.isSome && n.parcel == ctrlParcel s c then ok (identifyNs n) else ok (zeros 4096)
    | none => tkFinish s i .invalidNsFormat
  | 1 => ok (identifyCtrl s c)
  | 2 => ok (idList (attachedNs s c) t.cmd.nsid)
  | 3 => if (attachedNs s c).contains t.cmd.nsid then ok (structure' 4096 [(0, [1, 8, 0, 0]), (4, leBytes 8 t.cmd.nsid)])
    else tkFinish s i .invalidNsFormat
  | 0x10 => if c = 0 then ok (idList (s.atl.nss.map fun e => e.1 + 1) t.cmd.nsid) else tkFinish s i .invalidField
  | 0x11 => if c = 0 then match nsGet s t.cmd.nsid with
      | some n => ok (identifyNs n)
      | none => ok (zeros 4096)
    else tkFinish s i .invalidField
  | 0x12 | 0x13 => if c = 0 then
      let cs := (s.host.ctrls.filter fun e => e.2.parcel.isSome || (ctrlParcel s e.1).isSome).map fun e => cntlid e.1
      ok (structure' 4096 [(0, leBytes 2 cs.length), (2, (cs.take 2047).flatMap (leBytes 2))])
    else tkFinish s i .invalidField
  | _ => tkFinish s i .invalidField
def execIdentify (tk : Nat) (s : State) : Res := .next (if adminData s tk 6 then identify s tk else s)

/-! ## Abort (R137-R142) -/

/-- The live I/O ticket an Abort names on its controller (R140). -/
def abortTarget (s : State) (c sqid cid : Nat) : Option Nat :=
  (tksWhere s fun t => t.ctrl == c && !t.admin && t.cmd.cid == cid && (match t.src with
    | .pcie _ q => q == sqid
    | .fabric n => ((connGet s n).map (·.qid)) == some sqid
    | _ => false)).head?

/-- Is a target caught (R140)? -/
def catchable (t : Ticket) : Bool := !t.ponr && !t.caught && t.phase != .done

/-- An Abort whose target is caught ends once the target's completion has been posted (R141). -/
def abortEnd (s : State) (i j : Nat) : State :=
  if (tkGet s j).busy && (tkGet s j).caught then tkMod s i fun t => { t with waitTk := [j] }
  else tkFinishW s i .success 0

/-- ABORT (R138-R141): the target caught ends first with Command Abort Requested. -/
def abortRun (s : State) (i : Nat) : State :=
  let t := tkGet s i
  let mine := (tksWhere s fun u => u.admin && u.ctrl == t.ctrl && u.cmd.opc == 8).length
  if !t.waitTk.isEmpty then s
  else if mine > 8 then tkFinish s i .abortLimit
  else match abortTarget s t.ctrl (bitsOf t.cmd.cdw10 15 0) (bitsOf t.cmd.cdw10 31 16) with
    | none => tkFinishW (regInc s HQ_ABORT_MISSED) i .success 1
    | some j =>
      if catchable (tkGet s j) then abortEnd (regInc (catchTk s j .abortRequested) HQ_ABORT_CAUGHT) i j
      else tkFinishW (regInc s HQ_ABORT_MISSED) i .success 1

/-- Every Abort that has been accepted is evaluated, before the data of the frame move (R138). -/
def abortsRun (s : State) : State :=
  (tksWhere s fun t => t.admin && t.phase == .started && t.cmd.opc == 8).foldl abortRun s
def execAbort (tk : Nat) (s : State) : Res := .next (if adminIs s tk 8 then abortRun s tk else s)

/-! ## Features (R102, R106, R152, R153) -/

/-- Feature identifiers supported (R152). -/
def featSupported (fid : Nat) : Bool := [1, 2, 4, 5, 6, 7, 8, 9, 0xB, 0xF, 0xC1, 0xC2].contains fid

/-- NSQA and NCQA as the Number of Queues feature reports them (R102). -/
def queuesReported (s : State) (c : Nat) : Nat :=
  let a := queueAlloc s c
  (a - 1) + (a - 1) * 65536

/-- GET_FEATURES (R152): the current value in dword 0. -/
def getFeatures (s : State) (i : Nat) : State :=
  let t := tkGet s i
  let c := ctrlGet s t.ctrl
  let ok := fun v => tkFinishW s i .success v
  match bitsOf t.cmd.cdw10 7 0 with
  | 1 => ok c.arb
  | 2 => ok 0
  | 4 => ok (if bitsOf t.cmd.cdw11 21 20 = 0 then c.tOver else c.tUnder)
  | 5 => ok c.tler
  | 6 => if c.vwc then ok (b2n c.wce) else tkFinish s i .invalidField
  | 7 => ok (queuesReported s t.ctrl)
  | 8 => if isVf t.ctrl then ok c.coal else tkFinish s i .invalidField
  | 9 => if isVf t.ctrl then
      let iv := bitsOf t.cmd.cdw11 15 0
      ok (iv + 65536 * (((c.vecCfg.find? (·.1 == iv)).map (·.2)).getD 0))
    else tkFinish s i .invalidField
  | 0xB => ok c.aen
  | 0xF => if t.ctrl ≥ fabricBase then ok c.kato else tkFinish s i .invalidField
  | 0xC1 => match t.parcel with
    | some p => ok (b2n (s.cq.orderMark.contains p))
    | none => tkFinish s i .invalidField
  | 0xC2 => if (attachedNs s t.ctrl).contains t.cmd.nsid then ok (b2n (s.cq.reqHoldup.contains (t.cmd.nsid - 1)))
    else tkFinish s i .invalidNsFormat
  | _ => tkFinish s i .invalidField
def execGetFeatures (tk : Nat) (s : State) : Res := .next (if adminIs s tk 0xA then getFeatures s tk else s)

/-- Is ticket `i` a Set Features of an identifier? -/
def featIs (s : State) (i fid : Nat) : Bool := adminIs s i 9 && bitsOf (tkGet s i).cmd.cdw10 7 0 == fid

/-- A feature of the command's controller set. -/
def featSet (s : State) (i : Nat) (f : Nat → Ctrl → Ctrl) : State :=
  let t := tkGet s i
  tkFinish (ctrlMod s t.ctrl (f t.cmd.cdw11)) i .success

/-- SET_FEATURES_ARBITRATION (R106): weights are stored and have no effect. -/
def execSetFeaturesArbitration (tk : Nat) (s : State) : Res :=
  .next (if featIs s tk 1 then featSet s tk fun v c => { c with arb := v } else s)

/-- SET_FEATURES_POWER_MANAGEMENT (R152): PS must be 0. -/
def execSetFeaturesPowerManagement (tk : Nat) (s : State) : Res :=
  .next (if featIs s tk 2 then
      if bitsOf (tkGet s tk).cmd.cdw11 4 0 = 0 then tkFinish s tk .success else tkFinish s tk .invalidField
    else s)

/-- SET_FEATURES_TEMPERATURE_THRESHOLD (R152): over and under thresholds of the composite temperature. -/
def execSetFeaturesTemperatureThreshold (tk : Nat) (s : State) : Res :=
  .next (if featIs s tk 4 then
      let v := (tkGet s tk).cmd.cdw11
      if bitsOf v 19 16 ≠ 0 ∧ bitsOf v 19 16 ≠ 15 then tkFinish s tk .invalidField
      else if bitsOf v 21 20 = 0 then featSet s tk fun v c => { c with tOver := bitsOf v 15 0 }
      else if bitsOf v 21 20 = 1 then featSet s tk fun v c => { c with tUnder := bitsOf v 15 0 }
      else tkFinish s tk .invalidField
    else s)

/-- SET_FEATURES_ERROR_RECOVERY (R152): TLER is accepted and has no effect. -/
def execSetFeaturesErrorRecovery (tk : Nat) (s : State) : Res :=
  .next (if featIs s tk 5 then featSet s tk fun v c => { c with tler := bitsOf v 15 0 } else s)

/-- SET_FEATURES_VOLATILE_WRITE_CACHE (R152): on controllers that reported VWC = 1. -/
def execSetFeaturesVolatileWriteCache (tk : Nat) (s : State) : Res :=
  .next (if featIs s tk 6 then
      if (ctrlGet s (tkGet s tk).ctrl).vwc then featSet s tk fun v c => { c with wce := bitOf v 0 }
      else tkFinish s tk .invalidField
    else s)

/-- SET_FEATURES_NUMBER_OF_QUEUES (R102): the counts asked for are ignored, the allocation reported. -/
def execSetFeaturesNumberOfQueues (tk : Nat) (s : State) : Res :=
  .next (if featIs s tk 7 then tkFinishW s tk .success (queuesReported s (tkGet s tk).ctrl) else s)

/-- SET_FEATURES_INTERRUPT_COALESCING (R152): virtual functions only. -/
def execSetFeaturesInterruptCoalescing (tk : Nat) (s : State) : Res :=
  .next (if featIs s tk 8 then
      if isVf (tkGet s tk).ctrl then featSet s tk fun v c => { c with coal := bitsOf v 15 0 }
      else tkFinish s tk .invalidField
    else s)

/-- SET_FEATURES_INTERRUPT_VECTOR_CONFIG (R152): bit 16 bars a vector from coalescing. -/
def execSetFeaturesInterruptVectorConfig (tk : Nat) (s : State) : Res :=
  .next (if featIs s tk 9 then
      if isVf (tkGet s tk).ctrl ∧ bitsOf (tkGet s tk).cmd.cdw11 15 0 ≤ 63 then
        featSet s tk fun v c => { c with vecCfg :=
          (c.vecCfg.filter (·.1 != bitsOf v 15 0)) ++ [(bitsOf v 15 0, bitsOf v 16 16)] }
      else tkFinish s tk .invalidField
    else s)

/-- SET_FEATURES_ASYNC_EVENT_CONFIG (R152). -/
def execSetFeaturesAsyncEventConfig (tk : Nat) (s : State) : Res :=
  .next (if featIs s tk 0xB then featSet s tk fun v c => { c with aen := v } else s)

/-- SET_FEATURES_KEEP_ALIVE_TIMER (R152): fabric controllers only. -/
def execSetFeaturesKeepAliveTimer (tk : Nat) (s : State) : Res :=
  .next (if featIs s tk 0xF then
      if (tkGet s tk).ctrl ≥ fabricBase then featSet s tk fun v c => { c with kato := v } else tkFinish s tk .invalidField
    else s)

/-- A number in or out of a list without repeats. -/
def setMember (l : List Nat) (x : Nat) (b : Bool) : List Nat :=
  if b then (if l.contains x then l else l ++ [x]) else l.filter (· != x)

/-- SET_FEATURES_ORDER_MARK (R152): per parcel. -/
def execSetFeaturesOrderMark (tk : Nat) (s : State) : Res :=
  .next (if featIs s tk 0xC1 then
      match (tkGet s tk).parcel with
      | some p => tkFinish { s with cq := { s.cq with
          orderMark := setMember s.cq.orderMark p (bitOf (tkGet s tk).cmd.cdw11 0) } } tk .success
      | none => tkFinish s tk .invalidField
    else s)

/-- SET_FEATURES_REQUIRE_HOLDUP (R152): per namespace. -/
def execSetFeaturesRequireHoldup (tk : Nat) (s : State) : Res :=
  .next (if featIs s tk 0xC2 then
      let t := tkGet s tk
      if (attachedNs s t.ctrl).contains t.cmd.nsid then
        tkFinish { s with cq := { s.cq with
          reqHoldup := setMember s.cq.reqHoldup (t.cmd.nsid - 1) (bitOf t.cmd.cdw11 0) } } tk .success
      else tkFinish s tk .invalidNsFormat
    else s)

/-- ASYNCHRONOUS_EVENT_REQUEST (R148): up to 4 outstanding; one that finds an event waiting completes with it. -/
def aerRun (s : State) (i : Nat) : State :=
  let c := (tkGet s i).ctrl
  let k := ctrlGet s c
  if k.aers.contains i then s
  else if k.aers.length ≥ 4 then tkFinish s i .aerLimit
  else match k.events with
    | e :: rest => tkFinishW (ctrlMod s c fun x => { x with events := rest }) i .success e
    | [] => ctrlMod s c fun x => { x with aers := x.aers ++ [i] }
def execAsynchronousEventRequest (tk : Nat) (s : State) : Res := .next (if adminIs s tk 0xC then aerRun s tk else s)

/-! ## Namespaces (R171-R173, R233-R236, R251) -/

/-- Is a parcel under a reset, so that an admin command on it fails (R171)? -/
def parcelBusy (s : State) (p : Nat) : Bool := (parGet s p).st == .resetting || (parGet s p).st == .enabling

/-- The lowest free quadrangles. -/
def freeQuads (s : State) : Nat → Nat → List Nat
  | 0, _ => []
  | fuel + 1, q => if q ≥ 262144 then [] else
      if qForm (dirGet s q) = formFree then q :: freeQuads s fuel (q + 1) else freeQuads s fuel (q + 1)

/-- Creation of a namespace (R233, R235): the smallest whole number of free quadrangles that holds it. -/
def nsCreate (s : State) (i nsze flbas : Nat) : State :=
  let lbads := if flbas = 0 then 9 else 12
  let tiles := if flbas = 0 then (nsze + 7) / 8 else nsze
  let need := (tiles + quadTiles - 1) / quadTiles
  match tabFree s.atl.nss 0 4096 with
  | none => tkFinish s i .nsCapacity
  | some k =>
    if flbas > 1 then tkFinish s i .invalidFormat
    else if nsze = 0 then tkFinish s i .invalidField
    else if need > quadsLeft s then tkFinish s i .nsCapacity
    else
      let qs := (freeQuads s (need + s.atl.dir.length) 0).take need
      let s := atlSet s fun a => { a with nss := tabSet a.nss k { nsze := nsze, lbads := lbads, quads := qs } }
      let s := qs.foldl (fun s q => dirPut s q (quadWord formEmpty false k 0)) s
      tkFinishW s i .success (k + 1)

/-- NAMESPACE_CREATE (R233). -/
def execNamespaceCreate (tk nsze flbas : Nat) (s : State) : Res :=
  .next (if adminData s tk 0xD && bitsOf (tkGet s tk).cmd.cdw10 3 0 == 0 then nsCreate s tk nsze flbas else s)

/-- NAMESPACE_DELETE (R236): its quadrangles are freed at the next boundary, and a media key slot of it is erased there (R417). -/
def nsDelete (s : State) (i : Nat) : State :=
  let t := tkGet s i
  let ids := if t.cmd.nsid = 0xFFFFFFFF then s.atl.nss.map fun e => e.1 + 1 else [t.cmd.nsid]
  let busy := ids.any fun k => match (nsGet s k).bind (·.parcel) with
    | some p => parcelBusy s p
    | none => false
  if t.cmd.nsid ≠ 0xFFFFFFFF ∧ (nsGet s t.cmd.nsid).isNone then tkFinish s i .invalidNsFormat
  else if busy then tkFinish s i .parcelResetting
  else
    let s := ids.foldl (fun s k => match (nsGet s k).bind (·.media) with
      | some m => keyAsk s (.erase m)
      | none => s) s
    let s := ids.foldl (fun s k => nsMod s k fun n => { n with leaving := true }) s
    tkFinish (atlSet s fun a => { a with deleted := a.deleted ++ ids }) i .success
def execNamespaceDelete (tk : Nat) (s : State) : Res :=
  .next (if adminIs s tk 0xD && bitsOf (tkGet s tk).cmd.cdw10 3 0 == 1 then nsDelete s tk else s)

/-- NAMESPACE_DELETE_EFFECT (R236): its quadrangles become FREE and every tile they held invalid. -/
def nsDeleteEffect (s : State) (nsid : Nat) : State :=
  if s.atl.deleted.contains nsid then
    match nsGet s nsid with
    | none => atlSet s fun a => { a with deleted := a.deleted.filter (· != nsid) }
    | some n =>
      let s := stripePrune (quadsClear s n (nsid - 1) formFree)
      let s := { s with cq := { s.cq with reqHoldup := s.cq.reqHoldup.filter (· != nsid - 1) } }
      atlSet s fun a => { a with nss := tabErase a.nss (nsid - 1), deleted := a.deleted.filter (· != nsid) }
  else s
def execNamespaceDeleteEffect (nsid : Nat) (s : State) : Res := .next (nsDeleteEffect s nsid)

/-- The Namespace Attribute Changed event (notice, type 2, 00h, log page 04h) on a parcel's controllers (R173). -/
def nsChanged (s : State) (p : Nat) : State :=
  let cs := ((parGet s p).vf.toList) ++ (s.host.ctrls.filter fun e => e.2.parcel == some p).map (·.1)
  cs.foldl (fun s c => aenRaise s c 0x040002) s

/-- The parcel of the virtual function that a controller list of one entry names (R172). -/
def listParcel (s : State) (cs : List Nat) : Option Nat :=
  match cs with
  | [c] => (tabKeys s.pc.parcels fun x => (x.vf.map cntlid) == some c).head?
  | _ => none

/-- A namespace assigned to a parcel, every controller of it being told (R172, R173). -/
def nsAssign (s : State) (nsid p : Nat) : State := nsChanged (nsMod s nsid fun n => { n with parcel := some p, leaving := false }) p

/-- A namespace withdrawn: at the next boundary from an ACTIVE parcel, else now (R173). -/
def nsWithdraw (s : State) (nsid p : Nat) : State :=
  if (parGet s p).st = .active then nsMod s nsid fun n => { n with leaving := true }
  else nsChanged (nsMod s nsid fun n => { n with parcel := none, leaving := false }) p

/-- Withdrawals of ACTIVE parcels take effect at the boundary (R173). -/
def nsLeave (s : State) : State :=
  (s.atl.nss.filter fun e => e.2.leaving).foldl (fun s e => match e.2.parcel with
    | some p => nsChanged (nsMod s (e.1 + 1) fun n => { n with parcel := none, leaving := false }) p
    | none => nsMod s (e.1 + 1) fun n => { n with leaving := false }) s

/-- The table and effort of NS_TRANSFORM apply from the boundary on (R377). -/
def nsSettings (s : State) : State :=
  let put := fun (n : Ns) => match n.nextTab with
    | some x => { n with huff := x.1, effort := x.2, nextTab := none }
    | none => n
  atlSet s fun a => { a with nss := tabMap a.nss fun _ n => put n }

/-- NAMESPACE_ATTACH (R172, R173). -/
def nsAttach (s : State) (i : Nat) (cs : List Nat) : State :=
  let nsid := (tkGet s i).cmd.nsid
  match listParcel s cs with
  | none => tkFinish s i .ctrlListInvalid
  | some p =>
    if parcelBusy s p then tkFinish s i .parcelResetting
    else match nsGet s nsid with
      | none => tkFinish s i .invalidNsFormat
      | some n =>
        if n.parcel.isSome then tkFinish s i .nsAttached
        else if (s.atl.nss.filter fun e => e.2.parcel == some p).length ≥ min 64 (parGet s p).lim.namespaces then
          tkFinish s i .nsCapacity
        else tkFinish (nsAssign s nsid p) i .success
def execNamespaceAttach (tk : Nat) (ctrls : List Nat) (s : State) : Res :=
  .next (if adminData s tk 0x15 && bitsOf (tkGet s tk).cmd.cdw10 3 0 == 0 then nsAttach s tk ctrls else s)

/-- NAMESPACE_DETACH (R172, R173). -/
def nsDetach (s : State) (i : Nat) (cs : List Nat) : State :=
  let nsid := (tkGet s i).cmd.nsid
  match listParcel s cs with
  | none => tkFinish s i .ctrlListInvalid
  | some p =>
    if parcelBusy s p then tkFinish s i .parcelResetting
    else match nsGet s nsid with
      | none => tkFinish s i .invalidNsFormat
      | some n => if n.parcel = some p then tkFinish (nsWithdraw s nsid p) i .success else tkFinish s i .nsNotAttached
def execNamespaceDetach (tk : Nat) (ctrls : List Nat) (s : State) : Res :=
  .next (if adminData s tk 0x15 && bitsOf (tkGet s tk).cmd.cdw10 3 0 == 1 then nsDetach s tk ctrls else s)

/-- DEVICE_SELF_TEST (R148): short (1h) and extended (2h) tests run until the next boundary (log 35), Fh ends one. -/
def selfTestRun (s : State) (i : Nat) : State :=
  let stc := bitsOf (tkGet s i).cmd.cdw10 3 0
  if stc = 15 then tkFinish { s with cq := { s.cq with selfTest := none } } i .success
  else if stc ≠ 1 ∧ stc ≠ 2 then tkFinish s i .invalidField
  else if s.cq.selfTest.isSome then tkFinish s i .selfTestRunning
  else tkFinish { s with cq := { s.cq with selfTest := some stc } } i .success
def execDeviceSelfTest (tk : Nat) (s : State) : Res := .next (if adminIs s tk 0x14 then selfTestRun s tk else s)

/-- The function of a controller ID (R60, R174): in the x8+x8 arrangement those above 256 are of link B. -/
def fnOfCntlid (s : State) (id : Nat) : Nat := if s.host.split ∧ 256 ≤ id then compFn + (id - 256) else id

/-- VIRTUALIZATION_MANAGEMENT (R148, R171): actions 7h offline and 9h online act on the readiness of a virtual
function's controller; 1h and 8h assign resources, which are fixed here and are accepted (log 36). -/
def virtRun (s : State) (i : Nat) : State :=
  let v := (tkGet s i).cmd.cdw10
  let act := bitsOf v 3 0
  let id := bitsOf v 31 16
  let fn := fnOfCntlid s id
  if !vfExists s fn then tkFinish s i .invalidCtrl
  else match boundParcel s fn with
    | some p =>
      if parcelBusy s p then tkFinish s i .parcelResetting
      else if act = 7 then tkFinish (ctrlMod s fn fun c => { c with rdy := false }) i .success
      else if act = 9 then
        tkFinish (if (ctrlGet s fn).cc % 2 == 1 && vfReady s fn then ctrlReady s fn else s) i .success
      else if act = 1 ∨ act = 8 then tkFinish s i .success
      else tkFinish s i .invalidField
    | none =>
      if act = 1 ∨ act = 7 ∨ act = 8 ∨ act = 9 then tkFinish s i .success else tkFinish s i .invalidField
def execVirtualizationManagement (tk : Nat) (s : State) : Res := .next (if adminIs s tk 0x1C then virtRun s tk else s)

/-- A Format NVM of one namespace (R149, R151, R212, R236): it must name the namespace's own format; it waits while the
parcel is FROZEN. With SES = 010b it ends in step 4, where the media key slot is erased and a fresh key installed (R434). -/
def formatRun (s : State) (i : Nat) (crypto : Bool) : State :=
  let t := tkGet s i
  match nsGet s t.cmd.nsid, t.parcel with
  | some n, some p =>
    if n.parcel ≠ some p then tkFinish s i .invalidNsFormat
    else if (parGet s p).st = .frozen then tkMod s i fun t => { t with begun := true }
    else if bitsOf t.cmd.cdw10 3 0 ≠ (if n.lbads = 9 then 0 else 1) then tkFinish s i .invalidFormat
    else match crypto, n.media with
      | true, some k =>
        if s.ks.reqs.any fun r => r == .renew i t.edition t.cmd.nsid k then s
        else keyAsk (tkMod s i fun t => { t with begun := true }) (.renew i t.edition t.cmd.nsid k)
      | _, _ => tkFinish (stripePrune (quadsClear s n (t.cmd.nsid - 1) formEmpty)) i .success
  | _, _ => tkFinish s i .invalidNsFormat

/-- Secure Erase Settings of a Format NVM. -/
def formatSes (s : State) (i : Nat) : Nat := bitsOf (tkGet s i).cmd.cdw10 11 9

/-- FORMAT_NVM_NO_ERASE (R151): SES 000b. A value other than 000b and 010b is an invalid field (R148). -/
def execFormatNvmNoErase (tk : Nat) (s : State) : Res :=
  .next (if adminIs s tk 0x80 && formatSes s tk != 2 then
      (if formatSes s tk = 0 then formatRun s tk false else tkFinish s tk .invalidField) else s)

/-- FORMAT_NVM_CRYPTO_ERASE (R149): SES 010b. -/
def execFormatNvmCryptoErase (tk : Nat) (s : State) : Res :=
  .next (if adminIs s tk 0x80 && formatSes s tk == 2 then formatRun s tk true else s)

/-- FIRMWARE_IMAGE_DOWNLOAD (R148, R444): octets placed at the command's dword offset of the slot not running. -/
def execFirmwareImageDownload (tk : Nat) (data : Bytes) (s : State) : Res :=
  .next (if adminData s tk 0x11 then
      tkFinish (fwPut s (fwOther s) (4 * (tkGet s tk).cmd.cdw11) data) tk .success
    else s)

/-! ## Fabrics commands (R148) -/

/-- CAP of every controller: MQES, CQR, TO (R63, R103, R106, R791). -/
def capReg (fabric io : Bool) : Nat :=
  (if fabric then (if io then 1023 else 31) else 0xFFF) + 2 ^ 16 + 2 ^ 24 + 2 ^ 37

/-- CSTS of a controller. -/
def cstsReg (s : State) (c : Nat) : Nat := b2n (ctrlGet s c).rdy + 2 * b2n ((ctrlGet s c).cfs || s.fr.fatal)

/-- PROPERTY_GET (R148): CAP, VS, CC and CSTS. -/
def propGet (s : State) (i : Nat) : State :=
  let t := tkGet s i
  let v := match t.cmd.cdw11 with
    | 0 => some (capReg true true)
    | 8 => some 0x20100
    | 0x14 => some (ctrlGet s t.ctrl).cc
    | 0x1C => some (cstsReg s t.ctrl)
    | _ => none
  match v with
  | none => tkFinish s i .invalidField
  | some v => tkMod (tkFinishW s i .success (v % 2 ^ 32)) i fun t => { t with dw1 := v / 2 ^ 32 }
def execPropertyGet (tk : Nat) (s : State) : Res :=
  .next (if adminIs s tk 0x7F && (tkGet s tk).cmd.nsid % 256 == 4 then propGet s tk else s)

/-- PROPERTY_SET (R148): a write of CC enables or disables the controller; as it is enabled or disabled its features return to their
reset values (R152), and an enable reports VWC anew (R129). -/
def propSet (s : State) (i : Nat) : State :=
  let t := tkGet s i
  if t.cmd.cdw11 ≠ 0x14 then tkFinish s i .invalidField
  else
    let en := t.cmd.cdw12 % 2
    let s := ctrlMod s t.ctrl fun c =>
      if c.cc % 2 = en then { c with cc := t.cmd.cdw12 }
      else { ctrlClear true c with cc := t.cmd.cdw12, rdy := en == 1, vwc := !armed s, kato := c.kato, lastKa := c.lastKa
                                   aers := c.aers, events := c.events, cfs := c.cfs }
    tkFinish s i .success
def execPropertySet (tk : Nat) (s : State) : Res :=
  .next (if adminIs s tk 0x7F && (tkGet s tk).cmd.nsid % 256 == 0 then propSet s tk else s)

/-- KEEP_ALIVE (R148). -/
def execKeepAlive (tk : Nat) (s : State) : Res :=
  .next (if adminIs s tk 0x18 then
      tkFinish (ctrlMod s (tkGet s tk).ctrl fun c => { c with lastKa := frameNo s }) tk .success
    else s)

/-- What remains of the admin commands at a boundary: identifiers, selections and Fabrics types that no command handles end with their
status (R148, R152), a Format NVM held by a freeze goes on after the thaw (R212), an Abort ends after its target (R141), and a
Delete after its queue's commands (R794). -/
def adminRest (s : State) : State :=
  (tksWhere s fun t => t.admin && t.phase == .started).foldl (fun s i =>
    let t := tkGet s i
    let id := bitsOf t.cmd.cdw10 7 0
    if t.cmd.opc = 9 ∧ !featSupported id then tkFinish s i .invalidField
    else if t.cmd.opc = 2 ∧ !([1, 2, 3, 5, 6, 0x70] : List Nat).contains id then tkFinish s i .invalidLogPage
    else if t.cmd.opc = 2 ∧ (id = 3 ∨ id = 6) ∧ t.ctrl ≠ 0 then tkFinish s i .invalidLogPage
    else if (t.cmd.opc = 0xD ∨ t.cmd.opc = 0x15 ∨ t.cmd.opc = 0x22) ∧ 1 < bitsOf t.cmd.cdw10 3 0 then tkFinish s i .invalidField
    else if t.cmd.opc = 0x7F ∧ t.cmd.nsid % 256 ≠ 0 ∧ t.cmd.nsid % 256 ≠ 4 then tkFinish s i .invalidField
    else if t.cmd.opc = 0x80 ∧ t.begun then formatRun s i (formatSes s i == 2)
    else if t.cmd.opc = 8 then t.waitTk.foldl (fun s j => abortEnd s i j) s
    else if t.cmd.opc = 0 then sqDeleteEnd s i
    else s) s

end Sys2Proof.Machine
end

