-- ==== Sys2Proof/Machine/Fatal.lean ====
section
/-! DEFINITION. FATAL (R32, R759): what entering it stops. -/
namespace Sys2Proof.Machine

def powMod (s : State) (f : PowSt → PowSt) : State := { s with pw := f s.pw }

/-- PW_STATUS.STAGE (R760). -/
def stage (s : State) : Nat := regFld s PW_STATUS 31 29
def stagePut (s : State) (n : Nat) : State := regPutFld s PW_STATUS 31 29 n

/-- The dump of R751 begins, where none is being written: it carries the map, the write buffer, the cadastre, the meters
and the records as they stand. -/
def dumpBegin (s : State) : State :=
  if s.pw.dumping then s
  else
    let d : Dump := { serial := s.pw.serial + 1, boundary := frameNo s, atl := s.atl, pc := s.pc }
    powMod s fun p => { p with dumping := true, dump := some d, serial := p.serial + 1 }

/-- Every engine and Gazetteer job is dropped, its granules discarded (R50). -/
def jobsDrop (s : State) : State :=
  let s := s.en.jobs.foldl (fun s e => granDiscardEng s e.1 e.2.gran) s
  { s with en := { s.en with jobs := [] } }

/-- The slices of clusters 2 to 7 end (R750, R759). -/
def slicesStop (s : State) : State :=
  { s with cs := { s.cs with cores := tabMap s.cs.cores fun c x => if 16 ≤ c then { x with task := none } else x } }

/-- A packet that FATAL cuts off is answered ABORTED: one that had not taken effect, and one whose buffer lies in host
memory (R759). -/
def flightAbort (s : State) (n : Nat) : State :=
  match flightGet s n with
  | some f => if !f.applied || (!f.p.mctp && f.p.bufLen != 0) then pkFail s n .aborted else s
  | none => s

/-- FATAL is entered (R759). -/
def fatalEnter (s : State) : State :=
  if stage s = 5 then s
  else
    let s := raise (stagePut { s with fr := { s.fr with fatal := true } } 5) 20
    let s := { s with host := { s.host with ctrls := tabMap s.host.ctrls fun _ c => { c with cfs := true } } }
    let s := (s.host.conns.map (·.1)).foldl connClose s
    let s := slicesStop (jobsDrop s)
    let s := { s with ev := { s.ev with chans := tabMap s.ev.chans fun _ c => { c with cur := none, next := none } } }
    let s := (s.mg.flights.map (·.1)).foldl flightAbort s
    dumpBegin s

/-- FATAL_ENTRY (R32): an uncorrectable error in accounting memory. -/
def execFatalEntry (s : State) : Res := .next (fatalEnter s)

end Sys2Proof.Machine
end

