-- ==== Sys2Proof/Machine/Operands.lean ====
section
/-! DEFINITION. Chapters 09 and 10: the registers of a core, code pointers, projections and translation, and the
addressing modes of loads and stores. -/
namespace Sys2Proof.Machine

/-! ## Cores and registers (R455, R519, R528) -/

def coreGet (s : State) (c : Nat) : Core := tabGetD s.cs.cores c {}
def coreMod (s : State) (c : Nat) (f : Core → Core) : State :=
  { s with cs := { s.cs with cores := tabModD s.cs.cores c {} f } }

/-- The cluster of a core, and its place there (R455). -/
def coreCluster (c : Nat) : Nat := c / 8

/-- General register `r` of core `c` (R519). -/
def reg (s : State) (c r : Nat) : Word := tabGetD (coreGet s c).w (r % 32) 0

/-- General register `r` of core `c` set (R519). -/
def regSet (s : State) (c r : Nat) (v : Word) : State := coreMod s c fun x => { x with w := tabSet x.w (r % 32) v }

def flagsOf (s : State) (c : Nat) : Flags := (coreGet s c).fl
def flagsSet (s : State) (c : Nat) (f : Flags) : State := coreMod s c fun x => { x with fl := f }

/-- LK is w30 (R519). -/
def lk : Nat := 30

/-- A code pointer: its encoding bit, its address (R528). -/
def cpCompact (p : Word) : Bool := p.getLsbD 35
def cpAddr (p : Word) : Nat := p.toNat % 2 ^ 35
def codePtr (compact : Bool) (a : Nat) : Word := BitVec.ofNat 36 (b2n compact * 2 ^ 35 + a % 2 ^ 35)

/-- Is the core stopped (R559)? -/
def coreStopped (s : State) (c : Nat) : Bool := regBit s (TC_STATUS (coreCluster c)) (8 + c % 8)

/-- Can a core execute: it exists, its cluster is out of reset, it has not stopped, and at the lower level it runs a
task (R485, R509). -/
def coreRuns (s : State) (c : Nat) : Bool :=
  c < 64 && !regBit s (TC_STATUS (coreCluster c)) 31 && !coreStopped s c && (!(coreGet s c).lower || (coreGet s c).task.isSome)

/-- Words or syllables an operation of an encoding takes: the first of a paired word takes none. -/
def encLen : Enc → Nat
  | .long => 1
  | .short second => b2n second
  | .compact n => n

/-- Does an operation's encoding agree with the code pointer (R529)? Prefixes stand in compact code alone (R539), and the
second operation of a paired word comes behind the first. -/
def encFits (s : State) (c : Nat) (x : Pfx) : Bool :=
  let k := coreGet s c
  match x.enc with
  | .compact n => cpCompact k.pc && 1 ≤ n && n ≤ 8 && (x.pred.all fun p => decide (p < 15)) && k.pair.isNone
  | .short second => !cpCompact k.pc && x.pred.isNone && !x.l32 && k.pair.isSome == second
  | .long => !cpCompact k.pc && x.pred.isNone && !x.l32 && k.pair.isNone

/-- The code pointer of the next sequential instruction (R530). -/
def nextPc (s : State) (c : Nat) (e : Enc) : Word :=
  let p := (coreGet s c).pc
  codePtr (cpCompact p) (cpAddr p + encLen e)

/-! ## Projections (R463-R466, R740) -/

def projWord (x : Core) (p k : Nat) : Word := tabGetD x.proj (4 * p + k) 0
def projV (x : Core) (p : Nat) : Bool := (projWord x p 0).getLsbD 35
def projOct (x : Core) (p : Nat) : Bool := (projWord x p 0).getLsbD 34
def projEnc (x : Core) (p : Nat) : Bool := (projWord x p 0).getLsbD 33
def projX (x : Core) (p : Nat) : Bool := (projWord x p 0).getLsbD 32
def projW (x : Core) (p : Nat) : Bool := (projWord x p 0).getLsbD 31
def projR (x : Core) (p : Nat) : Bool := (projWord x p 0).getLsbD 30
def projSup (x : Core) (p : Nat) : Bool := (projWord x p 0).getLsbD 29
def projBase (x : Core) (p : Nat) : Nat := (projWord x p 1).toNat
def projLimit (x : Core) (p : Nat) : Nat := (projWord x p 2).toNat
def projPhys (x : Core) (p : Nat) : Nat := (projWord x p 3).toNat % 2 ^ 32 * 4096

/-- The permission an access needs. -/
inductive Perm where
  | r | w | x
  deriving DecidableEq, Repr

/-- What a translation found: the physical address with the first and last physical octet of its projection and whether
its code is compact, or the DETAIL of a projection fault (R564). -/
inductive Trans where
  | ok (phys lo hi : Nat) (compact : Bool)
  | fault (detail : Nat)
  deriving DecidableEq, Repr

/-- Octets of physical space that one unit of a space occupies (R464). -/
def unitSize (oct : Bool) : Nat := if oct then 1 else 4

/-- The projection that covers an address of a space (R464). -/
def projFind (x : Core) (oct : Bool) (a : Nat) : Option Nat :=
  (List.range 64).find? fun p => projV x p && projOct x p == oct && decide (projBase x p ≤ a) && decide (a ≤ projLimit x p)

/-- Translation of an access of `n` units at core address `a` (R464, R466). The conditions are taken in the order of
their DETAIL codes (DEDUCED, log 43). -/
def translate (s : State) (c : Nat) (oct : Bool) (a n : Nat) (need : Perm) : Trans :=
  let x := coreGet s c
  if x.resetProj then
    if !oct ∧ a ≤ 0x3FFFF then
      if need = .w then .fault 1 else .ok (s.dr.entry + 4 * a) s.dr.entry (s.dr.entry + 0xFFFFF) false
    else .fault 0
  else match projFind x oct a with
    | none => .fault 0
    | some p =>
      let has := match need with
        | .r => projR x p
        | .w => projW x p
        | .x => projX x p
      let u := unitSize oct
      let phys := projPhys x p + u * (a - projBase x p)
      if !has then .fault 1
      else if projSup x p && x.lower then .fault 2
      else if projLimit x p < a + n - 1 then .fault 3
      else if isScratch phys && scratchCluster phys != coreCluster c then .fault 4
      else .ok phys (projPhys x p) (projPhys x p + u * (projLimit x p - projBase x p) + u - 1) (projEnc x p)

/-! ## Addressing modes (R526, R527) -/

/-- The effective address of a mode (R526), modulo 2^36. -/
def modeAddr (s : State) (c ra : Nat) (m : Mode) : Nat :=
  let base := reg s c ra
  match m with
  | .off d => (base + d).toNat
  | .idx rb sc => (base + reg s c rb * BitVec.ofNat 36 sc).toNat
  | .post _ => base.toNat
  | .pre t => (base - t).toNat

/-- The base register afterwards, where the mode changes it (R526). -/
def modeBase (s : State) (c ra : Nat) (m : Mode) : Option Word :=
  match m with
  | .post t => some (reg s c ra + t)
  | .pre t => some (reg s c ra - t)
  | _ => none

/-- Does a mode write its base register? -/
def modeWrites : Mode → Bool
  | .post _ => true
  | .pre _ => true
  | _ => false

/-- A bearing stream is followed in base-plus-displacement and post-increment mode (R475). -/
def modeStream : Mode → Bool
  | .off _ => true
  | .post _ => true
  | _ => false

end Sys2Proof.Machine
end

