-- ==== Sys2Proof/Machine/Clusters.lean ====
section
/-! DEFINITION. Chapter 09: the caches of a cluster, loads and stores through them, bearing detectors, cache
maintenance, and way fencing. -/
namespace Sys2Proof.Machine

/-! ## Lines (R457-R459). The L1 data caches and the L2 of a cluster are coherent and act as one (DEDUCED, log 44). -/

def lineGet (s : State) (cl l : Nat) : Option CLine := tabGet (clusterGet s cl).lines l
def linePut (s : State) (cl l : Nat) (x : CLine) : State :=
  clusterMod s cl fun k => { k with lines := tabSet k.lines l x }
def lineDrop (s : State) (cl l : Nat) : State := clusterMod s cl fun k => { k with lines := tabErase k.lines l }

/-- Ways of a cluster in a mode (R479). -/
def waysIn (s : State) (cl m : Nat) : List Nat := (List.range 16).filter fun w => wayMode s cl w == m

/-- The data of a line as DRAM holds it: 16 words in class W, 64 octets else (R458). -/
def dramData (s : State) (l : Nat) : LineData :=
  if spanClass s (64 * l) 64 = some classW then .words (wordsRead s (64 * l) 16) else .octets (memRead s (64 * l) 64)

/-- The DRAM port of a cluster (R625). -/
def clusterPort (cl : Nat) : Nat := if cl < 2 then 8 else 8 + cl / 2

/-- A line's data written to DRAM whole, which clears poison (R652), with HOLDER 0 in class L (R643). -/
def dramPut (s : State) (cl l : Nat) (d : LineData) : State :=
  let s := dramPost s { line := l, port := clusterPort cl }
  lineWrites (match d with
    | .words w => wordsStore s (64 * l) w
    | .octets o => memStore s (64 * l) o) (64 * l) 64 0

/-- A dirty line is written back (R469); it stays valid and clean. -/
def lineClean (s : State) (cl l : Nat) : State :=
  match lineGet s cl l with
  | some ⟨some d, true, w, k⟩ => linePut (dramPut s cl l d) cl l ⟨some d, false, w, k⟩
  | _ => s

/-- A set of the L2 (R457). -/
def lineSet (l : Nat) : Nat := l % 2048

/-- A way in service for a new line of a set: a free one, else the one that pseudo-LRU replacement empties, a free value
(R457; log 3). -/
def wayTake (s : State) (cl l : Nat) : State × Nat :=
  let ws := waysIn s cl 0
  let used := ((clusterGet s cl).lines.filter fun e => lineSet e.1 == lineSet l && e.2.locked.isNone).map fun e => (e.1, e.2.way)
  match ws.find? fun w => !(used.map (·.2)).contains w with
  | some w => (s, w)
  | none =>
    let r := takeFree s
    let w := ws.getD (r.1 % max 1 ws.length) 0
    match used.find? fun e => e.2 == w with
    | some (v, _) => (lineDrop (lineClean r.2 cl v) cl v, w)
    | none => (r.2, w)

/-- Data installed for a line: in its locked slot where it has one, else in a way in service. -/
def lineInstall (s : State) (cl l : Nat) (d : LineData) (dirty : Bool) : State :=
  match lineGet s cl l with
  | some x => linePut s cl l { x with data := some d, dirty := dirty }
  | none =>
    let r := wayTake s cl l
    linePut r.1 cl l ⟨some d, dirty, r.2, none⟩

/-! ## Maintenance (R469-R474) -/

/-- Data of a locked line are lost by an INVAL (R473). -/
def lockDiscard (s : State) (cl : Nat) : State := raise (regInc s (TC_LOCK_DISCARD cl)) (384 + 6 * cl + 1)

/-- INVAL of a line: dropped, a locked line's slot staying empty. -/
def lineInval (s : State) (cl l : Nat) : State :=
  match lineGet s cl l with
  | none => s
  | some x =>
    if x.locked.isSome then
      let s := linePut s cl l { x with data := none, dirty := false }
      if x.dirty then lockDiscard s cl else s
    else lineDrop s cl l

/-- CLEAN_INVAL of a line: never counted as a loss (R473). -/
def lineCleanInval (s : State) (cl l : Nat) : State :=
  let s := lineClean s cl l
  match lineGet s cl l with
  | none => s
  | some x => if x.locked.isSome then linePut s cl l { x with data := none, dirty := false } else lineDrop s cl l

/-- ZERO of a line: filled with zeros and dirty, without a fetch (R469). -/
def lineZero (s : State) (cl l : Nat) : State :=
  let d := if spanClass s (64 * l) 64 = some classW then LineData.words (List.replicate 16 0) else .octets (zeros 64)
  lineInstall s cl l d true

/-- UNLOCK of a line: cleaned, its slot freed (R469). -/
def lineUnlock (s : State) (cl l : Nat) : State :=
  match lineGet s cl l with
  | some ⟨_, _, _, some _⟩ => lineDrop (lineClean s cl l) cl l
  | _ => s

/-- An operation by address where no fill is under way. -/
def lineDo (s : State) (cl l : Nat) : LineOp → State
  | .clean => lineClean s cl l
  | .inval => lineInval s cl l
  | .cleanInval => lineCleanInval s cl l
  | .zero => lineZero s cl l
  | .unlock => lineUnlock s cl l

/-! ## Fills (R472) -/

def fillGet (s : State) (cl l : Nat) : Option Fill := tabGet (clusterGet s cl).fills l

/-- A fill installs: its line, then what waited in its slot, in order (R472). -/
def fillInstall (s : State) (cl l : Nat) : State :=
  match fillGet s cl l with
  | none => s
  | some f =>
    let s := clusterMod s cl fun k => { k with fills := tabErase k.fills l }
    f.ops.foldl (fun s o => lineDo s cl l o) (lineInstall s cl l f.data false)

/-- Every fill of a cluster installs: at the next boundary at the latest, and when an access or a LOCK needs the line
(DESIGN CHOICE, log 75: the spec gives no time). -/
def fillsInstall (s : State) (cl : Nat) : State := (((clusterGet s cl).fills).map (·.1)).foldl (fun s l => fillInstall s cl l) s

/-- An operation by address: it waits in the slot of a fill of its line, counted (R472), and else takes effect at once. -/
def lineOp (s : State) (cl l : Nat) (o : LineOp) : State :=
  match fillGet s cl l with
  | some f => regInc (clusterMod s cl fun k => { k with fills := tabSet k.fills l { f with ops := f.ops ++ [o] } }) (TC_FILL_WAITS cl)
  | none => lineDo s cl l o

/-- The data of a line, fetched from DRAM on a miss; none where the line is uncorrectable (R655). -/
def lineFetch (s : State) (cl l : Nat) (e : Ecc) : State × Option LineData :=
  let s := fillInstall s cl l
  match (lineGet s cl l).bind (·.data) with
  | some d => (s, some d)
  | none =>
    let r := dramLine s (64 * l) (clusterPort cl) e
    if r.2 then (r.1, none)
    else
      let d := dramData r.1 l
      (lineInstall r.1 cl l d false, some d)

/-! ## Loads and stores by physical address -/

/-- Does an access agree with its region's class (R641)? -/
def kindOk (s : State) (oct : Bool) (phys n : Nat) : Bool :=
  match spanClass s phys n with
  | none => false
  | some c => oct == (c != classW)

/-- Octets of a line's data. -/
def dataOctets : LineData → Nat → Nat → Bytes
  | .octets o, k, n => slice o k n
  | .words _, _, n => zeros n
def dataWord : LineData → Nat → Word
  | .words w, k => w.getD k 0
  | .octets _, _ => 0

/-- A line's data with some octets or a word replaced. -/
def octetsIn' (d : LineData) (k : Nat) (b : Bytes) : LineData :=
  match d with
  | .octets o => .octets ((o.take k ++ b ++ o.drop (k + b.length)).take o.length)
  | x => x
def wordIn (d : LineData) (k : Nat) (v : Word) : LineData :=
  match d with
  | .words w => .words (modAt w k fun _ => v)
  | x => x

/-- An octet load through the cluster's caches; none is a machine check (R641, R655). Scratchpad is reached directly
(R482). -/
def loadOctets (s : State) (cl phys n : Nat) (e : Ecc) : State × Option Bytes :=
  if isScratch phys then (s, some (memRead s phys n))
  else if !kindOk s true phys n then (wrongKind s, none)
  else
    let r := lineFetch s cl (lineOf phys) e
    (r.1, r.2.map fun d => dataOctets d (phys % 64) n)

def loadWord (s : State) (cl phys : Nat) (e : Ecc) : State × Option Word :=
  if !kindOk s false phys 4 then (wrongKind s, none)
  else
    let r := lineFetch s cl (lineOf phys) e
    (r.1, r.2.map fun d => dataWord d (phys % 64 / 4))

/-- An octet store: write-allocate and write-back in the L2 (R457); false is a machine check. -/
def storeOctets (s : State) (cl phys : Nat) (b : Bytes) (e : Ecc) : State × Bool :=
  if isScratch phys then (memStore s phys b, true)
  else if !kindOk s true phys b.length then (wrongKind s, false)
  else
    let r := lineFetch s cl (lineOf phys) e
    match r.2 with
    | none => (r.1, false)
    | some d => (lineInstall r.1 cl (lineOf phys) (octetsIn' d (phys % 64) b) true, true)

def storeWord (s : State) (cl phys : Nat) (v : Word) (e : Ecc) : State × Bool :=
  if !kindOk s false phys 4 then (wrongKind s, false)
  else
    let r := lineFetch s cl (lineOf phys) e
    match r.2 with
    | none => (r.1, false)
    | some d => (lineInstall r.1 cl (lineOf phys) (wordIn d (phys % 64 / 4) v) true, true)

/-! ## Bearing detectors (R475-R478, R513) -/

def bearingOn (s : State) (cl : Nat) : Bool := bitOf (clusterGet s cl).bearing 31
def bearingDist (s : State) (cl : Nat) : Nat := max 1 (min 8 (bitsOf (clusterGet s cl).bearing 3 0))

/-- A detector after its stream has touched line `l`. -/
def bearingStep (b : Bearing) (l now : Nat) : Bearing :=
  let d : Int := (l : Int) - b.line
  if d = 0 then { b with used := now }
  else if 64 < d.natAbs then { b with line := l, stride := 0, hits := 0, used := now }
  else if d = b.stride then { b with line := l, hits := b.hits + 1, used := now }
  else { b with line := l, stride := d, hits := 1, used := now }

/-- A prefetch of a line: dropped outside the projection, where the line is present, in fill or in the slot of a lock way, or
where it does not read cleanly (R477); else a fill begins. -/
def prefetch (s : State) (cl lo hi : Nat) (l : Int) : State :=
  if l < 0 ∨ l.toNat < lineOf lo ∨ lineOf hi < l.toNat then s
  else if (lineGet s cl l.toNat).isSome ∨ (fillGet s cl l.toNat).isSome ∨ poisoned s l.toNat
      ∨ (spanClass s (64 * l.toNat) 64).isNone then s
  else
    let s := dramPost s { line := l.toNat, port := clusterPort cl, pre := true }
    let d := dramData s l.toNat
    clusterMod s cl fun k => { k with fills := tabSet k.fills l.toNat { data := d } }

/-- The detector of a stream among a core's eight; a stream with none takes the least recently used (R475). -/
def bearingSlot (bs : List Bearing) (oct : Bool) (base : Nat) : Option Nat :=
  bs.findIdx? fun b => b.oct == oct && b.base == base

/-- A load or store of a stream passes its detector, which prefetches after two equal strides (R476). -/
def bearingTouch (s : State) (c : Nat) (oct : Bool) (base phys lo hi : Nat) : State :=
  let cl := coreCluster c
  if !bearingOn s cl || isScratch phys then s
  else
    let x := coreGet s c
    let l := lineOf phys
    let now := x.tick + 1
    match bearingSlot x.bearings oct base with
    | none =>
      let keep := if x.bearings.length < 8 then x.bearings
        else
          let old := (x.bearings.map (·.used)).min?.getD 0
          (x.bearings.filter fun b => b.used != old)
      coreMod s c fun x => { x with tick := now, bearings := keep ++ [{ oct := oct, base := base, line := l, used := now }] }
    | some i =>
      let b := bearingStep (x.bearings.getD i { oct := oct, base := base, line := l }) l now
      let moved := (x.bearings.getD i { oct := oct, base := base, line := l }).line != l
      let s := coreMod s c fun x => { x with tick := now, bearings := modAt x.bearings i fun _ => b }
      if moved && decide (2 ≤ b.hits) then
        (List.range (bearingDist s cl)).foldl (fun s (k : Nat) => prefetch s cl lo hi ((l : Int) + b.stride * ((k : Int) + 1))) s
      else s

/-! ## LOCK (R474) and spans -/

/-- Lock ways of a cluster that a parcel owns (R474, R479). -/
def lockWays (s : State) (cl p : Nat) : List Nat :=
  (waysIn s cl 2).filter fun w => regBit s (TC_WAY_OWNER cl w) 31 && regFld s (TC_WAY_OWNER cl w) 9 0 == p

/-- LOCK of a line for a parcel: its result code (R474), or none where its fetch is uncorrectable. It waits for a fill of the
line, counted (R472). -/
def lineLock (s : State) (cl l : Nat) (p : Option Nat) (e : Ecc) : State × Option Nat :=
  let s := if (fillGet s cl l).isSome then fillInstall (regInc s (TC_FILL_WAITS cl)) cl l else s
  match lineGet s cl l with
  | some ⟨_, _, _, some _⟩ => (s, some 1)
  | _ =>
    let ws := match p with
      | some p => lockWays s cl p
      | none => []
    let taken := ((clusterGet s cl).lines.filter fun k => lineSet k.1 == lineSet l && k.2.locked.isSome).map fun k => k.2.way
    match ws, ws.find? fun w => !taken.contains w with
    | [], _ => (s, some 2)
    | _, none => (s, some 3)
    | _, some w =>
      let r := lineFetch s cl l e
      match r.2, (lineGet r.1 cl l) with
      | some d, some x => (linePut r.1 cl l { x with data := some d, way := w, locked := p }, some 0)
      | _, _ => (r.1, none)

/-- The lines of a span that are present or in fill. -/
def linesBetween (s : State) (cl lo n : Nat) : List Nat :=
  let k := clusterGet s cl
  (k.lines.map (·.1) ++ k.fills.map (·.1)).filter fun l => decide (lo ≤ l) && decide (l < lo + n)

/-- A line is forgotten, and a fill of it. -/
def lineForget (s : State) (cl l : Nat) : State :=
  clusterMod s cl fun k => { k with lines := tabErase k.lines l, fills := tabErase k.fills l }

/-- Every line of a span of a cluster cleaned and dropped (R461, R480). -/
def spanCleanInval (s : State) (cl phys n : Nat) : State :=
  if n = 0 then s
  else (linesBetween s cl (lineOf phys) (lineOf (phys + n - 1) + 1 - lineOf phys)).foldl (fun s l => lineOp s cl l .cleanInval) s

/-! ## Ways (R479-R483, R512) -/

/-- Would a TC_WAY_MODE value be ignored (R481)? -/
def wayRefused (s : State) (cl v : Nat) : Bool :=
  let old := fun w => regFld s (TC_WAY_MODE cl) (2 * w + 1) (2 * w)
  let new := fun w => bitsOf v (2 * w + 1) (2 * w)
  let changed := (List.range 16).filter fun w => old w != new w
  decide (((List.range 16).filter fun w => new w == 0).length < 8)
    || changed.any (fun w => regBit s (TC_WAY_STATE cl) w)
    || changed.any (fun w => decide (2 ≤ new w) && !regBit s (TC_WAY_OWNER cl w) 31)
    || (decide (cl < 2) && changed.any fun w => new w != 1)

/-- WAY_MODE_WRITE (R480, R481): the changes are requested for the next boundary, or REFUSED is set. A later write of the
same frame replaces what has not started. -/
def wayWrite (s : State) (cl v : Nat) : State :=
  if 8 ≤ cl then s
  else if wayRefused s cl v then regPutBit s (TC_WAY_STATE cl) 31 true
  else
    let ws := (List.range 16).filter fun w => !wayChanging s cl w && wayMode s cl w != bitsOf v (2 * w + 1) (2 * w)
    let cs : List WayChange := ws.map fun w => ⟨w, wayMode s cl w, bitsOf v (2 * w + 1) (2 * w), none⟩
    clusterMod (regPut s (TC_WAY_MODE cl) v) cl fun k => { k with changes := k.changes.filter (·.start.isSome) ++ cs }
def execWayModeWrite (cl value : Nat) (s : State) : Res := .next (wayWrite s cl value)

/-- The address of a scratchpad way (R482). -/
def scratchAddr (cl w : Nat) : Nat := scratchBase + 0x200000 * cl + 0x20000 * w

/-- A way is emptied: its dirty lines are written back and its locks end (R474, R480). -/
def wayEmpty (s : State) (cl w : Nat) : State :=
  (((clusterGet s cl).lines.filter fun e => e.2.way == w).map (·.1)).foldl
    (fun s l => lineDrop (lineClean s cl l) cl l) s

/-- A change of a way begins (R480): the way reads CHANGING, is emptied where it leaves SERVICE or LOCK, and zeroed where
SCRATCH is entered or left. -/
def wayBegin (s : State) (cl : Nat) (x : WayChange) : State :=
  let s := if x.old = 0 ∨ x.old = 2 then wayEmpty s cl x.way else s
  let s := if x.old = 3 ∨ x.new = 3 then memZero s (scratchAddr cl x.way) 0x20000 else s
  regPutBit s (TC_WAY_STATE cl) x.way true

/-- WAY_MODE_CHANGE_START (R480). -/
def wayStart (s : State) (cl : Nat) : State :=
  if 8 ≤ cl then s
  else
    let due := (clusterGet s cl).changes.filter (·.start.isNone)
    let s := due.foldl (fun s x => wayBegin s cl x) s
    clusterMod s cl fun k => { k with changes := k.changes.map fun x => { x with start := some (x.start.getD (frameNo s)) } }
def execWayModeChangeStart (cl : Nat) (s : State) : Res := .next (wayStart s cl)

/-- WAY_MODE_CHANGE_COMPLETE (R480): every change that has started is complete, and event 384 + 6c follows. -/
def wayComplete (s : State) (cl : Nat) : State :=
  let done := (clusterGet s cl).changes.filter (·.start.isSome)
  if 8 ≤ cl ∨ done = [] then s
  else
    let s := clusterMod s cl fun k => { k with changes := k.changes.filter (·.start.isNone) }
    raise (done.foldl (fun s x => regPutBit s (TC_WAY_STATE cl) x.way false) s) (384 + 6 * cl)
def execWayModeChangeComplete (cl : Nat) (s : State) : Res := .next (wayComplete s cl)

/-- WAY_OWNER_WRITE (R512). -/
def wayOwner (s : State) (cl w v : Nat) : State :=
  if 8 ≤ cl ∨ 16 ≤ w then s
  else if 2 ≤ wayMode s cl w ∨ (clusterGet s cl).changes.any (·.way == w) then regPutBit s (TC_WAY_STATE cl) 31 true
  else regWrite s (TC_WAY_OWNER cl w) v
def execWayOwnerWrite (cl way value : Nat) (s : State) : Res := .next (wayOwner s cl way value)

/-- A parcel's LOCK and SCRATCH ways return to SERVICE at its retirement (R483). -/
def waysReturn (s : State) (p : Nat) : State :=
  (List.range 8).foldl (fun s cl => (List.range 16).foldl (fun s w =>
    if 2 ≤ wayMode s cl w && regFld s (TC_WAY_OWNER cl w) 9 0 == p then
      let old := wayMode s cl w
      clusterMod (regPutFld s (TC_WAY_MODE cl) (2 * w + 1) (2 * w) 0) cl fun k =>
        { k with changes := k.changes.filter (·.way != w) ++ [⟨w, old, 0, none⟩] }
    else s) s) s

end Sys2Proof.Machine
end

