-- ==== Sys2Proof/Machine/Tasks.lean ====
section
/-! DEFINITION. Chapter 09, the task scheduler: task descriptors, flows, ready lists, affinity, dispatch, the core pool
and core masks (R484-R494), and the end of invocations (R503-R507). -/
namespace Sys2Proof.Machine

/-- Keys of a table that belong to a parcel, of `m` numbers each, with the entry. -/
def ofParcel {α : Type} (t : Table α) (p m : Nat) : List (Nat × α) :=
  (t.filter fun e => e.1 / m == p).map fun e => (e.1 % m, e.2)

def csMod (s : State) (f : ClusSt → ClusSt) : State := { s with cs := f s.cs }
def taskGet (s : State) (t : Nat) : Option Task := tabGet s.cs.tasks t
def taskMod (s : State) (t : Nat) (f : Task → Task) : State := csMod s fun x => { x with tasks := tabMod x.tasks t f }
def invGet (s : State) (i : Nat) : Option Invoc := tabGet s.cs.invs i
def invMod (s : State) (i : Nat) (f : Invoc → Invoc) : State := csMod s fun x => { x with invs := tabMod x.invs i f }

/-- The parcel of a task. -/
def taskParcel (s : State) (t : Task) : Nat := ((invGet s t.inv).map (·.parcel)).getD 0

/-- Tasks of an invocation, and of a parcel. -/
def invTasks (s : State) (i : Nat) : List Nat := tabKeys s.cs.tasks fun t => t.inv == i
def parcelTasks (s : State) (p : Nat) : List Nat := tabKeys s.cs.tasks fun t => taskParcel s t == p
def parcelFlows (s : State) (p : Nat) : List Nat :=
  tabKeys s.cs.flows fun f => ((invGet s f.inv).map (·.parcel)) == some p

/-- Free descriptors and flows (R515). -/
def tasksFree (s : State) : Nat := 65536 - s.cs.tasks.length
def flowsFree (s : State) : Nat := 16384 - s.cs.flows.length

/-- The next place in a list. -/
def seqNext (s : State) : Nat × State := (s.cs.seq, csMod s fun x => { x with seq := x.seq + 1 })

/-! ## Pools, masks and clusters (R487, R492, R493) -/

/-- Cores of a cluster in the pool (R455, R492); none while it is held in reset. -/
def poolMask (s : State) (cl : Nat) : Nat :=
  if cl < 2 ∨ 8 ≤ cl ∨ regBit s (TC_STATUS cl) 31 then 0 else (clusterGet s cl).pool
def hasPool (s : State) (cl : Nat) : Bool := (List.range 8).any fun k => bitOf (poolMask s cl) k && !coreStopped s (8 * cl + k)

/-- Clusters a task may run in: its own and its parcel's mask (R486). -/
def taskAllows (s : State) (t : Task) (cl : Nat) : Bool :=
  2 ≤ cl && cl < 8 && bitOf t.clusters cl && bitOf (parGet s (taskParcel s t)).mask cl

/-- READY tasks in the lists of a cluster (R517). -/
def readyCount (s : State) (cl : Nat) : Nat := tabCount s.cs.tasks fun t => t.st == .ready && t.cluster == cl

/-- The cluster of a list with the fewest ready tasks, the lower number on a tie. -/
def fewest (s : State) : List Nat → Option Nat
  | [] => none
  | c :: t => match fewest s t with
    | none => some c
    | some d => if readyCount s c ≤ readyCount s d then some c else some d

/-- The cluster whose list a ready task enters (R487): its last one where allowed with a pool core, else the allowed one
with a pool core and the fewest ready tasks, else its last where allowed, else the lowest allowed. -/
def enterList (s : State) (t : Task) : Nat :=
  let al := (List.range 8).filter fun cl => taskAllows s t cl
  let last := t.last.map coreCluster
  match last.filter fun c => al.contains c && hasPool s c with
  | some c => c
  | none => match fewest s (al.filter fun c => hasPool s c) with
    | some c => c
    | none => (last.filter fun c => al.contains c).getD (al.head?.getD t.cluster)

/-- A task becomes READY at the tail of its list (R485). -/
def taskReady (s : State) (n : Nat) : State :=
  match taskGet s n with
  | none => s
  | some t =>
    let r := seqNext s
    taskMod r.2 n fun x => { x with st := .ready, since := frameNo s, seq := r.1, cluster := enterList s t, wait := none, unblock := false }

/-! ## Flows (R488) -/

/-- Is a flow held, or waited for by tasks that stand before? -/
def flowHeld (s : State) (f : Nat) : Bool :=
  ((tabGet s.cs.flows f).bind (·.holder)).isSome || s.cs.tasks.any fun e => e.2.st == .flowWait && e.2.flow == some f

/-- A flow is released by its holder. -/
def flowRelease (s : State) (f n : Nat) : State :=
  csMod s fun x => { x with flows := tabMod x.flows f fun w => if w.holder = some n then { w with holder := none } else w }

/-- The waiting task that entered FLOW_WAIT earliest becomes READY and holds the flow (R488). -/
def flowHandoff (s : State) (f : Nat) : State :=
  match tabGet s.cs.flows f with
  | some ⟨_, none⟩ =>
    let ws := tabKeys s.cs.tasks fun t => t.st == .flowWait && t.flow == some f
    match sortBy (fun n => ((taskGet s n).map (·.seq)).getD 0) ws with
    | [] => s
    | n :: _ => taskReady (csMod s fun x => { x with flows := tabMod x.flows f fun w => { w with holder := some n } }) n
  | _ => s
/-- FLOW_HANDOFF (R488). -/
def execFlowHandoff (flow : Nat) (s : State) : Res := .next (flowHandoff s flow)

/-- A new task: READY, or in FLOW_WAIT where its flow is held (R485). -/
def taskNew (s : State) (t : Task) : State × Nat :=
  let n := s.cs.nextTask
  let r := seqNext s
  let held := (t.flow.map fun f => flowHeld s f).getD false
  let s := csMod r.2 fun x => { x with nextTask := n + 1, tasks := tabSet x.tasks n { t with st := .flowWait, seq := r.1 } }
  let s := if tasksFree s = 1023 then raise (regPutBit s TS_TASKS 31 true) 432 else s
  if held then (s, n)
  else
    let s := match t.flow with
      | some f => csMod s fun x => { x with flows := tabMod x.flows f fun w => { w with holder := some n } }
      | none => s
    (taskReady s n, n)

/-- A task's descriptor is FREE again; its flow is released (R485). -/
def taskFree (s : State) (n : Nat) : State :=
  match taskGet s n with
  | none => s
  | some t =>
    let s := match t.flow with
      | some f => flowRelease s f n
      | none => s
    csMod s fun x => { x with tasks := tabErase x.tasks n
                              cores := tabMap x.cores fun _ k => if k.task = some n then { k with task := none } else k }

/-! ## Dispatch (R463, R468, R478, R486, R490) -/

/-- One projection's four words (R463), at index `p`. -/
def projSet (t : Table Word) (p : Nat) (w0 : Nat) (base limit phys : Nat) : Table Word :=
  tabSet (tabSet (tabSet (tabSet t (4 * p) (BitVec.ofNat 36 w0)) (4 * p + 1) (BitVec.ofNat 36 base))
    (4 * p + 2) (BitVec.ofNat 36 limit)) (4 * p + 3) (BitVec.ofNat 36 (phys / 4096))

def pvV : Nat := 2 ^ 35
def pvOct : Nat := 2 ^ 34
def pvEnc : Nat := 2 ^ 33
def pvX : Nat := 2 ^ 32
def pvW : Nat := 2 ^ 31
def pvR : Nat := 2 ^ 30

/-- Scratchpad ways of a parcel in a cluster, rising (R468). -/
def scratchWays (s : State) (cl p : Nat) : List Nat :=
  (waysIn s cl 3).filter fun w => regBit s (TC_WAY_OWNER cl w) 31 && regFld s (TC_WAY_OWNER cl w) 9 0 == p

/-- The projections of an invocation on a core (R468). Projections 50 to 63 are the resident supervisor's and stay. -/
def invProjections (s : State) (i : Invoc) (g : Prog) (cl : Nat) (old : Table Word) : Table Word :=
  let t := old.filter fun e => decide (200 ≤ e.1)
  let t := projSet t 0 (pvV + pvX + pvR + b2n g.compact * pvEnc) 0 (g.codeWords - 1) g.code
  let t := projSet t 1 (pvV + pvR + pvW) 0x1000000 (0x1000000 + i.dataWords - 1) i.data
  let t := projSet t 2 (pvV + pvOct + pvR) 0 0xFFF i.param
  let t := ((List.range i.ranges.length).zip i.ranges).foldl (fun t e =>
    match tabGet s.cs.ranges (i.parcel * 4096 + e.2) with
    | some r => projSet t (3 + e.1) (pvV + pvOct + pvR + pvW) ((e.1 + 1) * 0x80000000) ((e.1 + 1) * 0x80000000 + r.len - 1) r.phys
    | none => t) t
  let ws := scratchWays s cl i.parcel
  ((List.range ws.length).zip ws).foldl (fun t e =>
    projSet t (34 + e.1) (pvV + pvOct + pvR + pvW) (0x40000000 + 0x20000 * e.1) (0x4001FFFF + 0x20000 * e.1)
      (scratchAddr cl e.2)) t

/-- The program of an invocation. -/
def invProg (s : State) (i : Invoc) : Option Prog := tabGet s.cs.progs (i.parcel * 64 + i.prog)

/-- A core takes a task: its registers, its projections, the lower level; its detectors are cleared where the task is
another than the last (R463, R468, R478). -/
def coreTake (s : State) (c n : Nat) : State :=
  match taskGet s n with
  | none => s
  | some t =>
    let s := taskMod s n fun t => { t with st := .running, last := some c, cluster := coreCluster c, fresh := false }
    let proj := match (invGet s t.inv), (invGet s t.inv).bind (invProg s) with
      | some i, some g => invProjections s i g (coreCluster c) (coreGet s c).proj
      | _, _ => (coreGet s c).proj
    coreMod s c fun x =>
      { x with w := t.ctx.w, fl := t.ctx.fl, pc := t.ctx.pc, lower := true, nest := false, pair := none, task := some n
               resetProj := false, proj := proj, bearings := if x.lastTask = some n then x.bearings else []
               lastTask := some n, ran := true, sliceAt := frameNo s, closed := false }

/-- Is a ready task eligible on a core (R486, R487)? -/
def taskEligible (s : State) (c : Nat) (t : Task) : Bool :=
  let win := bitsOf s.cs.affinity 11 0
  t.st == .ready && t.cluster == coreCluster c && tokenOk s (taskParcel s t) 3 && taskAllows s t (coreCluster c)
    && (match t.last with
      | none => true
      | some l => l == c || decide (t.since + win ≤ frameNo s))

/-- The ready task a core takes next among those for which `ok` holds: highest priority, earliest since, first in its list
(R486). -/
def nextTask (s : State) (c : Nat) (ok : Task → Bool) : Option Nat :=
  let el := tabKeys s.cs.tasks fun t => ok t && taskEligible s c t
  let key := fun n => match taskGet s n with
    | some t => (t.prio * 2 ^ 64 + t.since) * 2 ^ 64 + t.seq
    | none => 0
  (sortBy key el).head?

/-- A parcel that stalled is dispatched again: event 437 (R494). -/
def stallEnd (s : State) (p : Nat) : State :=
  if s.cs.stalled.contains p then raise (csMod s fun x => { x with stalled := x.stalled.filter (· != p) }) 437 else s

/-- A task is dispatched on a core for a core-slice token of its parcel (R485, R486). -/
def dispatch (s : State) (c n : Nat) : State :=
  match taskGet s n with
  | none => s
  | some t =>
    let p := taskParcel s t
    stallEnd (coreTake (tokenSpend s p 3 1) c n) p

/-- A core takes a trap (R555): TEPC, TADDR, TFLAGS, TCAUSE and TSTAT, the upper level, the handler's address. -/
def takeTrap (s : State) (c vec det : Nat) (tepc taddr : Word) : State :=
  coreMod s c fun x =>
    { x with tepc := tepc, taddr := taddr, tflags := flagsWord x.fl, tcause := BitVec.ofNat 36 (det % 256 * 256 + vec)
             prev := x.lower, nest := true, lower := false, pair := none
             pc := codePtr (cpCompact x.tvbase) (cpAddr x.tvbase + 16 * vec) }

/-- The first operation of a paired word is undone where the second traps (R536). -/
def pairUndo (s : State) (c : Nat) : State :=
  coreMod s c fun x => match x.pair with
    | some (w, f) => { x with w := w, fl := f, pair := none }
    | none => x

/-- A slice that ends before its boundary meters the cycles it ran, a free number of the frame's (R189 meter 5; log 3). -/
def partCycles (s : State) (p : Nat) : State :=
  let r := takeFree s
  meterAdd r.2 p 5 (r.1 % (2 * periodNs s + 1))

/-- The rest of a slice passes to the parcel's next eligible task, without a token; else the core idles (R490). -/
def slicePass (s : State) (c p : Nat) : State :=
  match nextTask s c fun t => taskParcel s t == p with
  | some n => coreTake s c n
  | none => partCycles (coreMod s c fun x => { x with task := none }) p

/-- The registers of a core's task as they are saved, at a code pointer. -/
def coreCtx (s : State) (c : Nat) (pc : Word) : Ctx :=
  let x := coreGet s c
  ⟨x.w, x.fl, pc⟩

/-! ## Ends of invocations (R503-R507) -/

/-- An invocation ends with a status and the dwords of its completion (R503); its remaining tasks go at the boundary. -/
def invEnd (s : State) (i : Nat) (st : Status) (d0 d1 : Nat) : State :=
  match invGet s i with
  | some x => if x.ended.isSome then s else invMod s i fun x => { x with ended := some (st, d0, d1) }
  | none => s

/-- Every task and flow of an invocation is removed (R485, R500). -/
def invClear (s : State) (i : Nat) : State :=
  let s := (invTasks s i).foldl taskFree s
  csMod s fun x => { x with flows := tabFilter x.flows fun _ f => f.inv != i }

/-- Engine jobs of an invocation without a result yet (R505). -/
def invJobs (s : State) (i : Nat) : Nat := tabCount s.en.jobs fun j => j.inv == some i && j.phase != .ended

/-- An invocation is gone with all it held: data, parameters, job handles. -/
def invGone (s : State) (i : Nat) : State :=
  match invGet s i with
  | none => s
  | some x =>
    let s := invClear s i
    let s := spanGive (spanGive s x.data) x.param
    let s := enMod s fun e => { e with jobs := tabFilter e.jobs fun _ j => j.inv != some i || j.phase != .ended }
    csMod s fun y => { y with invs := tabErase y.invs i }

/-- The budget of an invocation has run out (R504). -/
def budgetOver (s : State) (x : Invoc) : Bool := x.ended.isNone && decide (x.accepted + x.budget ≤ frameNo s)

/-- An invocation at the end of its budget (R504). -/
def budgetEnd (s : State) (i : Nat) : State :=
  match invGet s i with
  | none => s
  | some x =>
    if budgetOver s x then raise (regInc (invClear (invEnd s i .programFrameOverrun 0 0) i) TS_BUDGET_ENDS) 434 else s

/-! ## Commands and boundary steps -/

/-- TASK_WAKE (R489): a delayed task whose wake boundary has come. -/
def taskWake (s : State) (n : Nat) : State :=
  match taskGet s n with
  | some t => if t.st = .delayed ∧ t.wake ≤ frameNo s then taskReady s n else s
  | none => s
def execTaskWake (task : Nat) (s : State) : Res := .next (taskWake s task)

/-- An engine by the number a submission names it with (R500). -/
def engNo : Eng → Nat
  | .cz => 1
  | .dg => 2
  | .cp => 3
  | .gz => 4
def engOf (n : Nat) : Eng := if n = 1 then .cz else if n = 2 then .dg else if n = 3 then .cp else .gz

/-- Is the job queue of an engine full (R485)? -/
def queueFull (s : State) (g : Eng) : Bool :=
  decide (max 1 (Config.queueDepth (engNo g)) ≤ tabCount s.en.jobs fun j => j.eng == g && j.phase == .waiting)

/-- TASK_UNBLOCK (R485): a blocked task whose job has its record, or whose engine has space. -/
def taskUnblock (s : State) (n : Nat) : State :=
  match taskGet s n with
  | some t =>
    let space := match t.wait with
      | some (.space e) => !queueFull s (engOf e)
      | _ => false
    if t.st == .blocked && (t.unblock || space) then taskReady s n else s
  | none => s
def execTaskUnblock (task : Nat) (s : State) : Res := .next (taskUnblock s task)

/-- TS_AFFINITY takes effect at a boundary (R516). -/
def affinityTake (s : State) : State :=
  let v := regNat s TS_AFFINITY
  csMod s fun x => { x with affinity := v }

/-- Has a cluster a pool core that idles? -/
def someIdle (s : State) (cl : Nat) : Bool :=
  (List.range 8).any fun k => bitOf (poolMask s cl) k && !coreStopped s (8 * cl + k) && (coreGet s (8 * cl + k)).task.isNone

/-- After a dispatch the clusters with an idle pool core are noted for the moves of the next boundary (R487). -/
def idleNote (s : State) : State :=
  let cs := (List.range 8).filter (someIdle s)
  csMod s fun x => { x with idle := cs, idleAt := frameNo s }

/-- A READY task moves cluster (R487): out of one without a pool core or no longer allowed; or, where it had been READY for
CLUSTER_WINDOW frames at the last dispatch and its cluster had no pool core idle then, to one that had. It keeps SINCE and
loses LAST_VALID. -/
def taskMove (s : State) (n : Nat) : State :=
  match taskGet s n with
  | some t =>
    let win := bitsOf s.cs.affinity 23 12
    let al := (List.range 8).filter fun cl => taskAllows s t cl && hasPool s cl
    if t.st ≠ .ready then s
    else if !taskAllows s t t.cluster || !hasPool s t.cluster then
      match fewest s al with
      | some c => taskMod s n fun t => { t with cluster := c, last := none }
      | none => if taskAllows s t t.cluster then s
        else taskMod s n fun t => { t with cluster := enterList s { t with last := none }, last := none }
    else if win ≠ 0 ∧ t.since + win ≤ s.cs.idleAt ∧ !s.cs.idle.contains t.cluster then
      match fewest s (al.filter s.cs.idle.contains) with
      | some c => taskMod s n fun t => { t with cluster := c, last := none }
      | none => s
    else s
  | none => s
/-- TASK_CLUSTER_MOVE (R487). -/
def execTaskClusterMove (task : Nat) (s : State) : Res := .next (taskMove s task)

/-- POOL_WRITE (R492, R510): clusters 0 and 1 ignore it. -/
def poolWrite (s : State) (cl v : Nat) : State :=
  if 2 ≤ cl ∧ cl < 8 then
    let s := regPutFld s (TC_POOL cl) 7 0 (bitsOf v 7 0)
    regPutFld s (TC_POOL cl) 15 8 (((List.range 8).filter fun k =>
      bitOf (clusterGet s cl).pool k && !bitOf v k && (coreGet s (8 * cl + k)).task.isSome).map (2 ^ ·)).sum
  else s
def execPoolWrite (cl value : Nat) (s : State) : Res := .next (poolWrite s cl value)

/-- A core gives its task back to the ready list: registers saved, the task at the tail (R485). -/
def coreSave (s : State) (c : Nat) (x : Ctx) : State :=
  match (coreGet s c).task with
  | none => s
  | some n =>
    taskReady (taskMod (coreMod s c fun k => { k with task := none }) n fun t => { t with ctx := x }) n

/-- A slice that is still running at a boundary takes the slice preemption trap, its registers saved (R555, R558): an overrun
of class 3, or of class 4 for an operator's program, found in step 1 (R29, R36, R37); its cycles are metered (R189). A paired
word of which only the first operation has run is run again whole (log 49). -/
def sliceClose (s : State) (c : Nat) : State :=
  let k := coreGet s c
  match k.task with
  | none => s
  | some n =>
    if c < 16 || frameNo s ≤ k.sliceAt || !k.lower then s
    else
      let s := pairUndo s c
      let x := coreCtx s c (coreGet s c).pc
      let s := match taskGet s n with
        | some t => meterAdd s (taskParcel s t) 5 (2 * periodNs s)
        | none => s
      let oper := (((taskGet s n).bind fun t => invGet s t.inv).map (·.oper)).getD false
      let s := overrun s (if oper then 4 else 3) c (frameNo s - 1) false
      coreMod (takeTrap (taskMod s n fun t => { t with ctx := x }) c 7 0 (coreGet s c).pc 0) c fun k => { k with closed := true }

/-- A slice that is still running at a boundary is closed, and its task requeued (R485). -/
def slicePreempt (s : State) (c : Nat) : State :=
  let s := sliceClose s c
  match (coreGet s c).task with
  | some n => if (coreGet s c).closed then taskReady (coreMod s c fun k => { k with task := none, closed := false }) n else s
  | none => s

/-- SLICE_PREEMPTION (R558). -/
def execSlicePreemption (core : Nat) (s : State) : Res := .next (slicePreempt s core)

/-- A withdrawn core's task is requeued at the same priority with LAST_VALID = 0 and its SINCE kept (R492, R493). -/
def coreYieldUp (s : State) (c : Nat) : State :=
  match (coreGet s c).task with
  | none => s
  | some n =>
    let since := ((taskGet s n).map (·.since)).getD 0
    let s := taskMod (slicePreempt s c) n fun t => { t with last := none, since := since }
    match taskGet s n with
    | some t => taskMod s n fun _ => { t with cluster := enterList s t }
    | none => s

/-- POOL_CHANGE_EFFECT (R492). -/
def poolEffect (s : State) (cl : Nat) : State :=
  if cl < 2 ∨ 8 ≤ cl then s
  else
    let new := regFld s (TC_POOL cl) 7 0
    let old := (clusterGet s cl).pool
    if new = old then s
    else
      let gone := (List.range 8).filter fun k => bitOf old k && !bitOf new k
      let s := gone.foldl (fun s k => coreYieldUp s (8 * cl + k)) s
      let s := regPutFld (clusterMod s cl fun x => { x with pool := new }) (TC_POOL cl) 15 8 0
      if gone = [] then s else raise s (384 + 6 * cl + 3)

/-- Has a parcel ready tasks and no allowed cluster with a pool core (R494)? -/
def stalledNow (s : State) (p : Nat) : Bool :=
  s.cs.tasks.any fun e => e.2.st == .ready && taskParcel s e.2 == p &&
    !((List.range 8).any fun cl => taskAllows s e.2 cl && hasPool s cl)

/-- Event 436 at the boundary at which a stall begins (R494). -/
def stallCheck (s : State) : State :=
  let ps := (s.cs.invs.map fun e => e.2.parcel).eraseDups
  ps.foldl (fun s p =>
    if stalledNow s p && !s.cs.stalled.contains p then raise (csMod s fun x => { x with stalled := x.stalled ++ [p] }) 436
    else s) s

/-- POOL_CHANGE_EFFECT (R492): the pool in effect follows TC_POOL; a parcel left without cores stalls (R494). -/
def execPoolChangeEffect (cl : Nat) (s : State) : Res := .next (stallCheck (poolEffect s cl))

/-- Every core of a cluster, in the pool and idle, takes a task, in rising core number (R486). -/
def dispatchCluster (s : State) (cl : Nat) : State :=
  (List.range 8).foldl (fun s k =>
    let c := 8 * cl + k
    if bitOf (poolMask s cl) k && !coreStopped s c && (coreGet s c).task.isNone then
      match nextTask s c fun _ => true with
      | some n => dispatch s c n
      | none => s
    else s) s

/-- INVOCATION_BUDGET_END (R504), of the invocation of a ticket. -/
def ticketInv (s : State) (tk : Nat) : Option Nat := (tabKeys s.cs.invs fun i => i.owner == .ticket tk).head?
def execInvocationBudgetEnd (tk : Nat) (s : State) : Res :=
  .next (match ticketInv s tk with
    | some i => budgetEnd s i
    | none => s)

end Sys2Proof.Machine
end

