-- ==== Sys2Proof/Machine/Cores.lean ====
section
/-! DEFINITION. Chapter 10: fetch, traps and the course of an instruction; loads, stores and cache maintenance as
instructions reach them. -/
namespace Sys2Proof.Machine

/-! ## Traps (R554-R560) -/

/-- Cores of a cluster that have stopped. -/
def allStopped (s : State) (cl : Nat) : Bool := regFld s (TC_STATUS cl) 15 8 == 255

/-- A core stops under R559. Clusters 2 to 7 are reset for it at the next boundary (R739). A work item of the control firmware
commits whole, so that one the core was running still stands at its place in the work queue and is run again from its start
(`firmwareWork`, R560); with its last core cluster 0 or 1 takes the chip to FATAL (R560). -/
def coreStop (s : State) (c : Nat) : State :=
  let cl := coreCluster c
  let s := raise (regPutBit s (TC_STATUS cl) (8 + c % 8) true) (384 + 6 * cl + 2)
  if 2 ≤ cl then clusterMod s cl fun x => { x with resetReq := true }
  else if allStopped s cl then fatalEnter s else s

/-- The task on a core has taken an error trap: its invocation ends with PROGRAM_TRAP and its descriptor is free (R485,
R503, R506). -/
def taskTrap (s : State) (c vec : Nat) (taddr : Word) : State :=
  match (coreGet s c).task with
  | none => s
  | some n =>
    match taskGet s n with
    | none => s
    | some t =>
      let first := (invGet s t.inv).any fun i => i.ended.isNone
      let s := partCycles s (taskParcel s t)
      let s := invEnd s t.inv .programTrap (vec + 256 * c) (taddr.toNat % 2 ^ 32)
      taskFree (if first then raise (regInc s TS_TRAP_ENDS) 435 else s) n

/-- An error trap (R554, R559): counted where it is a machine check (R506); with NEST = 1 the core stops. -/
def errorTrap (s : State) (c vec det : Nat) (taddr : Word) : State :=
  let s := pairUndo s c
  let s := if vec = 5 then raise (regInc s (TC_MCHECK_COUNT (coreCluster c))) (384 + 6 * coreCluster c + 2) else s
  if (coreGet s c).nest then coreStop s c
  else taskTrap (takeTrap s c vec det (coreGet s c).pc taddr) c vec taddr

/-! ## Fetch (R523, R528, R529, R540) -/

/-- A line enters a core's L1 instruction cache of 512 lines in 4 ways (R457); a full set gives up a free choice (log 3). -/
def icachePut (s : State) (c l : Nat) (ws : List Word) : State :=
  let own := ((coreGet s c).icache.filter fun e => e.1 % 128 == l % 128).map (·.1)
  if own.length < 4 then coreMod s c fun x => { x with icache := tabSet x.icache l ws }
  else
    let r := takeFree s
    coreMod r.2 c fun x => { x with icache := tabSet (tabErase x.icache (own.getD (r.1 % 4) 0)) l ws }

/-- The word at a physical address as core `c` fetches it; none is a machine check (R641, R655). -/
def fetchPhys (s : State) (c phys : Nat) (e : Ecc) : State × Option Word :=
  let l := lineOf phys
  match tabGet (coreGet s c).icache l with
  | some ws => (s, some (ws.getD (phys % 64 / 4) 0))
  | none =>
    if !kindOk s false phys 4 then (wrongKind s, none)
    else
      let r := lineFetch s (coreCluster c) l e
      match r.2 with
      | some (.words ws) => (icachePut r.1 c l ws, some (ws.getD (phys % 64 / 4) 0))
      | _ => (r.1, none)

/-- What a fetch found: the word, or a trap's vector, DETAIL and TADDR. -/
inductive Fetched where
  | word (w : Word)
  | trap (vec det : Nat) (taddr : Word)
  deriving DecidableEq, Repr

/-- The word at word address `a` fetched; `at_` is the address that a trap reports (R529, R556). -/
def fetchWord (s : State) (c a : Nat) (at_ : Word) (e : Ecc) : State × Fetched :=
  match translate s c false a 1 .x with
  | .fault d => (s, .trap 3 d at_)
  | .ok phys _ _ enc =>
    if enc != cpCompact (coreGet s c).pc then (s, .trap 3 5 at_)
    else match fetchPhys s c phys e with
      | (s, some w) => (s, .word w)
      | (s, none) => (s, .trap 5 0 at_)

/-- The words of an instruction of `n` words or syllables at the code pointer, fetched in order until one traps. -/
def fetchAll (s : State) (c : Nat) (e : Ecc) (a : Nat) (at_ : Nat → Word) : Nat → State × Fetched
  | 0 => fetchWord s c a (at_ a) e
  | n + 1 => match fetchAll s c e a at_ n with
    | (s, .word _) => fetchWord s c (a + n + 1) (at_ (a + n + 1)) e
    | r => r

/-- The fetch of the instruction at the code pointer, `n` words or syllables long. -/
def fetchInstr (s : State) (c n : Nat) (e : Ecc) : State × Fetched :=
  let p := (coreGet s c).pc
  let a := cpAddr p
  if cpCompact p then fetchAll s c e (a / 4) (fun w => codePtr true (max a (4 * w))) ((a + n - 1) / 4 - a / 4)
  else fetchAll s c e a (fun w => codePtr false w) 0

/-! ## The course of an instruction (R530, R536, R544, R557) -/

/-- What the decode checks say of an operation: legal, illegal with a DETAIL, or illegal with a DETAIL that R564 does not
state. -/
inductive Legal where
  | ok
  | bad (detail : Nat)
  | unstated
  deriving DecidableEq, Repr

/-- Is `b` what makes an operation illegal, with DETAIL `d`? -/
def badIf (b : Bool) (d : Nat) : Legal := if b then .bad d else .ok

/-- The code pointer moves on; the first operation of a paired word leaves it (R530, R532). -/
def advance (s : State) (c : Nat) (x : Pfx) : State :=
  let p := nextPc s c x.enc
  coreMod s c fun k => { k with pc := p, pair := if x.enc = .short false then k.pair else none }

/-- The registers before the first operation of a paired word are kept (R536). -/
def pairKeep (s : State) (c : Nat) (x : Pfx) : State :=
  if x.enc = .short false then coreMod s c fun k => { k with pair := some (k.w, k.fl) } else s

/-- Cores of clusters 0 and 1 have run in this frame when they execute (R509). -/
def ranMark (s : State) (c : Nat) : State := if c < 16 then coreMod s c fun k => { k with ran := true } else s

/-- The fetch of an operation; the second of a paired word was fetched with the first (R532). -/
def atFetch (s : State) (c : Nat) (x : Pfx) : State × Fetched :=
  if x.enc = .short true then (s, .word 0) else fetchInstr (ranMark s c) c (encLen x.enc) x.fetch

/-- An instruction on a core: nothing where the core cannot execute it; else fetch, the decode checks, its predicate and
its effect, in the order of R557, which puts every illegal-instruction check before the predicate (DEDUCED, log 47). The
command names the instruction fetched (log 46). -/
def instr (s : State) (c : Nat) (x : Pfx) (lg : Legal) (eff : State → State) : State :=
  if !coreRuns s c || !encFits s c x then s
  else
    match atFetch s c x with
    | (s, .trap v d a) => errorTrap s c v d a
    | (s, .word _) => match lg with
      | .bad d => errorTrap s c 1 d (coreGet s c).pc
      | .unstated =>
        let r := takeFree s
        errorTrap r.2 c 1 (r.1 % 256) (coreGet s c).pc
      | .ok =>
        if x.pred.all fun p => condHolds p (flagsOf s c) then eff (pairKeep s c x) else advance s c x

/-- L32 outside its classes (R540). -/
def noLane (x : Pfx) : Legal := badIf x.l32 3

/-- The first of several decode checks that fails. -/
def legals : List Legal → Legal
  | [] => .ok
  | .ok :: t => legals t
  | l :: _ => l

/-- An operation that writes a register and the flags. -/
def setBoth (s : State) (c : Nat) (x : Pfx) (rd : Nat) (r : Word × Flags) : State :=
  advance (flagsSet (regSet s c rd r.1) c r.2) c x

/-- An operation that writes a register alone. -/
def setReg (s : State) (c : Nat) (x : Pfx) (rd : Nat) (v : Word) : State := advance (regSet s c rd v) c x

/-- An operation that writes the flags alone. -/
def setFlags (s : State) (c : Nat) (x : Pfx) (f : Flags) : State := advance (flagsSet s c f) c x

/-- An operation that writes a pair of registers and the flags (R548). -/
def setPair (s : State) (c : Nat) (x : Pfx) (rd : Nat) (r : Word × Word × Flags) : State :=
  advance (flagsSet (regSet (regSet s c rd r.1) c (rd + 1) r.2.1) c r.2.2) c x

/-! ## Data accesses (R524-R527, R557) -/

/-- Where a data access goes: its physical address and its projection's span, or a trap's vector and DETAIL. -/
def dataTrans (s : State) (c : Nat) (oct : Bool) (a n : Nat) (need : Perm) : Except (Nat × Nat) (Nat × Nat × Nat) :=
  if oct && 1 < n && a % n != 0 then .error (4, n)
  else match translate s c oct a n need with
    | .ok p lo hi _ => .ok (p, lo, hi)
    | .fault d => .error (3, d)

/-- The base register after an access (R526). -/
def baseSet (s : State) (c ra : Nat) (b : Option Word) : State :=
  match b with
  | some v => regSet s c ra v
  | none => s

/-- The stream of an access passes its bearing detector (R475). -/
def streamTouch (s : State) (c : Nat) (oct : Bool) (ra : Nat) (m : Mode) (p lo hi : Nat) : State :=
  if modeStream m then bearingTouch s c oct ra p lo hi else s

/-- A load whose base register is a data register, in a mode that writes the base (R527). -/
def baseConflict (rd ra : Nat) (pair : Bool) (m : Mode) : Legal :=
  badIf (modeWrites m && (rd == ra || (pair && rd + 1 == ra))) 5

/-- An octet load of `n` octets; `put` writes what it read (R524). -/
def loadInto (s : State) (c : Nat) (x : Pfx) (n ra : Nat) (m : Mode) (put : State → Bytes → State) : State :=
  let a := modeAddr s c ra m
  let b := modeBase s c ra m
  match dataTrans s c true a n .r with
  | .error t => errorTrap s c t.1 t.2 (BitVec.ofNat 36 a)
  | .ok (p, lo, hi) => match loadOctets s (coreCluster c) p n x.ecc with
    | (s, some d) => advance (streamTouch (baseSet (put s d) c ra b) c true ra m p lo hi) c x
    | (s, none) => errorTrap s c 5 1 (BitVec.ofNat 36 a)

/-- A number of `n` bits read from octets, zero- or sign-extended to a word (R524). -/
def extended (signed : Bool) (d : Bytes) : Word :=
  let n := 8 * d.length
  let v := leNat d
  if signed && bitOf v (n - 1) then BitVec.ofNat 36 (v + (2 ^ 36 - 2 ^ n)) else BitVec.ofNat 36 v

/-- LDO8, LDO16 and LDO32 (R524). -/
def loadOct (s : State) (c : Nat) (x : Pfx) (n : Nat) (signed : Bool) (rd ra : Nat) (m : Mode) : State :=
  instr s c x (legals [noLane x, baseConflict rd ra false m]) fun s =>
    loadInto s c x n ra m fun s d => regSet s c rd (extended signed d)

/-- An octet store (R524). -/
def storeOct (s : State) (c : Nat) (x : Pfx) (d : Bytes) (ra : Nat) (m : Mode) : State :=
  let a := modeAddr s c ra m
  let b := modeBase s c ra m
  match dataTrans s c true a d.length .w with
  | .error t => errorTrap s c t.1 t.2 (BitVec.ofNat 36 a)
  | .ok (p, lo, hi) => match storeOctets s (coreCluster c) p d x.ecc with
    | (s, true) => advance (streamTouch (baseSet s c ra b) c true ra m p lo hi) c x
    | (s, false) => errorTrap s c 5 1 (BitVec.ofNat 36 a)

/-- STO8, STO16 and STO32 (R524). -/
def storeLow (s : State) (c : Nat) (x : Pfx) (n rd ra : Nat) (m : Mode) : State :=
  instr s c x (noLane x) fun s => storeOct s c x (leBytes n (reg s c rd).toNat) ra m

/-! ## Cache maintenance (R469-R474) -/

/-- Units of a space in a line. -/
def lineUnits (oct : Bool) : Nat := if oct then 64 else 16

/-- An operation by address on the line that holds it, checked for a permission. -/
def cacheAddr (s : State) (c : Nat) (x : Pfx) (oct : Bool) (ra : Nat) (need : Perm) (eff : State → Nat → State) : State :=
  instr s c x (noLane x) fun s =>
    let a := (reg s c ra).toNat
    match dataTrans s c oct a 1 need with
    | .error t => errorTrap s c t.1 t.2 (BitVec.ofNat 36 a)
    | .ok (p, _, _) => eff s p

/-- As cacheAddr, for an operation on the cluster's data caches that completes at once; scratchpad is not cached (R482). -/
def cacheLine (s : State) (c : Nat) (x : Pfx) (oct : Bool) (ra : Nat) (need : Perm) (eff : State → Nat → State) : State :=
  cacheAddr s c x oct ra need fun s p => advance (if isScratch p then s else eff s (lineOf p)) c x

/-- A range operation (R471): every line from the start on, as far as the start's projection reaches; the registers advance
with it and name the line that lies outside (DETAIL 3, log 45). -/
def cacheRange (s : State) (c : Nat) (x : Pfx) (oct : Bool) (ra rb : Nat) (need : Perm) (eff : State → Nat → State) :
    State :=
  instr s c x (noLane x) fun s =>
    let a := (reg s c ra).toNat
    let n := (reg s c rb).toNat
    match dataTrans s c oct a 1 need with
    | .error t => errorTrap s c t.1 t.2 (BitVec.ofNat 36 a)
    | .ok (p, _, hi) =>
      let k := min n (lineOf hi + 1 - lineOf p)
      let s := if isScratch p then s else (linesBetween s (coreCluster c) (lineOf p) k).foldl eff s
      let s := regSet s c ra (BitVec.ofNat 36 (a + k * lineUnits oct))
      let s := regSet s c rb (BitVec.ofNat 36 (n - k))
      if k < n then errorTrap s c 3 3 (BitVec.ofNat 36 (a + k * lineUnits oct)) else advance s c x

/-- ZERO needs its line's kind to be that of the space (R641). -/
def cacheZero (s : State) (c : Nat) (x : Pfx) (oct : Bool) (ra : Nat) : State :=
  cacheAddr s c x oct ra .w fun s p =>
    if isScratch p then advance s c x
    else if !kindOk s oct p 1 then errorTrap (wrongKind s) c 5 1 (reg s c ra)
    else advance (lineOp s (coreCluster c) (lineOf p) .zero) c x

/-- LOCK writes its result code (R474); that of a scratchpad address is a free value, for scratchpad has no lines to lock
(R482; log 3). -/
def cacheLock (s : State) (c : Nat) (x : Pfx) (oct : Bool) (rd ra : Nat) : State :=
  cacheAddr s c x oct ra .r fun s p =>
    if isScratch p then
      let r := takeFree s
      setReg r.2 c x rd (BitVec.ofNat 36 r.1)
    else if !kindOk s oct p 1 then errorTrap (wrongKind s) c 5 1 (reg s c ra)
    else
      let own := ((coreGet s c).task.bind (taskGet s)).map (taskParcel s)
      match lineLock s (coreCluster c) (lineOf p) own x.ecc with
      | (s, some k) => setReg s c x rd (BitVec.ofNat 36 k)
      | (s, none) => errorTrap s c 5 1 (reg s c ra)

/-! ## System registers (R562-R564) -/

/-- The value MFSR reads, where the number is listed but for CYCLES. -/
def sysRead (s : State) (c n : Nat) : Option Word :=
  let x := coreGet s c
  match n with
  | 0 => some (BitVec.ofNat 36 c)
  | 1 => some (BitVec.ofNat 36 (2 * b2n x.nest + b2n x.prev))
  | 2 => some x.tepc
  | 3 => some x.tflags
  | 4 => some x.tcause
  | 5 => some x.taddr
  | 6 => some x.tvbase
  | _ => if 0x100 ≤ n ∧ n < 0x200 then some (tabGetD x.proj (n - 0x100) 0) else none

/-- The low bits of TVBASE read 0 (R562). -/
def tvbaseOf (v : Word) : Word :=
  let k := if cpCompact v then 1024 else 256
  codePtr (cpCompact v) (cpAddr v / k * k)

/-- A projection word with the bits that R463 gives no field as 0. -/
def projWordOf (k : Nat) (v : Word) : Word :=
  match k with
  | 0 => BitVec.ofNat 36 (v.toNat / 2 ^ 29 * 2 ^ 29)
  | 3 => BitVec.ofNat 36 (v.toNat % 2 ^ 32)
  | _ => v

/-- MTSR (R562): read-only registers keep their value; the first write of a projection ends the reset projection (R740). -/
def sysWrite (s : State) (c n : Nat) (v : Word) : State :=
  coreMod s c fun x =>
    match n with
    | 1 => { x with nest := v.getLsbD 1, prev := v.getLsbD 0 }
    | 2 => { x with tepc := v }
    | 3 => { x with tflags := flagsWord (wordFlags v) }
    | 4 => { x with tcause := BitVec.ofNat 36 (v.toNat % 65536) }
    | 5 => { x with taddr := v }
    | 6 => { x with tvbase := tvbaseOf v }
    | _ => if 0x100 ≤ n then { x with proj := tabSet x.proj (n - 0x100) (projWordOf (n % 4) v), resetProj := false } else x

def sysListed (n : Nat) : Bool := n ≤ 7 || (0x100 ≤ n && n < 0x200)

/-- MFSR and MTSR are legal at the upper level, for a number that R562 lists (R553, R562). -/
def sysLegal (s : State) (c n : Nat) : Legal :=
  if (coreGet s c).lower then .bad 2 else if sysListed n then .ok else .unstated

end Sys2Proof.Machine
end

