-- ==== Sys2Proof/Machine/Alu.lean ====
section
/-! DEFINITION. Chapter 10: the Tuirus instructions that compute, move, load, store, branch and maintain the caches
(R469, R546-R551), and what an undecodable instruction does. -/
namespace Sys2Proof.Machine

/-! ## Arithmetic (R546) -/

/-- ADD (R551): rd = ra + rb. -/
def execAdd (c : Nat) (x : Pfx) (rd ra rb : Nat) (s : State) : Res := .next <| instr s c x .ok fun s =>
  setBoth s c x rd (addOp x.l32 (reg s c ra) (reg s c rb) false (flagsOf s c))

/-- ADC (R551): rd = ra + rb + C. -/
def execAdc (c : Nat) (x : Pfx) (rd ra rb : Nat) (s : State) : Res := .next <| instr s c x .ok fun s =>
  setBoth s c x rd (addOp x.l32 (reg s c ra) (reg s c rb) (flagsOf s c).c (flagsOf s c))

/-- SUB (R551): rd = ra - rb. -/
def execSub (c : Nat) (x : Pfx) (rd ra rb : Nat) (s : State) : Res := .next <| instr s c x .ok fun s =>
  setBoth s c x rd (subOp x.l32 (reg s c ra) (reg s c rb) false (flagsOf s c))

/-- SBC (R551): rd = ra - rb - (1 - C). -/
def execSbc (c : Nat) (x : Pfx) (rd ra rb : Nat) (s : State) : Res := .next <| instr s c x .ok fun s =>
  setBoth s c x rd (subOp x.l32 (reg s c ra) (reg s c rb) (!(flagsOf s c).c) (flagsOf s c))

/-- CMP (R551): the flags of ra - rb. -/
def execCmp (c : Nat) (x : Pfx) (ra rb : Nat) (s : State) : Res := .next <| instr s c x .ok fun s =>
  setFlags s c x (subOp x.l32 (reg s c ra) (reg s c rb) false (flagsOf s c)).2

/-- NEG (R551): rd = 0 - rb. -/
def execNeg (c : Nat) (x : Pfx) (rd rb : Nat) (s : State) : Res := .next <| instr s c x .ok fun s =>
  setBoth s c x rd (subOp x.l32 0 (reg s c rb) false (flagsOf s c))

/-- ADDI (R551): rd = ra + imm. -/
def execAddi (c : Nat) (x : Pfx) (rd ra : Nat) (imm : Word) (s : State) : Res := .next <| instr s c x .ok fun s =>
  setBoth s c x rd (addOp x.l32 (reg s c ra) imm false (flagsOf s c))

/-- CMPI (R551): the flags of ra - imm. -/
def execCmpi (c : Nat) (x : Pfx) (ra : Nat) (imm : Word) (s : State) : Res := .next <| instr s c x .ok fun s =>
  setFlags s c x (subOp x.l32 (reg s c ra) imm false (flagsOf s c)).2

/-- ADDQ (R534): rd = rd + k. -/
def execAddq (c : Nat) (x : Pfx) (rd k : Nat) (s : State) : Res := .next <| instr s c x (noLane x) fun s =>
  setBoth s c x rd (addOp x.l32 (reg s c rd) (BitVec.ofNat 36 k) false (flagsOf s c))

/-- SUBQ (R534): rd = rd - k. -/
def execSubq (c : Nat) (x : Pfx) (rd k : Nat) (s : State) : Res := .next <| instr s c x (noLane x) fun s =>
  setBoth s c x rd (subOp x.l32 (reg s c rd) (BitVec.ofNat 36 k) false (flagsOf s c))

/-- CMPQ (R534): the flags of rd - k. -/
def execCmpq (c : Nat) (x : Pfx) (rd k : Nat) (s : State) : Res := .next <| instr s c x (noLane x) fun s =>
  setFlags s c x (subOp x.l32 (reg s c rd) (BitVec.ofNat 36 k) false (flagsOf s c)).2

/-! ## Logic (R546) -/

/-- AND (R551): rd = ra AND rb. -/
def execAnd (c : Nat) (x : Pfx) (rd ra rb : Nat) (s : State) : Res := .next <| instr s c x .ok fun s =>
  setBoth s c x rd (logicOp x.l32 ((reg s c ra) &&& (reg s c rb)) (flagsOf s c))

/-- OR (R551): rd = ra OR rb. -/
def execOr (c : Nat) (x : Pfx) (rd ra rb : Nat) (s : State) : Res := .next <| instr s c x .ok fun s =>
  setBoth s c x rd (logicOp x.l32 ((reg s c ra) ||| (reg s c rb)) (flagsOf s c))

/-- XOR (R551): rd = ra XOR rb. -/
def execXor (c : Nat) (x : Pfx) (rd ra rb : Nat) (s : State) : Res := .next <| instr s c x .ok fun s =>
  setBoth s c x rd (logicOp x.l32 ((reg s c ra) ^^^ (reg s c rb)) (flagsOf s c))

/-- ANDN (R551): rd = ra AND NOT rb. -/
def execAndn (c : Nat) (x : Pfx) (rd ra rb : Nat) (s : State) : Res := .next <| instr s c x .ok fun s =>
  setBoth s c x rd (logicOp x.l32 ((reg s c ra) &&& ~~~(reg s c rb)) (flagsOf s c))

/-- TST (R551): the flags of ra AND rb. -/
def execTst (c : Nat) (x : Pfx) (ra rb : Nat) (s : State) : Res := .next <| instr s c x .ok fun s =>
  setFlags s c x (logicOp x.l32 ((reg s c ra) &&& (reg s c rb)) (flagsOf s c)).2

/-- NOT (R551): rd = NOT rb. -/
def execNot (c : Nat) (x : Pfx) (rd rb : Nat) (s : State) : Res := .next <| instr s c x .ok fun s =>
  setBoth s c x rd (logicOp x.l32 (~~~(reg s c rb)) (flagsOf s c))

/-- ANDI (R551): rd = ra AND imm, zero-extended. -/
def execAndi (c : Nat) (x : Pfx) (rd ra : Nat) (imm : Word) (s : State) : Res := .next <| instr s c x .ok fun s =>
  setBoth s c x rd (logicOp x.l32 ((reg s c ra) &&& imm) (flagsOf s c))

/-- ORI (R551): rd = ra OR imm, zero-extended. -/
def execOri (c : Nat) (x : Pfx) (rd ra : Nat) (imm : Word) (s : State) : Res := .next <| instr s c x .ok fun s =>
  setBoth s c x rd (logicOp x.l32 ((reg s c ra) ||| imm) (flagsOf s c))

/-- XORI (R551): rd = ra XOR imm, zero-extended. -/
def execXori (c : Nat) (x : Pfx) (rd ra : Nat) (imm : Word) (s : State) : Res := .next <| instr s c x .ok fun s =>
  setBoth s c x rd (logicOp x.l32 ((reg s c ra) ^^^ imm) (flagsOf s c))

/-- CLZ (R551): leading zeros of ra, of 32 bits under L32. -/
def execClz (c : Nat) (x : Pfx) (rd ra : Nat) (s : State) : Res := .next <| instr s c x .ok fun s =>
  setBoth s c x rd (logicOp x.l32 (BitVec.ofNat 36 (clzGo (opSrc x.l32 (reg s c ra)) (opWidth x.l32))) (flagsOf s c))

/-- POPC (R551): bits set in ra. -/
def execPopc (c : Nat) (x : Pfx) (rd ra : Nat) (s : State) : Res := .next <| instr s c x .ok fun s =>
  setBoth s c x rd (logicOp x.l32 (BitVec.ofNat 36 (popGo (opSrc x.l32 (reg s c ra)) (opWidth x.l32))) (flagsOf s c))

/-- A position and width out of range (R549). -/
def fieldLegal (p n : Nat) : Legal := badIf (n == 0 || decide (36 < p + n)) 7

/-- EXT (R549). -/
def execExt (c : Nat) (x : Pfx) (rd ra p n : Nat) (s : State) : Res := .next <| instr s c x (fieldLegal p n) fun s =>
  setBoth s c x rd (extOp false x.l32 (reg s c ra) p n (flagsOf s c))

/-- EXTS (R549). -/
def execExts (c : Nat) (x : Pfx) (rd ra p n : Nat) (s : State) : Res := .next <| instr s c x (fieldLegal p n) fun s =>
  setBoth s c x rd (extOp true x.l32 (reg s c ra) p n (flagsOf s c))

/-- INS (R549). -/
def execIns (c : Nat) (x : Pfx) (rd ra p n : Nat) (s : State) : Res := .next <| instr s c x (fieldLegal p n) fun s =>
  setBoth s c x rd (insOp x.l32 (reg s c rd) (reg s c ra) p n (flagsOf s c))

/-! ## Shifts (R547) -/

/-- A count from bits [5:0] of a register (R547). -/
def shiftCount (s : State) (c rb : Nat) : Nat := (reg s c rb).toNat % 64

/-- SHL (R547). -/
def execShl (c : Nat) (x : Pfx) (rd ra rb : Nat) (s : State) : Res := .next <| instr s c x .ok fun s =>
  setBoth s c x rd (shlOp x.l32 (reg s c ra) (shiftCount s c rb) (flagsOf s c))

/-- SHLI (R547). -/
def execShli (c : Nat) (x : Pfx) (rd ra k : Nat) (s : State) : Res := .next <| instr s c x .ok fun s =>
  setBoth s c x rd (shlOp x.l32 (reg s c ra) (k % 64) (flagsOf s c))

/-- SHLQ (R534, R547). -/
def execShlq (c : Nat) (x : Pfx) (rd k : Nat) (s : State) : Res := .next <| instr s c x (noLane x) fun s =>
  setBoth s c x rd (shlOp x.l32 (reg s c rd) (k % 32) (flagsOf s c))

/-- SHR (R547). -/
def execShr (c : Nat) (x : Pfx) (rd ra rb : Nat) (s : State) : Res := .next <| instr s c x .ok fun s =>
  setBoth s c x rd (shrOp x.l32 (reg s c ra) (shiftCount s c rb) (flagsOf s c))

/-- SHRI (R547). -/
def execShri (c : Nat) (x : Pfx) (rd ra k : Nat) (s : State) : Res := .next <| instr s c x .ok fun s =>
  setBoth s c x rd (shrOp x.l32 (reg s c ra) (k % 64) (flagsOf s c))

/-- SHRQ (R534, R547). -/
def execShrq (c : Nat) (x : Pfx) (rd k : Nat) (s : State) : Res := .next <| instr s c x (noLane x) fun s =>
  setBoth s c x rd (shrOp x.l32 (reg s c rd) (k % 32) (flagsOf s c))

/-- SAR (R547). -/
def execSar (c : Nat) (x : Pfx) (rd ra rb : Nat) (s : State) : Res := .next <| instr s c x .ok fun s =>
  setBoth s c x rd (sarOp x.l32 (reg s c ra) (shiftCount s c rb) (flagsOf s c))

/-- SARI (R547). -/
def execSari (c : Nat) (x : Pfx) (rd ra k : Nat) (s : State) : Res := .next <| instr s c x .ok fun s =>
  setBoth s c x rd (sarOp x.l32 (reg s c ra) (k % 64) (flagsOf s c))

/-- SARQ (R534, R547). -/
def execSarq (c : Nat) (x : Pfx) (rd k : Nat) (s : State) : Res := .next <| instr s c x (noLane x) fun s =>
  setBoth s c x rd (sarOp x.l32 (reg s c rd) (k % 32) (flagsOf s c))

/-- ROR (R547). -/
def execRor (c : Nat) (x : Pfx) (rd ra rb : Nat) (s : State) : Res := .next <| instr s c x .ok fun s =>
  setBoth s c x rd (rorOp x.l32 (reg s c ra) (shiftCount s c rb) (flagsOf s c))

/-- RORI (R547). -/
def execRori (c : Nat) (x : Pfx) (rd ra k : Nat) (s : State) : Res := .next <| instr s c x .ok fun s =>
  setBoth s c x rd (rorOp x.l32 (reg s c ra) (k % 64) (flagsOf s c))

/-! ## Multiplication and division (R548) -/

/-- The first register of a pair is even (R548). -/
def pairLegal (rd : Nat) : Legal := badIf (rd % 2 == 1) 4

/-- MULU (R548). -/
def execMulu (c : Nat) (x : Pfx) (rd ra rb : Nat) (s : State) : Res := .next <| instr s c x (pairLegal rd) fun s =>
  setPair s c x rd (mulOp false x.l32 (reg s c ra) (reg s c rb) (flagsOf s c))

/-- MULS (R548). -/
def execMuls (c : Nat) (x : Pfx) (rd ra rb : Nat) (s : State) : Res := .next <| instr s c x (pairLegal rd) fun s =>
  setPair s c x rd (mulOp true x.l32 (reg s c ra) (reg s c rb) (flagsOf s c))

/-- DIVU (R548). -/
def execDivu (c : Nat) (x : Pfx) (rd ra rb : Nat) (s : State) : Res := .next <| instr s c x (pairLegal rd) fun s =>
  setPair s c x rd (divOp false x.l32 (reg s c ra) (reg s c rb) (flagsOf s c))

/-- DIVS (R548). -/
def execDivs (c : Nat) (x : Pfx) (rd ra rb : Nat) (s : State) : Res := .next <| instr s c x (pairLegal rd) fun s =>
  setPair s c x rd (divOp true x.l32 (reg s c ra) (reg s c rb) (flagsOf s c))

/-! ## Moves, conditions, flags and system registers -/

/-- Condition Fh is illegal (R550). -/
def condLegal (cond : Nat) : Legal := badIf (cond == 15) 6

/-- MOV (R551). -/
def execMov (c : Nat) (x : Pfx) (rd rb : Nat) (s : State) : Res := .next <| instr s c x (noLane x) fun s =>
  setReg s c x rd (reg s c rb)

/-- MOVQ (R534). -/
def execMovq (c : Nat) (x : Pfx) (rd k : Nat) (s : State) : Res := .next <| instr s c x (noLane x) fun s =>
  setReg s c x rd (BitVec.ofNat 36 k)

/-- MOVI (R551). -/
def execMovi (c : Nat) (x : Pfx) (rd : Nat) (imm : Word) (s : State) : Res := .next <| instr s c x (noLane x) fun s =>
  setReg s c x rd imm

/-- MOVHI (R551): rd = imm * 2^18. -/
def execMovhi (c : Nat) (x : Pfx) (rd : Nat) (imm : Word) (s : State) : Res := .next <| instr s c x (noLane x) fun s =>
  setReg s c x rd (imm <<< 18)

/-- SEL (R551): rd = condition ? ra : rb. -/
def execSel (c : Nat) (x : Pfx) (cond rd ra rb : Nat) (s : State) : Res :=
  .next <| instr s c x (legals [noLane x, condLegal cond]) fun s =>
    setReg s c x rd (if condHolds cond (flagsOf s c) then reg s c ra else reg s c rb)

/-- MFF (R521, R551): rd = the flags. -/
def execMff (c : Nat) (x : Pfx) (rd : Nat) (s : State) : Res := .next <| instr s c x (noLane x) fun s =>
  setReg s c x rd (flagsWord (flagsOf s c))

/-- MTF (R521, R551): the flags = bits [4:0] of ra. -/
def execMtf (c : Nat) (x : Pfx) (ra : Nat) (s : State) : Res := .next <| instr s c x (noLane x) fun s =>
  setFlags s c x (wordFlags (reg s c ra))

/-- MFSR (R562): CYCLES, which counts core clocks, reads as a free value (log 3). -/
def execMfsr (c : Nat) (x : Pfx) (rd num : Nat) (s : State) : Res :=
  .next <| instr s c x (legals [noLane x, sysLegal s c num]) fun s =>
    match sysRead s c num with
    | some v => setReg s c x rd v
    | none =>
      let r := takeFree s
      setReg r.2 c x rd (BitVec.ofNat 36 r.1)

/-- MTSR (R562). -/
def execMtsr (c : Nat) (x : Pfx) (ra num : Nat) (s : State) : Res :=
  .next <| instr s c x (legals [noLane x, sysLegal s c num]) fun s => advance (sysWrite s c num (reg s c ra)) c x

/-! ## Loads and stores (R524-R527) -/

/-- LDW (R523, R526). -/
def execLdw (c : Nat) (x : Pfx) (rd ra : Nat) (m : Mode) (s : State) : Res :=
  .next <| instr s c x (legals [noLane x, baseConflict rd ra false m]) fun s =>
    let a := modeAddr s c ra m
    let b := modeBase s c ra m
    match dataTrans s c false a 1 .r with
    | .error t => errorTrap s c t.1 t.2 (BitVec.ofNat 36 a)
    | .ok (p, lo, hi) => match loadWord s (coreCluster c) p x.ecc with
      | (s, some v) => advance (streamTouch (baseSet (regSet s c rd v) c ra b) c false ra m p lo hi) c x
      | (s, none) => errorTrap s c 5 1 (BitVec.ofNat 36 a)

/-- STW (R523, R526). -/
def execStw (c : Nat) (x : Pfx) (rd ra : Nat) (m : Mode) (s : State) : Res := .next <| instr s c x (noLane x) fun s =>
  let a := modeAddr s c ra m
  let b := modeBase s c ra m
  match dataTrans s c false a 1 .w with
  | .error t => errorTrap s c t.1 t.2 (BitVec.ofNat 36 a)
  | .ok (p, lo, hi) => match storeWord s (coreCluster c) p (reg s c rd) x.ecc with
    | (s, true) => advance (streamTouch (baseSet s c ra b) c false ra m p lo hi) c x
    | (s, false) => errorTrap s c 5 1 (BitVec.ofNat 36 a)

/-- LDO8U (R524). -/
def execLdo8u (c : Nat) (x : Pfx) (rd ra : Nat) (m : Mode) (s : State) : Res := .next (loadOct s c x 1 false rd ra m)

/-- LDO8S (R524). -/
def execLdo8s (c : Nat) (x : Pfx) (rd ra : Nat) (m : Mode) (s : State) : Res := .next (loadOct s c x 1 true rd ra m)

/-- LDO16U (R524). -/
def execLdo16u (c : Nat) (x : Pfx) (rd ra : Nat) (m : Mode) (s : State) : Res := .next (loadOct s c x 2 false rd ra m)

/-- LDO16S (R524). -/
def execLdo16s (c : Nat) (x : Pfx) (rd ra : Nat) (m : Mode) (s : State) : Res := .next (loadOct s c x 2 true rd ra m)

/-- LDO32U (R524). -/
def execLdo32u (c : Nat) (x : Pfx) (rd ra : Nat) (m : Mode) (s : State) : Res := .next (loadOct s c x 4 false rd ra m)

/-- LDO32S (R524). -/
def execLdo32s (c : Nat) (x : Pfx) (rd ra : Nat) (m : Mode) (s : State) : Res := .next (loadOct s c x 4 true rd ra m)

/-- LDO64 (R524): octets 0-3 to rd, octets 4-7 to rd + 1. -/
def execLdo64 (c : Nat) (x : Pfx) (rd ra : Nat) (m : Mode) (s : State) : Res :=
  .next <| instr s c x (legals [noLane x, pairLegal rd, baseConflict rd ra true m]) fun s =>
    loadInto s c x 8 ra m fun s d => regSet (regSet s c rd (extended false (d.take 4))) c (rd + 1) (extended false (d.drop 4))

/-- STO8 (R524). -/
def execSto8 (c : Nat) (x : Pfx) (rd ra : Nat) (m : Mode) (s : State) : Res := .next (storeLow s c x 1 rd ra m)

/-- STO16 (R524). -/
def execSto16 (c : Nat) (x : Pfx) (rd ra : Nat) (m : Mode) (s : State) : Res := .next (storeLow s c x 2 rd ra m)

/-- STO32 (R524). -/
def execSto32 (c : Nat) (x : Pfx) (rd ra : Nat) (m : Mode) (s : State) : Res := .next (storeLow s c x 4 rd ra m)

/-- STO64 (R524): bits [31:0] of rd, then those of rd + 1. -/
def execSto64 (c : Nat) (x : Pfx) (rd ra : Nat) (m : Mode) (s : State) : Res :=
  .next <| instr s c x (legals [noLane x, pairLegal rd]) fun s =>
    storeOct s c x (leBytes 4 (reg s c rd).toNat ++ leBytes 4 (reg s c (rd + 1)).toNat) ra m

/-! ## Control flow (R530, R531, R561) -/

/-- The code pointer moved to. -/
def jump (s : State) (c : Nat) (p : Word) : State := coreMod s c fun k => { k with pc := p, pair := none }

/-- The present code pointer plus a displacement, in its own encoding (R530). -/
def relative (s : State) (c : Nat) (d : Int) : Word :=
  let p := (coreGet s c).pc
  codePtr (cpCompact p) (((cpAddr p : Int) + d) % 2 ^ 35).toNat

/-- B (R530, R550). -/
def execB (c : Nat) (x : Pfx) (cond : Nat) (disp : Int) (s : State) : Res :=
  .next <| instr s c x (legals [noLane x, condLegal cond]) fun s =>
    if condHolds cond (flagsOf s c) then jump s c (relative s c disp) else advance s c x

/-- CALL (R530, R531): LK takes the return pointer. -/
def execCall (c : Nat) (x : Pfx) (disp : Int) (s : State) : Res := .next <| instr s c x (noLane x) fun s =>
  jump (regSet s c lk (nextPc s c x.enc)) c (relative s c disp)

/-- JMPR (R531). -/
def execJmpr (c : Nat) (x : Pfx) (ra : Nat) (s : State) : Res := .next <| instr s c x (noLane x) fun s =>
  jump s c (reg s c ra)

/-- CALLR (R531). -/
def execCallr (c : Nat) (x : Pfx) (ra : Nat) (s : State) : Res := .next <| instr s c x (noLane x) fun s =>
  jump (regSet s c lk (nextPc s c x.enc)) c (reg s c ra)

/-- RET (R531). -/
def execRet (c : Nat) (x : Pfx) (s : State) : Res := .next <| instr s c x (noLane x) fun s => jump s c (reg s c lk)

/-- RETT's effect (R561): flags, level and code pointer from the trap registers. -/
def returnTrap (s : State) (c : Nat) : State :=
  coreMod s c fun x => { x with fl := wordFlags x.tflags, lower := x.prev, nest := false, pc := x.tepc, pair := none }

/-- RETT (R553, R561). -/
def execRett (c : Nat) (x : Pfx) (s : State) : Res :=
  .next <| instr s c x (legals [noLane x, badIf (coreGet s c).lower 2]) fun s => returnTrap s c

/-- NOP (R551). -/
def execNop (c : Nat) (x : Pfx) (s : State) : Res := .next <| instr s c x (noLane x) fun s => advance s c x

/-! ## Cache maintenance (R469-R474) -/

/-- CLEAN (R469): a dirty line is written to DRAM and stays. -/
def execClean (c : Nat) (x : Pfx) (oct : Bool) (ra : Nat) (s : State) : Res :=
  .next (cacheLine s c x oct ra .r fun s l => lineOp s (coreCluster c) l .clean)

/-- INVAL (R469): the line is dropped. -/
def execInval (c : Nat) (x : Pfx) (oct : Bool) (ra : Nat) (s : State) : Res :=
  .next (cacheLine s c x oct ra .w fun s l => lineOp s (coreCluster c) l .inval)

/-- CLEAN_INVAL (R469): the line is written back and dropped. -/
def execCleanInval (c : Nat) (x : Pfx) (oct : Bool) (ra : Nat) (s : State) : Res :=
  .next (cacheLine s c x oct ra .r fun s l => lineOp s (coreCluster c) l .cleanInval)

/-- UNLOCK (R469): the locked line is cleaned and its slot freed. -/
def execUnlock (c : Nat) (x : Pfx) (oct : Bool) (ra : Nat) (s : State) : Res :=
  .next (cacheLine s c x oct ra .r fun s l => lineOp s (coreCluster c) l .unlock)

/-- ZERO (R469): the line is filled with zeros and dirty, without a fetch. -/
def execZero (c : Nat) (x : Pfx) (oct : Bool) (ra : Nat) (s : State) : Res := .next (cacheZero s c x oct ra)

/-- LOCK (R469, R474): the line is installed in a lock way; rd takes the result code. -/
def execLock (c : Nat) (x : Pfx) (oct : Bool) (rd ra : Nat) (s : State) : Res := .next (cacheLock s c x oct rd ra)

/-- CLEAN_RANGE (R469, R471). -/
def execCleanRange (c : Nat) (x : Pfx) (oct : Bool) (ra rb : Nat) (s : State) : Res :=
  .next (cacheRange s c x oct ra rb .r fun s l => lineOp s (coreCluster c) l .clean)

/-- INVAL_RANGE (R469, R471). -/
def execInvalRange (c : Nat) (x : Pfx) (oct : Bool) (ra rb : Nat) (s : State) : Res :=
  .next (cacheRange s c x oct ra rb .w fun s l => lineOp s (coreCluster c) l .inval)

/-- CLEAN_INVAL_RANGE (R469, R471). -/
def execCleanInvalRange (c : Nat) (x : Pfx) (oct : Bool) (ra rb : Nat) (s : State) : Res :=
  .next (cacheRange s c x oct ra rb .r fun s l => lineOp s (coreCluster c) l .cleanInval)

/-- INVAL_I (R469): the line leaves this core's L1 instruction cache. -/
def execInvalI (c : Nat) (x : Pfx) (oct : Bool) (ra : Nat) (s : State) : Res :=
  .next (cacheAddr s c x oct ra .x fun s p =>
    advance (coreMod s c fun k => { k with icache := tabErase k.icache (lineOf p) }) c x)

/-- SYNC (R469): stores and cleans reach DRAM as they execute, so it completes at once. -/
def execSync (c : Nat) (x : Pfx) (s : State) : Res := .next <| instr s c x (noLane x) fun s => advance s c x

/-! ## Instructions that do not decode (R535, R537, R540, R552-R554) -/

/-- The illegal-instruction checks of a decoded instruction beyond its encoding. -/
def operandLegal (s : State) (c : Nat) : Tuirus → Legal
  | .mulu rd _ _ | .muls rd _ _ | .divu rd _ _ | .divs rd _ _ => pairLegal rd
  | .ext _ _ p n | .exts _ _ p n | .ins _ _ p n => fieldLegal p n
  | .mfsr _ n | .mtsr _ n => sysLegal s c n
  | .rett => badIf (coreGet s c).lower 2
  | .ldo64 rd ra m => legals [pairLegal rd, baseConflict rd ra true m]
  | .sto64 rd _ _ => pairLegal rd
  | .ldw rd ra m | .ldo8u rd ra m | .ldo8s rd ra m | .ldo16u rd ra m | .ldo16s rd ra m | .ldo32u rd ra m
  | .ldo32s rd ra m => baseConflict rd ra false m
  | _ => .ok

/-- The syllables from a code pointer on, in words fetched one by one, until an instruction decodes or one traps. -/
def compactAt (s : State) (c a : Nat) : Nat → List Nat → State × Fetched × CDecoded
  | 0, l => (s, .word 0, decodeCompact l)
  | n + 1, l =>
    let i := a + l.length
    match fetchWord s c (i / 4) (codePtr true i) .clean with
    | (s, .trap v d t) => (s, .trap v d t, .more)
    | (s, .word w) =>
      let l := l ++ [syllable w.toNat (i % 4)]
      match decodeCompact l with
      | .more => compactAt s c a n l
      | r => (s, .word w, r)

/-- A trap of the decoder where the word at the code pointer takes one; `lg` where it decodes. -/
def legalTrap (s : State) (c : Nat) : Legal → State
  | .ok => s
  | .bad d => errorTrap s c 1 d (coreGet s c).pc
  | .unstated =>
    let r := takeFree s
    errorTrap r.2 c 1 (r.1 % 256) (coreGet s c).pc

/-- ILLEGAL_INSTRUCTION (R535, R537, R540, R552): what stands at the code pointer is fetched and decoded, and its trap taken.
An instruction that decodes has its own command, and nothing happens here. -/
def illegal (s : State) (c : Nat) : State :=
  let k := coreGet s c
  if !coreRuns s c || k.pair.isSome then s
  else if cpCompact k.pc then
    match compactAt s c (cpAddr k.pc) 8 [] with
    | (s, .trap v d t, _) => errorTrap s c v d t
    | (s, .word _, .trap v d) => errorTrap s c v d k.pc
    | (s, .word _, .op i _) => legalTrap s c (operandLegal s c i)
    | (s, .word _, .more) => errorTrap s c 1 3 k.pc
  else
    match fetchWord s c (cpAddr k.pc) k.pc .clean with
    | (s, .trap v d t) => errorTrap s c v d t
    | (s, .word w) => match decodePaired w.toNat with
      | .trap v d => errorTrap s c v d k.pc
      | .ops [i] => legalTrap s c (operandLegal s c i)
      | .ops _ => s
def execIllegalInstruction (c : Nat) (s : State) : Res := .next (illegal s c)

end Sys2Proof.Machine
end

