-- ==== Sys2Proof/Machine/Flash.lean ====
section
/-! DEFINITION. Chapter 06: training, sequencing, suspend, decoding and retry, failing programs, blocks, dies and
channels, and the numbering of MEDIA_FORMAT (R311-R346). -/
namespace Sys2Proof.Machine

/-- STATE codes of FC_STATUS (R341). -/
def chState (s : State) (ch : Nat) : Nat := regFld s (FC_STATUS ch) 31 29
def chAbsent : Nat := 0
def chTraining : Nat := 1
def chActive : Nat := 2
def chRetraining : Nat := 3
def chRetired : Nat := 4

def chanGet (s : State) (ch : Nat) : Chan := tabGetD s.fl.chans ch {}
def chanMod (s : State) (ch : Nat) (f : Chan → Chan) : State :=
  flSet s fun x => { x with chans := tabModD x.chans ch {} f }

/-- ATTN of a channel is set, with its event (R346). -/
def chAttn (s : State) (ch : Nat) : State := raise (regPutBit s (FC_STATUS ch) 22 true) (272 + 2 * ch)

/-- Composite temperature, on the scale of `kelvin` (R782): differences of 20 °C are differences of 20. -/
def composite (s : State) : Nat := kelvin s

/-- Logical dies on a channel. -/
def chDies (s : State) (ch : Nat) : List Nat := tabKeys s.fl.dies fun x => x.ch == ch

/-! ## Moves and rebuild (R247, R273, R285) -/

/-- The stored image of a tile in a flash page. -/
def storedTile (s : State) (die page slot tile : Nat) : Option (Bool × Bytes) :=
  (flashGet s die page).bind fun p => pageTile die page p slot tile

/-- A move's image goes into the cold stripe, or waits in the move buffer for its fold's stripe (R268, R272). -/
def moveGot (s : State) (mv : Nat) (raw : Bool) (im : Bytes) : State :=
  match tabGet s.atl.moves mv with
  | none => s
  | some m =>
    let comp := ((quadNs s (m.tile / quadTiles)).map (·.compress)).getD false
    let s := atlSet s fun a => { a with moves := tabMod a.moves mv fun m => { m with image := some im, raw := raw } }
    if m.fold then s else stripeAdd s .cold none raw comp im.length m.tile true mv

/-- A move whose tile cannot be read ends; a fold goes on without it. -/
def moveLost (s : State) (mv : Nat) : State :=
  match tabGet s.atl.moves mv with
  | none => s
  | some m =>
    if m.fold then atlSet s fun a => { a with moves := tabMod a.moves mv fun m => { m with lost := true } }
    else atlSet s fun a => { a with moves := tabErase a.moves mv }

/-- A move's page has been read or rebuilt: the tile's image goes on, where the page gives one (R266). -/
def moveRead (s : State) (die page mv : Nat) : State :=
  match tabGet s.atl.moves mv with
  | none => s
  | some m => match storedTile s die page (wSlot m.word) m.tile with
    | some (raw, im) => moveGot s mv raw im
    | none => moveLost s mv

/-- A tile on a lost die is rebuilt from its stripe into the cold stream (R285), or with its sheet into the fold stream. -/
def moveRebuild (s : State) (tile : Nat) : State :=
  match moveSheet s tile with
  | some (q, sh) => foldAsk s q sh
  | none => match mapLookup s tile with
  | .flash d p k =>
    if s.atl.moves.any (fun m => m.2.tile == tile) || !rebuildable s d p then s
    else match storedTile s d p k tile with
      | none => s
      | some (raw, im) =>
        let n := s.atl.nextMove
        let m : Move := { tile := tile, word := mapWord s tile, die := d, page := p }
        moveGot (atlSet s fun a => { a with nextMove := n + 1, moves := tabSet a.moves n m }) n raw im
  | _ => s

/-- Tiles that resolve to a die. -/
def dieTiles (s : State) (d : Nat) : List Nat :=
  (s.fl.pages.filter fun e => e.1 / 2 ^ 24 == d).flatMap fun e =>
    (e.2.dir.filter fun f => fragValid s d (e.1 % 2 ^ 24) f.tile).map (·.tile)

/-- A rebuild starts (R285, R286): AT_REBUILD, event 228, each tile of the dies rebuilt into the cold stream, and the sheets whose
overlay has lost a copy folded. -/
def rebuildStart (s : State) (chan : Bool) (target : Nat) (dies : List Nat) : State :=
  let s := regPut s AT_REBUILD (2 ^ 31 + b2n chan * 2 ^ 30 + target % 1024)
  let s := regPutBit s AT_MEDIA_STATE 29 true
  let n := (dies.map fun d => (dieTiles s d).length).sum
  let s := raise (atlSet s fun a =>
    { a with dieLost := a.dieLost || !chan, rebuild := some (chan, target), rebuildTiles := n }) 228
  let s := dies.foldl (fun s d => (dieTiles s d).foldl moveRebuild s) (capacityUpdate (spareUpdate s))
  s.atl.overlays.foldl (fun s o => if dies.contains o.2.primDie || dies.contains o.2.mirDie then foldAsk s o.2.quad o.2.sheet else s) s

/-- Dies a rebuild is for. -/
def rebuildDies (s : State) : List Nat :=
  match s.atl.rebuild with
  | none => []
  | some (true, ch) => chDies s ch
  | some (false, d) => [d]

/-- REBUILD_END (R285): when no tile resolves to a lost die any more. Until then PERCENT is the share of the tiles found at the start
that have moved. DESIGN CHOICE, log 71: R307 gives it no measure. -/
def rebuildEnd (s : State) : State :=
  if s.atl.rebuild.isSome && (rebuildDies s).all (fun d => (dieTiles s d).all fun t =>
      !rebuildable s d (match mapLookup s t with
        | .flash _ p _ => p
        | _ => 0)) then
    let s := regPutFld (regPutBit s AT_REBUILD 31 false) AT_REBUILD 29 23 100
    raise (regPutBit (atlSet s fun a => { a with rebuild := none }) AT_MEDIA_STATE 29 false) 229
  else if s.atl.rebuild.isSome && s.atl.rebuildTiles != 0 then
    let left := ((rebuildDies s).map fun d => (dieTiles s d).length).sum
    regPutFld s AT_REBUILD 29 23 (100 * (s.atl.rebuildTiles - left) / s.atl.rebuildTiles)
  else s

/-! ## Delivery of reads -/

/-- A ticket's read takes its answer, with what its transforms work on (R163), and the command goes on. -/
def readAnswer (s : State) (tk idx : Nat) (c : Option Bytes) (stored : Option (Bool × Nat)) : State :=
  let s := tkMod s tk fun t => { t with reads := t.reads.map fun r =>
    if r.idx == idx then { r with got := c, bad := c.isNone, stored := stored } else r }
  nvmRun s tk

/-- Is the answer of a read op stale (R198)? -/
def readStale (s : State) (tk edition : Nat) : Bool :=
  let t := tkGet s tk
  !t.busy || t.edition != edition ||
    (match t.parcel with
      | some p => (parGet s p).edition != t.pEdition
      | none => false)

/-- A stale flash completion is discarded with its granule (R45, R198). -/
def readDiscard (s : State) (tk edition : Nat) : State :=
  let t := tkGet s tk
  msgDiscard s { ticket := tk, tkEdition := edition, parcel := t.parcel.getD 0, pEdition := t.pEdition, granules := 1 }

/-- The valid tiles of a page are moved to the cold stream (R273, R335). -/
def pageMove (s : State) (d page : Nat) : State :=
  match flashGet s d page with
  | none => s
  | some p => ((p.dir.filter fun f => fragValid s d page f.tile).map (·.tile)).foldl
      (fun s t => if p.bad then moveRebuild s t else moveStart s t) s

/-- A page found uncorrectable: it and its block are marked (R273). -/
def pageBad (s : State) (d page : Nat) : State :=
  let s := flSet s fun f => { f with pages := tabMod f.pages (pageKey d page) fun p => { p with bad := true } }
  blkMod s d (page / ppb s) fun b => { b with uncorr := b.uncorr + 1 }

/-- A tile-format decompression that fails (R378) is counted and taken as an uncorrectable page (R273). Its rebuilding gives the
image that was stored, which fails as well, so that the read that asked for it ends with an error. -/
def tileFailed (s : State) (d page : Nat) (im : Bytes) : State :=
  let s := raise (regInc s CZ_CHECK_FAIL) 336
  let s := if (tileInflate im).1 = esData then regInc s CZ_DATA_INVALID else s
  let s := pageBad (if rebuildable s d page then regInc s AT_REBUILT_PAGES else s) d page
  pageMove s d page

/-- The data of a tile read that decoded (R266, R189): checked by tag or directory, then given to its ticket; a stale
one is discarded (R198). -/
def readDeliver (s : State) (die tk edition idx page slot : Nat) : State :=
  let t := tkGet s tk
  let p := t.parcel.getD 0
  if readStale s tk edition then readDiscard s tk edition
  else
    match t.reads.find? (·.idx == idx) with
    | none => s
    | some r =>
      let n := (quadNs s r.quad).getD { nsze := 0, lbads := 12 }
      let s := meterAdd s p 3 (storedLen s die page slot r.tile)
      match storedTile s die page slot r.tile with
      | none => readAnswer (tileLost s) tk idx none none
      | some (raw, im) => match tileDecode s n r.tile raw im with
        | some c => readAnswer s tk idx (some c) (some (raw, im.length))
        | none =>
          let im := (tileDecrypt s n r.tile im).getD []
          readAnswer (if n.compress && !raw then tileFailed s die page im else s) tk idx none none

/-- A read that the die cannot give is served by rebuilding its page from the stripe, or fails (R273, R274, R287). -/
def readRebuilt (s : State) (die : Nat) (o : FOp) : State :=
  match o with
  | .read tk edition idx page slot =>
    if rebuildable s die page then readDeliver (regInc s AT_REBUILT_PAGES) die tk edition idx page slot
    else if readStale s tk edition then readDiscard s tk edition
    else readAnswer (tileLost s) tk idx none none
  | .move mv page => if rebuildable s die page then moveRead (regInc s AT_REBUILT_PAGES) die page mv else moveLost s mv
  | _ => s

/-! ## Failing programs (R282) -/

/-- The fold stream's group closes: the members it did not program, still erased, go back to the free pool (R271). -/
def foldClose (s : State) (g : Nat) : State :=
  let ms := ((tabGet s.atl.groups g).map (·.members)).getD []
  let need := s.atl.foldNeed
  let idle := needOf ms ((List.range ms.length).filter fun i => !need.contains i)
  let s := atlSet (groupClose s g) fun a => { a with
    foldGroup := none, foldNeed := [], groups := tabMod a.groups g fun x => { x with members := needOf ms need } }
  degradedUpdate (idle.foldl (fun s m =>
    dieMod (blkMod s m.1 m.2 fun b => { b with role := .free, group := none }) m.1 fun x => { x with freed := x.freed ++ [m.2] }) s)

/-- A fold that loses its stripe or a member starts over in a new group: a base is one block, so no stripe of it can go
elsewhere (R250, R282; log 72). -/
def foldRestart (s : State) : State :=
  match s.atl.foldGroup with
  | none => s
  | some g =>
    let open_ := s.atl.folds.filter fun f => !f.done
    let s := foldClose s g
    atlSet s fun a => { a with
      foldWait := open_.map (fun f => (f.quad, f.sheet)) ++ a.foldWait, folds := a.folds.filter (·.done)
      stripes := tabFilter a.stripes fun _ x => x.stream != .fold, moves := tabFilter a.moves fun _ m => !m.fold }

/-- A stripe's program failed: the stripe is abandoned with no word changed, its group closed, its tiles put into a
fresh stripe. -/
def progFail (s : State) (k : Nat) : State :=
  match tabGet s.atl.stripes k with
  | none => s
  | some st =>
    if st.stream = .fold then foldRestart s
    else
    let n := s.atl.nextStripe
    let s := match st.group with
      | some g => groupClose s g
      | none => s
    let fresh : Stripe := { st with issued := false, group := none, mem := [], need := [], okM := [] }
    stripeIssue (atlSet s fun a => { a with nextStripe := n + 1, stripes := tabSet (tabErase a.stripes k) n fresh }) n

/-- A die's present operation has ended: the next plane of a multi-plane operation reports in its turn, or the die is idle
(R329). -/
def runNext (x : Die) : Die :=
  match x.more with
  | o :: t => { x with run := some o, more := t }
  | [] => { x with run := none, suspCount := 0 }

/-- FLASH_PROGRAM_DONE (R338, R269, R282). -/
def programDone (s : State) (d : Nat) (ok : Bool) : State :=
  match (dieGet s d).bind (·.run) with
  | some (.prog k m page) =>
    let s := dieMod s d runNext
    match tabGet s.atl.stripes k with
    | none => s
    | some st =>
      if ok then
        let pg := ((stripePages s st (st.group.getD (st.overlay.getD 0)) st.mem).getD m (d, page,
          { kind := 1, group := 0, seq := 0, dir := [], data := [] })).2.2
        atlSet (flashPut s d page pg) fun a => { a with
          stripes := tabMod a.stripes k fun x => { x with okM := x.okM ++ [m] } }
      else progFail (blkMod s d (page / ppb s) fun b => { b with marked := true }) k
  | _ => s
def execFlashProgramDone (die : Nat) (ok : Bool) (s : State) : Res := .next (programDone s die ok)

/-- FLASH_ERASE_DONE (R338, R283): the block is free again, or retired at once. -/
def eraseDone (s : State) (d : Nat) (ok : Bool) : State :=
  match (dieGet s d).bind (·.run) with
  | some (.erase b) =>
    let s := dieMod s d runNext
    if ok then
      let s := flashErase s d b
      let s := blkMod s d b fun x => { x with role := .free, erases := x.erases + 1, group := none, released := false, uncorr := 0 }
      dieMod s d fun x => { x with freed := x.freed ++ [b] }
    else retireBlock (flashErase s d b) d b
  | _ => s
def execFlashEraseDone (die : Nat) (ok : Bool) (s : State) : Res := .next (eraseDone s die ok)

/-! ## Die and channel loss (R321, R336, R337) -/

/-- Open groups with a member on a die that has gone close where they stand, and a fold among them starts over. -/
def dieGroupsClose (s : State) (d : Nat) : State :=
  let on := fun (g : Group) => g.closed.isNone && g.members.any fun m => m.1 == d
  let s := match s.atl.foldGroup.bind (tabGet s.atl.groups) with
    | some g => if on g then foldRestart s else s
    | none => s
  (tabKeys s.atl.groups on).foldl groupClose s

/-- The operations of a die that has gone: reads served by rebuild, programs failed, erases dropped (R321, R337). -/
def dieDrain (s : State) (d : Nat) : State :=
  match dieGet s d with
  | none => s
  | some x =>
    let all := x.run.toList ++ x.more ++ x.susp.toList ++ x.suspMore ++ x.readQ ++ x.moveQ ++ x.progQ
    let s := dieMod s d fun x => { x with run := none, more := [], susp := none, suspMore := [], suspending := false, soft := false
                                          retry := 0, part := false, readQ := [], moveQ := [], progQ := [], eraseQ := [] }
    let s := dieGroupsClose s d
    all.foldl (fun s o => match o with
      | .prog k _ _ => progFail s k
      | .erase _ => s
      | o => readRebuilt s d o) s

/-- FLcc_WP_N takes a level, and FLcc_CE_N is all high or follows the operations (R318). -/
def chanPins (s : State) (ch : Nat) (wp ceHeld : Bool) : State :=
  let old := (chanGet s ch).wp
  let s := chanMod s ch fun x => { x with wp := wp, ceHeld := ceHeld }
  if old = wp then s else emit s (.pin (16 + ch) wp)

/-- A channel enters RETIRED (R320, R321): its operations are abandoned and its dies rebuilt (R286). -/
def chRetire (s : State) (ch cause : Nat) : State :=
  let s := regPutFld (regPutFld s (FC_STATUS ch) 31 29 chRetired) (FC_STATUS ch) 24 23 cause
  let s := chAttn (flSet s fun x => { x with retired := if x.retired.contains ch then x.retired else x.retired ++ [ch] }) ch
  let s := chanPins ((chDies s ch).foldl dieDrain s) ch false true
  if s.atl.fmt.isSome && !(chDies s ch).isEmpty then rebuildStart s true ch (chDies s ch) else s

/-- DIE_LOST (R336, R337): LOST, ATTN, its operations dealt with, its members rebuilt; the fourth loss of a channel
retires the channel (R320). -/
def dieLoss (s : State) (d : Nat) : State :=
  match dieGet s d with
  | none => s
  | some x =>
    if x.lost then s
    else
      let s := dieMod s d fun x => { x with lost := true }
      let s := regPutFld s (FC_DIE x.ch x.pos) 31 30 2
      let lost := regFld s (FC_STATUS x.ch) 11 6 + 1
      let s := regPutFld (regPutFld s (FC_STATUS x.ch) 11 6 lost) (FC_STATUS x.ch) 5 0 (regFld s (FC_STATUS x.ch) 5 0 - 1)
      let s := dieDrain (chAttn s x.ch) d
      let s := regPutFld s AT_GEOMETRY 9 0 (liveDies s).length
      if lost ≥ 4 then chRetire s x.ch 3 else rebuildStart s false d [d]
def execDieLost (die : Nat) (s : State) : Res := .next (dieLoss s die)

/-- DIE_TIMEOUT (R336): a Reset LUN to a die that has not reported ready. -/
def execDieTimeout (die : Nat) (s : State) : Res :=
  .next (if ((dieGet s die).map fun x => x.run.isSome).getD false then dieMod s die fun x => { x with resetting := true } else s)

/-! ## Training (R317-R320) -/

/-- CHANNEL_RETIRE that was held for a training applies when the training ends (R320). -/
def chHeldRetire (s : State) (ch : Nat) : State :=
  match (chanGet s ch).retireReq with
  | none => s
  | some c => chRetire (chanMod s ch fun x => { x with retireReq := none }) ch c

/-- CHANNEL_TRAINING_END (R320): an ACTIVE channel's FLcc_WP_N goes high (R318). -/
def trainingEnd (s : State) (ch : Nat) (r : TrainResult) : State :=
  if ch ≥ 32 ∨ chState s ch ≠ chTraining then s
  else
    let s := chanMod s ch fun x => { x with temp := composite s, retries := 0, retrainReq := false }
    if !r.answered then regPutFld s (FC_STATUS ch) 31 29 chAbsent
    else if r.ok && !r.dies.isEmpty then
      let s := chanPins (regPutFld s (FC_STATUS ch) 31 29 chActive) ch true false
      let s := regPutBit s (FC_STATUS ch) 28 r.toggle
      let s := regPutFld s (FC_STATUS ch) 27 25 (min r.rate (min 5 (regFld s (FC_CONFIG ch) 29 27)))
      let s := flSet s fun x => { x with found := tabSet x.found ch r.dies }
      let s := r.dies.foldl (fun s d =>
        if regFld s (FC_DIE ch d.1) 31 30 = 0 then regPutFld s (FC_DIE ch d.1) 31 30 1 else s) s
      chHeldRetire (regPutFld s (FC_STATUS ch) 5 0
        (r.dies.filter fun d => regFld s (FC_DIE ch d.1) 31 30 == 1).length) ch
    else chRetire s ch 2
def execChannelTrainingEnd (ch : Nat) (r : TrainResult) (s : State) : Res := .next (trainingEnd s ch r)

/-- RETRAIN_WRITE (R342). -/
def execRetrainWrite (ch : Nat) (s : State) : Res :=
  .next (if ch < 32 then chanMod s ch fun x => { x with retrainReq := true } else s)

/-- Is a retrain due (R319)? -/
def retrainDue (s : State) (ch : Nat) : Bool :=
  let c := chanGet s ch
  c.retrainReq || decide (64 ≤ c.retries) || decide (c.temp + 20 ≤ composite s) || decide (composite s + 20 ≤ c.temp)

/-- CHANNEL_RETRAIN (R319): the channel issues nothing until the retrain ends. -/
def chRetrain (s : State) (ch : Nat) : State :=
  if ch < 32 ∧ chState s ch = chActive ∧ retrainDue s ch then
    let s := regInc (regPutFld s (FC_STATUS ch) 31 29 chRetraining) (FC_RETRAIN_COUNT ch)
    chanMod s ch fun x => { x with retrainReq := false, retries := 0 }
  else s
def execChannelRetrain (ch : Nat) (s : State) : Res := .next (chRetrain s ch)

/-- CHANNEL_RETRAIN_END (R320). -/
def retrainEnd (s : State) (ch : Nat) (ok : Bool) : State :=
  if ch < 32 ∧ chState s ch = chRetraining then
    if ok then
      chHeldRetire (chanMod (regPutFld s (FC_STATUS ch) 31 29 chActive) ch fun x => { x with temp := composite s }) ch
    else chRetire s ch 2
  else s
def execChannelRetrainEnd (ch : Nat) (ok : Bool) (s : State) : Res := .next (retrainEnd s ch ok)

/-- ZQ_CALIBRATION_SHORT (R319): run on every chip enable; the frame of the last one is kept. -/
def execZqCalibrationShort (s : State) : Res := .next (flSet s fun x => { x with zqAt := frameNo s })

/-! ## Sequencing (R325-R332) -/

def profileOf (s : State) (x : Die) : Profile := tabGetD s.fl.profiles x.profile {}

/-- The next read a die is given, whether it is of MOVE_READ, and that queue's rest (R328): MOVE_READ takes each eighth, and every
second one while resurvey is urgent or a rebuild runs. -/
def nextRead (s : State) (x : Die) : Option (FOp × Bool × List FOp) :=
  let turns := s.atl.urgent || regBit s AT_REBUILD 31
  let moveFirst := !x.moveQ.isEmpty && (x.readQ.isEmpty || (x.readNo + 1) % (if turns then 2 else 8) == 0)
  if moveFirst then match x.moveQ with
    | o :: t => some (o, true, t)
    | [] => none
  else match x.readQ with
    | o :: t => some (o, false, t)
    | [] => none

/-- May the running program or erase of a die be suspended for its reads (R330, R332)? -/
def maySuspend (s : State) (x : Die) : Bool :=
  let want := !x.readQ.isEmpty || ((s.atl.urgent || regBit s AT_REBUILD 31) && !x.moveQ.isEmpty)
  let pr := profileOf s x
  let cfg := regNat s (FC_CONFIG x.ch)
  want && x.susp.isNone && !x.suspending && pr.suspend && decide (x.runSince + pr.minRun ≤ frameNo s) &&
    (match x.run with
      | some (.prog _ _ _) => bitOf cfg 31 && decide (x.suspCount < bitsOf cfg 11 8)
      | some (.erase _) => bitOf cfg 30 && decide (x.suspCount < bitsOf cfg 15 12)
      | _ => false)

/-- The plane and the page within its block of an operation (R329). -/
def opPlace (s : State) (planes : Nat) : FOp → Nat × Nat
  | .read _ _ _ page _ => (page / ppb s % planes, page % ppb s)
  | .move _ page => (page / ppb s % planes, page % ppb s)
  | .prog _ _ page => (page / ppb s % planes, page % ppb s)
  | .erase b => (b % planes, 0)

/-- The operations of a queue that go with those chosen into one multi-plane operation, and those that stay: up to 4 of one kind, to
different planes, with one page number (R329); the last number is how many more may join. -/
def planesJoin (s : State) (planes page : Nat) : List Nat → List FOp → Nat → List FOp × List FOp
  | _, [], _ => ([], [])
  | _, q, 0 => ([], q)
  | used, o :: t, n + 1 =>
    let p := opPlace s planes o
    if p.2 = page ∧ !used.contains p.1 then
      let r := planesJoin s planes page (p.1 :: used) t n
      (o :: r.1, r.2)
    else
      let r := planesJoin s planes page used t (n + 1)
      (r.1, o :: r.2)

/-- A queue without the operations that join its first one, `o`. -/
def planesOf (s : State) (x : Die) (o : FOp) (q : List FOp) : List FOp × List FOp :=
  let planes := max 1 (min 4 (profileOf s x).planes)
  let p := opPlace s planes o
  planesJoin s planes p.2 [p.1] q (planes - 1)

/-- A die starts an operation taken from a queue, with those of other planes that join it from the queue's rest `q` (R326, R329). -/
def dieGo (s : State) (d : Nat) (x : Die) (o : FOp) (q : List FOp) (put : List FOp → Die → Die) : State :=
  let r := planesOf s x o q
  let s := chanMod s x.ch fun c => { c with lastDie := some d }
  dieMod s d fun _ => { put r.2 x with run := some o, more := r.1, runSince := frameNo s, retry := 0, soft := false, part := false }

/-- One die's turn in its channel's plan (R326, R327, R331). -/
def dieIssue (s : State) (d : Nat) : State :=
  match dieGet s d with
  | none => s
  | some x =>
    if x.lost then s
    else if maySuspend s x then
      regInc (dieMod s d fun y => { y with suspending := true, suspCount := y.suspCount + 1, served := 0 })
        (FC_SUSPEND_COUNT x.ch)
    else if x.run.isSome then s
    else if x.susp.isSome && (x.readQ.isEmpty || decide (x.served ≥ max 1 (regFld s (FC_CONFIG x.ch) 3 0))) then
      dieMod s d fun y => { y with run := y.susp, more := y.suspMore, susp := none, suspMore := [], runSince := frameNo s }
    else match nextRead s x with
      | some (o, true, q) => dieGo s d { x with readNo := x.readNo + 1 } o q fun q y => { y with moveQ := q }
      | some (o, false, q) => dieGo s d { x with readNo := x.readNo + 1 } o q fun q y => { y with readQ := q }
      | none => if x.susp.isSome then s
        else match x.progQ with
          | o :: t => dieGo s d x o t fun q y => { y with progQ := q }
          | [] => match x.eraseQ with
            | o :: t => dieGo s d x o t fun q y => { y with eraseQ := q }
            | [] => s

/-- Every ACTIVE channel issues to its dies (R326): those whose issue an overrun cut go first (R36). -/
def flashIssue (s : State) : State :=
  let cut := tabKeys s.fl.dies (·.part)
  let rest := tabKeys s.fl.dies fun x => !x.part
  (cut ++ rest).foldl (fun s d => match dieGet s d with
    | some x => if chState s x.ch = chActive then dieIssue s d else s
    | none => s) s

/-- A class 2 overrun (R36): what the channel was issuing in the frame that ends, and has not issued, stays at the head of its queue. -/
def issueCut (s : State) (ch : Nat) : State :=
  match (chanGet s ch).lastDie with
  | none => s
  | some d => match dieGet s d with
    | none => s
    | some x => match x.run with
      | none => s
      | some o =>
        if x.runSince + 1 ≠ frameNo s ∨ x.retry ≠ 0 ∨ x.soft ∨ x.suspending then s
        else
          let l := o :: x.more
          dieMod s d fun y =>
            let y := { y with run := none, more := [], part := true }
            match o with
            | .read _ _ _ _ _ => { y with readQ := l ++ y.readQ }
            | .move _ _ => { y with moveQ := l ++ y.moveQ }
            | .prog _ _ _ => { y with progQ := l ++ y.progQ }
            | .erase _ => { y with eraseQ := l ++ y.eraseQ }

/-- SUSPEND_ENTERED (R331): the operation is suspended and a queued read is issued. -/
def suspendEntered (s : State) (d : Nat) : State :=
  match dieGet s d with
  | none => s
  | some x =>
    if x.suspending then
      dieIssue (dieMod s d fun x =>
        { x with suspending := false, susp := x.run, suspMore := x.more, run := none, more := [] }) d
    else s
def execSuspendEntered (die : Nat) (s : State) : Res := .next (suspendEntered s die)

/-- A count that saturates (R344). -/
def satAdd (s : State) (a n : Nat) : State := regPut s a (min (regNat s a + n) (2 ^ 32 - 1))

/-- ERR_HIGH of a channel is set, with its event (R344, R346). -/
def errHigh (s : State) (ch : Nat) : State := raise (regPutBit s (FC_STATUS ch) 21 true) (273 + 2 * ch)

/-- A codeword that needed retry: its count in the window of 1,048,576 frames (R344) and in a row (R319). -/
def retried (s : State) (ch : Nat) : State :=
  let w := frameNo s / 1048576
  let s := chanMod s ch fun c => { c with retries := c.retries + 1, window := w
                                          windowCount := if c.window = w then c.windowCount + 1 else 1 }
  let thr := regFld s (FC_ERR_THRESHOLD ch) 15 0
  if thr ≠ 0 ∧ thr < (chanGet s ch).windowCount then errHigh s ch else s

/-- A die's read has ended: it is idle, its levels at default (R333). -/
def readEnd (s : State) (d : Nat) : State :=
  dieMod s d fun x =>
    let n := if x.susp.isSome then x.served + 1 else x.served
    let y := match x.more with
      | o :: t => { x with run := some o, more := t }
      | [] => { x with run := none }
    { y with retry := 0, soft := false, served := n }

/-- The page of a read. -/
def opPage : FOp → Nat
  | .read _ _ _ page _ => page
  | .move _ page => page
  | .prog _ _ page => page
  | .erase _ => 0

/-- A codeword decoded: its data delivered, its corrected bits counted (R344), a weak page refreshed (R335). -/
def decoded (s : State) (d : Nat) (x : Die) (o : FOp) (r : DecodeResult) : State :=
  let s := satAdd (readEnd s d) (FC_CORR_BITS x.ch) r.bits
  let s := match o with
    | .read tk edition idx page slot => readDeliver s d tk edition idx page slot
    | .move mv page => moveRead s d page mv
    | _ => s
  if r.refresh then pageMove s d (opPage o) else s

/-- FLASH_READ_READY (R326, R333): data-out and hard decode; each failure goes on to the next retry entry, the last to
the soft decode. -/
def readReady (s : State) (d : Nat) (r : DecodeResult) : State :=
  match dieGet s d with
  | none => s
  | some x => match x.run with
    | some o =>
      if x.soft then s
      else match o with
        | .prog _ _ _ | .erase _ => s
        | _ =>
          if r.ok then
            let s := if x.retry = 0 then chanMod s x.ch fun c => { c with retries := 0 }
              else retried (regInc s (FC_RETRY_COUNT x.ch)) x.ch
            decoded s d x o r
          else if x.retry < (profileOf s x).retry then dieMod s d fun y => { y with retry := y.retry + 1 }
          else dieMod s d fun y => { y with soft := true }
    | none => s
def execFlashReadReady (die : Nat) (d : DecodeResult) (s : State) : Res := .next (readReady s die d)

/-- An uncorrectable codeword (R273, R344): counted, its page rebuilt from the stripe and moved; a block's second one
marks the block for retirement. -/
def uncorrectable (s : State) (d : Nat) (x : Die) (o : FOp) : State :=
  let page := opPage o
  let s := errHigh (regInc (readEnd s d) (FC_UNCORR_COUNT x.ch)) x.ch
  pageMove (readRebuilt (pageBad s d page) d o) d page

/-- SOFT_DECODE_COMPLETE (R334). -/
def softDone (s : State) (d : Nat) (r : DecodeResult) : State :=
  match dieGet s d with
  | none => s
  | some x => match x.run with
    | some o =>
      if x.soft then
        if r.ok then decoded (retried (regInc s (FC_SOFT_COUNT x.ch)) x.ch) d x o r
        else uncorrectable s d x o
      else s
    | none => s
def execSoftDecodeComplete (die : Nat) (d : DecodeResult) (s : State) : Res := .next (softDone s die d)

/-- CORR_BITS_READ (R344): the count is returned and clears. -/
def execCorrBitsRead (ch : Nat) (s : State) : Res :=
  .next (if ch < 32 then regPut (emit s (.regRead (FC_CORR_BITS ch) (regRaw s (FC_CORR_BITS ch)))) (FC_CORR_BITS ch) 0 else s)

/-! ## MEDIA_FORMAT (R289, R290, R315, R316) -/

/-- Live positions in numbering order: rising position, then channel (R316); each channel, position and profile. -/
def livePositions (s : State) : List (Nat × Nat × Nat) :=
  (List.range 32).flatMap fun pos => (List.range 32).flatMap fun ch =>
    ((tabGetD s.fl.found ch []).filter fun d => d.1 == pos && regFld s (FC_DIE ch pos) 31 30 != 2).map fun d => (ch, pos, d.2)

/-- Ceiling division. -/
def cdiv (a b : Nat) : Nat := if b = 0 then 0 else (a + b - 1) / b

/-- The flush reserve's groups (R290). -/
def reserveGroups (n p : Nat) : Nat := cdiv (1088 * 1048576) ((n - 1) * p * 16384)

/-- The media is formatted (R289): blocks 0 and 1 dump, then system, spare and reserve blocks, the rest data (log 37). None
where fewer than N dies are live or their geometry differs (R315). -/
def mediaFormat (s : State) (n spare cycles : Nat) : Option State :=
  let ps := (livePositions s).take 1016
  let prof := fun (k : Nat) => tabGetD s.fl.profiles k {}
  match ps with
  | [] => none
  | (_, _, k0) :: _ =>
    let p := (prof k0).p
    let blocks := min 8192 (ps.foldl (fun m x => min m (prof x.2.2).blocks) (prof k0).blocks)
    if ps.length < n ∨ ps.any (fun x => (prof x.2.2).p != p) then none
    else
      let sys := cdiv blocks 128 + 2
      let spares := cdiv (blocks * spare) 100
      let rg := reserveGroups n p
      let share := fun (d : Nat) => min rg ((rg * n + ps.length - 1 - d) / ps.length)
      let dies := ((List.range ps.length).zip ps).map fun x =>
        let lo := 2 + sys
        let r := share x.1
        (x.1, ({ ch := x.2.1, pos := x.2.2.1, profile := x.2.2.2, spareLo := lo, spareHi := lo + spares
                 resLo := lo + spares, resHi := lo + spares + r, freshLo := lo + spares + r, freshHi := blocks } : Die))
      let s := flSet s fun f => { f with dies := dies, pages := [] }
      let s := atlSet s fun a => { a with
        fmt := some ⟨n, p, blocks, cycles, spares, sys⟩, blks := [], groups := [], stripes := [], moves := [], wbuf := []
        dir := [], tabs := [], sheets := [], overlays := [], journal := [], journal2 := [], jprog := 0, dieLost := false, rebuild := none }
      let s := dies.foldl (fun s e => regPut s (FC_DIE e.2.ch e.2.pos) (2 ^ 30 + e.1)) s
      let s := (livePositions s |>.drop 1016).foldl (fun s x => regPut s (FC_DIE x.1 x.2.1) (3 * 2 ^ 30)) s
      let code := fun (v : Nat) (a b : Nat) => if v = a then 0 else if v = b then 1 else 2
      let s := regPut s AT_GEOMETRY (code n 8 16 * 2 ^ 30 + code p 1024 2048 * 2 ^ 28 + (blocks - 1) * 2 ^ 13 + ps.length)
      some (regPut s AT_CAPACITY_LO (capacity s))

end Sys2Proof.Machine
end

