-- ==== Sys2Proof/Machine/Fold.lean ====
section
/-! DEFINITION. Chapter 05, the fold stream: N - 1 sheets folded in lockstep, stripe by stripe, into a block group of their own
(R254, R256, R260, R271). -/
namespace Sys2Proof.Machine

def foldGet (s : State) (q sh : Nat) : Option Fold := s.atl.folds.find? fun f => f.quad == q && f.sheet == sh

/-- Overlays in use that were written before an overlay, or at the same time under a lower number (R256). -/
def writtenBefore (s : State) (o : Nat) (v : Overlay) : Nat :=
  tabCount (tabFilter s.atl.overlays fun k x => decide (x.lastWrite < v.lastWrite) || (x.lastWrite == v.lastWrite && decide (k < o)))
    fun _ => true

/-- Is the fold of a sheet due: 7/8 of its overlay programmed, overlays running low and this one among those last written longest
ago, a fold that left words behind, or its conversion to sheet form (R254-R256, R260)? -/
def foldDue (s : State) (q sh : Nat) : Bool :=
  let v := sheetGet s q sh
  let f := qForm (dirGet s q)
  let free := 4096 - s.atl.overlays.length
  (f == formToSheet && s.atl.convs.any fun c => c.quad == q && !c.toPage)
    || (f == formSheet && sOv v &&
      (match tabGet s.atl.overlays (sOverlay v) with
        | some o => decide (ppb s * 7 ≤ o.prog * 8) || decide (free + writtenBefore s (sOverlay v) o < 64) || decide (0 < o.folds)
        | none => false))

/-- The image of zeros that a tile stores RAW: encrypted where its namespace is. -/
def zeroImage (s : State) (tile : Nat) : Bytes :=
  match quadNs s (tile / quadTiles) with
  | some n => ((tileEncode s { n with compress := false } tile (zeros 4096)).map (·.2)).getD (zeros 4096)
  | none => zeros 4096

/-- A fold's copy of a tile whose image is to hand. -/
def foldHave (s : State) (tile : Nat) (w : Word) (im : Option Bytes) : State :=
  let n := s.atl.nextMove
  let m : Move := { tile := tile, word := w, die := 0, page := 0, image := im, fold := true, lost := im.isNone }
  atlSet s fun a => { a with nextMove := n + 1, moves := tabSet a.moves n m }

/-- A fold copies one tile (R254): from the overlay or the old base, through its die's MOVE_READ queue or by rebuild, or as zeros.
Of a tile in the write buffer it copies what the tile held before, at `w`. -/
def foldCopy (s : State) (tile : Nat) (w : Word) : State :=
  match wordLoc w with
  | .flash d p k =>
    if dieLive s d then
      let n := s.atl.nextMove
      let m : Move := { tile := tile, word := w, die := d, page := p, fold := true }
      queueMove (atlSet s fun a => { a with nextMove := n + 1, moves := tabSet a.moves n m }) d (.move n p)
    else if rebuildable s d p then foldHave (regInc s AT_REBUILT_PAGES) tile w ((storedTile s d p k tile).map (·.2))
    else foldHave s tile w none
  | _ => foldHave s tile w (some (zeroImage s tile))

/-- The word of its own that a tile of a sheet has, in the page table or the overlay's index. -/
def foldWord (s : State) (f : Fold) (i : Nat) : Word :=
  if f.viaPage then pageWord s f.quad (f.sheet * sheetTiles s + i)
  else if sOv f.base then overlayWord s (sOverlay f.base) i else wElse

/-- What a word in the write buffer stood for before. -/
def bufferOld (s : State) (w : Word) : Word :=
  if wDie w = 0x3FD then ((tabGet s.atl.wbuf (wBufSlot w)).map (·.old)).getD wUnmapped else w

/-- A fold reads home position `i` into the move buffer for a stripe (R250, R254): the word it copies is noted, but for one in the
write buffer, which stays (R255); the fragment goes to its home slot of the fold's page. -/
def foldTile (s : State) (f : Fold) (i : Nat) : State × Frag :=
  let tile := f.quad * quadTiles + f.sheet * sheetTiles s + i
  let w := foldWord s f i
  let note := wDie w != 0x3FC && wDie w != 0x3FD
  let s := if note then atlSet s fun a => { a with folds := a.folds.map fun x =>
      if x.quad == f.quad && x.sheet == f.sheet then { x with copied := x.copied ++ [(i, w)] } else x }
    else s
  (foldCopy s tile (bufferOld s (mapWord s tile)), ⟨f.j, 4096 * (i % 4), 4096, true, tile, true, s.atl.nextMove⟩)

/-- Home positions `4k` to `4k + 3` of each sheet of the group are read: stripe `k` of the fold (R271). -/
def foldStripe (s : State) (g k : Nat) : State :=
  let r := (s.atl.folds.filter fun f => !f.done).foldl (fun (r : State × List Frag) f =>
    [0, 1, 2, 3].foldl (fun (r : State × List Frag) j =>
      let x := foldTile r.1 f (4 * k + j)
      (x.1, r.2 ++ [x.2])) r) (s, [])
  let n := r.1.atl.nextStripe
  let st : Stripe := { stream := .fold, group := some g, k := k, frags := r.2, pages := (fmtOf s).n - 1, first := frameNo s }
  atlSet r.1 fun a => { a with nextStripe := n + 1, stripes := tabSet a.stripes n st }

/-- Has the move buffer every tile of a fold's stripe (R272)? -/
def foldReady (s : State) (st : Stripe) : Bool :=
  st.frags.all fun f => ((tabGet s.atl.moves f.src).map fun m => m.image.isSome || m.lost).getD true

/-- A tile that could not be read is left out of its stripe, so that its slot tag names no tile and a read of it fails as before
(R266, R274); the word a fold would have copied stays. -/
def foldLost (s : State) (f : Frag) : State :=
  if ((tabGet s.atl.moves f.src).map (·.lost)).getD true then
    let q := f.tile / quadTiles
    let t := f.tile % quadTiles
    atlSet s fun a => { a with
      moves := tabErase a.moves f.src
      folds := a.folds.map fun x => if x.quad == q && x.sheet == t / sheetTiles s then
          { x with copied := x.copied.filter fun c => c.1 != t % sheetTiles s } else x }
  else s

/-- The fold stream's stripe is issued once its tiles are in the move buffer and its dies have room (R269, R271, R325); with a die
of the group lost the fold starts over. -/
def foldIssue (s : State) : State :=
  match s.atl.foldGroup with
  | none => s
  | some g =>
    let all := ((tabGet s.atl.groups g).map (·.members)).getD []
    let need := s.atl.foldNeed
    match s.atl.stripes.find? fun e => e.2.stream == .fold && !e.2.issued with
    | none => s
    | some (k, st) =>
      if !(needOf all need).all fun m => dieLive s m.1 then foldRestart s
      else if !foldReady s st || !progRoom s (needOf all need) then s
      else
        let fs := st.frags.filter fun f => !((tabGet s.atl.moves f.src).map (·.lost)).getD true
        stripeSend (st.frags.foldl foldLost s) k { st with frags := fs } all need

/-- The fold stream opens a group for the sheets that wait, N - 1 at most (R271): data member `j` is the new base of sheet `j`; the
members that no sheet takes stay erased. -/
def foldOpen (s : State) : State :=
  let n := (fmtOf s).n
  let all := s.atl.foldWait.filter fun x => qForm (dirGet s x.1) == formSheet || qForm (dirGet s x.1) == formToSheet
  let ws := all.take (n - 1)
  if s.atl.foldGroup.isSome ∨ ws.isEmpty then s
  else match pickMembers s [] n with
    | none => s
    | some (ms, s) =>
      let r := groupNew s .fold ms
      let s := r.2
      let fs := ((List.range ws.length).zip ws).map fun x =>
        let m := ms.getD (pageMember r.1 n x.1) (0, 0)
        ({ quad := x.2.1, sheet := x.2.2, die := m.1, block := m.2, j := x.1, base := sheetGet s x.2.1 x.2.2
           viaPage := qForm (dirGet s x.2.1) == formToSheet } : Fold)
      let need := parityMember r.1 n :: (List.range ws.length).map (pageMember r.1 n)
      foldStripe (atlSet s fun a => { a with
        foldWait := all.drop ws.length, foldGroup := some r.1, foldNeed := need, folds := a.folds ++ fs }) r.1 0

/-- Stripe `k` of the fold stream is programmed: the next one is read, or every sheet of the group is folded and the group closes
(R271). -/
def foldNext (s : State) (k : Nat) : State :=
  match s.atl.foldGroup with
  | none => s
  | some g =>
    let s := atlSet s fun a => { a with groups := tabMod a.groups g fun x => { x with next := k + 1 } }
    if k + 1 < ppb s ∧ s.atl.folds.any fun f => !f.done then foldStripe s g (k + 1)
    else foldOpen (foldClose (atlSet s fun a => { a with folds := a.folds.map fun f => { f with done := true } }) g)

/-- SHEET_FOLD_START (R254, R256): the sheet is folded, with any others that wait. -/
def execSheetFoldStart (quad sheet : Nat) (s : State) : Res :=
  .next (if foldDue s quad sheet then foldOpen (foldAsk s quad sheet) else s)

end Sys2Proof.Machine
end

