-- ==== Sys2Proof/Machine/Atlas.lean ====
section
/-! DEFINITION. Chapter 05, the Atlas's commands: stripes, erases, folds, conversions, resurvey, wear, SEALED, budgets and
the rebuilding of map lines (R246-R309, R655). -/
namespace Sys2Proof.Machine

/-! ## Stripes (R246, R269, R270) -/

/-- Is some write-buffer tile of a stripe of a kind? -/
def stripeHas (s : State) (st : Stripe) (p : WEnt → Bool) : Bool :=
  st.frags.any fun f => !f.move && ((tabGet s.atl.wbuf f.src).map p).getD false

/-- Does the occupancy exceed the budget while hold-up is armed (R130, R270)? -/
def overBudget (s : State) : Bool := armed s && decide (budgetUnits s < occupancy s)

/-- Must a stripe be programmed before it is full (R270)? -/
def padDue (s : State) (st : Stripe) : Bool :=
  !st.issued && !st.frags.isEmpty && st.stream != .fold &&
    (decide (st.first + 200 ≤ frameNo s)
      || (st.stream != .cold && (overBudget s || stripeHas s st (·.flush))))

/-- The Atlas's own order of the stripes that wait for their dies: what a waiting Flush covers (R135) and, over the budget,
acknowledged data (R130); then, while resurvey is urgent, moved data (R277); then host data; then moved data. -/
def stripeRank (s : State) (st : Stripe) : Nat :=
  if stripeHas s st (·.flush) || (overBudget s && stripeHas s st (·.ack)) then 0
  else if st.stream == .cold then (if s.atl.urgent then 1 else 3) else 2

/-- Stripes that are full or due are offered to their dies, in the Atlas's order (R325). -/
def stripesIssue (s : State) : State :=
  [0, 1, 2, 3].foldl (fun s r =>
    ((tabKeys s.atl.stripes fun st => !st.issued && (stripeFull s st || padDue s st) && stripeRank s st == r)).foldl stripeIssue s) s

/-- STRIPE_PAD_TIMEOUT (R270). -/
def stripePad (s : State) (k : Nat) : State :=
  match tabGet s.atl.stripes k with
  | none => s
  | some st => if padDue s st then stripeIssue s k else s
def execStripePadTimeout (stripe : Nat) (s : State) : Res := .next (stripePad s stripe)

/-- One fragment of a programmed stripe: its tile's word takes the flash address, if it still says what it said (R246,
R247); the word of a tile found uncorrectable stays (R656). -/
def fragDone (s : State) (st : Stripe) (f : Frag) : State :=
  let ms := st.mem
  let m := if st.overlay.isSome then ms.getD 0 (0, 0) else ms.getD (pageMember (st.group.getD 0) ms.length f.page) (0, 0)
  let w := flashWord m.1 (m.2 * ppb s + st.k) (f.off / 4096)
  if f.move then
    match tabGet s.atl.moves f.src with
    | none => s
    | some mv =>
      let s := atlSet s fun a => { a with moves := tabErase a.moves f.src }
      if mv.fold then s
      else if mapWord s mv.tile = mv.word ∧ canPut s mv.tile ∧ moveSheet s mv.tile = none then tilePut s mv.tile w
      else regInc s AT_RELOC_STALE
  else match tabGet s.atl.wbuf f.src with
    | none => s
    | some e =>
      if e.poison then s else
      let s := if e.tile = f.tile ∧ mapWord s e.tile = wBuffer f.src then
          meterAdd (tilePut s e.tile w) e.parcel 4 (if f.raw then 4096 else f.len)
        else s
      wbufDrop s f.src

/-- Has every page of a stripe reported success (R269)? -/
def stripeOk (st : Stripe) : Bool := st.issued && !st.need.isEmpty && st.need.all (st.okM.contains ·)

/-- An overlay counts the pages programmed in both blocks (R254). -/
def overlayCount (s : State) (st : Stripe) : State :=
  match st.overlay with
  | some o => atlSet s fun a => { a with overlays := tabMod a.overlays o fun v => { v with prog := v.prog + 1 } }
  | none => s

/-- STRIPE_PROGRAM_COMPLETE (R246): every word of the stripe changes and its buffer space is released in one step. -/
def stripeDone (s : State) (k : Nat) : State :=
  match tabGet s.atl.stripes k with
  | none => s
  | some st =>
    if stripeOk st then
      let s := st.frags.foldl (fun s f => fragDone s st f) (overlayCount s st)
      let s := atlSet s fun a => { a with stripes := tabErase a.stripes k }
      if st.stream = .fold then foldNext s st.k else s
    else s
def execStripeProgramComplete (stripe : Nat) (s : State) : Res := .next (stripeDone s stripe)

/-- BLOCK_ERASE_RELEASE (R248). -/
def execBlockEraseRelease (die block : Nat) (s : State) : Res := .next (eraseRelease s die block)

/-- Groups whose members are all erased or retired are forgotten. -/
def groupsPrune (s : State) : State :=
  atlSet s fun a => { a with groups := tabFilter a.groups fun g x =>
    x.closed.isNone || x.members.any fun m => (blkGet s m.1 m.2).group == some g && (blkGet s m.1 m.2).role == .data }

/-! ## The end of a fold (R255, R260) -/

/-- An overlay is detached and freed; its blocks wait for their erase (R255), and nothing of it waits to be programmed. -/
def overlayFree (s : State) (o : Nat) : State :=
  match tabGet s.atl.overlays o with
  | none => s
  | some v =>
    let s := sheetPut s v.quad v.sheet (let w := sheetGet s v.quad v.sheet; sheetWord (sDie w) (sBlock w) none)
    atlSet s fun a => { a with overlays := tabErase a.overlays o
                               stripes := tabFilter a.stripes fun _ x => x.issued || x.overlay != some o }

/-- The words that a fold copied become 3FCh where they still hold what it copied (R247, R255, R260). -/
def foldWords (s : State) (f : Fold) : State :=
  f.copied.foldl (fun s x =>
    let t := f.sheet * sheetTiles s + x.1
    if f.viaPage then (if pageWord s f.quad t = x.2 then pagePut s f.quad t wElse else regInc s AT_RELOC_STALE)
    else if sOv f.base && overlayWord s (sOverlay f.base) x.1 = x.2 then overlayPut s (sOverlay f.base) x.1 wElse
    else regInc s AT_RELOC_STALE) s

/-- After the fold of a sheet that had an overlay: with no word left it is freed; else the sheet is folded again at once, and after a
second fold in a row its quadrangle goes to page form (R255). -/
def foldAgain (s : State) (f : Fold) : State :=
  let o := sOverlay f.base
  if f.viaPage || !sOv f.base then s
  else match tabGet s.atl.overlays o with
    | none => s
    | some w =>
      if w.words.isEmpty then overlayFree s o
      else
        let s := atlSet s fun a => { a with overlays := tabMod a.overlays o fun v => { v with folds := v.folds + 1 } }
        if 1 ≤ w.folds then convToPage s f.quad else foldOpen (foldAsk s f.quad f.sheet)

/-- SHEET_FOLD_END (R255, R260): when every stripe of the fold is programmed, in one cycle, the sheet's word takes the new base and
the words that still hold what the fold copied become 3FCh. A sheet word whose base has changed since is left (R247). -/
def foldEnd (s : State) (q sh : Nat) : State :=
  match foldGet s q sh with
  | none => s
  | some f =>
    if !f.done then s
    else
      let s := atlSet s fun a => { a with folds := a.folds.filter fun x => !(x.quad == q && x.sheet == sh) }
      let v := sheetGet s q sh
      if sDie v ≠ sDie f.base ∨ sBlock v ≠ sBlock f.base then regInc s AT_RELOC_STALE
      else
        let s := sheetPut s q sh (sheetWord f.die f.block (if sOv v then some (sOverlay v) else none))
        foldAgain (foldWords s f) f
def execSheetFoldEnd (quad sheet : Nat) (s : State) : Res := .next (foldEnd s quad sheet)

/-! ## Conversions (R257-R262) -/

def convs (s : State) (toPage : Bool) : Nat := (s.atl.convs.filter fun c => c.toPage == toPage).length

/-- A conversion to sheet form starts, one at a time (R262): its sheets wait for the fold stream (R260). -/
def convToSheet (s : State) (q : Nat) : State :=
  if convs s false ≥ 1 ∨ s.atl.convs.any (·.quad == q) then s
  else
    let w := dirGet s q
    let s := dirPut s q (quadWord formToSheet (qPin w) (qNs w) (qTable w))
    let s := atlSet s fun a => { a with convs := a.convs ++ [{ quad := q, toPage := false, start := frameNo s }] }
    foldOpen ((List.range (quadTiles / sheetTiles s)).foldl (fun s sh => foldAsk s q sh) s)

/-- Cold candidates (R258): PAGE, not pinned, without compression, at most COLD writes in each of the last 8 windows. -/
def coldCandidates (s : State) : List Nat :=
  let cold := bitsOf s.atl.convertNow 13 0
  (s.atl.dir.filter fun e => qForm e.2 == formPage && !qPin e.2 && !(((quadNs s e.1).map (·.compress)).getD false)
    && (let h := tabGetD s.atl.whist e.1 []; decide (8 ≤ h.length) && h.all fun n => decide (n ≤ cold))).map (·.1)

/-- The candidate with the fewest writes in its last windows. -/
def coldest (s : State) : List Nat → Option Nat
  | [] => none
  | q :: t => match coldest s t with
    | none => some q
    | some r => if (tabGetD s.atl.whist r []).sum < (tabGetD s.atl.whist q []).sum then some r else some q

/-- One cold candidate goes to sheet form, if any (R258, R299). -/
def coolOne (s : State) : State :=
  match coldest s (coldCandidates s) with
  | none => s
  | some q => convToSheet s q

/-- Sheets of a quadrangle with an overlay. -/
def overlaidSheets (s : State) (q : Nat) : Nat := tabCount s.atl.overlays fun o => o.quad == q

/-- The end of a window of 16,777,216 frames (R258). -/
def windowEnd (s : State) : State :=
  let b := frameNo s
  if b = 0 ∨ b % 16777216 ≠ 0 ∨ s.atl.windowAt = b then s
  else
    let hot := bitsOf s.atl.convertNow 27 14
    let auto := bitOf s.atl.convertNow 31
    let cnt := s.atl.wcount
    let s := atlSet s fun a => { a with
      windowAt := b, wcount := []
      whist := (a.dir.map (·.1)).foldl (fun h q => tabSet h q ((tabGetD cnt q 0 :: tabGetD h q []).take 8)) a.whist }
    if !auto then s
    else
      let s := ((s.atl.dir.filter fun e => qForm e.2 == formSheet &&
          (decide (hot ≤ tabGetD cnt e.1 0) || decide (8 < overlaidSheets s e.1))).map (·.1)).foldl
        (fun s q => if convs s true < 4 ∧ tablesFree s > 16 then convToPage s q else s) s
      if s.atl.tabs.length * 8 > regFld s AT_TABLES_BUDGET 18 0 * 7 then coolOne s else s

/-- CONVERSION_WINDOW_END with the value of AT_CONVERT for the window that begins (R305). -/
def windowTurn (s : State) : State :=
  let t := windowEnd s
  if t.atl.windowAt = s.atl.windowAt then t else atlSet t fun a => { a with convertNow := regNat t AT_CONVERT }
def execConversionWindowEnd (s : State) : Res := .next (windowTurn s)

/-- While use is above the budget, cold candidates go to sheet form (R262, R299), where conversions are enabled (R258). -/
def budgetFit (s : State) : State :=
  if tablesBudget s < s.atl.tabs.length ∧ bitOf s.atl.convertNow 31 then coolOne s else s

/-- At a boundary, a conversion to page form that started sets FORM to TO_PAGE over a table filled with 3FCh (R259), or over
its own table when a conversion to sheet form was abandoned (R260). -/
def convBoundary (s : State) : State :=
  s.atl.convs.foldl (fun s c =>
    if c.toPage then
      let f := qForm (dirGet s c.quad)
      if f = formSheet then tableTake s c.quad formToPage wElse
      else if f = formToSheet then
        let w := dirGet s c.quad
        dirPut s c.quad (quadWord formToPage (qPin w) (qNs w) (qTable w))
      else s
    else s) s

/-- Each word of a table that reads 3FCh takes what its sheet resolves to; the sheet words clear and the overlays are freed (R259).
What was still to be programmed in an overlay goes to the hot stream (R268). -/
def toPageFill (s : State) (q : Nat) : State :=
  let ti := qTable (dirGet s q)
  match tabGet s.atl.tabs ti with
  | none => s
  | some p =>
    let kept := p.words.filter fun e => wDie e.2 != 0x3FC
    let fromSheets := (tabGetD s.atl.sheets q []).flatMap fun e =>
      ((List.range (sheetTiles s)).map fun i => (e.1 * sheetTiles s + i, sheetFind s q (e.1 * sheetTiles s + i))).filter
        fun x => wDie x.2 != 0x3FF
    let words := fromSheets.foldl (fun (t : Table Word) x => if (tabGet t x.1).isSome then t else tabSet t x.1 x.2) kept
    atlSet s fun a => { a with
      tabs := tabSet a.tabs ti { fill := if p.fill = wElse then wUnmapped else p.fill, words := words }
      sheets := tabErase a.sheets q
      overlays := a.overlays.filter fun o => o.2.quad != q
      stripes := tabMap a.stripes fun _ x => if x.issued then x else match x.overlay.bind (tabGet a.overlays) with
        | some v => if v.quad = q then { x with stream := .hot, overlay := none } else x
        | none => x
      foldWait := a.foldWait.filter (·.1 != q)
      folds := a.folds.filter (·.quad != q)
      convs := a.convs.filter (·.quad != q) }

/-- TO_PAGE_CONVERSION_END (R259): each word that reads 3FCh takes what its sheet resolves to, FORM becomes PAGE, the sheet
words clear and the overlays are freed, their blocks staying as page-mapped data. -/
def toPageEnd (s : State) (q : Nat) : State :=
  let w := dirGet s q
  if qForm w = formToPage ∧ (tabGet s.atl.tabs (qTable w)).isSome then
    raise (dirPut (toPageFill s q) q (quadWord formPage (qPin w) (qNs w) (qTable w))) 231
  else s
def execToPageConversionEnd (quad : Nat) (s : State) : Res := .next (toPageEnd s quad)

/-- Does every word of a page table from `i` on, `n` of them, read 3FCh? -/
def tableClear (p : PageTab) (i n : Nat) : Bool :=
  if wDie p.fill = 0x3FC then p.words.all fun e => decide (e.1 < i) || decide (i + n ≤ e.1) || wDie e.2 == 0x3FC
  else (List.range n).all fun j => wDie (tabGetD p.words (i + j) p.fill) == 0x3FC

/-- Is a sheet of a quadrangle waiting for its fold, or being folded? -/
def foldsOf (s : State) (q : Nat) : Bool := s.atl.foldWait.any (·.1 == q) || s.atl.folds.any (·.quad == q)

/-- TO_SHEET_CONVERSION_END (R260): with every page word 3FCh the quadrangle is SHEET and its table free; sheets with words left are
folded a second time; with more than 4,096 tiles written, or words left after the second pass, the conversion is abandoned to
page form. -/
def toSheetEnd (s : State) (q : Nat) : State :=
  match s.atl.convs.find? fun c => c.quad == q && !c.toPage with
  | none => s
  | some c =>
    let w := dirGet s q
    match tabGet s.atl.tabs (qTable w) with
    | none => s
    | some p =>
      let left := (List.range (quadTiles / sheetTiles s)).filter fun sh => !tableClear p (sh * sheetTiles s) (sheetTiles s)
      if c.writes > 4096 || (!left.isEmpty && decide (2 ≤ c.pass) && !foldsOf s q) then
        atlSet s fun a => { a with
          foldWait := a.foldWait.filter (·.1 != q)
          convs := a.convs.map fun x => if x.quad == q then { quad := q, toPage := true, start := frameNo s } else x }
      else if foldsOf s q then s
      else if !left.isEmpty then
        let s := atlSet s fun a => { a with convs := a.convs.map fun x => if x.quad == q then { x with pass := x.pass + 1 } else x }
        foldOpen (left.foldl (fun s sh => foldAsk s q sh) s)
      else
        let s := atlSet s fun a => { a with tabs := tabErase a.tabs (qTable w), convs := a.convs.filter (·.quad != q) }
        raise (dirPut s q (quadWord formSheet (qPin w) (qNs w) 0)) 231
def execToSheetConversionEnd (quad : Nat) (s : State) : Res := .next (toSheetEnd s quad)

/-- Conversions that end at a boundary: to page form at the last moment of their 4,096 frames (R259), to sheet form when their folds
have ended (R260). -/
def convsEnd (s : State) : State :=
  s.atl.convs.foldl (fun s c =>
    if c.toPage then (if c.start + 4095 ≤ frameNo s then toPageEnd s c.quad else s) else toSheetEnd s c.quad) s

/-! ## Resurvey and wear (R275-R279) -/

/-- The resurvey mode of a boundary: event 233 on entry to urgent (R277). -/
def resurveyMode (s : State) : State :=
  let u := s.atl.fmt.isSome && decide (hotGroups s < 4)
  if u && !s.atl.urgent then raise (atlSet s fun a => { a with urgent := true }) 233
  else atlSet s fun a => { a with urgent := u }

/-- May a group be a victim (R275, R276)? -/
def victimOk (g : Group) : Bool := g.closed.isSome && (g.stream == .hot || g.stream == .cold || g.stream == .fold)

/-- The better victim: fewer valid tiles, then the earlier closing (R275). -/
def betterVictim (s : State) (a b : Nat × Group) : Nat × Group :=
  let va := groupValid s a.2
  let vb := groupValid s b.2
  if vb < va then b else if va < vb then a
  else if b.2.closed.getD 0 < a.2.closed.getD 0 then b else a

/-- The victim resurvey takes (R275). -/
def victim (s : State) : Option (Nat × Group) :=
  match s.atl.groups.filter fun g => victimOk g.2 &&
      g.2.members.any fun m => (blkGet s m.1 m.2).role == .data && !(blkGet s m.1 m.2).released with
  | [] => none
  | g :: t => some (t.foldl (betterVictim s) g)

/-- The sheet whose base a block is. -/
def baseSheet (s : State) (d b : Nat) : Option (Nat × Nat) :=
  (s.atl.sheets.flatMap fun e => (e.2.filter fun w => sDie w.2 == d && sBlock w.2 == b).map fun w => (e.1, w.1)).head?

/-- A block's valid tiles go to the cold stream, or its sheet is folded again (R276). -/
def blockEvacuate (s : State) (m : Nat × Nat) : State :=
  match baseSheet s m.1 m.2 with
  | some (q, sh) => foldAsk s q sh
  | none => ((blockValid s m.1 m.2).map (·.2)).foldl moveStart s

/-- A group's valid tiles are copied out of it (R276). -/
def groupEvacuate (s : State) (g : Group) : State := foldOpen (g.members.foldl blockEvacuate s)

/-- Blocks that wait to be retired: one of them with a valid tile left. -/
def failing (s : State) : Option (Nat × Nat) :=
  ((s.atl.blks.filter fun b => b.2.role == .data && (b.2.marked || decide (2 ≤ b.2.uncorr))).map fun b =>
    (b.1 / 8192, b.1 % 8192)).find? fun m => !(blockValid s m.1 m.2).isEmpty

/-- Failing blocks that hold no valid tile any more are retired (R273, R282). -/
def failingRetire (s : State) : State :=
  (tabKeys s.atl.blks fun b => b.role == .data && !b.released && (b.marked || decide (2 ≤ b.uncorr))).foldl
    (fun s k => eraseRelease s (k / 8192) (k % 8192)) s

/-- RESURVEY_START (R275-R277): copies out of a failing block go first (R282). Idle while 12 groups or more can be formed; a victim
without a valid tile is erased, another's valid tiles are copied. -/
def resurvey (s : State) : State :=
  match failing s with
  | some m => foldOpen (blockEvacuate s m)
  | none =>
  if s.atl.fmt.isNone ∨ hotGroups s ≥ 12 then s
  else match victim s with
    | none => s
    | some (_, g) =>
      if groupValid s g = 0 then g.members.foldl (fun s m => eraseRelease s m.1 m.2) s
      else groupEvacuate s g
def execResurveyStart (s : State) : Res := .next (resurvey s)

/-- Erase counts of good blocks outside spare, dump and reserve roles; fresh blocks count 0 (R278). -/
def wearSpread (s : State) : Nat :=
  let cs := (s.atl.blks.filter fun b => b.2.role == .data || b.2.role == .free || b.2.role == .system).map fun b => b.2.erases
  let hi := cs.foldl max 0
  let fresh := s.fl.dies.any fun d => decide (d.2.freshLo < d.2.freshHi)
  let lo := if fresh then 0 else match cs with
    | [] => 0
    | c :: t => t.foldl min c
  hi - lo

/-- LIMIT as it acts (R304). -/
def wearLimit (s : State) : Nat := max 64 (regFld s AT_WEAR 15 0)

/-- The closed group that holds the youngest data block, of those not being moved. -/
def youngest (s : State) : Option (Nat × Group) :=
  let age := fun (g : Group) => (g.members.map fun m => (blkGet s m.1 m.2).erases).foldl min 1000000000
  match s.atl.groups.filter fun g => victimOk g.2 && 0 < groupValid s g.2 && !s.atl.wearGroups.contains g.1 with
  | [] => none
  | g :: t => some (t.foldl (fun a b => if age b.2 < age a.2 then b else a) g)

/-- Wear moves begin with a spread over LIMIT and event 235, and go on until it is at most LIMIT - floor(LIMIT / 8) (R279); groups
whose tiles have all moved are no longer in progress. -/
def wearUpdate (s : State) : State :=
  let d := wearSpread s
  let s := regPutFld s AT_WEAR 31 16 (min 0xFFFF d)
  let s := atlSet s fun a => { a with wearGroups := a.wearGroups.filter fun g =>
    ((tabGet a.groups g).map fun x => decide (0 < groupValid s x)).getD false }
  if wearLimit s < d ∧ !s.atl.wearOn then raise (atlSet s fun a => { a with wearOn := true }) 235
  else if d ≤ wearLimit s - wearLimit s / 8 then atlSet s fun a => { a with wearOn := false }
  else s

/-- WEAR_LEVEL_MOVE (R279): in static mode the group with the youngest data block moves to the cold stream, at most 2 at once. -/
def wearMove (s : State) : State :=
  let s := wearUpdate s
  if !dynamicWear s && s.atl.wearOn && decide (s.atl.wearGroups.length < 2) then
    match youngest s with
    | none => s
    | some (k, g) => groupEvacuate (atlSet s fun a => { a with wearGroups := a.wearGroups ++ [k] }) g
  else s
def execWearLevelMove (s : State) : Res := .next (wearMove s)

/-- REBUILD_END (R285). -/
def execRebuildEnd (s : State) : Res := .next (rebuildEnd s)

/-! ## SEALED (R292, R293) -/

/-- Does some closed group hold an invalid tile? -/
def invalidHeld (s : State) : Bool :=
  s.atl.groups.any fun g => g.2.closed.isSome && decide (groupValid s g.2 < groupTiles s g.2)

/-- The entry condition of R292. -/
def sealDue (s : State) : Bool := s.atl.fmt.isSome && !canForm s 1 && !invalidHeld s

/-- SEALED_ENTRY (R292, R293). -/
def sealEnter (s : State) : State :=
  if sealDue s && !regBit s AT_MEDIA_STATE 31 then
    let s := regPutBit (regPutBit s AT_MEDIA_STATE 31 true) AT_MEDIA_STATE 30 true
    raise (warnAll s) 225
  else s
def execSealedEntry (s : State) : Res := .next (sealEnter s)

/-- SEALED_EXIT (R292, R293): the flush reserve is whole and 2 groups can be formed. -/
def sealExit (s : State) : State :=
  if regBit s AT_MEDIA_STATE 31 && s.atl.reserveUsed == 0 && canForm s 2 then
    raise (regPutBit s AT_MEDIA_STATE 31 false) 226
  else s
def execSealedExit (s : State) : Res := .next (sealExit s)

/-- The flush reserve is filled again from free blocks once its groups have been erased: each used group counts until N free
blocks have gone back to it (R290, R292). -/
def reserveRefill (s : State) : State :=
  if s.atl.reserveUsed ≠ 0 ∧ canForm s 1 ∧ !(s.atl.groups.any fun g => g.2.stream == .flush) then
    match pickMembers s [] (fmtOf s).n with
    | none => s
    | some (ms, s) =>
      let s := ms.foldl (fun s m => blkMod s m.1 m.2 fun b => { b with role := .reserve }) s
      atlSet s fun a => { a with reserveUsed := a.reserveUsed - 1 }
  else s

/-! ## Budget and capacity registers (R299, R306, R308) -/

/-- TABLES_BUDGET_WRITE (R299): a budget below use starts converting a cold candidate to sheet form. -/
def budgetWrite (s : State) (v : Nat) : State :=
  let b := min 262144 (bitsOf v 18 0)
  let s := atlSet (regPutFld s AT_TABLES_BUDGET 18 0 b) fun a => { a with budgetKept := some b }
  budgetFit s
def execTablesBudgetWrite (value : Nat) (s : State) : Res := .next (budgetWrite s value)

/-- CAPACITY_LO_READ (R308). -/
def capacityLoRead (s : State) : State :=
  regPut (emit s (.regRead AT_CAPACITY_LO (regRaw s AT_CAPACITY_LO))) AT_CAPACITY_HI
    (if regBit s AT_MEDIA_STATE 0 then capacity s / 2 ^ 32 else 0)
def execCapacityLoRead (s : State) : Res := .next (capacityLoRead s)

/-- The Atlas's part of a boundary: complete stripes finished, full and due ones issued, folds and conversions taken on, resurvey,
wear and SEALED looked at. -/
def atlasBoundary (s : State) : State :=
  if s.atl.fmt.isNone then s
  else
    let ks := s.atl.stripes.map (·.1)
    let s := stripesIssue (ks.foldl stripeDone s)
    let s := (s.atl.folds.filter (·.done)).foldl (fun s f => foldEnd s f.quad f.sheet) s
    let s := foldIssue (foldOpen s)
    let s := resurveyMode (convsEnd (convBoundary s))
    let s := budgetFit (windowTurn s)
    let s := sealExit (reserveRefill (sealEnter s))
    let s := failingRetire (rebuildEnd s)
    groupsPrune (wearUpdate s)

end Sys2Proof.Machine
end

