-- ==== Sys2Proof/Machine/Gaz.lean ====
section
/-! DEFINITION. Chapter 11, the Gazetteer on one device: entries and tables, searches and their verification, edits and
walks, pattern automata and scans, ports and lanes (R566-R601). The cascade follows in Cascade.lean. -/
namespace Sys2Proof.Machine

def gzMod (s : State) (f : GzSt → GzSt) : State := { s with gz := f s.gz }
def gzTab (s : State) (t : Nat) : Option GzTab := tabGet s.gz.tabs t
def gzEntry (s : State) (e : Nat) : Option GzEntry := tabGet s.gz.entries e
def gzEntryMod (s : State) (e : Nat) (f : GzEntry → GzEntry) : State :=
  gzMod s fun g => { g with entries := tabMod g.entries e f }

/-! ## Entries and tables (R566-R571) -/

/-- The first entry of a table, and the one past its last (R566, R568). -/
def gzLo (t : GzTab) : Nat := t.bank * 65536 + t.base
def gzHi (t : GzTab) : Nat := gzLo t + t.cap

/-- The valid entries of a table, rising. -/
def gzValid (s : State) (t : GzTab) : Table GzEntry := tabFilter s.gz.entries fun e _ => decide (gzLo t ≤ e) && decide (e < gzHi t)

/-- A 20-octet key (R567): octet 0 holds the top bits. -/
def gzKey (d : Bytes) : BitVec 160 := BitVec.ofNat 160 (leNat d.reverse)
def gzKeyBytes (k : BitVec 160) : Bytes := (leBytes 20 k.toNat).reverse

/-- Does a key match a value under a mask (R567)? -/
def gzFits (v m k : BitVec 160) : Bool := (k ^^^ v) &&& m == 0

/-- Ones of a mask. -/
def popcount (n : Nat) : Nat → Nat
  | 0 => 0
  | k + 1 => b2n (bitOf n k) + popcount n k

/-- The order of a table (R571): VALUE AND MASK rising, with equal values the mask of more ones first. -/
def gzRank (v m : BitVec 160) : Nat := (v &&& m).toNat * 256 + (160 - popcount m.toNat 160)

/-- The port count of a frame scaled by period and rate level (R578, R600). -/
def gzRate (s : State) (n : Nat) : Nat := max 1 (n * (periodNs s / 250) / 2 ^ regFld s GZ_THROTTLE 31 30)

/-! ## Search and verification (R583, R589-R591) -/

/-- The better of two matching entries: higher priority, then lower number (R583). -/
def gzBetter (a b : Nat × GzEntry) : Nat × GzEntry := if a.2.prio < b.2.prio then b else a

/-- The winner among the matching entries of a table (R583). -/
def gzWinner (s : State) (t : GzTab) (k : BitVec 160) : Option (Nat × GzEntry) :=
  match (gzValid s t).filter fun e => !e.2.suspect && gzFits e.2.value e.2.mask k with
  | [] => none
  | e :: r => some (r.foldl gzBetter e)

/-- A lookup with its verification (R589): a winner that its shadow does not confirm is made suspect and the lookup runs
again. Answers the winner and the searches used. -/
def gzLookup (t : GzTab) (k : BitVec 160) : Nat → State → State × Option (Nat × GzEntry) × Nat
  | 0, s => (s, none, 0)
  | fuel + 1, s =>
    match gzWinner s t k with
    | none => (s, none, 1)
    | some (e, x) =>
      if !x.parityBad && gzFits x.sval x.smask k then (s, some (e, x), 1)
      else
        let s := gzEntryMod s e fun x => { x with suspect := true }
        let s := raise (regInc s GZ_FALSE_HITS) (if x.parityBad then 449 else 448)
        let r := gzLookup t k fuel s
        (r.1, r.2.1, r.2.2 + 1)

/-- A lookup in a table. -/
def gzSearch (s : State) (t : GzTab) (k : BitVec 160) : State × Option (Nat × GzEntry) × Nat :=
  gzLookup t k ((gzValid s t).length + 1) s

/-- A soft error strikes an entry (R589). -/
def gzUpset (s : State) : Upset → State
  | .cell e v m => gzEntryMod s e fun x => { x with value := v, mask := m }
  | .parity e => gzEntryMod s e fun x => { x with parityBad := true }

/-- A suspect entry with a good shadow is rewritten from it (R590). -/
def gzRepair (s : State) (e : Nat) : State :=
  match gzEntry s e with
  | some x => if x.suspect && !x.parityBad then
      gzEntryMod s e fun x => { x with value := x.sval, mask := x.smask, suspect := false } else s
  | none => s
/-- SUSPECT_REPAIR (R590). -/
def execSuspectRepair (entry : Nat) (s : State) : Res := .next (gzRepair s entry)

/-- The idle comparison of an entry (R591): a difference is repaired with event 450, or leaves the entry suspect where its
shadow's parity is bad. A pass ends where the comparison comes round to an entry not above the last. -/
def gzCompare (s : State) (e : Nat) : State :=
  let s := if e ≤ s.gz.checkAt then
      gzMod (regPut s GZ_CHECK (min (frameNo s - s.gz.lapStart) 0xFFFFFF)) fun g => { g with lapStart := frameNo s }
    else s
  let s := gzMod s fun g => { g with checkAt := e }
  match gzEntry s e with
  | none => s
  | some x =>
    if x.value == x.sval && x.mask == x.smask then s
    else if x.parityBad then raise (gzEntryMod s e fun x => { x with suspect := true }) 449
    else raise (gzRepair (gzEntryMod s e fun x => { x with suspect := true }) e) 450
/-- SHADOW_COMPARISON (R591). -/
def execShadowComparison (entry : Nat) (ups : List Upset) (s : State) : Res := .next (gzCompare (ups.foldl gzUpset s) entry)

/-- An answer (R574): result, flags, priority, entry number and cascade position. -/
def gzAnswer (hit : Option (Nat × Nat × Word)) (inc : Bool) (pos : Nat) : Bytes :=
  match hit with
  | some (e, prio, r) =>
    leBytes 5 r.toNat ++ [BitVec.ofNat 8 (1 + 2 * b2n inc)] ++ leBytes 2 prio ++ leBytes 3 (e % 2 ^ 18 + pos % 8 * 2 ^ 18) ++ zeros 5
  | none => zeros 5 ++ [BitVec.ofNat 8 (2 * b2n inc)] ++ zeros 10

/-- An answer for key `i` of a search job is written and counted (R575, R583). -/
def gzAnswerPut (s : State) (n i : Nat) (hit : Option (Nat × Nat × Word)) (inc : Bool) (pos : Nat) : State :=
  match jobGet s n with
  | none => s
  | some j =>
    let r := octetsOut s (jobWriter j) (dDst j + 16 * i) (gzAnswer hit inc pos)
    jobMod r.1 n fun x => { x with
      produced := x.produced + 16, aux0 := x.aux0 + b2n hit.isSome, flags := if inc then 1 else x.flags
      status := if r.2 then x.status else esMemory, awaits := x.awaits.filter (· != i) }

/-- A search job ends once every key has its answer. -/
def gzSearchEnd (s : State) (n : Nat) : State :=
  match jobGet s n with
  | some j => if j.phase = .running ∧ leAt j.desc 14 2 ≤ j.pos ∧ j.awaits = [] then jobDone s n j.status else s
  | none => s

/-- Is the cascade ring trained (R602)? -/
def gzLinkUp (s : State) : Bool := regBit s GZ_CASCADE 31

/-- A port takes a key of a cascaded table (R604, R605): it waits for a batch; while the ring is not up its answer is
INCOMPLETE (R609). -/
def gzTake (s : State) (n i : Nat) (t : GzTab) (k : BitVec 160) : State :=
  if gzLinkUp s then
    let c : CascKey := ⟨regFld s GZ_CASCADE 26 24, n, i, t.casc, k⟩
    jobMod (gzMod s fun g => { g with casc := { g.casc with taken := g.casc.taken ++ [c] } }) n fun x =>
      { x with awaits := x.awaits ++ [i] }
  else gzAnswerPut s n i none true 0

/-! ## Jobs: fields and objects (R573, R577) -/

def gzOp (j : Job) : Nat := dOp j
def gzFinish (j : Job) : Bool := bitOf (dByte j 1) 7
def gzAfter (j : Job) : Bool := bitOf (dByte j 1) 6
def gzObj (j : Job) : Nat := leAt j.desc 2 2
def gzCount (j : Job) : Nat := leAt j.desc 14 2
def gzOnTable (j : Job) : Bool := 1 ≤ gzOp j && gzOp j ≤ 4
/-- A scan without a context (R595). -/
def gzOneShot (j : Job) : Bool := gzOp j == 6 && dCtx j == 0xFFFF

def gzFields (j : Job) : Bool :=
  let op := gzOp j
  (1 ≤ op && op ≤ 9) && (!gzFinish j || op == 6) && (!gzAfter j || op == 4) && bitsOf (dByte j 1) 5 0 == 0
    && (if gzOnTable j then gzObj j < 1024
        else if op == 8 then gzObj j < 256 || gzObj j == 0xFFFF
        else if op == 5 || op == 9 || gzOneShot j then gzObj j < 256 else gzObj j == 0xFFFF)
    && (if op == 5 then dCtx j < 256 || dCtx j == 0xFFFF else if op == 6 || op == 7 then dCtx j < 256 || gzOneShot j else dCtx j == 0xFFFF)
    && bitsOf (leAt j.desc 10 2) 15 14 == 0 && dZero j 13 1
    && (if op ≤ 3 then 1 ≤ gzCount j && gzCount j ≤ 4096 else gzCount j == 0)
    && addrOk (dSrc j) && addrOk (dDst j) && addrOk (dResult j) && dZero j 48 16

/-- Quotas of a parcel: automaton slots, scan contexts, tables (R592). -/
def gzQuota (s : State) (p : Nat) : Nat × Nat × Nat := tabGetD s.gz.limits p (4, 8, 16)

def gzSlot (s : State) (k : Nat) : GzSlot := tabGetD s.gz.slots k {}
/-- A loaded slot of a job's owner. -/
def gzOwnSlot (s : State) (j : Job) (k : Nat) : Bool := (gzSlot s k).loaded && (gzSlot s k).owner == j.parcel

/-- Is a slot named by an open context or by a queued job (R592)? -/
def gzSlotBusy (s : State) (n k : Nat) : Bool :=
  (s.gz.ctxs.any fun c => c.2.st == .opened && c.2.slot == k)
    || s.en.jobs.any fun e => e.1 != n && e.2.eng == .gz && e.2.phase != .ended && e.2.phase != .done
        && (gzOp e.2 == 5 || gzOp e.2 == 8 || gzOp e.2 == 9 || gzOneShot e.2) && gzObj e.2 == k

/-- The slot an automaton load takes, or its status. -/
def gzLoadTarget (s : State) (j : Job) : Nat × Nat :=
  let full := match j.parcel with
    | some p => decide ((gzQuota s p).1 ≤ tabCount s.gz.slots fun x => x.loaded && x.owner == some p)
    | none => false
  if gzObj j = 0xFFFF then
    match (List.range 256).find? fun k => !(gzSlot s k).loaded with
    | some k => if full then (esNoContext, 0) else (esOk, k)
    | none => (esNoContext, 0)
  else if (gzSlot s (gzObj j)).loaded then
    (if (gzSlot s (gzObj j)).owner == j.parcel then esOk else esContext, gzObj j)
  else (if full then esNoContext else esOk, gzObj j)

/-- The context an open takes, or its status (R598). -/
def gzOpenTarget (s : State) (j : Job) : Nat × Nat :=
  match tabGet s.gz.ctxs (dCtx j) with
  | some c => (if c.st = .invalid then esContext else esBusy, 0)
  | none =>
    let full := match j.parcel with
      | some p => decide ((gzQuota s p).2.1 ≤ tabCount s.gz.ctxs fun c => c.parcel == some p)
      | none => false
    let t := if dCtx j = 0xFFFF then tabFree s.gz.ctxs 0 256 else some (dCtx j)
    match t with
    | none => (esNoContext, 0)
    | some c => (if full then esNoContext else esOk, c)

/-- May a job use its scan context (R364, R365, R598)? -/
def gzCtxUse (s : State) (j : Job) : Nat :=
  match tabGet s.gz.ctxs (dCtx j) with
  | none => esContext
  | some c =>
    if c.st = .invalid then (if gzOp j = 7 ∧ c.parcel = j.parcel then esOk else esContext)
    else if ownsCtx j c.parcel c.pEdition then esOk else esContext

/-- The object check of a job (R569, R570, R576). -/
def gzObject (s : State) (n : Nat) (j : Job) : Nat :=
  match gzOp j with
  | 5 => if gzOwnSlot s j (gzObj j) then (gzOpenTarget s j).1 else esContext
  | 6 => if gzOneShot j then bad (!gzOwnSlot s j (gzObj j)) esContext
    else
      let e := gzCtxUse s j
      if e ≠ esOk then e else bad (!(gzSlot s (tabGetD s.gz.ctxs (dCtx j) {}).slot).loaded) esContext
  | 7 => gzCtxUse s j
  | 8 => (gzLoadTarget s j).1
  | 9 => if !gzOwnSlot s j (gzObj j) then esContext else bad (gzSlotBusy s n (gzObj j)) esBusy
  | _ => match gzTab s (gzObj j) with
    | none => esContext
    | some t => bad (t.owner != j.parcel || t.deleting.isSome) esContext

/-- The length rules (R577); an image whose LENGTH cannot be read is refused when it is read. -/
def gzLengths (s : State) (j : Job) : Nat :=
  let n := dSrcLen j
  let c := dDstCap j
  match gzOp j with
  | 1 => firstErr [bad (n != 20 * gzCount j) esLength, bad (c < 16 * gzCount j) esDescriptor]
  | 2 => firstErr [bad (n != 48 * gzCount j) esLength, bad (c != 0) esDescriptor]
  | 3 => firstErr [bad (n != 40 * gzCount j) esLength, bad (c != 0) esDescriptor]
  | 4 => firstErr [bad (n != 0 && n != 40) esLength, bad (c < 48) esDescriptor]
  | 6 => firstErr [bad (16777216 < n) esLength, bad (c < 8) esDescriptor]
  | 8 =>
    let len := if n < 24 then some [] else (octetsIn s (dSrc j + 20) 4 6).2
    firstErr [bad ((len.map fun d => decide (n < 24) || leNat d != n).getD false) esLength, bad (c != 0) esDescriptor]
  | _ => firstErr [bad (n != 0) esLength, bad (c != 0) esDescriptor]

/-- The checks of a job that starts, in their order (R577). -/
def gzCheck (s : State) (n : Nat) (j : Job) : Nat :=
  firstErr [bad (!gzFields j) esDescriptor, gzObject s n j, gzLengths s j]

/-! ## Inserts, deletes, walks, respreading (R585-R588) -/

/-- The nearest hole below `e`, down to `lo`. -/
def holeBelow (s : State) (lo : Nat) : Nat → Option Nat
  | 0 => none
  | e + 1 => if e < lo then none else if (gzEntry s e).isNone then some e else holeBelow s lo e

/-- An entry image (R574) as an entry. -/
def gzImage (d : Bytes) : GzEntry :=
  let v := gzKey (slice d 0 20)
  let m := gzKey (slice d 20 20)
  { value := v, mask := m, prio := leAt d 40 2, result := BitVec.ofNat 36 (leAt d 42 5), sval := v, smask := m }

/-- The valid entry with the VALUE and MASK of another (R585, R586). -/
def gzSame (s : State) (t : GzTab) (v m : BitVec 160) : Option Nat :=
  ((gzValid s t).find? fun e => e.2.value == v && e.2.mask == m).map (·.1)

/-- Where an insert puts a new entry (R585): its number, the span of entries that move first, upward or downward, and how
many move. A place in a hole is the lowest one there (DESIGN CHOICE, log 51). -/
def gzPlace (s : State) (t : GzTab) (x : GzEntry) : Option (Nat × Nat × Nat × Bool) :=
  let r := gzRank x.value x.mask
  let before := (gzValid s t).filter fun e => gzRank e.2.value e.2.mask ≤ r
  let lo := (before.getLast?.map (·.1 + 1)).getD (gzLo t)
  if lo < gzHi t && (gzEntry s lo).isNone then some (lo, 0, 0, true)
  else
    let up := tabFree s.gz.entries lo (gzHi t - lo)
    let down := holeBelow s (gzLo t) lo
    match up, down with
    | none, none => none
    | some u, none => some (lo, lo, u - lo, true)
    | none, some d => some (lo - 1, d + 1, lo - 1 - d, false)
    | some u, some d => if u - lo ≤ lo - 1 - d then some (lo, lo, u - lo, true) else some (lo - 1, d + 1, lo - 1 - d, false)

/-- Entries `[a, a + n)` move one position up or down (R585). -/
def gzShift (s : State) (a n : Nat) (up : Bool) : State :=
  gzMod s fun g => { g with entries :=
    (g.entries.map fun e => if decide (a ≤ e.1) && decide (e.1 < a + n) then (if up then e.1 + 1 else e.1 - 1, e.2) else e) }

/-- A table is due to be respread after a move of `n` entries (R587). -/
def gzSpreadDue (s : State) (k : Nat) (t : GzTab) (n : Nat) : State :=
  let run := 4 * t.hole
  let tight := (List.range (t.cap / run)).any fun i =>
    (List.range run).all fun x => (gzEntry s (gzLo t + i * run + x)).isSome
  if 2 * t.hole < n || tight then gzMod s fun g => { g with tabs := tabMod g.tabs k fun t => { t with spread := some (t.spread.getD 0) } } else s

/-- Entry writes an insert of an image costs; none where its table is full. -/
def gzInsertCost (s : State) (t : GzTab) (x : GzEntry) : Option Nat :=
  if (gzSame s t x.value x.mask).isSome then some 1 else (gzPlace s t x).map fun p => p.2.2.1 + 1

/-- One entry image is applied (R585); the number of the entry placed. -/
def gzInsertOne (s : State) (k : Nat) (t : GzTab) (x : GzEntry) : State × Nat :=
  match gzSame s t x.value x.mask with
  | some e => (gzEntryMod s e fun _ => x, e)
  | none => match gzPlace s t x with
    | none => (s, 0)
    | some (e, a, n, up) =>
      let s := if n = 0 then s else gzShift s a n up
      (gzSpreadDue (gzMod s fun g => { g with entries := tabSet g.entries e x }) k t n, e)

/-- The slice of an insert: images in order while entry writes are left; a write cost above what is left carries on in the
next slice (R578, R585). -/
def gzInsertGo (n : Nat) (k : Nat) : Nat → Nat → State → State
  | 0, _, s => s
  | fuel + 1, left, s =>
    match jobGet s n, gzTab s k with
    | some j, some t =>
      if gzCount j ≤ j.pos then jobDone s n esOk
      else
        let r := octetsIn s (dSrc j + 48 * j.pos) 48 6
        match r.2 with
        | none => jobDone r.1 n esMemory
        | some d =>
          let s := r.1
          let x := gzImage d
          match gzInsertCost s t x with
          | none => jobDone (raise s 454) n esFull
          | some c =>
            if j.written + left < c then jobMod s n fun j => { j with written := j.written + left }
            else
              let o := gzInsertOne s k t x
              let s := jobMod o.1 n fun j => { j with
                pos := j.pos + 1, aux0 := j.aux0 + 1, aux1 := o.2, consumed := j.consumed + 48, written := 0 }
              gzInsertGo n k fuel (left - (c - j.written)) s
    | _, _ => s

/-- The slice of a delete (R586). -/
def gzDeleteGo (n : Nat) (k : Nat) : Nat → State → State
  | 0, s => match jobGet s n with
    | some j => if gzCount j ≤ j.pos then jobDone s n esOk else s
    | none => s
  | fuel + 1, s =>
    match jobGet s n, gzTab s k with
    | some j, some t =>
      if gzCount j ≤ j.pos then jobDone s n esOk
      else
        let r := octetsIn s (dSrc j + 40 * j.pos) 40 6
        match r.2 with
        | none => jobDone r.1 n esMemory
        | some d =>
          let hit := gzSame r.1 t (gzKey (d.take 20)) (gzKey (slice d 20 20))
          let s := match hit with
            | some e => gzSpreadDue (gzMod r.1 fun g => { g with entries := tabErase g.entries e }) k t 0
            | none => r.1
          gzDeleteGo n k fuel (jobMod s n fun j => { j with
            pos := j.pos + 1, aux0 := j.aux0 + b2n hit.isSome, consumed := j.consumed + 40 })
    | _, _ => s

/-- The entries a walk returns, in order (R588). -/
def gzWalkList (s : State) (t : GzTab) (j : Job) (from' : Bytes) : Table GzEntry :=
  let l := gzValid s t
  let l := if from' = [] then l
    else
      let v := gzKey (from'.take 20)
      let m := gzKey (slice from' 20 20)
      match gzAfter j, gzSame s t v m with
      | true, some e => l.filter fun x => decide (e < x.1)
      | true, none => l.filter fun x => decide (gzRank v m < gzRank x.2.value x.2.mask)
      | false, _ => l.filter fun x => decide (gzRank v m ≤ gzRank x.2.value x.2.mask)
  l.take (dDstCap j / 48)

/-- An entry as a walk writes it (R574). -/
def gzOut (x : GzEntry) : Bytes :=
  gzKeyBytes x.value ++ gzKeyBytes x.mask ++ leBytes 2 x.prio ++ leBytes 5 x.result.toNat ++ [BitVec.ofNat 8 (b2n x.suspect)]

/-- The slice of a walk (R578, R588). -/
def gzWalkGo (s : State) (n : Nat) (j : Job) (t : GzTab) : State :=
  let r := octetsIn s (dSrc j) (dSrcLen j) 6
  match r.2 with
  | none => jobDone r.1 n esMemory
  | some d =>
    let l := gzWalkList r.1 t j d
    let now := (l.drop j.pos).take (gzRate s 125)
    let w := octetsOut r.1 (jobWriter j) (dDst j + 48 * j.pos) (now.flatMap fun e => gzOut e.2)
    let k := j.pos + now.length
    let s := jobMod w.1 n fun j => { j with pos := k, aux0 := k, produced := 48 * k, consumed := d.length }
    if !w.2 then jobDone s n esMemory else if k = l.length then jobDone s n esOk else s

/-- The entries of a table in order, as evenly as its capacity allows (R587; placement DESIGN CHOICE, log 51). -/
def gzSpread (s : State) (k : Nat) (t : GzTab) : State :=
  let v := gzValid s t
  let rest := tabFilter s.gz.entries fun e _ => !(decide (gzLo t ≤ e) && decide (e < gzHi t))
  let es := ((List.range v.length).zip v).foldl (fun a x => tabSet a (gzLo t + x.1 * t.cap / max 1 v.length) x.2.2) rest
  gzMod s fun g => { g with entries := es, tabs := tabMod g.tabs k fun t => { t with spread := none } }

/-- Is a place held by a started job or has it run in this frame (R580)? -/
def gzTakenPlace (s : State) (l : Nat) : Bool :=
  (ranOf s .gz).contains l || s.en.jobs.any fun e => e.2.eng == .gz && e.2.phase == .running && e.2.lane == some l
    && !(gzOp e.2 == 1 && decide (gzCount e.2 ≤ e.2.pos))

/-- A slice of a respread on a free port of the table's bank, once no edit or walk of the table is under way (R587): a port's entry
writes (R578), and the new places with the last of them; none where it takes no port. -/
def gzRespread (s : State) (k : Nat) : Option State :=
  match gzTab s k with
  | none => none
  | some t =>
    match t.spread, [2 * t.bank, 2 * t.bank + 1].find? fun l => !gzTakenPlace s l with
    | some w, some l =>
      if s.en.jobs.any fun e => e.2.eng == .gz && e.2.phase == .running && gzOnTable e.2 && gzOp e.2 != 1 && gzObj e.2 == k then none
      else
        let s := ranPut s .gz (ranOf s .gz ++ [l])
        let w := w + gzRate s 32
        some (if (gzValid s t).length ≤ w then gzSpread s k t
          else gzMod s fun g => { g with tabs := tabMod g.tabs k fun t => { t with spread := some w } })
    | _, _ => none

/-- The respreads of a boundary, at most `n` of them (R350 step 2, R587); how many more slices device work may take. -/
def gzRespreads (s : State) : List Nat → Nat → State × Nat
  | [], n => (s, n)
  | _, 0 => (s, 0)
  | k :: t, n + 1 => match gzRespread s k with
    | some s => gzRespreads s t n
    | none => gzRespreads s t (n + 1)

/-! ## Pattern automata (R592-R598) -/

/-- Header fields of an automaton image (R593). -/
def auClasses (d : Bytes) : Nat := leAt d 6 2
def auStates (d : Bytes) : Nat := leAt d 8 4
def auPatterns (d : Bytes) : Nat := leAt d 12 2
def auAccepts (d : Bytes) : Nat := leAt d 16 4
def auLength (d : Bytes) : Nat := leAt d 20 4

/-- Class of an octet; next state; the accept-list indexes of a state (R593). -/
def auClass (d : Bytes) (x : Nat) : Nat := leAt d (32 + x) 1
def auNext (d : Bytes) (st c : Nat) : Nat := leAt d (288 + 2 * (st * (auClasses d + 1) + c)) 2
def auAcceptAt (d : Bytes) (st : Nat) : Nat := 288 + 2 * auStates d * (auClasses d + 1) + 4 * st
def auListAt (d : Bytes) : Nat := auAcceptAt d (auStates d)
def auFirst (d : Bytes) (st : Nat) : Nat := leAt d (auAcceptAt d st) 2
def auCount (d : Bytes) (st : Nat) : Nat := leAt d (auAcceptAt d st + 2) 2
def auIds (d : Bytes) (st : Nat) : List Nat :=
  (List.range (auCount d st)).map fun k => leAt d (auListAt d + 2 * (auFirst d st + k)) 2

/-- The checks of a load (R594). -/
def auCheck (d : Bytes) : Nat :=
  if 65536 < auStates d ∨ 65536 < auAccepts d ∨ 2097152 < auLength d then esLimit
  else if slice d 0 4 ≠ [0x53, 0x56, 0x47, 0x5A] ∨ leAt d 4 2 ≠ 1 then esData
  else if auLength d ≠ 288 + 2 * auStates d * (auClasses d + 1) + 4 * auStates d + 2 * auAccepts d then esData
  else if leAt d 24 4 ≠ crc32 (slice d 32 (auLength d - 32)) then esData
  else if (List.range 256).any fun x => decide (auClasses d ≤ auClass d x) then esData
  else if (List.range (auStates d)).any fun st => (List.range (auClasses d + 1)).any fun c => decide (auStates d ≤ auNext d st c) then esData
  else if (List.range (auStates d)).any fun st => auCount d st != 0 && decide (auAccepts d < auFirst d st + auCount d st) then esData
  else if (List.range (auAccepts d)).any fun k => decide (auPatterns d ≤ leAt d (auListAt d + 2 * k) 2) then esData
  else esOk

/-- A load fails (R594): event 455, and its slot is empty. A load whose slot is not its own to take leaves it (DESIGN CHOICE, log 51). -/
def gzLoadFail (s : State) (n : Nat) (j : Job) (st : Nat) : State :=
  let r := gzLoadTarget s j
  let y : GzSlot := { edition := (gzSlot s r.2).edition }
  let s := if r.1 = esOk then
      jobMod (gzMod s fun g => { g with slots := tabSet g.slots r.2 y }) n fun y => { y with ctx := r.2 } else s
  raise (jobDone s n st) 455

/-- A load whose image is all read ends (R592, R594): the slot holds it under its next edition, or is empty. -/
def gzLoadEnd (s : State) (n : Nat) (j : Job) : State :=
  let k := (gzLoadTarget s j).2
  let st := auCheck j.input
  let x := gzSlot s k
  if st = esOk then
    let y : GzSlot := { loaded := true, owner := j.parcel, image := j.input, edition := (x.edition + 1) % 256 }
    jobDone (jobMod (gzMod s fun g => { g with slots := tabSet g.slots k y }) n fun y => { y with ctx := k }) n esOk
  else gzLoadFail s n j st

/-- The slice of a load: image octets at the lane's rate (R578). -/
def gzLoadGo (s : State) (n : Nat) (j : Job) : State :=
  let k := min (gzRate s 16384) (dSrcLen j - j.pos)
  let r := octetsIn s (dSrc j + j.pos) k 6
  match r.2 with
  | none => gzLoadFail r.1 n j esMemory
  | some d =>
    let s := jobMod r.1 n fun x => { x with pos := x.pos + k, consumed := x.consumed + k, input := x.input ++ d }
    match jobGet s n with
    | some j => if dSrcLen j ≤ j.pos then gzLoadEnd s n j else s
    | none => s

/-- The slot a scan runs (R598). -/
def gzScanSlot (s : State) (j : Job) : Nat := if gzOneShot j then gzObj j else (tabGetD s.gz.ctxs (dCtx j) {}).slot

/-- Does a lane hold the current edition of a slot (R597)? -/
def gzHolds (s : State) (lane slot : Nat) : Bool :=
  (gzSlot s slot).loaded && tabGet s.gz.lanes lane == some (slot, (gzSlot s slot).edition)

/-- A scan as it stands: state, offset, octets taken, records, whether it stopped for want of room (R595, R596). -/
structure Scan where
  st : Nat
  off : Nat
  used : Nat := 0
  recs : List (Nat × Nat) := []
  full : Bool := false

/-- One octet, or the end of data, of a scan with room for `room` records. -/
def scanStep (im : Bytes) (room : Nat) (a : Scan) (col : Nat) (adv : Nat) : Scan :=
  let t := auNext im a.st col
  let ids := auIds im t
  if a.full || decide (room < a.recs.length + ids.length) then { a with full := true }
  else { a with st := t, off := a.off + adv, used := a.used + adv, recs := a.recs ++ ids.map fun i => (a.off + adv, i) }

/-- A match record (R574). -/
def gzMatch (r : Nat × Nat) : Bytes := leBytes 8 (r.1 % 2 ^ 48 + r.2 % 4096 * 2 ^ 48)

/-- State and offset of a scan go back where they are kept: its context, or the job. -/
def gzScanKeep (s : State) (n : Nat) (j : Job) (a : Scan) : State :=
  let s := jobMod s n fun x => { x with aux1 := a.st }
  if gzOneShot j then s
  else gzMod s fun g => { g with ctxs := tabMod g.ctxs (dCtx j) fun c => { c with state := a.st, offset := a.off % 2 ^ 48 } }

/-- The slice of a scan whose lane holds its automaton (R578, R595, R596). -/
def gzScanGo (s : State) (n : Nat) (j : Job) : State :=
  let im := (gzSlot s (gzScanSlot s j)).image
  let k := min (gzRate s 1000) (dSrcLen j - j.pos)
  let r := octetsIn s (dSrc j + j.pos) k 6
  match r.2 with
  | none => jobDone r.1 n esMemory
  | some d =>
    let s := r.1
    let c := tabGetD s.gz.ctxs (dCtx j) {}
    let a : Scan := if gzOneShot j then { st := j.aux1, off := j.consumed } else { st := c.state, off := c.offset }
    let room := (dDstCap j - j.produced) / 8
    let a := d.foldl (fun a x => scanStep im room a (auClass im x.toNat) 1) a
    let last := !a.full && j.pos + k == dSrcLen j
    let a := if last && gzFinish j then scanStep im room a (auClasses im) 0 else a
    let fin := last && gzFinish j && !a.full
    let w := octetsOut s (jobWriter j) (dDst j + j.produced) (a.recs.flatMap gzMatch)
    let s := jobMod w.1 n fun x => { x with
      pos := x.pos + k, consumed := x.consumed + a.used, produced := x.produced + 8 * a.recs.length
      aux0 := x.aux0 + a.recs.length }
    let s := gzScanKeep s n j (if fin then { a with st := 0, off := 0 } else a)
    if !w.2 then jobDone s n esMemory else if a.full then jobDone s n esFull else if last then jobDone s n esOk else s

/-- The slice of a scan on a lane: it loads its automaton first where the lane holds another (R597). -/
def gzScanSlice (s : State) (n lane : Nat) (j : Job) : State :=
  let sl := gzScanSlot s j
  if !(gzSlot s sl).loaded then jobDone s n esContext
  else if gzHolds s lane sl then gzScanGo s n j
  else
    let x := gzSlot s sl
    let w := j.written + gzRate s 16384
    let s := jobMod s n fun j => { j with written := w }
    if x.image.length ≤ w then gzMod s fun g => { g with lanes := tabSet g.lanes lane (sl, x.edition) } else s

/-! ## Slices (R578-R582) -/

/-- The slice of a search: keys in order, at most as many as the first number, while searches, the second, are left
(R578, R583, R589). -/
def gzSearchGo (n k : Nat) : Nat → Nat → State → State
  | 0, _, s => gzSearchEnd s n
  | _, 0, s => gzSearchEnd s n
  | fuel + 1, left + 1, s =>
    match jobGet s n, gzTab s k with
    | some j, some t =>
      if gzCount j ≤ j.pos then gzSearchEnd s n
      else
        let r := octetsIn s (dSrc j + 20 * j.pos) 20 6
        match r.2 with
        | none => jobDone r.1 n esMemory
        | some d =>
          let s := jobMod r.1 n fun x => { x with pos := x.pos + 1, consumed := x.consumed + 20 }
          if t.casc ≠ 0 then gzSearchGo n k fuel left (gzTake s n j.pos t (gzKey d))
          else
            let f := gzSearch s t (gzKey d)
            let s := gzAnswerPut f.1 n j.pos (f.2.1.map fun w => (w.1, w.2.prio, w.2.result)) false 0
            gzSearchGo n k fuel (left - (f.2.2 - 1)) s
    | _, _ => s

/-- The work of a slice of a running job. -/
def gzWork (s : State) (n lane : Nat) (j : Job) : State :=
  match gzOp j with
  | 1 => gzSearchGo n (gzObj j) (gzRate s 125) (gzRate s 125) s
  | 2 => gzInsertGo n (gzObj j) (gzCount j + 1) (gzRate s 32) s
  | 3 => gzDeleteGo n (gzObj j) (gzRate s 32) s
  | 4 => match gzTab s (gzObj j) with
    | some t => gzWalkGo s n j t
    | none => s
  | 5 =>
    let c := (gzOpenTarget s j).2
    let y : GzCtx := { parcel := j.parcel, pEdition := j.pEdition, slot := gzObj j }
    jobDone (jobMod (gzMod s fun g => { g with ctxs := tabSet g.ctxs c y }) n fun x => { x with ctx := c }) n esOk
  | 6 => gzScanSlice s n lane j
  | 7 => jobDone (gzMod s fun g => { g with ctxs := tabErase g.ctxs (dCtx j) }) n esOk
  | 8 => gzLoadGo s n j
  | _ => jobDone (gzMod s fun g => { g with slots := tabMod g.slots (gzObj j) fun x => { edition := x.edition } }) n esOk

/-- The object that a job's record names (R575). -/
def gzCtxOf (j : Job) : Nat := if gzOp j = 7 ∨ (gzOp j = 6 ∧ !gzOneShot j) then dCtx j else gzObj j

/-- A slice of a job on a port or lane: its token, its start, its work (R577, R578, R581). -/
def gzSlice (s : State) (n lane : Nat) : State :=
  match jobGet s n with
  | none => s
  | some j =>
    let s := match j.parcel with
      | some p => tokenSpend s p 2 1
      | none => s
    let s := ranPut s .gz (ranOf s .gz ++ [lane])
    let s := jobMod s n fun x => { x with lane := some lane, ranAt := some (frameNo s) }
    if j.phase = .waiting then
      let e := gzCheck s n j
      if e ≠ esOk then
        let s := jobMod s n fun x => { x with ctx := gzCtxOf j }
        if gzOp j = 8 then (if gzFields j then gzLoadFail s n j e else raise (jobDone s n e) 455) else jobDone s n e
      else
        let s := jobMod s n fun x => { x with phase := .running, ctx := gzCtxOf j }
        match jobGet s n with
        | some j => gzWork s n lane j
        | none => s
    else gzWork s n lane j

/-- Does an earlier job stand before this one: an edit or walk of its table, or a job of its context (R580)? A table that is
due to be respread holds its edits and walks (R587). -/
def gzBefore (s : State) (n : Nat) (j : Job) : Bool :=
  let live := fun (x : Job) => x.eng == .gz && (x.phase == .waiting || x.phase == .running)
  if 2 ≤ gzOp j && gzOp j ≤ 4 then
    ((gzTab s (gzObj j)).bind (·.spread)).isSome ||
      s.en.jobs.any fun e => e.1 != n && live e.2 && 2 ≤ gzOp e.2 && gzOp e.2 ≤ 4 && gzObj e.2 == gzObj j && decide (e.2.order < j.order)
  else if (gzOp j == 6 && !gzOneShot j) || gzOp j == 7 then
    s.en.jobs.any fun e => e.1 != n && live e.2 && 5 ≤ gzOp e.2 && gzOp e.2 ≤ 7 && dCtx e.2 == dCtx j && decide (e.2.order < j.order)
  else false

/-- May a job take a slice now? A search whose keys are all taken awaits its answers alone. -/
def gzEligible (s : State) (n : Nat) (j : Job) : Bool :=
  j.eng == .gz && (j.phase == .waiting || j.phase == .running) && j.ranAt != some (frameNo s)
    && !(gzOp j == 1 && j.phase == .running && decide (gzCount j ≤ j.pos))
    && (match j.parcel with
      | none => true
      | some p => tokenOk s p 2)
    && !gzBefore s n j

/-- Ports 0 to 7 are places 0 to 7, scan lanes 0 to 15 places 8 to 23 (R579, R612). -/
def gzPlaces (s : State) (j : Job) : List Nat :=
  if gzOnTable j then
    match gzTab s (gzObj j) with
    | some t => [2 * t.bank, 2 * t.bank + 1]
    | none => List.range 8
  else (List.range 16).map (8 + ·)

/-- The place a job takes: its own where it has started, else a free lane that holds its automaton, else the lowest free
one. -/
def gzPlaceFor (s : State) (j : Job) : Option Nat :=
  if j.phase = .running then j.lane
  else
    let fr := (gzPlaces s j).filter fun l => !gzTakenPlace s l
    let held := fr.find? fun l => gzOp j == 6 && gzHolds s l (gzScanSlot s j)
    match held with
    | some l => some l
    | none => fr.head?

/-- A job's own row: its slice on the place it takes. -/
def gzStep (s : State) (op n : Nat) : State :=
  match jobGet s n with
  | none => s
  | some j =>
    if gzOp j == op && gzEligible s n j then
      match gzPlaceFor s j with
      | none => s
      | some l => gzSlice s n l
    else s

/-- Jobs take their places one after another, at most `k` of them. -/
def gzTakeAll (s : State) : List Nat → Nat → State
  | [], _ => s
  | _, 0 => s
  | n :: t, k + 1 =>
    match jobGet s n with
    | none => gzTakeAll s t (k + 1)
    | some j =>
      match if gzEligible s n j then gzPlaceFor s j else none with
      | none => gzTakeAll s t (k + 1)
      | some l => gzTakeAll (gzSlice s n l) t k

/-- The oldest waiting scan of a parcel on the automaton that a free lane holds goes before the parcel's oldest job (R580). -/
def gzPrefer (s : State) (n : Nat) : Nat :=
  match jobGet s n with
  | none => n
  | some j =>
    if gzOnTable j then n
    else match gzPlaceFor s j with
      | none => n
      | some l =>
        let cs := byOrder s ((tabKeys s.en.jobs fun x => x.eng == .gz && x.parcel == j.parcel && x.phase == .waiting && gzOp x == 6
          && gzHolds s l (gzScanSlot s x)))
        (cs.find? fun m => ((jobGet s m).map (gzEligible s m)).getD false).getD n

/-- The passes over the parcels' waiting jobs (R350 step 4). -/
def gzPasses (s : State) : List Nat → State
  | [] => s
  | n :: t =>
    let m := gzPrefer s n
    let s := gzTakeAll s [m] 1
    let s := if m = n then s else gzTakeAll s [n] 1
    gzPasses s t

/-- Step 8 for the Gazetteer (R350, R580, R587, R590, R610). -/
def gzBoundary (s : State) : State :=
  let s := regPut s GZ_BUSY ((ranOf s .gz).map fun l => 2 ^ l).sum
  let s := ranPut s .gz []
  let r := gzRespreads s (s.gz.tabs.map (·.1)) (fwLanes s .gz)
  let s := r.1
  let el := (tabKeys s.en.jobs fun j => j.eng == .gz).filter fun n => ((jobGet s n).map (gzEligible s n)).getD false
  let started := fun n => ((jobGet s n).map fun j => j.phase == .running).getD false
  let dev := byOrder s (el.filter fun n => ((jobGet s n).map (·.parcel.isNone)).getD false)
  let own := el.filter fun n => !dev.contains n
  let s := gzTakeAll s (dev.filter started ++ dev.filter fun n => !started n) r.2
  let s := gzTakeAll s (byOrder s (own.filter started)) 24
  let s := gzPasses s (passes s (own.filter fun n => !started n) s.en.rotGz)
  let s := jobsEnd (rotNext s .gz) .gz
  (tabKeys s.gz.entries fun x => x.suspect && !x.parityBad).foldl gzRepair s

/-- An edit that a parcel reset drops first finishes the entry it is applying (R582). -/
def gzDropFinish (s : State) (n : Nat) : State :=
  match jobGet s n with
  | some j =>
    if j.eng = .gz ∧ j.phase = .running ∧ gzOp j = 2 ∧ j.written ≠ 0 then
      match gzTab s (gzObj j), (octetsIn s (dSrc j + 48 * j.pos) 48 6).2 with
      | some t, some d => (gzInsertOne s (gzObj j) t (gzImage d)).1
      | _, _ => s
    else s
  | none => s

/-! ## Commands -/

/-- SEARCH (R583, R589): a slice of a search, with the soft errors that struck before it. -/
def execSearch (job : Nat) (ups : List Upset) (s : State) : Res := .next (gzStep (ups.foldl gzUpset s) 1 job)
/-- INSERT (R585). -/
def execInsert (job : Nat) (s : State) : Res := .next (gzStep s 2 job)
/-- GZ_DELETE (R586). -/
def execGzDelete (job : Nat) (s : State) : Res := .next (gzStep s 3 job)
/-- WALK (R588). -/
def execWalk (job : Nat) (s : State) : Res := .next (gzStep s 4 job)
/-- OPEN_SCAN_CONTEXT (R598). -/
def execOpenScanContext (job : Nat) (s : State) : Res := .next (gzStep s 5 job)
/-- SCAN (R595). -/
def execScan (job : Nat) (s : State) : Res := .next (gzStep s 6 job)
/-- CLOSE_SCAN_CONTEXT (R598). -/
def execCloseScanContext (job : Nat) (s : State) : Res := .next (gzStep s 7 job)
/-- LOAD_AUTOMATON (R594). -/
def execLoadAutomaton (job : Nat) (s : State) : Res := .next (gzStep s 8 job)
/-- UNLOAD_AUTOMATON (R592). -/
def execUnloadAutomaton (job : Nat) (s : State) : Res := .next (gzStep s 9 job)

/-! ## Temperature (R600, R601, R611) -/

/-- The rate level that follows a reading in °C (R600). -/
def gzLevel (old : Nat) (c : Int) : Nat :=
  if 105 < c then 2
  else if old = 2 then (if c ≤ 102 then 1 else 2)
  else if old = 1 then (if c ≤ 97 then 0 else 1)
  else if 100 < c then 1 else 0

/-- The Gazetteer reads its sensor, and sets its rate level (R600, R601, R611). -/
def gzTemp (s : State) (reading : Option Nat) : State :=
  let s := match reading with
    | none => s
    | some v =>
      let old := regFld s GZ_THROTTLE 31 30
      let c : Int := if v % 256 < 128 then v % 256 else (v % 256 : Int) - 256
      let new := gzLevel old c
      let s := regPutFld (regPutFld s GZ_THROTTLE 23 16 (v % 256)) GZ_THROTTLE 31 30 new
      if new = old then s else raise (regPutBit s GZ_THROTTLE 29 true) 451
  if regFld s GZ_THROTTLE 31 30 = 0 then s
  else regPutFld s GZ_THROTTLE 15 0 (min 0xFFFF (regFld s GZ_THROTTLE 15 0 + 1))

/-- GZ_THROTTLE_READ (R611): LIMITED is cleared by the read. -/
def execGzThrottleRead (s : State) : Res :=
  .next (regPutFld (emit s (.regRead GZ_THROTTLE (regRaw s GZ_THROTTLE))) GZ_THROTTLE 15 0 0)

/-! ## Views (R610, R612, R615) -/

def gzUsed (s : State) : Nat := s.gz.entries.length
def gzSuspects (s : State) : Nat := tabCount s.gz.entries fun x => x.suspect
def gzTableLo (s : State) (k : Nat) : Nat :=
  match gzTab s k with
  | none => 0
  | some t => 2 ^ 31 + b2n t.owner.isNone * 2 ^ 30 + t.owner.getD 0 % 1024 * 2 ^ 20 + t.bank % 4 * 2 ^ 18 + (gzValid s t).length
def gzTableHi (s : State) (k : Nat) : Nat :=
  match gzTab s k with
  | none => 0
  | some t => t.casc % 16 * 2 ^ 28 + Nat.log2 t.hole % 16 * 2 ^ 24 + t.base / 64 % 1024 * 2 ^ 10 + (t.cap / 64 - 1) % 1024

/-! ## Tables and quotas: the manager's packets (R568, R570, R592, R724) -/

/-- The first span of a bank that is free for a capacity. -/
def gzSpan (s : State) (cap : Nat) : Option (Nat × Nat) :=
  ((List.range 4).flatMap fun b => (List.range 1024).map fun k => (b, 64 * k)).find? fun x =>
    x.2 + cap ≤ 65536 && s.gz.tabs.all fun e => e.2.bank != x.1 || decide (x.2 + cap ≤ e.2.base) || decide (e.2.base + e.2.cap ≤ x.2)

/-- The entries of a table are zeroized. -/
def gzZeroize (s : State) (t : GzTab) : State :=
  gzMod s fun g => { g with entries := tabFilter g.entries fun e _ => !(decide (gzLo t ≤ e) && decide (e < gzHi t)) }

/-- A table is gone with its entries. -/
def gzTableGone (s : State) (k : Nat) : State :=
  match gzTab s k with
  | none => s
  | some t => gzMod (gzZeroize s t) fun g => { g with tabs := tabErase g.tabs k }

/-- Has a table a job that has started and not written its record (R570)? -/
def gzTableBusy (s : State) (k : Nat) : Bool :=
  s.en.jobs.any fun e => e.2.eng == .gz && (e.2.phase == .running || e.2.phase == .done) && gzOnTable e.2 && gzObj e.2 == k

/-- A parcel's Gazetteer state goes at its retirement (R570, R592). -/
def gzRetire (s : State) (p : Nat) : State :=
  let s := (tabKeys s.gz.tabs fun t => t.owner == some p).foldl gzTableGone s
  gzMod s fun g => { g with
    slots := tabMap g.slots fun _ x => if x.owner == some p then { edition := x.edition } else x
    ctxs := tabFilter g.ctxs fun _ c => c.parcel != some p
    limits := tabErase g.limits p }

end Sys2Proof.Machine
end

