-- ==== Sys2Proof/Machine/Cascade.lean ====
section
/-! DEFINITION. Chapter 11, the cascade: the ring, marks and batches, the match chain, answers, membership (R602-R609,
R614). -/
namespace Sys2Proof.Machine

/-- A mark's 16 octets (R608). -/
def markOctets (m : Mark) : Bytes :=
  let c := m.change.getD (0, 0, 0)
  leBytes 4 m.frame ++ leBytes 1 m.epoch ++ leBytes 1 m.members ++ leBytes 1 m.batch
    ++ leBytes 1 (b2n m.change.isSome + m.period % 4 * 2 + m.level % 4 * 8)
    ++ leBytes 1 c.1 ++ leBytes 1 c.2.1 ++ zeros 2 ++ leBytes 4 c.2.2

/-- What the octets of a mark say (R608). -/
def markOf (d : Bytes) : Mark :=
  let fl := leAt d 7 1
  { frame := leAt d 0 4, epoch := leAt d 4 1, members := leAt d 5 1, batch := leAt d 6 1
    change := if bitOf fl 0 then some (leAt d 8 1, leAt d 9 1, leAt d 12 4) else none
    period := bitsOf fl 2 1, level := bitsOf fl 4 3 }

/-- A mark goes out on the ring, its CRC-32 behind it (R608). -/
def markSend (s : State) (m : Mark) : State := emit s (.mark (markOctets m) (crc32 (markOctets m)))

def cascMod (s : State) (f : CascSt → CascSt) : State := gzMod s fun g => { g with casc := f g.casc }

/-- This device's position on the ring, and whether it is the head. -/
def cascPos (s : State) : Nat := regFld s GZ_CASCADE 26 24
def cascHead (s : State) : Bool := s.gz.casc.role == 2

/-- The last position on the ring. -/
def cascLast (s : State) : Nat := Nat.log2 (max 1 (regFld s GZ_CASCADE 23 16))

/-- CASCADE_LINK_TRAINED (R602, R614): positions on the ring and this device's own; the head is position 0. -/
def cascTrained (s : State) (pos present : Nat) : State :=
  if s.gz.casc.role = 0 then s
  else
    let s := regPutBit (regPutBit s GZ_CASCADE 31 true) GZ_CASCADE 30 (cascHead s)
    let s := regPutFld (regPutFld s GZ_CASCADE 26 24 (if cascHead s then 0 else pos)) GZ_CASCADE 23 16 present
    cascMod s fun c => { c with retrain := false, lastMark := frameNo s }
def execCascadeLinkTrained (position present : Nat) (s : State) : Res := .next (cascTrained s position present)

/-- Searches a batch may hold at a rate level (R578, R601). -/
def cascBatch (s : State) (level : Nat) : Nat :=
  max 1 ((match periodNs s with
    | 250 => 62
    | 1000 => 250
    | _ => 125) / 2 ^ level)

/-- The answer of a search of this device is written (R605, R606). -/
def cascAnswer (s : State) (a : CascAnswer) : State :=
  match jobGet s a.job with
  | none => s
  | some j =>
    if j.awaits.contains a.idx then
      gzSearchEnd (gzAnswerPut s a.job a.idx (a.entry.map fun e => (e, a.prio, a.result)) false a.position) a.job
    else s

/-- Every search of this device that waits is answered INCOMPLETE (R609). -/
def cascIncomplete (s : State) : State :=
  let js := tabKeys s.en.jobs fun j => j.eng == .gz && !j.awaits.isEmpty
  let s := js.foldl (fun s n =>
    let s := (((jobGet s n).map (·.awaits)).getD []).foldl (fun s i => gzAnswerPut s n i none true 0) s
    gzSearchEnd s n) s
  cascMod s fun c => { c with taken := [], open_ := none, batches := [], searched := false }

/-- A mark missing for 2 frames, or a batch with a CRC error (R609): its searches end INCOMPLETE, FAULT is set with event
452, and the link retrains. -/
def cascMissing (s : State) : State :=
  let s := cascIncomplete s
  let s := regPutBit (regPutBit (regInc s GZ_CASCADE_ERR) GZ_CASCADE 28 true) GZ_CASCADE 31 false
  raise (cascMod s fun c => { c with retrain := true }) 452
/-- CASCADE_MARK_MISSING (R609). -/
def execCascadeMarkMissing (s : State) : Res := .next (if gzLinkUp s then cascMissing s else s)

/-- The announced change takes effect at boundary H (R607): membership and epoch, event 453, and the head's reply. -/
def cascEffect (s : State) : State :=
  match s.gz.casc.change with
  | none => s
  | some (mask, ep, h) =>
    let now := if cascHead s then some (frameNo s) else s.gz.casc.open_.map (·.frame)
    if (now.map fun n => decide (2 ^ 31 ≤ (n + 2 ^ 32 - h) % 2 ^ 32)).getD true then s
    else
      let s := regPutFld (regPutFld s GZ_CASCADE 15 8 mask) GZ_CASCADE 7 0 ep
      let s := raise (regPutBit s GZ_CASCADE 29 (bitOf mask (cascPos s))) 453
      let pk := s.gz.casc.changePacket
      let s := cascMod s fun c => { c with change := none, changePacket := none }
      match pk with
      | some n => pkReply s n .ok [BitVec.ofNat 8 ep]
      | none => s
/-- CASCADE_MEMBERSHIP_EFFECT (R607). -/
def execCascadeMembershipEffect (s : State) : Res := .next (cascEffect s)

/-- The head's mark at a boundary (R605, R608); it opens the batch of its frame. -/
def cascMark (s : State) : State :=
  if !cascHead s || !gzLinkUp s then s
  else
    let own := regFld s GZ_THROTTLE 31 30
    let m : Mark := { frame := frameNo s % 2 ^ 32, epoch := regFld s GZ_CASCADE 7 0, members := regFld s GZ_CASCADE 15 8
                      batch := cascBatch s (max own s.gz.casc.level), change := s.gz.casc.change
                      period := regFld s FR_FRAME_PERIOD 1 0, level := own }
    markSend (cascMod s fun c => { c with open_ := some m, searched := false }) m

/-- A mark arrives (R603, R608, R609): its octets and the CRC behind them; a bad CRC counts as missing; another period is a fault; the head takes the level of
its returning mark; a member forwards it with its own level where slower, and opens its batch. -/
def cascMarkIn (s : State) (octets : Bytes) (crc : Nat) : State :=
  let m := markOf octets
  if s.gz.casc.role = 0 then s
  else if octets.length ≠ 16 ∨ crc32 octets ≠ crc then (if gzLinkUp s then cascMissing s else s)
  else if m.period ≠ regFld s FR_FRAME_PERIOD 1 0 then
    let s := cascIncomplete s
    raise (regPutBit (regPutBit s GZ_CASCADE 28 true) GZ_CASCADE 31 false) 452
  else
    let s := cascMod s fun c => { c with lastMark := frameNo s }
    if cascHead s then cascMod s fun c => { c with level := m.level }
    else
      let own := regFld s GZ_THROTTLE 31 30
      let s := markSend s { m with level := max m.level own }
      let s := cascMod s fun c => { c with open_ := some m, searched := false
                                           change := if m.change.isSome then m.change else c.change }
      cascEffect s
def execCascadeMarkReceived (octets : Bytes) (crc : Nat) (s : State) : Res := .next (cascMarkIn s octets crc)

/-- Is this device a member for the open batch (R608)? -/
def cascIn (s : State) : Bool := ((s.gz.casc.open_).map fun m => bitOf m.members (cascPos s)).getD false

/-- The table of a cascade number here, if any (R604). -/
def cascTable (s : State) (k : Nat) : Option GzTab := ((s.gz.tabs.find? fun e => e.2.casc == k).map (·.2))

/-- The open batch is searched (R605 step 1): the local winner of each key; a device that is no member, or has no such
table, has no hit (R604, R607). Keys of this device in the batch are taken off its list. -/
def cascSearch (s : State) (keys : List CascKey) : State :=
  match s.gz.casc.open_ with
  | none => s
  | some m =>
    let ks := keys.take m.batch
    let r := ks.foldl (fun (a : State × List (CascKey × Option (Nat × Nat × Word))) k =>
      match (if cascIn a.1 then cascTable a.1 k.casc else none) with
      | none => (a.1, a.2 ++ [(k, none)])
      | some t =>
        let f := gzSearch a.1 t k.key
        (f.1, a.2 ++ [(k, f.2.1.map fun w => (w.1, w.2.prio, w.2.result))])) (s, [])
    cascMod r.1 fun c => { c with batches := c.batches ++ [r.2], searched := true
                                  taken := c.taken.filter fun k => !ks.contains k }
def execCascadeBatchSearch (keys : List CascKey) (s : State) : Res :=
  .next (if gzLinkUp s && !s.gz.casc.searched then cascSearch s keys else s)

/-- An answer leaves for its origin, or is written where this device is the origin. -/
def cascSend (s : State) (a : CascAnswer) : State :=
  if a.origin = cascPos s then cascAnswer s a else emit s (.casc a)

/-- One search of the match chain (R605 steps 2 to 4): GZ_MO is the OR of the own hit and GZ_MI; the first hit answers, and
the last position answers a miss. -/
def cascDrive (s : State) (k : CascKey) (hit : Option (Nat × Nat × Word)) (mi : Bool) : State :=
  let s := emit s (.pin 2 (hit.isSome || mi))
  match hit with
  | some (e, p, r) => if mi then s else cascSend s ⟨k.origin, k.job, k.idx, cascPos s, some e, p, r⟩
  | none => if !mi && cascPos s == cascLast s then cascSend s ⟨k.origin, k.job, k.idx, 0, none, 0, 0⟩ else s

/-- MATCH_CHAIN_DRIVE (R605): the oldest batch searched; position 0 sees GZ_MI low (R602). -/
def cascChain (s : State) (mi : List Bool) : State :=
  match s.gz.casc.batches with
  | [] => s
  | b :: rest =>
    let bit := fun k => if cascPos s = 0 then false else mi.getD k false
    ((List.range b.length).zip b).foldl (fun s x => cascDrive s x.2.1 x.2.2 (bit x.1)) (cascMod s fun c => { c with batches := rest })
def execMatchChainDrive (mi : List Bool) (s : State) : Res := .next (cascChain s mi)

/-- CASCADE_ANSWER_RECEIVED (R605): written at its origin, forwarded elsewhere. -/
def execCascadeAnswerReceived (a : CascAnswer) (s : State) : Res := .next (cascSend s a)

/-- The ring at a boundary: a mark missing for 2 frames (R609), then the head's mark (R605). -/
def cascBoundary (s : State) : State :=
  let s := if gzLinkUp s && decide (s.gz.casc.lastMark + 3 ≤ frameNo s) then cascMissing s else s
  cascMark s

end Sys2Proof.Machine
end

