-- ==== Sys2Proof/Machine/Dma.lean ====
section
/-! DEFINITION. Chapter 13, the DMA channels: descriptors, the start and its checks, moving, stopping, completion records
and queues (R662-R682). -/
namespace Sys2Proof.Machine

def dmaGet (s : State) (c : Nat) : DmaCh := tabGetD s.ev.chans c {}
def dmaMod (s : State) (c : Nat) (f : DmaCh → DmaCh) : State :=
  { s with ev := { s.ev with chans := tabModD s.ev.chans c {} f } }

/-! ## Channel states and queues (R674, R677, R679, R681) -/

def dmaIdle : Nat := 0
def dmaBusy : Nat := 1
def dmaWait : Nat := 2
def dmaHalted : Nat := 3
def dmaState (s : State) (c : Nat) : Nat := regFld s (DX_STATUS c) 31 30
def dmaStatePut (s : State) (c v : Nat) : State := regPutFld s (DX_STATUS c) 31 30 v
def dmaRunning (s : State) (c : Nat) : Bool := dmaState s c == dmaBusy || dmaState s c == dmaWait
def dmaRefuse (s : State) (c : Nat) : State := regPutBit s (DX_STATUS c) 4 true

/-- Is the channel the manager's (R662)? -/
def dmaManager (c : Nat) : Bool := 32 ≤ c && c < 64

def dxPair (s : State) (lo hi : Nat) : Nat := regNat s lo + regNat s hi * 2 ^ 32
def cqSize (s : State) (c : Nat) : Nat := regFld s (DX_CQ_CFG c) 4 0
def cqRing (s : State) (c : Nat) : Nat := 2 ^ cqSize s c
def cqBase (s : State) (c : Nat) : Nat := dxPair s (DX_CQ_BASE_LO c) (DX_CQ_BASE_HI c)
def cqHost (s : State) (c : Nat) : Bool := regBit s (DX_CQ_CFG c) 31
def cqTail (s : State) (c : Nat) : Nat := regFld s (DX_CQ_TAIL c) 15 0

/-- Is the completion queue full (R677)? -/
def dmaFull (s : State) (c : Nat) : Bool := (cqTail s c + 1) % cqRing s c == regFld s (DX_CQ_HEAD c) 15 0 % cqRing s c

/-- A span in one region of class S or L. -/
def octetRegion (s : State) (a n : Nat) : Bool := spanClass s a n == some 1 || spanClass s a n == some 2

/-- Is a valid queue set up (R674, R681): a size of 16 to 65,536 entries, its base in place? -/
def cqOk (s : State) (c : Nat) : Bool :=
  4 ≤ cqSize s c && cqSize s c ≤ 16 && cqBase s c % 32 == 0
    && (cqHost s c || octetRegion s (cqBase s c) (32 * cqRing s c))

/-- BUSY, or WAIT_CQ with event 499 where the queue is full (R674). -/
def dmaReady (s : State) (c : Nat) : State :=
  let s := dmaMod s c fun x => { x with since := frameNo s }
  if dmaFull s c then
    if dmaState s c = dmaWait then s else raise (regPutBit (dmaStatePut s c dmaWait) (DX_STATUS c) 3 true) 499
  else dmaStatePut s c dmaBusy

/-- The channel returns to IDLE: IDLE_SEEN, event 498. -/
def dmaToIdle (s : State) (c : Nat) : State :=
  let s := regPutBit (dmaStatePut s c dmaIdle) (DX_STATUS c) 29 false
  raise (regPutBit (dmaMod s c fun x => { x with next := none }) (DX_STATUS c) 2 true) 498

/-- The channel enters HALTED: HALT_SEEN, LAST_REASON, event 497. -/
def dmaToHalt (s : State) (c why : Nat) : State :=
  let s := regPutFld (regPutBit (dmaStatePut s c dmaHalted) (DX_STATUS c) 29 false) (DX_STATUS c) 23 16 why
  raise (regPutBit (dmaMod s c fun x => { x with next := none }) (DX_STATUS c) 1 true) 497

/-! ## GO, STOP and the queue registers (R668, R670, R674, R677, R681) -/

/-- DMA_GO (R668, R674, R678): a write of DX_CTRL with GO. After PWR_FAIL_N GO is ignored (R672), the RW fields are not (R14). -/
def dmaGo (s : State) (c v : Nat) : State :=
  if !dmaManager c then s
  else if dmaRunning s c then dmaRefuse s c
  else if s.ev.powerFail then regWrite s (DX_CTRL c) v
  else
    let s := regWrite s (DX_CTRL c) v
    let chain := regBit s (DX_CTRL c) 29
    let cnt := regFld s (DX_COUNT c) 24 0
    if !cqOk s c || (cnt == 0 && !chain) then dmaRefuse s c
    else
      let n := if cnt ≠ 0 then DmaNext.register else .memory (dxPair s (DX_NEXT_LO c) (DX_NEXT_HI c))
      dmaReady (dmaMod s c fun x => { x with next := some n }) c
def execDmaGo (ch value : Nat) (s : State) : Res := .next (dmaGo s ch value)

/-- DMA_STOP (R670, R674): a waiting start is cancelled; a descriptor in progress runs to its end. -/
def dmaStop (s : State) (c : Nat) : State :=
  if !dmaManager c || !dmaRunning s c then s
  else if (dmaGet s c).cur.isNone then dmaToIdle s c
  else regPutBit s (DX_STATUS c) 29 true
def execDmaStop (ch : Nat) (s : State) : Res := .next (dmaStop s ch)

/-- DX_CQ_HEAD_WRITE (R677): a value outside the ring is refused; a freed entry lets a waiting channel go on. Bits 31:16 are
reserved (R681). -/
def dmaHead (s : State) (c v : Nat) : State :=
  if !dmaManager c then s
  else if cqRing s c ≤ v % 65536 then dmaRefuse s c
  else
    let s := regPutFld s (DX_CQ_HEAD c) 15 0 v
    if dmaState s c = dmaWait ∧ !dmaFull s c then dmaReady s c else s
def execDxCqHeadWrite (ch value : Nat) (s : State) : Res := .next (dmaHead s ch value)

/-- DX_CQ_CONFIG_WRITE (R681): DX_CQ_BASE_LO, _HI or DX_CQ_CFG by its offset in the channel page; TAIL is cleared and PHASE
set. A running channel refuses it (R674). -/
def dmaConfig (s : State) (c off v : Nat) : State :=
  if !dmaManager c || !([0x28, 0x2C, 0x30] : List Nat).contains off then s
  else if dmaRunning s c then dmaRefuse s c
  else regPut (regWrite s (DX_CTRL c + off) v) (DX_CQ_TAIL c) 0x10000
def execDxCqConfigWrite (ch reg value : Nat) (s : State) : Res := .next (dmaConfig s ch reg value)

/-- Any other write of a channel's page (R663, R674). -/
def dmaWrite (s : State) (c a v : Nat) : State :=
  if !dmaManager c then s else if dmaRunning s c then dmaRefuse s c else regWrite s a v

/-! ## Descriptors (R664-R667, R680) -/

def attrParcel (a : Nat) : Option Nat := if bitOf a 31 then some (bitsOf a 25 16) else none
def attrCtx (a : Nat) : Nat := bitsOf a 15 8
def attrSnoop (a : Nat) : Bool := bitOf a 7
def attrWords (a : Nat) : Bool := bitOf a 6
def attrSrcHost (a : Nat) : Bool := bitOf a 5
def attrDstHost (a : Nat) : Bool := bitOf a 4

/-- The register descriptor (R664, R678). -/
def dmaRegDesc (s : State) (c : Nat) : Desc :=
  { reg := true, addr := 0, src := dxPair s (DX_SRC_LO c) (DX_SRC_HI c), dst := dxPair s (DX_DST_LO c) (DX_DST_HI c)
    count := regFld s (DX_COUNT c) 24 0, attr := regNat s (DX_ATTR c)
    func := regFld s (DX_CTRL c) 25 16 + b2n (regBit s (DX_CTRL c) 27) * 2 ^ 15
    nextValid := regBit s (DX_CTRL c) 29, event := regBit s (DX_CTRL c) 28
    next := dxPair s (DX_NEXT_LO c) (DX_NEXT_HI c), tag := 0 }

/-- A memory descriptor (R665). -/
def dmaMemDesc (a : Nat) (d : Bytes) : Desc :=
  { reg := false, addr := a, src := leAt d 0 8, dst := leAt d 8 8, count := leAt d 16 4, attr := leAt d 20 4
    func := leAt d 24 2, nextValid := bitOf (leAt d 26 1) 0, event := bitOf (leAt d 26 1) 1, next := leAt d 32 8
    tag := leAt d 40 8 }

/-- Octets of an end. -/
def descOctets (d : Desc) : Nat := if attrWords d.attr then 4 * d.count else d.count

/-- Are the fields of a descriptor in range (R665-R667 order 2)? A snoop context is 2 to 255 (R680). `rsvd` says that the octets shown as 0 are. -/
def descFields (d : Desc) (rsvd : Bool) : Bool :=
  rsvd && 1 ≤ d.count && d.count ≤ 16777216 && bitsOf d.attr 30 26 == 0 && bitsOf d.attr 3 0 == 0
    && bitsOf d.func 14 10 == 0 && bitsOf d.func 9 0 ≤ 511
    && (attrSrcHost d.attr || decide (d.src < 2 ^ 44)) && (attrDstHost d.attr || decide (d.dst < 2 ^ 44))
    && d.next % 64 == 0 && decide (d.next < 2 ^ 44) && d.func == 0 && (!attrSnoop d.attr || decide (2 ≤ attrCtx d.attr))
    && (!attrWords d.attr || (!attrSrcHost d.attr && !attrDstHost d.attr && !attrSnoop d.attr && d.src % 4 == 0 && d.dst % 4 == 0))

/-- Does a device span satisfy R666: one DRAM region of the right class, or one scratchpad way? -/
def descSpan (s : State) (words : Bool) (a n : Nat) : Bool :=
  if words then spanClass s a n == some classW
  else if isScratch a then scratchLive s a && scratchWay a == scratchWay (a + n - 1) && scratchCluster a == scratchCluster (a + n - 1)
  else octetRegion s a n

/-- May a descriptor's snoop feed its context (R388)? -/
def snoopOk (s : State) (d : Desc) : Bool :=
  match tabGet s.en.dg (attrCtx d.attr) with
  | none => false
  | some x => (x.st == .opened || x.st == .finished) && x.parcel == attrParcel d.attr
      && (x.parcel.isNone || x.pEdition == d.edition)

/-- The checks of a start, orders 2 to 5 (R667). -/
def descCheck (s : State) (d : Desc) (rsvd : Bool) : Nat :=
  let n := descOctets d
  let w := attrWords d.attr
  if !descFields d rsvd then 1
  else if (match attrParcel d.attr with
    | some p => [PState.vacant, .resetting, .enabling, .retiring].contains (parGet s p).st
    | none => false) then 7
  else if !(attrSrcHost d.attr || descSpan s w d.src n) || !(attrDstHost d.attr || descSpan s w d.dst n) then 4
  else if attrSnoop d.attr && !snoopOk s d then 5
  else 0

/-! ## Records (R675, R676) -/

def dmaDone (s : State) (c : Nat) : Nat := regFld s (DX_DONE c) 24 0

/-- The record of the descriptor that has ended (R675). -/
def dmaRecord (s : State) (c : Nat) (d : Desc) (st why : Nat) (cut : Bool) : Bytes :=
  [BitVec.ofNat 8 st, BitVec.ofNat 8 why, BitVec.ofNat 8 c,
      BitVec.ofNat 8 (b2n cut + 2 * b2n d.reg + 4 * b2n (attrSnoop d.attr) + 128 * b2n (regBit s (DX_CQ_TAIL c) 16))]
    ++ leBytes 4 (dmaDone s c) ++ leBytes 8 d.tag ++ leBytes 8 (if d.reg then 0 else d.addr) ++ leBytes 8 (frameNo s)

/-- The record of an ended descriptor is written at TAIL once it can be (R673, R676, R677), with CHAIN_CUT where a stop is pending
(R670), and the channel goes on: to the next descriptor, to IDLE, or to HALTED (R674). -/
def dmaRecordWrite (s : State) (c : Nat) : State :=
  let x := dmaGet s c
  match x.cur, x.ended with
  | some d, some (st, why) =>
    if cqHost s c && !(fnGet s 0).bme then s
    else
      let cut := st == 0 && regBit s (DX_STATUS c) 29
      let r := dmaRecord s c d st why cut
      let a := cqBase s c + 32 * cqTail s c
      let s := if cqHost s c then emit s (.host 0 a r) else (octetsOut s ⟨7, 0⟩ a r).1
      let t := cqTail s c + 1
      let s := if t = cqRing s c then
          regPutBit (regPutFld s (DX_CQ_TAIL c) 15 0 0) (DX_CQ_TAIL c) 16 (!regBit s (DX_CQ_TAIL c) 16)
        else regPutFld s (DX_CQ_TAIL c) 15 0 t
      let s := dmaMod s c fun x => { x with cur := none, ended := none, records := x.records + 1 }
      let s := if d.event then raise (regPutBit s (DX_STATUS c) 0 true) 496 else s
      if st = 2 then dmaToHalt s c why
      else if st = 1 ∨ cut ∨ !d.nextValid then dmaToIdle s c
      else dmaReady (dmaMod s c fun x => { x with next := some (.memory d.next) }) c
  | _, _ => s

/-- A descriptor ends with a status and reason; its record is written when it can be. -/
def dmaEnd (s : State) (c st why : Nat) : State := dmaRecordWrite (dmaMod s c fun x => { x with ended := some (st, why) }) c

/-! ## Moving (R669, R671, R388) -/

/-- Units a channel moves in a frame (R669, R388). -/
def dmaRate (s : State) (d : Desc) : Nat :=
  let k := periodNs s / 250
  if attrSnoop d.attr then 1000 * k else if attrWords d.attr then 1024 * k else 4096 * k

/-- Units of a span before its first uncorrectable line. -/
def cleanUnits (s : State) (words : Bool) (a n : Nat) : Nat :=
  let u := unitOf words
  match (spanLines a (u * n)).find? (poisoned s) with
  | some l => min n ((64 * l - a) / u)
  | none => n
where
  unitOf (w : Bool) : Nat := if w then 4 else 1

/-- The next `k` units of the descriptor in progress move, `host` giving the octets a host source answers with. An
uncorrectable line, or a snoop context that leaves its state, halts the channel there (R671). -/
def dmaMove (s : State) (c k : Nat) (host : Bytes) : State :=
  match (dmaGet s c).cur, (dmaGet s c).ended with
  | some d, none =>
    let at' := dmaDone s c
    let k := min k (d.count - at')
    let w := attrWords d.attr
    if k = 0 then s
    else if w then
      let m := cleanUnits s true (d.src + 4 * at') k
      let r := wordsIn s (d.src + 4 * at') m 7
      let ws := r.2.getD []
      let s := lineWrites (wordsStore (dramPostAll r.1 (d.dst + 4 * at') (4 * m) 7) (d.dst + 4 * at') ws) (d.dst + 4 * at') (4 * m) 0
      let s := regPutFld s (DX_DONE c) 24 0 (at' + m)
      if m < k then dmaEnd (wordsIn s (d.src + 4 * (at' + m)) 1 7).1 c 2 3 else s
    else
      let m := if attrSrcHost d.attr || isScratch d.src then k else cleanUnits s false (d.src + at') k
      let r := if attrSrcHost d.attr then (s, some (slice host 0 m)) else octetsIn s (d.src + at') m 7
      let o := r.2.getD []
      let f := if attrSnoop d.attr then
          (if snoopOk r.1 d then dgFeed r.1 (attrCtx d.attr) o false else (r.1, 0, false))
        else (r.1, o.length, true)
      let o := o.take f.2.1
      let s := if attrDstHost d.attr then emit f.1 (.host 0 (d.dst + at') o) else (octetsOut f.1 ⟨7, 0⟩ (d.dst + at') o).1
      let s := regPutFld s (DX_DONE c) 24 0 (at' + o.length)
      if !f.2.2 then dmaEnd s c 2 5
      else if m < k then dmaEnd (octetsIn s (d.src + at' + m) 1 7).1 c 2 3
      else s
  | _, _ => s

/-! ## The start (R667, R668) -/

/-- A descriptor takes the channel: it counts as started, and its checks end it as halted or let it run. -/
def dmaBegin (s : State) (c : Nat) (d : Desc) (why : Nat) : State :=
  let d := match attrParcel d.attr with
    | some p => { d with edition := (parGet s p).edition }
    | none => d
  let s := dmaMod s c fun x =>
    { x with cur := some d, next := none, started := x.started + 1, room := 0 }
  let s := regPutFld s (DX_DONE c) 24 0 0
  if why ≠ 0 then dmaEnd (if why = 4 then wrongKind s else s) c 2 why else s

/-- The checks of a descriptor, under the edition it would record. -/
def dmaWhy (s : State) (d : Desc) (rsvd : Bool) : Nat :=
  descCheck s (match attrParcel d.attr with
    | some p => { d with edition := (parGet s p).edition }
    | none => d) rsvd

/-- A channel starts its next descriptor, at a boundary after the frame in which it fell due: at most one a frame, with an entry of
its queue reserved (R667, R668). -/
def dmaStart (s : State) (c : Nat) : State :=
  let x := dmaGet s c
  if dmaState s c ≠ dmaBusy ∨ x.cur.isSome ∨ frameNo s ≤ x.since then s
  else match x.next with
    | none => s
    | some .register => let d := dmaRegDesc s c; dmaBegin s c d (dmaWhy s d true)
    | some (.memory a) =>
      let blank : Desc := { reg := false, addr := a, src := 0, dst := 0, count := 0, attr := 0, func := 0, nextValid := false,
                            event := false, next := 0, tag := 0 }
      if !octetRegion s a 64 then dmaBegin s c blank 2
      else
        let r := octetsIn s a 64 7
        match r.2 with
        | none => dmaBegin r.1 c blank 2
        | some o =>
          let d := dmaMemDesc a o
          dmaBegin r.1 c d (dmaWhy r.1 d (a % 64 == 0 && bitsOf (leAt o 26 1) 7 2 == 0 && leAt o 27 5 == 0 && leAt o 48 16 == 0))
def execDmaDescriptorStart (ch : Nat) (s : State) : Res := .next (dmaStart s ch)

/-! ## Ends (R670-R673, R676) -/

/-- Do host requests of a descriptor hold (R68, R673)? -/
def dmaHeld (s : State) (d : Desc) : Bool := (attrSrcHost d.attr || attrDstHost d.attr) && !(fnGet s 0).bme

/-- The descriptor in progress goes on to `n` units, no further than its frames allow, octets of a host source being free values:
no command brings those that arrived before a descriptor is cut short (log 3). -/
def dmaMoveTo (s : State) (c n : Nat) : State :=
  let k := min n (dmaGet s c).room - dmaDone s c
  let host := (List.range k).map fun i => BitVec.ofNat 8 (Config.freeNat (s.fresh + i))
  dmaMove { s with fresh := s.fresh + k } c k host

/-- A descriptor cut short by a reset or a power failure (R672, R673). How much of a host source has arrived is a free value (log 3). -/
def dmaCut (s : State) (c st why : Nat) : State :=
  let s := match (dmaGet s c).cur with
    | some d => if attrSrcHost d.attr then
        let r := takeFree s
        dmaMoveTo r.2 c (r.1 % (d.count + 1)) else s
    | none => s
  if (dmaGet s c).cur.isSome && (dmaGet s c).ended.isNone then dmaEnd s c st why else s

/-- DMA_DESCRIPTOR_END (R676): what is left moves, with the octets that the host answered, and the record follows. Nothing
before the frames that its units take have passed. -/
def dmaFinish (s : State) (c : Nat) (host : Bytes) : State :=
  match (dmaGet s c).cur, (dmaGet s c).ended with
  | some d, none =>
    if dmaHeld s d || decide ((dmaGet s c).room < d.count) || (attrSrcHost d.attr && decide (host.length < d.count)) then s
    else
      let s := dmaMove s c d.count (host.drop (dmaDone s c))
      if (dmaGet s c).cur.isSome && (dmaGet s c).ended.isNone then dmaEnd s c 0 0 else s
  | _, _ => s
def execDmaDescriptorEnd (ch : Nat) (hostData : Bytes) (s : State) : Res := .next (dmaFinish s ch hostData)

/-- Reason codes of a halt (R671). -/
def haltCode : DmaHalt → Nat
  | .memory => 3
  | .host => 6
  | .snoop => 5

/-- DMA_DESCRIPTOR_HALT (R671): `done` units stand written when the fault occurs. -/
def dmaHalt (s : State) (c : Nat) (why : DmaHalt) (done : Nat) : State :=
  match (dmaGet s c).cur, (dmaGet s c).ended with
  | some d, none =>
    let s := dmaMoveTo s c (min done d.count)
    if (dmaGet s c).cur.isSome && (dmaGet s c).ended.isNone then dmaEnd s c 2 (haltCode why) else s
  | _, _ => s
def execDmaDescriptorHalt (ch : Nat) (why : DmaHalt) (done : Nat) (s : State) : Res := .next (dmaHalt s ch why done)

/-- Channels with a descriptor in progress for which `p` holds. -/
def dmaWhere (s : State) (p : Desc → Bool) : List Nat :=
  tabKeys s.ev.chans fun x => ((x.cur.map p).getD false) && x.ended.isNone

/-- A parcel's reset ends its descriptors (R672). -/
def dmaParcelReset (s : State) (p : Nat) : State :=
  (dmaWhere s fun d => attrParcel d.attr == some p).foldl (fun s c => dmaCut s c 1 0x10) s

/-- PWR_FAIL_N ends every descriptor, and GO is ignored from then on (R672). -/
def dmaPowerFail (s : State) : State :=
  let s := (dmaWhere s fun _ => true).foldl (fun s c => dmaCut s c 1 0x11) s
  { s with ev := { s.ev with powerFail := true } }

/-- A reset of link A halts the descriptors with a host address on it (R673). -/
def dmaLinkReset (s : State) : State :=
  if s.host.linkA.reset then
    (dmaWhere s fun d => attrSrcHost d.attr || attrDstHost d.attr).foldl (fun s c => dmaCut s c 2 6) s
  else s

/-- Step 8 for the channels (R668, R669): records that waited, descriptors that go on, and starts. A device-to-device or
device-to-host descriptor ends when its units have moved. -/
def dmaStep (s : State) (c : Nat) : State :=
  let s := dmaRecordWrite s c
  let s := dmaStart s c
  match (dmaGet s c).cur, (dmaGet s c).ended with
  | some d, none =>
    if dmaHeld s d then s
    else
      let s := dmaMod s c fun x => { x with room := x.room + dmaRate s d }
      if attrSrcHost d.attr then s
      else
        let s := dmaMove s c (dmaRate s d) []
        if (dmaGet s c).cur.isSome && (dmaGet s c).ended.isNone && dmaDone s c == d.count then dmaEnd s c 0 0 else s
  | _, _ => s
def dmaBoundary (s : State) : State := (s.ev.chans.map (·.1)).foldl dmaStep (dmaLinkReset s)

/-- DX_SUMMARY (R682): channels `lo` to `lo + 31` with a W1C bit set. -/
def dxSummary (s : State) (lo : Nat) : Nat :=
  ((List.range 32).filter fun k => regFld s (DX_STATUS (lo + k)) 4 0 != 0).map (2 ^ ·) |>.sum

end Sys2Proof.Machine
end

