-- ==== Sys2Proof/Machine/Supervisor.lean ====
section
/-! DEFINITION. Chapter 09: the supervisor calls (R489, R490, R500-R502, R572). -/
namespace Sys2Proof.Machine

/-! ## The course of a call -/

/-- Call statuses (R501). -/
def scOk : Nat := 0
def scDenied : Nat := 1
def scNoResource : Nat := 2
def scBadCall : Nat := 3
def scPrivileged : Nat := 4

/-- A supervisor call (R500, R555, R556): the trap with TEPC at the next instruction and the number in TADDR; from the lower
level the resident supervisor then serves it for the core's task. `eff` is given the code pointer of the call itself. -/
def svc (s : State) (c : Nat) (x : Pfx) (num : Nat) (eff : State → Word → Nat → Task → State) : State :=
  instr s c x (noLane x) fun s =>
    let k := coreGet s c
    let t := takeTrap s c 6 0 (nextPc s c x.enc) (BitVec.ofNat 36 num)
    if k.lower then
      match k.task with
      | some n => match taskGet s n with
        | some d => eff t k.pc n d
        | none => t
      | none => t
    else t

/-- The call returns a status in w0 and a result in w1 (R500, R561). -/
def svcRet (s : State) (c st : Nat) (res : Option Word) : State :=
  let s := regSet s c 0 (BitVec.ofNat 36 st)
  returnTrap (match res with
    | some v => regSet s c 1 v
    | none => s) c

/-- A call as it returns, its task saved in another state, and the rest of the slice passed on (R485, R490). -/
def svcLeave (s : State) (c n : Nat) (f : Task → Task) : State :=
  let p := ((taskGet s n).map (taskParcel s)).getD 0
  let x := coreCtx s c (coreGet s c).pc
  slicePass (taskMod (coreMod s c fun k => { k with task := none }) n fun t => f { t with ctx := x }) c p

/-- A call that blocks its task is made again when the task runs (R485; log 50). -/
def svcBlock (s : State) (c n : Nat) (call : Word) (w : TWait) : State :=
  let s := returnTrap s c
  svcLeave (coreMod s c fun k => { k with pc := call }) c n fun t => { t with st := .blocked, wait := some w, unblock := false }

/-- A handle as programs see it (R500; log 3). -/
def handleOf (n : Nat) : Word := BitVec.ofNat 36 (Config.handle n)

/-! ## Tasks and flows -/

/-- EXIT (R500, R503): the task ends; a root task ends its invocation with bits [31:0] of w1. -/
def svcExit (s : State) (c n : Nat) (t : Task) : State :=
  let p := taskParcel s t
  let s := if t.root then invEnd s t.inv .success ((reg s c 1).toNat % 2 ^ 32) 0 else s
  slicePass (taskFree s n) c p
def execExit (c : Nat) (x : Pfx) (s : State) : Res := .next (svc s c x 0 fun s _ n t => svcExit s c n t)

/-- YIELD (R485, R490): the task goes to the tail of its list, and the slice passes to the parcel's next task. -/
def svcYield (s : State) (c : Nat) (t : Task) : State :=
  let s := svcRet s c scOk none
  slicePass (coreSave s c (coreCtx s c (coreGet s c).pc)) c (taskParcel s t)
def execYield (c : Nat) (x : Pfx) (s : State) : Res := .next (svc s c x 1 fun s _ _ t => svcYield s c t)

/-- DELAY (R489): 1 to 16,777,216 frames. -/
def svcDelay (s : State) (c n : Nat) : State :=
  let d := (reg s c 1).toNat
  if d = 0 ∨ 16777216 < d then svcRet s c scBadCall none
  else svcLeave (svcRet s c scOk none) c n fun t => { t with st := .delayed, wake := frameNo s + d }
def execDelay (c : Nat) (x : Pfx) (s : State) : Res := .next (svc s c x 2 fun s _ n _ => svcDelay s c n)

/-- The registers with which a task starts: w1 as given, all else free values (R499, R500; log 3). -/
def entryCtx (s : State) (pc arg : Word) : State × Ctx :=
  ({ s with fresh := s.fresh + 33 },
    ⟨(List.range 32).map fun k => (k, if k = 1 then arg else BitVec.ofNat 36 (Config.freeNat (s.fresh + k))),
      wordFlags (BitVec.ofNat 36 (Config.freeNat (s.fresh + 32))), pc⟩)

/-- A flow of an invocation by its handle. -/
def flowBy (s : State) (i : Nat) (h : Word) : Option Nat :=
  (tabKeys s.cs.flows fun f => f.inv == i).find? fun f => handleOf f == h

/-- Clusters a task may run in, before its parcel's mask. -/
def anyCluster : Nat := 0xFC

/-- SPAWN (R485, R491, R500): a task READY, or in FLOW_WAIT; its priority no higher than the parcel's ceiling. -/
def svcSpawn (s : State) (c : Nat) (t : Task) : State :=
  let p := taskParcel s t
  let lim := (parGet s p).lim
  let pr := (reg s c 3).toNat
  let all := BitVec.allOnes 36
  let fl := if reg s c 4 = all then none else flowBy s t.inv (reg s c 4)
  if 7 < pr ∨ (reg s c 4 ≠ all ∧ fl = none) then svcRet s c scBadCall none
  else if lim.tasks ≤ (parcelTasks s p).length ∨ ((invGet s t.inv).map (·.maxTasks)).getD 0 ≤ (invTasks s t.inv).length
    ∨ tasksFree s = 0 then svcRet s c scNoResource none
  else
    let r := entryCtx s (reg s c 1) (reg s c 2)
    let q := taskNew r.1 { st := .ready, prio := max pr lim.prio, clusters := anyCluster, inv := t.inv, flow := fl, ctx := r.2 }
    svcRet q.1 c scOk (some (handleOf q.2))
def execSpawn (c : Nat) (x : Pfx) (s : State) : Res := .next (svc s c x 3 fun s _ _ t => svcSpawn s c t)

/-- No flow of the device is free (R491, R515). -/
def flowsOut (s : State) : State := if flowsFree s = 0 then raise (regPutBit s TS_FLOWS 31 true) 433 else s

/-- FLOW_OPEN (R491, R500). -/
def svcFlowOpen (s : State) (c : Nat) (t : Task) : State :=
  let p := taskParcel s t
  if (parGet s p).lim.flows ≤ (parcelFlows s p).length then svcRet s c scNoResource none
  else match tabFree s.cs.flows 0 16384 with
    | none => svcRet (flowsOut s) c scNoResource none
    | some f =>
      svcRet (flowsOut (csMod s fun x => { x with flows := tabSet x.flows f { inv := t.inv } })) c scOk (some (handleOf f))
def execFlowOpen (c : Nat) (x : Pfx) (s : State) : Res := .next (svc s c x 4 fun s _ _ t => svcFlowOpen s c t)

/-- FLOW_CLOSE (R500): a flow of the invocation with no task bound. -/
def svcFlowClose (s : State) (c : Nat) (t : Task) : State :=
  match flowBy s t.inv (reg s c 1) with
  | none => svcRet s c scBadCall none
  | some f =>
    if s.cs.tasks.any fun e => e.2.flow == some f then svcRet s c scBadCall none
    else svcRet (csMod s fun x => { x with flows := tabErase x.flows f }) c scOk none
def execFlowClose (c : Nat) (x : Pfx) (s : State) : Res := .next (svc s c x 5 fun s _ _ t => svcFlowClose s c t)

/-- FLOW_RELEASE (R488): the flow is released and its holder bound to it no more; a task without a flow releases none. -/
def svcFlowRelease (s : State) (c n : Nat) (t : Task) : State :=
  let s := match t.flow with
    | some f => taskMod (flowRelease s f n) n fun t => { t with flow := none }
    | none => s
  svcRet s c scOk none
def execFlowRelease (c : Nat) (x : Pfx) (s : State) : Res := .next (svc s c x 6 fun s _ n t => svcFlowRelease s c n t)

/-- FRAME (R500). -/
def execFrame (c : Nat) (x : Pfx) (s : State) : Res :=
  .next (svc s c x 10 fun s _ _ _ => svcRet s c scOk (some (BitVec.ofNat 36 (frameNo s))))

/-- UNKNOWN_SUPERVISOR_CALL (R500). -/
def execUnknownSupervisorCall (c : Nat) (x : Pfx) (num : Nat) (s : State) : Res :=
  .next (svc s c x num fun s _ _ _ => svcRet s c scBadCall none)

/-! ## Engine jobs (R502, R572) -/

/-- Is the context of a digest job keyed? -/
def dgKeyed (s : State) (j : Job) : Bool := ((tabGet s.en.dg (dCtx j)).map (·.hmac)).getD false

/-- The spans a descriptor names: the offset of each address, its length, the permission it needs (R424, R502). -/
def spansOf (s : State) (j : Job) : List (Nat × Nat × Perm) :=
  match j.eng with
  | .dg =>
    (if dOp j = 2 then [(16, dLen j, .r)] else [])
      ++ (if dOp j = 2 ∧ dgFinish j ∧ dgKeyed s j then [(48, dByte j 13, .r)]
          else if dOp j = 2 ∧ dgFinish j ∧ dgToMem j then [(48, dgSize (tabGetD s.en.dg (dCtx j) {}).alg, .w)] else [])
      ++ [(40, 32, .w)]
  | .cp =>
    let gcm := cpMode j == modeGcm
    [(16, cpAad j + cpLen j + (if gcm && dOp j != 1 then cpTag j else 0), .r),
      (24, if dOp j = 3 then 0 else if dOp j = 5 then cpLen j - 8 else cpLen j + (if gcm && dOp j == 1 then cpTag j else 0), .w),
      (40, 32, .w)]
  | _ => [(16, dSrcLen j, .r), (24, dDstCap j, .w), (40, 32, .w)]

/-- An octet span of a program as a physical address, where one projection covers it with the permission (R502). -/
def spanPhys (s : State) (c a n : Nat) (need : Perm) : Option Nat :=
  if n = 0 then some a
  else match translate (coreMod s c fun k => { k with lower := true }) c true a n need with
    | .ok p _ _ _ => some p
    | .fault _ => none

/-- A descriptor with its addresses translated; none where a span is denied (R502). -/
def descPhys (s : State) (c : Nat) (j : Job) : List (Nat × Nat × Perm) → Option Bytes
  | [] => some j.desc
  | (o, n, need) :: t =>
    match spanPhys s c (leAt j.desc o 8) n need, descPhys s c j t with
    | some p, some d => some (putAt d o (leBytes 8 p))
    | _, _ => none

/-- Octets 6 to 12 of a descriptor as the submitter fills them (R356, R502). -/
def descOwner (i : Invoc) (device : Bool) : Bytes :=
  leBytes 2 (if device then 0xFFFF else i.parcel) ++ leBytes 2 i.pEdition ++ leBytes 2 (i.ticket % 16384) ++ leBytes 1 i.tEdition

/-- Jobs of a parcel's invocations that are outstanding (R501). -/
def parcelJobs (s : State) (p : Nat) : Nat :=
  tabCount s.en.jobs fun j => j.phase != .ended && ((j.inv.bind (invGet s)).map (·.parcel)) == some p

/-- A submission (R502, R572): its checks in the order privilege, spans, outstanding jobs, queue space (DEDUCED, log 48). The
descriptor is read in DRAM, for the call cleans nothing (R462). An uncorrectable one is a machine check of the caller. -/
def submit (s : State) (c n : Nat) (t : Task) (call : Word) (g : Eng) (device : Bool)
    (hd : Bytes → Nat → Word × Option Word) : State :=
  match invGet s t.inv with
  | none => svcRet s c scBadCall none
  | some i =>
    let a := (reg s c 1).toNat
    if device && !i.oper then svcRet s c scPrivileged none
    else match spanPhys s c a 64 .r with
      | none => svcRet s c scDenied none
      | some p =>
        let r := octetsIn s p 64 8
        match r.2 with
        | none => errorTrap (coreMod (returnTrap r.1 c) c fun k => { k with pc := call }) c 5 1 (BitVec.ofNat 36 a)
        | some d =>
          let s := r.1
          let j : Job := { eng := g, desc := putAt d 6 (descOwner i device), parcel := if device then none else some i.parcel
                           pEdition := i.pEdition, ticket := i.ticket, tEdition := i.tEdition, inv := some t.inv }
          match descPhys s c j (spansOf s j) with
          | none => svcRet s c scDenied none
          | some pd =>
            if 64 ≤ parcelJobs s i.parcel then svcRet s c scNoResource none
            else if queueFull s g then svcBlock s c n call (.space (engNo g))
            else
              let k := s.en.nextJob
              let h := hd d k
              let s := enMod s fun e =>
                { e with nextJob := k + 1, jobs := tabSet e.jobs k { j with desc := pd, order := k, handle := h.1 } }
              svcRet s c scOk h.2

/-- ENGINE_SUBMIT (R500, R502): w2 names the engine, bit 0 of w3 is DEVICE. -/
def svcSubmit (s : State) (c n : Nat) (t : Task) (call : Word) : State :=
  let e := (reg s c 2).toNat
  if e = 0 ∨ 3 < e then svcRet s c scBadCall none
  else submit s c n t call (engOf e) ((reg s c 3).getLsbD 0) fun _ k => (handleOf k, some (handleOf k))
def execEngineSubmit (c : Nat) (x : Pfx) (s : State) : Res := .next (svc s c x 7 fun s p n t => svcSubmit s c n t p)

/-- GZ_SUBMIT (R572): bit 0 of w2 is DEVICE; the handle is the RESULT address that the descriptor names, and w1 stays. -/
def execGzSubmit (c : Nat) (x : Pfx) (s : State) : Res :=
  .next (svc s c x 9 fun s p n t => submit s c n t p .gz ((reg s c 2).getLsbD 0) fun d _ => (BitVec.ofNat 36 (leAt d 40 8), none))

/-- The job of an invocation that a handle names, the newest. -/
def jobBy (s : State) (i : Nat) (h : Word) : Option (Nat × Job) :=
  (s.en.jobs.filter fun e => e.2.inv == some i && e.2.handle == h).getLast?

/-- ENGINE_WAIT (R462, R485, R500): the status of an ended job, its record's line invalidated; else the task blocks. -/
def svcWait (s : State) (c n : Nat) (t : Task) (call : Word) : State :=
  match jobBy s t.inv (reg s c 1) with
  | none => svcRet s c scBadCall none
  | some (k, j) =>
    if j.phase = .ended then
      svcRet (lineOp s (coreCluster c) (lineOf (dResult j)) .inval) c scOk (some (BitVec.ofNat 36 j.status))
    else svcBlock s c n call (.job k)
def execEngineWait (c : Nat) (x : Pfx) (s : State) : Res := .next (svc s c x 8 fun s p n t => svcWait s c n t p)

end Sys2Proof.Machine
end

