-- ==== Sys2Proof/Machine/Compute.lean ====
section
/-! DEFINITION. Chapter 09, programs and memory ranges: loading, activation, invocations and their completion, memory
range sets, SLM transfers and Memory Copy (R461, R495-R508). Operands that the two command sets assign are of log 32. -/
namespace Sys2Proof.Machine

/-! ## Images (R496) -/

/-- Header fields of an image. -/
def imgCode (d : Bytes) : Nat := leAt d 8 4
def imgData (d : Bytes) : Nat := leAt d 12 4
def imgZero (d : Bytes) : Nat := leAt d 16 4
def imgStack (d : Bytes) : Nat := leAt d 20 4
def imgEntry (d : Bytes) : Nat := leAt d 24 4
def imgBudget (d : Bytes) : Nat := leAt d 28 4
def imgTasks (d : Bytes) : Nat := leAt d 32 4
def imgOperator (d : Bytes) : Bool := bitOf (leAt d 7 1) 0

/-- Has an image the length its header gives it (R497)? -/
def imgLength (d : Bytes) : Bool := decide (64 ≤ d.length) && d.length == 64 + 9 * ((imgCode d + imgData d + 1) / 2)

/-- Does a header keep R496? -/
def imgHeader (d : Bytes) : Bool :=
  slice d 0 4 == [0x53, 0x56, 0x50, 0x52] && leAt d 4 2 == 1 && decide (leAt d 6 1 ≤ 1) && decide (leAt d 7 1 ≤ 1)
    && 1 ≤ imgCode d && imgCode d ≤ 4194304 && imgData d ≤ 16777216 && 64 ≤ imgStack d && imgStack d ≤ 1048576
    && 1 ≤ imgBudget d && imgBudget d ≤ 16777216 && 1 ≤ imgTasks d && imgTasks d ≤ 4096 && (slice d 36 28).all (· == 0)

/-- Word `k` of an image (R496): two words in each 9 octets. -/
def imgWord (d : Bytes) (k : Nat) : Word :=
  BitVec.ofNat 36 (leAt d (64 + 9 * (k / 2)) 9 / 2 ^ (36 * (k % 2)))

/-- The key of a program slot. -/
def progKey (p idx : Nat) : Nat := p * 64 + idx

/-- Invocations of a program slot in flight. -/
def progInvs (s : State) (p idx : Nat) : List Nat := tabKeys s.cs.invs fun i => i.parcel == p && i.prog == idx

/-- A span placed for programs: no cache of a cluster holds older data of it (log 41). -/
def spanFresh (s : State) (a n : Nat) : State :=
  let s := (List.range 8).foldl (fun s cl => (linesBetween s cl (lineOf a) ((n + 63) / 64)).foldl (fun s l => lineForget s cl l) s) s
  let s := csMod s fun x => { x with cores := tabMap x.cores fun _ k =>
    { k with icache := k.icache.filter fun e => !(decide (lineOf a ≤ e.1) && decide (64 * e.1 < a + n)) } }
  spanTake s a n

/-- An image takes its slot: its code placed in class W (R468); none where DRAM has no room. -/
def progInstall (s : State) (p idx : Nat) (d : Bytes) : Option State :=
  let s := match tabGet s.cs.progs (progKey p idx) with
    | some g => spanGive s g.code
    | none => s
  match placeSpan s classW (4 * imgCode d) with
  | none => none
  | some a =>
    let s := spanFresh s a (4 * imgCode d)
    let s := lineWrites (wordsStore s a ((List.range (imgCode d)).map (imgWord d))) a (4 * imgCode d) 0
    let g : Prog := { compact := leAt d 6 1 == 1, operatorOnly := imgOperator d, code := a, codeWords := imgCode d
                      data := (List.range (imgData d)).map fun k => imgWord d (imgCode d + k)
                      zeroWords := imgZero d, stackWords := imgStack d, entry := imgEntry d, budget := imgBudget d
                      maxTasks := imgTasks d }
    some (csMod s fun x => { x with progs := tabSet x.progs (progKey p idx) g })

/-- Is a program slot active? -/
def progActive (s : State) (p idx : Nat) : Bool := ((tabGet s.cs.progs (progKey p idx)).map (·.active)).getD false

/-- Would a load take a program slot beyond the parcel's limit or the device's total (R164)? -/
def progsFull (s : State) (p idx : Nat) : Bool :=
  (tabGet s.cs.progs (progKey p idx)).isNone &&
    (decide ((parGet s p).lim.programs ≤ (ofParcel s.cs.progs p 64).length) || decide (4096 ≤ s.cs.progs.length))

/-- Load Program (R495-R497). -/
def loadProgram (s : State) (i : Nat) (d : Bytes) : State :=
  let t := tkGet s i
  let idx := bitsOf t.cmd.cdw10 15 0
  match t.parcel with
  | none => tkFinish s i .invalidField
  | some p =>
    if 63 < idx then tkFinish s i .invalidField
    else if !imgLength d then tkFinish s i .lengthMismatch
    else if !imgHeader d || imgOperator d then tkFinish s i .invalidField
    else if progActive s p idx then tkFinish s i .sequenceError
    else if progsFull s p idx then tkFinish s i .invalidProgram
    else match progInstall s p idx d with
      | none => tkFinish s i .internalError
      | some s => tkFinish s i .success
def execLoadProgram (tk : Nat) (image : Bytes) (s : State) : Res :=
  .next (if adminData s tk 0x20 then loadProgram s tk image else s)

/-- Program Activation Management (R495, R498). -/
def programSelect (s : State) (i : Nat) (on : Bool) : State :=
  let t := tkGet s i
  let idx := bitsOf t.cmd.cdw10 15 0
  match t.parcel.bind fun p => (tabGet s.cs.progs (progKey p idx)).map fun g => (p, g) with
  | none => tkFinish s i .noProgram
  | some (p, g) =>
    if !on && !(progInvs s p idx).isEmpty then tkFinish s i .sequenceError
    else tkFinish (csMod s fun x => { x with progs := tabSet x.progs (progKey p idx) { g with active := on } }) i .success

/-- Is a ticket a Program Activation Management that selects or deselects? -/
def activates (s : State) (i : Nat) (on : Bool) : Bool := adminIs s i 0x21 && bitOf (tkGet s i).cmd.cdw10 16 == on

/-- PROGRAM_ACTIVATE (R495). -/
def execProgramActivate (tk : Nat) (s : State) : Res :=
  .next (if activates s tk true then programSelect s tk true else s)
/-- PROGRAM_DEACTIVATE (R498). -/
def execProgramDeactivate (tk : Nat) (s : State) : Res :=
  .next (if activates s tk false then programSelect s tk false else s)

/-! ## Memory range sets (R495) -/

/-- A range of a parcel. -/
def rangeGet (s : State) (p n : Nat) : Option MRange := tabGet s.cs.ranges (p * 4096 + n)

/-- MEMORY_RANGE_SET_CREATE: 1 to 31 ranges of the parcel, at most 16 sets. -/
def rangeSetCreate (s : State) (i : Nat) (rs : List Nat) : State :=
  match (tkGet s i).parcel with
  | none => tkFinish s i .invalidField
  | some p =>
    if rs.isEmpty then tkFinish s i .invalidField
    else if 31 < rs.length then tkFinish s i .maxRanges
    else if rs.any fun r => (rangeGet s p r).isNone then tkFinish s i .invalidRange
    else match tabFree s.cs.sets (p * 16) 16 with
      | none => tkFinish s i .maxRanges
      | some k => tkFinishW (csMod s fun x => { x with sets := tabSet x.sets k rs }) i .success (k % 16)
def execMemoryRangeSetCreate (tk : Nat) (rs : List Nat) (s : State) : Res :=
  .next (if adminData s tk 0x22 && bitsOf (tkGet s tk).cmd.cdw10 3 0 == 0 then rangeSetCreate s tk rs else s)

/-- MEMORY_RANGE_SET_DELETE: a set that no invocation uses. -/
def rangeSetDelete (s : State) (i : Nat) : State :=
  let t := tkGet s i
  let id := bitsOf t.cmd.cdw10 31 16
  match t.parcel with
  | none => tkFinish s i .invalidField
  | some p =>
    match tabGet s.cs.sets (p * 16 + id) with
    | none => tkFinish s i .invalidRange
    | some rs =>
      if 16 ≤ id then tkFinish s i .invalidRange
      else if s.cs.invs.any fun e => e.2.parcel == p && e.2.ranges == rs then tkFinish s i .rangesInUse
      else tkFinish (csMod s fun x => { x with sets := tabErase x.sets (p * 16 + id) }) i .success
def execMemoryRangeSetDelete (tk : Nat) (s : State) : Res :=
  .next (if adminIs s tk 0x22 && bitsOf (tkGet s tk).cmd.cdw10 3 0 == 1 then rangeSetDelete s tk else s)

/-! ## Invocations (R499, R508) -/

/-- Words of projection 1 of an invocation: data, zeroed data and the stacks (R468). -/
def invWords (g : Prog) : Nat := g.data.length + g.zeroWords + g.stackWords * g.maxTasks

/-- An invocation begins: its data and parameters placed, its root task READY (R499). None where a descriptor or DRAM room
is wanting; it then waits. -/
def invStart (s : State) (ow : InvOwner) (p tk idx : Nat) (g : Prog) (oper : Bool) (rs : List Nat) (param : Bytes) : Option State :=
  let lim := (parGet s p).lim
  if tasksFree s = 0 ∨ lim.tasks ≤ (parcelTasks s p).length then none
  else match placeSpan s classW (4 * invWords g) with
    | none => none
    | some a =>
      let s := spanFresh s a (4 * invWords g)
      match placeSpan s 1 4096 with
      | none => none
      | some b =>
        let s := spanFresh s b 4096
        let s := lineWrites (wordsStore (wordsZero s a (4 * invWords g)) a g.data) a (4 * invWords g) 0
        let s := lineWrites (memStore (memZero s b 4096) b param) b 4096 0
        let n := s.cs.nextInv
        let v : Invoc := { owner := ow, parcel := p, pEdition := (parGet s p).edition, ticket := tk
                           tEdition := (tkGet s tk).edition, prog := idx, oper := oper, ranges := rs
                           paramLen := param.length, param := b, data := a, dataWords := invWords g
                           accepted := frameNo s, budget := min g.budget lim.budget, maxTasks := g.maxTasks }
        let s := csMod s fun x => { x with nextInv := n + 1, invs := tabSet x.invs n v }
        let r := entryCtx s (codePtr g.compact g.entry) (BitVec.ofNat 36 param.length)
        let f := takeFree r.1
        some (taskNew f.2 { st := .ready, prio := max (f.1 % 8) lim.prio, clusters := anyCluster, inv := n, root := true
                            ctx := r.2 }).1

/-- The memory range set of a command: FFFFh names none. -/
def setRanges (s : State) (p id : Nat) : Option (List Nat) :=
  if id = 0xFFFF then some [] else if 16 ≤ id then none else tabGet s.cs.sets (p * 16 + id)

/-- Execute Program (R498, R499). -/
def executeProgram (s : State) (i p : Nat) (param : Bytes) : State :=
  let t := tkGet s i
  let idx := bitsOf t.cmd.cdw10 15 0
  match tabGet s.cs.progs (progKey p idx), setRanges s p (bitsOf t.cmd.cdw11 15 0) with
  | some g, some rs =>
    if 63 < idx || !g.active || g.operatorOnly || decide (4096 < param.length) then tkFinish s i .invalidField
    else match invStart s (.ticket i) p i idx g false rs param with
      | none => tkMod s i fun t => { t with heldData := some param }
      | some s => tkMod s i fun t => { t with begun := true, heldData := none }
  | none, _ => tkFinish s i .invalidField
  | _, none => tkFinish s i .invalidRange

/-- Is a ticket a started I/O command of opcode `o` whose work has not begun? -/
def ioNew (s : State) (i o : Nat) : Bool :=
  let t := tkGet s i
  t.busy && !t.admin && t.phase == .started && t.cmd.opc == o && !t.begun && !t.r2t

/-- EXECUTE_PROGRAM. -/
def execExecuteProgram (tk : Nat) (param : Bytes) (s : State) : Res :=
  .next (match (tkGet s tk).parcel with
    | some p => if ioNew s tk 0x81 && (tkGet s tk).heldData.isNone then executeProgram s tk p (hostData (tkGet s tk) param) else s
    | none => s)

/-- Invocations that wait for room are tried again at each boundary. -/
def invRetry (s : State) : State :=
  (tksWhere s fun t => t.cmd.opc == 0x81 && !t.admin && !t.begun && t.phase == .started && t.heldData.isSome).foldl (fun s i =>
    match (tkGet s i).parcel, (tkGet s i).heldData with
    | some p, some d => executeProgram s i p d
    | _, _ => s) s

/-- The NVMe status codes that an operator invocation can end with (R146, R503): status code and type. -/
def invStatusCode : Status → Nat × Nat
  | .programTrap => (0x85, 7)
  | .programFrameOverrun => (0x86, 7)
  | _ => (0, 0)

/-- An ended invocation whose engine jobs have all their results posts its completion (R505, R508). -/
def invPost (s : State) (i : Nat) : State :=
  match invGet s i with
  | none => s
  | some x => match x.ended with
    | none => s
    | some (st, d0, d1) =>
      if invJobs s i ≠ 0 then s
      else
        let s := invGone s i
        match x.owner with
        | .ticket tk =>
          if (tkGet s tk).busy && (tkGet s tk).edition == x.tEdition && (tkGet s tk).phase != .done then
            tkMod (tkFinishW s tk st d0) tk fun t => { t with dw1 := d1 }
          else s
        | .packet n =>
          let s := tkFree s x.ticket
          pkReply s n .ok (leBytes 1 (invStatusCode st).1 ++ leBytes 1 (invStatusCode st).2 ++ zeros 2 ++ leBytes 4 d0 ++ leBytes 4 d1)

/-- INVOCATION_COMPLETION_POST (R505). -/
def execInvocationCompletionPost (tk : Nat) (s : State) : Res :=
  .next (match ticketInv s tk with
    | some i => invPost s i
    | none => s)

/-! ## Subsystem local memory (R461, R495, R498) -/

/-- The clusters of a parcel's mask drop a span before data of a memory range move (R461). -/
def rangeClean (s : State) (p a n : Nat) : State :=
  ((List.range 8).filter fun cl => bitOf (parGet s p).mask cl).foldl (fun s cl => spanCleanInval s cl a n) s

/-- A span of a range: its physical address, or the status of a command that names none or runs beyond it. -/
def rangeSpan (s : State) (p n off len : Nat) : Status × Nat :=
  match rangeGet s p n with
  | none => (.invalidRange, 0)
  | some r => if r.len < off + len then (.lbaRange, 0) else (.success, r.phys + off)

/-- HQ as EC_LAST_ERR names a requester: port 0 (R625). -/
def srcHost : Nat := 0

/-- SLM Read: from a memory range to host memory; its octets count in meter 1. It holds while Bus Master Enable is 0 (R68). -/
def slmRead (s : State) (i p : Nat) : State :=
  let t := tkGet s i
  let len := t.cmd.cdw12
  let r := rangeSpan s p t.cmd.cdw13 (t.cmd.cdw10 + t.cmd.cdw11 * 2 ^ 32) len
  if r.1 ≠ .success then tkFinish s i r.1
  else if !tkBme s i then tkMod s i fun t => { t with held := true }
  else
    let x := octetsIn (rangeClean s p r.2 len) r.2 len srcHost
    match x.2 with
    | none => tkFinish x.1 i .unrecoveredRead
    | some d => tkFinish (meterAdd (dataSend x.1 i d) p 1 d.length) i .success
def execSlmRead (tk : Nat) (s : State) : Res :=
  .next (match (tkGet s tk).parcel with
    | some p => if ioNew s tk 0x82 then slmRead s tk p else s
    | none => s)

/-- At a boundary the SLM Reads that Bus Master Enable held go on (R68). -/
def slmBoundary (s : State) : State :=
  (tksWhere s fun t => t.cmd.opc == 0x82 && !t.admin && t.phase == .started && t.held).foldl (fun s i =>
    if tkBme s i then slmRead (tkMod s i fun t => { t with held := false }) i ((tkGet s i).parcel.getD 0) else s) s

/-- HQ as it writes for a command (R643): HOLDER is the ticket. -/
def ticketWriter (s : State) (i : Nat) : Writer :=
  let t := tkGet s i
  let p := t.parcel.getD 0
  ⟨srcHost, tagBits p (parGet s p).edition 1 i t.edition⟩

/-- SLM Write: host data into a memory range. -/
def slmWrite (s : State) (i p : Nat) (d : Bytes) : State :=
  let t := tkGet s i
  let len := t.cmd.cdw12
  let r := rangeSpan s p t.cmd.cdw13 (t.cmd.cdw10 + t.cmd.cdw11 * 2 ^ 32) len
  if r.1 ≠ .success then tkFinish s i r.1
  else if d.length < len then tkFinish s i .sglLength
  else
    let x := octetsOut (rangeClean s p r.2 len) (ticketWriter s i) r.2 (d.take len)
    tkFinish x.1 i (if x.2 then .success else .internalError)
def execSlmWrite (tk : Nat) (data : Bytes) (s : State) : Res :=
  .next (match (tkGet s tk).parcel with
    | some p => if ioNew s tk 0x83 then slmWrite s tk p (hostData (tkGet s tk) data) else s
    | none => s)

/-- Memory Copy goes on (R498): into a range it is a read of the namespace's ranges, out of one a write of its blocks. -/
def memCopy (s : State) (i p : Nat) : State :=
  let t := tkGet s i
  match nsGet s t.cmd.nsid with
  | none => tkFinish s i .invalidNsFormat
  | some n =>
    let len := if copiesOut t.cmd then cmdNlb t.cmd * lbaSize n else t.cmd.cdw14
    let r := rangeSpan s p t.cmd.cdw13 t.cmd.cdw15 len
    let s := tkMod s i fun t => { t with begun := true }
    if r.1 ≠ .success then tkFinish s i r.1
    else if copiesOut t.cmd then
      if !t.waitProg.isEmpty then s
      else if t.heldData.isSome then writeRun s i p n
      else
        let x := octetsIn (rangeClean s p r.2 len) r.2 len srcHost
        match x.2 with
        | none => tkFinish x.1 i .unrecoveredRead
        | some d => writeRun (heldPut x.1 i d) i p n
    else
      if copyBlocks t.cmd * lbaSize n ≠ len then tkFinish s i .lengthMismatch
      else
        readRun s i p n copyBase (copySpans n t.cmd) fun s d =>
          let x := octetsOut (rangeClean s p r.2 len) (ticketWriter s i) r.2 d
          tkFinish (meterAdd x.1 p 1 d.length) i (if x.2 then .success else .internalError)

/-- MEMORY_COPY. -/
def execMemoryCopy (tk : Nat) (s : State) : Res :=
  .next (let t := tkGet s tk
    match t.parcel with
    | some p => if t.busy && !t.admin && t.phase == .started && t.cmd.opc == copyOpcode then memCopy s tk p else s
    | none => s)

/-- At a boundary every Memory Copy that has begun goes on. -/
def copyBoundary (s : State) : State :=
  (tksWhere s fun t => !t.admin && t.phase == .started && t.begun && t.cmd.opc == copyOpcode).foldl (fun s i =>
    match (tkGet s i).parcel with
    | some p => memCopy s i p
    | none => s) s

/-- Has the command of an invocation gone, or been caught by an Abort or a queue deletion (R140, R141, R794)? -/
def invOrphan (s : State) (x : Invoc) : Bool :=
  match x.owner with
  | .ticket tk => !(tkGet s tk).busy || (tkGet s tk).edition != x.tEdition || (tkGet s tk).caught
  | .packet _ => false

/-- At a boundary an invocation whose command is gone ends, and ended invocations lose their tasks and post what they owe (R503,
R505). -/
def invBoundary (s : State) : State :=
  let stop := fun (x : Invoc) =>
    if x.ended.isNone && invOrphan s x then { x with ended := some (.abortRequested, 0, 0) } else x
  let s := csMod s fun c => { c with invs := tabMap c.invs fun _ x => stop x }
  let s := (tabKeys s.cs.invs fun x => x.ended.isSome).foldl invClear s
  (tabKeys s.cs.invs fun x => x.ended.isSome).foldl invPost s

end Sys2Proof.Machine
end

