-- ==== Sys2Proof/Machine/Image.lean ====
section
/-! DEFINITION. Chapter 04, the parcel image: what it carries, its header and its sealing (R213, R214). The layout of the
body is not the spec's: it is uninterpreted (log 4). -/
namespace Sys2Proof.Machine

/-- What a parcel image carries (R213, R366): configuration, namespace descriptors, queues, contexts, keys with their key
wrapped, tokens and meters; programs with their code and memory ranges with their contents where selected. -/
structure ParcelImage where
  sections : Nat
  lim : Limits
  mask : Nat
  rate : List Nat
  depth : List Nat
  bal : List Int
  accr : List Nat
  meters : List Nat
  nss : List (Nat × Nat)
  /-- Submission queues: number, depth, completion queue, ordered; completion queues: number, depth, vector; connections: queue
  number, depth, ordered, TCP. -/
  sqs : List (Nat × Nat × Nat × Bool)
  cqs : List (Nat × Nat × Option Nat)
  conns : List (Nat × Nat × Bool × Bool)
  cz : List (Nat × CzCtx)
  dg : List (Nat × DgCtx)
  keys : List (Nat × KSlot)
  progs : List (Nat × Prog × List Word)
  ranges : List (Nat × Bool × Bytes)
  deriving DecidableEq, Repr

/-- The octets of an image's body, and the body that octets spell (log 4). -/
opaque Config.imageBody : ParcelImage → Bytes
opaque Config.imageParse : Bytes → Option ParcelImage

/-- The image of a parcel under a migration key (R213); the memory ranges' contents as clusters and DRAM hold them. -/
def parcelImage (s : State) (p sections : Nat) (mig : Bytes) : ParcelImage :=
  let x := parGet s p
  { sections := sections, lim := x.lim, mask := x.mask, rate := x.rate, depth := x.depth, bal := x.bal, accr := x.accr
    meters := x.meters
    nss := (s.atl.nss.filter fun e => e.2.parcel == some p).map fun e => (e.2.nsze, e.2.lbads)
    sqs := (s.cq.sqs.filter fun e => some (e.1 / 65536) == x.vf && e.1 % 65536 != 0).map fun e =>
      (e.1 % 65536, e.2.depth, e.2.cqid, e.2.ordered)
    cqs := (s.cq.cqs.filter fun e => some (e.1 / 65536) == x.vf && e.1 % 65536 != 0).map fun e =>
      (e.1 % 65536, e.2.depth, e.2.vec)
    conns := (s.host.conns.filter fun e => e.2.parcel == p && !e.2.discovery).map fun e =>
      (e.2.qid, e.2.depth, e.2.ordered, e.2.tcp)
    cz := s.en.cz.filter fun c => c.2.parcel == some p && c.2.st == .opened
    dg := s.en.dg.filter fun c => c.2.parcel == some p && c.2.st != .invalid
    keys := (s.ks.slots.filter fun k => k.2.valid && !k.2.device && k.2.owner == p).map fun k =>
      (k.1, { k.2 with key := Config.kwWrap mig k.2.key })
    progs := if bitOf sections 3 then (ofParcel s.cs.progs p 64).map fun g => (g.1, g.2, wordsRead s g.2.code g.2.codeWords) else []
    ranges := if bitOf sections 4 then (ofParcel s.cs.ranges p 4096).map fun r =>
      (r.1, r.2.light, memRead (rangeClean s p r.2.phys r.2.len) r.2.phys r.2.len) else [] }

/-- Octets of an image (R214). -/
def imageLength (i : ParcelImage) : Nat := 64 + (Config.imageBody i).length + 16

/-- The header of an image (R214). -/
def imageHeader (s : State) (p : Nat) (i : ParcelImage) (serial iv : Bytes) : Bytes :=
  leBytes 2 1 ++ leBytes 2 p ++ leBytes 2 (parGet s p).edition ++ leBytes 2 i.sections ++ leBytes 8 (imageLength i)
    ++ leBytes 8 (frameNo s) ++ (serial ++ zeros 8).take 8 ++ (iv ++ zeros 12).take 12 ++ zeros 20

/-- The GCM tag of an image. -/
def imageTag (key iv hdr ct : Bytes) : Bytes := ((Config.gcmTag key iv hdr ct) ++ zeros 16).take 16

/-- An image sealed under a key slot's key (R213, R214). -/
def imageSeal (s : State) (p : Nat) (i : ParcelImage) (key : Bytes) : Bytes × State :=
  let a := drbgBytes s 8
  let b := drbgBytes a.2 12
  let h := imageHeader s p i a.1 b.1
  let ct := Config.aesEnc 5 key (slice h 32 12) (Config.imageBody i)
  (h ++ ct ++ imageTag key (slice h 32 12) h ct, b.2)

/-- Does an image's tag verify (R217)? -/
def imageAuthentic (d key : Bytes) : Bool :=
  let n := leAt d 8 8
  let ct := slice d 64 (n - 80)
  80 ≤ n && n ≤ d.length && slice d (n - 16) 16 == imageTag key (slice d 32 12) (d.take 64) ct

/-- What an authentic image carries. -/
def imageOpen (d key : Bytes) : Option ParcelImage :=
  Config.imageParse (Config.aesDec 5 key (slice d 32 12) (slice d 64 (leAt d 8 8 - 80)))

end Sys2Proof.Machine
end

