-- ==== Sys2Proof/Machine/Parcels.lean ====
section
/-! DEFINITION. Chapter 04, parcels: resets and their teardown, freezes, retirement, links that are lost, mailboxes, shares,
meters and snapshots. -/
namespace Sys2Proof.Machine

/-- Is a parcel attached: a function bound or a host pair registered (R174)? -/
def attached (x : Parcel) : Bool := x.vf.isSome || !x.pairs.isEmpty

/-- Has a parcel a ticket in use or a connection (R204)? -/
def parcelLive (s : State) (p : Nat) : Bool :=
  !(tksWhere s fun t => t.parcel == some p).isEmpty || !(parcelConns s p).isEmpty

/-! ## Ending a parcel's work (R201, R203) -/

/-- An invocation ends with its parcel's reset; its ticket is one of those cancelled, and an operator packet is answered
ABORTED. -/
def invStop (s : State) (i : Nat) : State :=
  match invGet s i with
  | none => s
  | some x =>
    let s := invGone s i
    match x.owner with
    | .ticket _ => s
    | .packet n => pkFail (tkInternal s x.ticket) n .aborted

/-- The task scheduler removes the parcel's tasks, and its invocations end. A slice that step 1 has closed is metered already. -/
def parcelTasksEnd (s : State) (p : Nat) : State :=
  let on := tabCount s.cs.cores fun k => !k.closed && (k.task.bind (taskGet s)).any fun t => taskParcel s t == p
  let s := (List.replicate on p).foldl partCycles s
  (tabKeys s.cs.invs fun i => i.parcel == p).foldl invStop s

/-- Engine lanes drop the parcel's jobs; their granules pass to discarding paths. -/
def parcelJobsDrop (s : State) (p : Nat) : State :=
  (tabKeys s.en.jobs fun j => j.parcel == some p).foldl (fun s n =>
    let s := gzDropFinish s n
    let s := granDiscardEng s n (((jobGet s n).map (·.gran)).getD 0)
    enMod s fun e => { e with jobs := tabErase e.jobs n }) s

/-- Every ticket of the parcel is cancelled and completes internally. -/
def parcelTksEnd (s : State) (p : Nat) : State := (tksWhere s fun t => t.parcel == some p).foldl tkInternal s

/-- A save in progress ends with a reset (R216). -/
def saveAbort (s : State) (p : Nat) : State :=
  match tabGet s.pc.saves p with
  | none => s
  | some v => if v.restore then s
    else pkFail { s with pc := { s.pc with saves := tabErase s.pc.saves p } } v.packet .aborted

/-- A freeze not yet answered replies with a status. -/
def freezeAnswer (s : State) (p : Nat) (st : RStat) : State :=
  match (parGet s p).freezeW with
  | .packet n => pkReply (parMod s p fun x => { x with freezeW := .none }) n st
  | _ => s

/-- All pending bits of a mailbox clear, and its 32 slots read zero (R178). -/
def mailboxClear (s : State) (p : Nat) : State :=
  let lo := PC_MB_IN_SLOT p 0
  let s := { s with regs := tabFilter s.regs fun a _ => !(decide (lo ≤ a) && decide (a < lo + 0x800)) }
  let s := regPut (regPut s (PC_MB_IN_PENDING p) 0) (PC_MB_OUT_PENDING p) 0
  let s := regPutBit s (PC_MB_SUMMARY (p / 32)) (p % 32) false
  parMod s p fun x => { x with inPost := 0, outPost := 0 }

/-- The edition advances (R197). -/
def editionAdvance (s : State) (p : Nat) : State := parMod s p fun x => { x with edition := nextPEdition s p }

/-- PC_RESET_STATUS when a teardown begins (R226). -/
def teardownBegin (s : State) (p cause : Nat) : State :=
  let a := PC_RESET_STATUS p
  parMod (regPutFld (regPutBit s a 31 true) a 30 28 cause) p fun x => { x with effect := frameNo s }

/-! ## Parcel reset (R168-R170, R200-R208) -/

/-- A bound function reports CSTS.RDY = 0 while its parcel is reset (R207). -/
def vfUnready (s : State) (p : Nat) : State :=
  match (parGet s p).vf with
  | some f => ctrlMod s f fun c => { c with rdy := false }
  | none => s

/-- A reset takes effect, in step 3, on a parcel that is PROVISIONED, ACTIVE or FROZEN (R200): intake stops with its state;
its work is cancelled in step 8. -/
def resetStart (s : State) (p cause : Nat) (hold : Bool) (ws : List Waiter) : State :=
  let act := (parGet s p).st == .active
  let s := saveAbort (freezeAnswer s p .aborted) p
  let s := teardownBegin (editionAdvance s p) p cause
  let s := parMod s p fun x =>
    { x with st := .resetting, drained := false, waiters := ws, wasActive := act, hold := hold, cancelDue := true, enHeld := false }
  vfUnready (mailboxClear s p) p

/-- Step 8 of a reset's boundary (R201, R203): jobs, tasks, descriptors, connections and tickets of the parcel are cancelled. -/
def parcelCancel (s : State) (p : Nat) : State :=
  if (parGet s p).cancelDue then
    let s := parMod s p fun x => { x with cancelDue := false }
    let s := parcelJobsDrop (parcelTasksEnd s p) p
    let s := dmaParcelReset s p
    parcelTksEnd ((parcelConns s p).foldl connClose s) p
  else s

/-- A reset request that a state refuses: the packet replies WRONG_STATE; a function-level reset is plain. -/
def waiterRefuse (s : State) : Waiter → State
  | .packet n => pkFail (flightApplied s n) n .wrongState
  | _ => s

/-- A packet that asked for a reset has taken effect. -/
def waiterApplied (s : State) : Waiter → State
  | .packet n => flightApplied s n
  | _ => s

/-- A reset request in each state of its parcel (R168). -/
def resetRequest (s : State) (p cause : Nat) (hold : Bool) (w : Waiter) : State :=
  match (parGet s p).st with
  | .provisioned | .active | .frozen => resetStart (waiterApplied s w) p cause hold [w]
  | .resetting => parMod (waiterApplied s w) p fun x => { x with waiters := x.waiters ++ [w], hold := x.hold || hold }
  | .enabling => parMod (waiterApplied s w) p fun x =>
      { x with queuedW := x.queuedW ++ [w]
               queued := match x.queued with
                 | none => some (cause, hold)
                 | some (c, h) => some (c, h || hold) }
  | .vacant | .retiring => waiterRefuse s w

/-- A freeze takes effect (R168, R209). -/
def freezeEffect (s : State) (p n : Nat) : State :=
  let s := flightApplied s n
  if (parGet s p).st = .active then parMod s p fun x =>
    { x with st := .frozen, drained := false, freezeW := .packet n, effect := frameNo s }
  else pkFail s n .wrongState

/-- One request of step 3; a freeze whose packet waits for another of its PARCEL stays (R708). -/
def reqRun (s : State) (p : Nat) : PReq → State
  | .reset c h w => resetRequest s p c h w
  | .freeze n => if pkBlocked s n then parMod s p fun x => { x with reqs := x.reqs ++ [.freeze n] } else freezeEffect s p n
  | .ccEn _ => if (parGet s p).st = .resetting then parMod s p fun x => { x with st := .enabling, pend := some .none } else s

/-- The requests of a parcel of the kinds selected take effect in the order in which they were made (R167). -/
def reqsRun (s : State) (p : Nat) (sel : PReq → Bool) : State :=
  let rs := (parGet s p).reqs
  (rs.filter sel).foldl (fun s r => reqRun s p r) (parMod s p fun x => { x with reqs := rs.filter fun r => !sel r })

def isReset : PReq → Bool
  | .reset _ _ _ => true
  | _ => false
def isFreeze : PReq → Bool
  | .freeze _ => true
  | _ => false
def isCcEn : PReq → Bool
  | .ccEn _ => true
  | _ => false

/-- PARCEL_RESET_EFFECT (R200, R201): steps 3 and 8. -/
def execParcelResetEffect (parcel : Nat) (s : State) : Res := .next (parcelCancel (reqsRun s parcel isReset) parcel)

/-- PARCEL_FREEZE_EFFECT (R209). -/
def execParcelFreezeEffect (parcel : Nat) (s : State) : Res := .next (reqsRun s parcel isFreeze)

/-- A reset queued behind an enable takes effect once the enable has run or been dropped (R168, R170). -/
def queuedReset (s : State) (p : Nat) : State :=
  let x := parGet s p
  match x.queued with
  | none => s
  | some (c, h) =>
    if x.st = .active ∨ x.st = .provisioned ∨ x.st = .frozen then
      resetStart (parMod s p fun x => { x with queued := none, queuedW := [] }) p c h x.queuedW
    else s

/-- QUEUED_RESET_EFFECT (R170). -/
def execQueuedResetEffect (parcel : Nat) (s : State) : Res := .next (parcelCancel (queuedReset s parcel) parcel)

/-- The parcel is ACTIVE; a bound function that is enabled becomes ready (R204, R207), one whose CC.EN was cleared behind the
pending enable too: it is ready for the one frame before the reset that the clear asked for (R170). -/
def parcelActivate (s : State) (p : Nat) : State :=
  let held := (parGet s p).enHeld
  let s := parMod s p fun x => { x with st := .active, enHeld := false }
  match (parGet s p).vf with
  | some f => if (ctrlGet s f).cc % 2 = 1 ∨ held then ctrlReady s f else s
  | none => s

/-- The namespaces of a parcel, by index. -/
def parcelNss (s : State) (p : Nat) : List Nat := tabKeys s.atl.nss fun n => n.parcel == some p

/-- Taps that feed contexts of a parcel stop (R365). -/
def ctxTapsEnd (s : State) (p : Nat) : State :=
  let own := fun (x : Tap) => ((tabGet s.en.dg x.ctx).bind (·.parcel)) == some p
  (tabKeys s.en.taps own).foldl (fun s t => tapGone (regPutBit s (DG_NS_TAP t) 31 false) t) s

/-- Every engine context of the parcel becomes INVALID, its state zeroized (R204, R365, R598). -/
def ctxsInvalid (s : State) (p : Nat) : State :=
  let s := ctxTapsEnd s p
  let s := enMod s fun e => { e with
    cz := tabMap e.cz fun _ c => if c.parcel == some p then { st := .invalid, parcel := c.parcel, pEdition := c.pEdition } else c
    dg := tabMap e.dg fun _ c => if c.parcel == some p then
        { st := .invalid, parcel := c.parcel, pEdition := c.pEdition, alg := c.alg, hmac := c.hmac } else c }
  gzMod s fun g => { g with ctxs := tabMap g.ctxs fun _ c => if c.parcel == some p then { c with st := .invalid } else c }

/-- The packets that joined a reset are answered (R204). -/
def waitersAnswer (s : State) (ws : List Waiter) : State :=
  ws.foldl (fun s w => match w with
    | .packet n => pkReply s n .ok
    | _ => s) s

/-- FRAMES of PC_RESET_STATUS, and the teardown is no longer in progress (R226); event 161. -/
def teardownStatus (s : State) (p : Nat) : State :=
  let a := PC_RESET_STATUS p
  raise (regPutBit (regPutFld s a 15 0 (min 65535 (frameNo s - (parGet s p).effect))) a 31 false) 161

/-- What the end of a reset's teardown deletes and resets (R204). -/
def teardownClear (s : State) (p : Nat) : State :=
  let s := match (parGet s p).vf with
    | some f => ctrlMod (fnDropQueues s f) f (ctrlClear true)
    | none => s
  let ns := parcelNss s p
  let s := { s with cq := { s.cq with orderMark := s.cq.orderMark.filter (· != p)
                                      reqHoldup := s.cq.reqHoldup.filter fun i => !ns.contains i } }
  ctxsInvalid s p

/-- A pending enable runs, or fails for want of an attachment (R168). -/
def pendingEnable (s : State) (p : Nat) : State :=
  let x := parGet s p
  let s := parMod s p fun x => { x with pend := none, st := .provisioned }
  let answer := fun (s : State) (st : RStat) => match x.pend with
    | some (.packet n) => pkReply s n st
    | _ => s
  if attached x then raise (answer (parcelActivate s p) .ok) 163 else answer s .badParameter

/-- The parcel's state after its teardown (R169). -/
def resetTarget (s : State) (p : Nat) : State :=
  let x := parGet s p
  if x.st = .enabling then pendingEnable s p
  else if x.wasActive && !x.hold && attached x then parcelActivate s p
  else parMod s p fun x => { x with st := .provisioned }

/-- Teardown ends (R204): at a boundary after the reset's own. -/
def teardown (s : State) (p : Nat) : State :=
  let x := parGet s p
  if (x.st = .resetting ∨ x.st = .enabling) ∧ x.effect < frameNo s ∧ !parcelLive s p then
    let s := teardownStatus (teardownClear s p) p
    let s := parMod s p fun x => { x with waiters := [], hold := false, wasActive := x.wasActive && !x.hold, mbUp := true }
    resetTarget (waitersAnswer s x.waiters) p
  else s

/-- TEARDOWN_END (R204). -/
def execTeardownEnd (parcel : Nat) (s : State) : Res := .next (teardown s parcel)

/-! ## Freeze (R209-R212) -/

/-- The parcel is drained (R210). -/
def drainCheck (s : State) (p : Nat) : State :=
  let x := parGet s p
  if x.st = .frozen ∧ !x.drained ∧ (tksWhere s fun t => t.parcel == some p && !t.admin).isEmpty
      ∧ tabCount s.cs.invs (fun i => i.parcel == p) = 0 then
    freezeAnswer (raise (parMod s p fun x => { x with drained := true }) 162) p .ok
  else s

/-- PARCEL_DRAINED (R210). -/
def execParcelDrained (parcel : Nat) (s : State) : Res := .next (drainCheck s parcel)

/-! ## Links (R70) -/

/-- A function is unbound (R221): its queues go, no ticket changes and no command completes. -/
def vfUnbind (s : State) (p f : Nat) : State :=
  parMod (ctrlMod (fnDropQueues s f) f fun _ => {}) p fun x => { x with vf := none }

/-- A ticket is cancelled by advancing its edition, and completes internally (R70). -/
def tkCancel (s : State) (i : Nat) : State := tkMod (tkInternal s i) i fun t => { t with edition := nextEdition t }

/-- A parcel loses the function of a link that is lost (R70): its queues go, the tickets that came from them are cancelled. -/
def vfLost (s : State) (p f : Nat) : State :=
  vfUnbind ((tksWhere s fun t => match t.src with
    | .pcie g _ => g == f
    | _ => false).foldl tkCancel s) p f

/-- One parcel at the loss of a link: with host pairs it keeps them; without, it undergoes a reset. -/
def linkLossParcel (s : State) (l : Link) (p : Nat) : State :=
  let x := parGet s p
  match x.vf with
  | none => s
  | some f =>
    if !fnOn l f then s
    else
      let s := vfLost s p f
      if x.pairs.isEmpty then reqsRun (reqReset s p 3 false .none) p isReset else s

/-- The boundary after a link's reset or DL_Down (R70). -/
def linkLoss (s : State) (l : Link) : State :=
  if (linkGet s l).loss then
    (s.pc.parcels.map (·.1)).foldl (fun s p => linkLossParcel s l p) (linkPut s l { linkGet s l with loss := false })
  else s

/-- LINK_LOSS_EFFECT (R70), with step 8 of the resets that it starts. -/
def execLinkLossEffect (l : Link) (s : State) : Res :=
  let t := linkLoss s l
  .next ((t.pc.parcels.map (·.1)).foldl parcelCancel t)

/-! ## Meter records (R190-R196, R796) -/

/-- The differences of two lists of meters. -/
def metersSince (a b : List Nat) : List Nat := List.zipWith (· - ·) a b

/-- A parcel's record over the open span (R193). -/
def recordOf (s : State) (p : Nat) (ed st : Nat) (ms : List Nat) (final : Bool) (stop : Nat) : MRec :=
  { parcel := p, edition := ed, state := st, start := s.pc.spanStart, stop := stop, meters := ms
    flags := b2n final + 2 * b2n s.pc.merged + 4 * b2n (parGet s p).restored + 8 * b2n s.pc.acrossBoot }

/-- Records of the ring (R194). -/
def ringSize : Nat := 65536
def ringRoom (s : State) : Nat := ringSize - s.pc.ring.length

/-- A retirement's FINAL record enters the ring, or is held with the entry (R220, R796). -/
def finalRecord (s : State) (p : Nat) : State :=
  let x := parGet s p
  let r := recordOf s p x.edition (pstateCode x.st) (metersSince x.meters x.told) true (frameNo s)
  if s.pc.held.isEmpty ∧ 0 < ringRoom s then { s with pc := { s.pc with ring := s.pc.ring ++ [r] } }
  else raise (regPutBit { s with pc := { s.pc with held := s.pc.held ++ [r] } } PC_SNAP_STATUS 31 true) 165

/-- Held FINAL records are written as room allows, in the order of the retirements (R796). -/
def heldWrite (s : State) : State :=
  let k := min (ringRoom s) s.pc.held.length
  { s with pc := { s.pc with ring := s.pc.ring ++ s.pc.held.take k, held := s.pc.held.drop k } }

/-- HELD_FINAL_RECORD_WRITE (R796). -/
def execHeldFinalRecordWrite (s : State) : Res := .next (heldWrite s)

/-- A meter interval ends (R190): every meter switches bank, and the interval in force is that of PC_SNAP_INTERVAL. -/
def intervalEnd (s : State) : State :=
  if frameNo s < s.pc.lastEnd + s.pc.interval then s
  else { s with pc := { s.pc with
    parcels := tabMap s.pc.parcels fun _ x =>
      { x with closed := x.meters, endEd := x.edition, endSt := pstateCode x.st }
    devClosed := s.pc.dev, due := some (frameNo s), lastEnd := frameNo s
    interval := max 1000000 (regNat s PC_SNAP_INTERVAL) } }

/-- METER_INTERVAL_END (R190). -/
def execMeterIntervalEnd (s : State) : Res := .next (intervalEnd s)

/-- The parcels that a snapshot's records cover (R192). -/
def snapParcels (s : State) : List Nat := tabKeys s.pc.parcels fun x => x.endSt != 0 && x.st != .vacant

/-- The records of the snapshot whose interval ended at `b` (R192, R193). -/
def snapRecords (s : State) (b : Nat) : List MRec :=
  (snapParcels s).map (fun p => let x := parGet s p; recordOf s p x.endEd x.endSt (metersSince x.closed x.told) false b)
    ++ [{ parcel := 0xFFFF, edition := 0, state := 0, start := s.pc.spanStart, stop := b
          meters := metersSince s.pc.devClosed s.pc.devTold, flags := 2 * b2n s.pc.merged + 8 * b2n s.pc.acrossBoot }]

/-- A snapshot's records are written, or carried into the next that fits (R192, R194, R796). -/
def snapWrite (s : State) : State :=
  match s.pc.due with
  | none => s
  | some b =>
    let rs := snapRecords s b
    let ps := snapParcels s
    if ringRoom s < rs.length ∨ !s.pc.held.isEmpty then
      raise (regPutBit { s with pc := { s.pc with due := none, merged := true } } PC_SNAP_STATUS 31 true) 165
    else
      let s := { s with pc := { s.pc with
        ring := s.pc.ring ++ rs, due := none, merged := false, acrossBoot := false, spanStart := b
        devTold := s.pc.devClosed
        parcels := tabMap s.pc.parcels fun p x => if ps.contains p then { x with told := x.closed, restored := false } else x } }
      raise (regPutFld s PC_SNAP_STATUS 15 0 (regFld s PC_SNAP_STATUS 15 0 + 1)) 164

/-- SNAPSHOT_RECORDS_WRITTEN (R192). -/
def execSnapshotRecordsWritten (s : State) : Res := .next (snapWrite s)

/-- SNAP_INTERVAL_WRITE (R191): it takes effect when the current interval ends. -/
def execSnapIntervalWrite (value : Nat) (s : State) : Res := .next (regWrite s PC_SNAP_INTERVAL value)

/-- METER_LO_READ (R196). -/
def meterRead (s : State) (p m : Nat) : State :=
  if p < 1024 ∧ m < 9 then
    let v := (parGet s p).meters.getD m 0
    emit (regPut s (PC_METER_HI p m) (v / 2 ^ 32)) (.regRead (PC_METER_LO p m) (BitVec.ofNat 32 v))
  else s
def execMeterLoRead (parcel meter : Nat) (s : State) : Res := .next (meterRead s parcel meter)

/-- SNAP_LAST_LO_READ (R229). -/
def execSnapLastLoRead (s : State) : Res :=
  .next (emit (regPut s PC_SNAP_LAST_HI (s.pc.lastEnd / 2 ^ 32)) (.regRead PC_SNAP_LAST_LO (BitVec.ofNat 32 s.pc.lastEnd)))

/-! ## Retirement (R220) -/

/-- A memory range is zeroized and given up. -/
def rangeGone (s : State) (p n : Nat) : State :=
  match rangeGet s p n with
  | none => s
  | some r =>
    let s := lineWrites (memZero (rangeClean s p r.phys r.len) r.phys r.len) r.phys r.len 0
    csMod (spanGive s r.phys) fun x => { x with ranges := tabErase x.ranges (p * 4096 + n) }

/-- Numbers of a parcel's memory ranges and program slots. -/
def parcelRanges (s : State) (p : Nat) : List Nat := (ofParcel s.cs.ranges p 4096).map (·.1)
def parcelProgs (s : State) (p : Nat) : List Nat := (ofParcel s.cs.progs p 64).map (·.1)

/-- A program slot is freed. -/
def progGone (s : State) (p idx : Nat) : State :=
  match tabGet s.cs.progs (progKey p idx) with
  | none => s
  | some g => csMod (spanGive s g.code) fun x => { x with progs := tabErase x.progs (progKey p idx) }

/-- A retirement takes effect (R220). -/
def retireStart (s : State) (p : Nat) (w : Waiter) : State :=
  let s := teardownBegin (editionAdvance s p) p 4
  let s := parMod s p fun x => { x with st := .retiring, drained := false, waiters := [w], reqs := x.reqs.filter fun r => !isCcEn r }
  let s := (parcelConns s p).foldl connClose s
  let s := match (parGet s p).vf with
    | some f => vfUnbind s p f
    | none => s
  let s := { s with host := { s.host with discChange := s.host.discChange || !(parGet s p).pairs.isEmpty } }
  let s := parMod s p fun x => { x with pairs := [] }
  let s := parcelTksEnd (parcelJobsDrop (parcelTasksEnd s p) p) p
  let s := (tabKeys s.ks.slots fun k => k.valid && !k.device && k.owner == p).foldl (fun s k => keyAsk s (.erase k)) s
  let s := (parcelRanges s p).foldl (fun s n => rangeGone s p n) s
  let s := (parcelProgs s p).foldl (fun s n => progGone s p n) s
  let s := csMod s fun x => { x with sets := tabFilter x.sets fun k _ => k / 16 != p }
  let s := atlSet s fun a => { a with
    nss := tabMap a.nss fun _ n => if n.parcel == some p then { n with parcel := none, leaving := false } else n }
  let s := ctxTapsEnd s p
  let s := enMod s fun e => { e with cz := tabFilter e.cz fun _ c => c.parcel != some p
                                     dg := tabFilter e.dg fun _ c => c.parcel != some p }
  gzRetire (waysReturn (mailboxClear s p) p) p

/-- The teardown of a retirement ends (R220): transfer spends bring every balance to 0, the FINAL record is written or
held, and the entry is VACANT, its edition kept (R199). -/
def retireEnd (s : State) (p : Nat) : State :=
  let x := parGet s p
  if x.st = .retiring ∧ x.effect < frameNo s ∧ !parcelLive s p then
    let s := [0, 1, 2, 3].foldl (fun s c => tokenSpendRaw s p c ((parGet s p).bal.getD c 0)) s
    let s := teardownStatus (finalRecord s p) p
    let s := parMod s p fun x => { edition := x.edition, rate := x.rate, depth := x.depth
                                   shareDue := x.shareDue }
    waitersAnswer s x.waiters
  else s

/-- RETIREMENT_TEARDOWN_END (R220). -/
def execRetirementTeardownEnd (parcel : Nat) (s : State) : Res := .next (retireEnd s parcel)

/-! ## Mailboxes (R175-R179) -/

/-- Does a parcel's mailbox accept posts: is it ACTIVE or FROZEN (R176), or has a teardown ended in PROVISIONED (R178)? DESIGN
CHOICE, log 69: R176 names ACTIVE and FROZEN alone, R178 sets READY again in PROVISIONED. -/
def mbReady (s : State) (p : Nat) : Bool :=
  let x := parGet s p
  x.st == .active || x.st == .frozen || (x.st == .provisioned && x.mbUp)

/-- A slot write or post that is ignored sets REFUSED. -/
def mbRefuse (s : State) (p : Nat) : State := regPutBit s (PC_MB_STATUS p) 30 true

/-- Has the tenant a view: is a virtual function bound (R179)? -/
def mbTenant (s : State) (p : Nat) : Bool := (parGet s p).vf.isSome

/-- A slot write of the view that may write it (R175). -/
def mbSlot (s : State) (tenant : Bool) (p off v : Nat) : State :=
  let inb := off < 0x400
  let pend := if inb then PC_MB_IN_PENDING p else PC_MB_OUT_PENDING p
  if 1024 ≤ p ∨ 0x800 ≤ off ∨ off % 4 ≠ 0 ∨ inb ≠ tenant ∨ (tenant ∧ !mbTenant s p) then s
  else if regBit s pend (off % 0x400 / 0x40) then mbRefuse s p
  else regPut s (PC_MB_IN_SLOT p 0 + off) v

/-- MAILBOX_SLOT_WRITE (R175). -/
def execMailboxSlotWrite (tenant : Bool) (parcel off value : Nat) (s : State) : Res := .next (mbSlot s tenant parcel off value)

/-- Bits of `m` that `old` does not hold, and whether `m` names one that it does. -/
def newBits (old m : Nat) : Nat := (BitVec.ofNat 16 m &&& ~~~(BitVec.ofNat 16 old)).toNat
def anyBits (old m : Nat) : Bool := BitVec.ofNat 16 m &&& BitVec.ofNat 16 old != 0
def orBits (a b : Nat) : Nat := (BitVec.ofNat 16 a ||| BitVec.ofNat 16 b).toNat

/-- MAILBOX_IN_POST (R176, R178). -/
def mbInPost (s : State) (p m : Nat) : State :=
  if 1024 ≤ p ∨ !mbTenant s p then s
  else if !mbReady s p then mbRefuse s p
  else
    let old := regNat s (PC_MB_IN_PENDING p)
    let s := if anyBits old m then mbRefuse s p else s
    parMod (regPut s (PC_MB_IN_PENDING p) (orBits old m)) p fun x => { x with inPost := orBits x.inPost (newBits old m) }
def execMailboxInPost (parcel mask : Nat) (s : State) : Res := .next (mbInPost s parcel mask)

/-- MAILBOX_OUT_POST (R176, R178): vector 64 of the bound function is interrupted. -/
def mbOutPost (s : State) (p m : Nat) : State :=
  if 1024 ≤ p then s
  else if !mbReady s p then mbRefuse s p
  else
    let old := regNat s (PC_MB_OUT_PENDING p)
    let s := if anyBits old m then mbRefuse s p else s
    let s := parMod (regPut s (PC_MB_OUT_PENDING p) (orBits old m)) p fun x => { x with outPost := orBits x.outPost (newBits old m) }
    match (parGet s p).vf with
    | some f => if newBits old m = 0 then s else msixDue s f 64
    | none => s
def execMailboxOutPost (parcel mask : Nat) (s : State) : Res := .next (mbOutPost s parcel mask)

/-- What each view's pending register reads: the other side's posts of this frame are not yet visible (R177). -/
def mbInPending (s : State) (p : Nat) (tenant : Bool) : Nat :=
  let v := regNat s (PC_MB_IN_PENDING p)
  if tenant then v else newBits (parGet s p).inPost v
def mbOutPending (s : State) (p : Nat) (tenant : Bool) : Nat :=
  let v := regNat s (PC_MB_OUT_PENDING p)
  if tenant then newBits (parGet s p).outPost v else v

/-- MAILBOX_POST_VISIBLE (R177). -/
def mbVisible (s : State) (p : Nat) : State :=
  let x := parGet s p
  let first := x.inPost != 0 && mbInPending s p false == 0
  let s := if x.inPost = 0 ∧ x.outPost = 0 then s else parMod s p fun x => { x with inPost := 0, outPost := 0 }
  if first then raise (regPutBit s (PC_MB_SUMMARY (p / 32)) (p % 32) true) 160 else s
def execMailboxPostVisible (parcel : Nat) (s : State) : Res := .next (mbVisible s parcel)

/-- A view clears pending bits that it sees (R176): the summary bit falls with the last (R177). -/
def mbInConsume (s : State) (p m : Nat) : State :=
  if 1024 ≤ p then s
  else
    let seen := (BitVec.ofNat 16 m &&& BitVec.ofNat 16 (mbInPending s p false)).toNat
    let s := regPut s (PC_MB_IN_PENDING p) (newBits seen (regNat s (PC_MB_IN_PENDING p)))
    if mbInPending s p false = 0 then regPutBit s (PC_MB_SUMMARY (p / 32)) (p % 32) false else s
def execMailboxInConsume (parcel mask : Nat) (s : State) : Res := .next (mbInConsume s parcel mask)

/-- The tenant's W1C of PC_MB_OUT_PENDING (R176). -/
def mbOutConsume (s : State) (p m : Nat) : State :=
  let seen := (BitVec.ofNat 16 m &&& BitVec.ofNat 16 (mbOutPending s p true)).toNat
  regPut s (PC_MB_OUT_PENDING p) (newBits seen (regNat s (PC_MB_OUT_PENDING p)))

/-- PC_MB_STATUS as it reads (R176). -/
def mbStatus (s : State) (p : Nat) : Nat :=
  b2n (mbReady s p) * 2 ^ 31 + b2n (regBit s (PC_MB_STATUS p) 30) * 2 ^ 30 + (parGet s p).edition

/-! ## Shares and masks (R185, R225, R227, R493) -/

/-- SHARE_WRITE (R185). -/
def shareWrite (s : State) (p cls : Nat) (depth : Bool) (v : Nat) : State :=
  if p < 1024 ∧ cls < 4 then
    parMod (regWrite s (if depth then PC_DEPTH p cls else PC_SHARE p cls) v) p fun x => { x with shareDue := true }
  else s
def execShareWrite (parcel cls : Nat) (depth : Bool) (value : Nat) (s : State) : Res :=
  .next (shareWrite s parcel cls depth value)

/-- SHARE_CHANGE_EFFECT (R185): the balance stands. -/
def shareEffect (s : State) (p : Nat) : State :=
  if (parGet s p).shareDue then
    let r := [0, 1, 2, 3].map fun c => regFld s (PC_SHARE p c) 23 0
    let d := [0, 1, 2, 3].map fun c => regFld s (PC_DEPTH p c) 23 0
    parMod s p fun x => { x with rate := r, depth := d, shareDue := false }
  else s
def execShareChangeEffect (parcel : Nat) (s : State) : Res := .next (shareEffect s parcel)

/-- CORE_MASK_WRITE (R225). -/
def maskWriteReg (s : State) (p v : Nat) : State :=
  if p < 1024 then parMod (regWrite s (PC_CORE_MASK p) v) p fun x => { x with maskDue := true } else s
def execCoreMaskWrite (parcel value : Nat) (s : State) : Res := .next (maskWriteReg s parcel value)

/-- CORE_MASK_EFFECT (R493): READY tasks in clusters no longer allowed move; slices finish at the boundary. -/
def maskEffect (s : State) (p : Nat) : State :=
  if (parGet s p).maskDue then
    let m := regFld s (PC_CORE_MASK p) 7 2 * 4
    let s := parMod s p fun x => { x with mask := m, maskDue := false }
    (parcelTasks s p).foldl taskMove s
  else s
def execCoreMaskEffect (parcel : Nat) (s : State) : Res := .next (maskEffect s parcel)

/-! ## What the PC registers read (R222-R224) -/

def pcState (s : State) (p : Nat) : Nat :=
  let x := parGet s p
  b2n x.drained * 2 ^ 31 + b2n x.queued.isSome * 2 ^ 30 + pstateCode x.st

def pcAttach (s : State) (p : Nat) : Nat :=
  let x := parGet s p
  let f := x.vf.getD 0
  b2n x.vf.isSome * 2 ^ 31 + b2n (onLinkB f) * 2 ^ 30 + b2n (!x.pairs.isEmpty) * 2 ^ 29
    + min 511 (parcelConns s p).length * 2 ^ 16 + f % 512

/-- A balance in 32-bit two's complement (R228). -/
def pcBalance (s : State) (p c : Nat) : Nat := (BitVec.ofInt 32 ((parGet s p).shown.getD c 0)).toNat

end Sys2Proof.Machine
end

