-- ==== Sys2Proof/Machine/Cadastre.lean ====
section
/-! DEFINITION. Chapters 04 and 14, the parcel packets 0101h to 010Fh: what each does when it takes effect (R165-R168,
R172-R174, R213-R221, R712-R716, R800, R803). -/
namespace Sys2Proof.Machine

/-! ## Limits (R164, R165, R713) -/

/-- The limits a packet carries, over those that it does not. -/
def limitsOf (p : Packet) (old : Limits) : Limits :=
  { old with namespaces := pAt p 8 2, queuePairs := pAt p 10 2, keySlots := pAt p 12 2, programs := pAt p 14 2
             ranges := pAt p 16 1, controllers := pAt p 17 1 }

/-- Are the limits within the ranges of R713? -/
def limitsOk (p : Packet) : Bool :=
  pAt p 8 2 ≤ 64 && pAt p 10 2 ≤ 64 && pAt p 12 2 ≤ 128 && pAt p 14 2 ≤ 64 && pAt p 16 1 ≤ 32 && pAt p 17 1 ≤ 4
    && pAt p 20 1 % 4 == 0

/-- Queue pairs of a parcel in use (R101). -/
def pairsUsed (s : State) (p : Nat) : Nat :=
  match (parGet s p).vf with
  | some f => max (sqCount s f) (cqCount s f)
  | none => 0

/-- The queue pairs allocated to the other parcels that are not VACANT (R165). -/
def pairsAllocated (s : State) (p : Nat) : Nat :=
  ((s.pc.parcels.filter fun e => e.1 != p && e.2.st != .vacant).map fun e => e.2.lim.queuePairs).sum

/-- Would the limits fall below the parcel's use (R165)? -/
def limitsBelowUse (s : State) (p : Nat) (l : Limits) : Bool :=
  l.namespaces < (parcelNss s p).length || l.queuePairs < pairsUsed s p || l.keySlots < ownedSlots s p 4096
    || l.programs < (parcelProgs s p).length || l.ranges < (parcelRanges s p).length
    || l.controllers < (parcelCtrls s p).length

/-- The core mask of a packet takes effect with it (R713, R225). -/
def maskSet (s : State) (p m : Nat) : State :=
  maskEffect (parMod (regPut s (PC_CORE_MASK p) (m / 4 * 4)) p fun x => { x with maskDue := true }) p

/-- PARCEL_CREATE (R168). -/
def parcelCreateFx (s : State) (n : Nat) (p : Packet) : State :=
  let k := p.parcel
  let x := parGet s k
  if x.st ≠ .vacant then pkFail s n .wrongState
  else if s.pc.held.any fun r => r.parcel == k then pkFail s n .busy
  else if !limitsOk p then pkFail s n .badParameter
  else if 4096 < pairsAllocated s k + pAt p 10 2 then pkFail s n .noResource
  else
    let s := parMod s k fun x => { st := .provisioned, edition := x.edition, rate := x.rate
                                   depth := x.depth, shareDue := x.shareDue, bal := x.bal, shown := x.shown
                                   lim := limitsOf p {} }
    pkReply (maskSet s k (pAt p 20 1)) n .ok (leBytes 2 (parGet s k).edition)

/-- PARCEL_CONFIGURE (R165, R713). -/
def parcelConfigureFx (s : State) (n : Nat) (p : Packet) : State :=
  let k := p.parcel
  let x := parGet s k
  let l := limitsOf p x.lim
  if x.st ≠ .provisioned ∧ x.st ≠ .active ∧ x.st ≠ .frozen then pkFail s n .wrongState
  else if !limitsOk p || limitsBelowUse s k l then pkFail s n .badParameter
  else if 4096 < pairsAllocated s k + l.queuePairs ∧ x.lim.queuePairs < l.queuePairs then pkFail s n .noResource
  else pkReply (maskSet (parMod s k fun x => { x with lim := l }) k (pAt p 20 1)) n .ok

/-! ## Attachments (R61, R172-R174, R221, R803) -/

/-- The function that a packet names: virtual function `v` of a link (R60, R712). -/
def packetVf (s : State) (p : Packet) : Option Nat :=
  let v := pAt p 8 2
  match pAt p 10 1 with
  | 0 => if v < compFn ∧ vfExists s v then some v else none
  | 1 => if 1 ≤ v ∧ vfExists s (compFn + v) then some (compFn + v) else none
  | _ => none

/-- PARCEL_BIND_VF (R61): one function a parcel, one parcel a function. -/
def parcelBindVfFx (s : State) (n : Nat) (p : Packet) : State :=
  let k := p.parcel
  let x := parGet s k
  if x.st ≠ .provisioned ∧ x.st ≠ .frozen then pkFail s n .wrongState
  else match packetVf s p with
    | none => pkFail s n .badParameter
    | some f =>
      if x.vf.isSome || (boundParcel s f).isSome then pkFail s n .wrongState
      else pkReply (parMod s k fun x => { x with vf := some f }) n .ok

/-- PARCEL_UNBIND_VF (R221). -/
def parcelUnbindVfFx (s : State) (n : Nat) (p : Packet) : State :=
  let k := p.parcel
  let x := parGet s k
  if x.st ≠ .provisioned ∧ x.st ≠ .frozen then pkFail s n .wrongState
  else if x.st = .frozen ∧ !x.drained then pkFail s n .busy
  else match x.vf with
    | none => pkFail s n .wrongState
    | some f => pkReply (vfUnbind s k f) n .ok

/-- One octet of UTF-8: continuation octets still due, and the bounds of the next one. -/
def utf8Step (b : Nat) : Nat × Nat × Nat → Option (Nat × Nat × Nat)
  | (0, _, _) =>
    if b < 0x80 then some (0, 0, 0)
    else if b < 0xC2 then none
    else if b < 0xE0 then some (1, 0x80, 0xBF)
    else if b = 0xE0 then some (2, 0xA0, 0xBF)
    else if b = 0xED then some (2, 0x80, 0x9F)
    else if b < 0xF0 then some (2, 0x80, 0xBF)
    else if b = 0xF0 then some (3, 0x90, 0xBF)
    else if b < 0xF4 then some (3, 0x80, 0xBF)
    else if b = 0xF4 then some (3, 0x80, 0x8F)
    else none
  | (k + 1, lo, hi) => if lo ≤ b ∧ b ≤ hi then some (k, 0x80, 0xBF) else none

/-- Is a string valid UTF-8? -/
def utf8Ok : Nat × Nat × Nat → Bytes → Bool
  | st, [] => st.1 == 0
  | st, b :: t => match utf8Step b.toNat st with
    | some st => utf8Ok st t
    | none => false

/-- The NQN of a 256-octet field (R803): not empty, valid UTF-8, up to 223 octets, padded with NUL octets. -/
def nqnField (d : Bytes) : Option Bytes :=
  let q := d.takeWhile (· != 0)
  if q.isEmpty || 223 < q.length || !utf8Ok (0, 0, 0) q || !((d.drop q.length).all (· == 0)) then none else some q

/-- A pair is withdrawn: the connections that came under it close (R220, chapter 04, Moving a parcel). -/
def pairWithdraw (s : State) (k : Nat) (h q : Bytes) : State :=
  let s := parMod s k fun x => { x with pairs := x.pairs.filter (· != (h, q)) }
  let s := (tabKeys s.host.conns fun c => c.parcel == k && !c.discovery && c.hostNqn == h && c.subNqn == q).foldl connClose s
  { s with host := { s.host with discChange := true } }

/-- PARCEL_HOST_PAIR (R803). -/
def parcelHostPairFx (s : State) (n : Nat) (p : Packet) : State :=
  let k := p.parcel
  let x := parGet s k
  if x.st ≠ .provisioned ∧ x.st ≠ .active ∧ x.st ≠ .frozen then pkFail s n .wrongState
  else if p.bufLen ≠ 512 then pkFail s n .badParameter
  else match nqnField (slice p.buf 0 256), nqnField (slice p.buf 256 256) with
    | some h, some q =>
      let mine := x.pairs.contains (h, q)
      if bitOf p.flags 0 then
        if mine then pkReply (pairWithdraw s k h q) n .ok else pkFail s n .badParameter
      else if mine then pkReply s n .ok
      else if (pairParcel s h q).isSome then pkFail s n .wrongState
      else
        let s := parMod s k fun x => { x with pairs := x.pairs ++ [(h, q)] }
        pkReply { s with host := { s.host with discChange := true } } n .ok
    | _, _ => pkFail s n .badParameter

/-- PARCEL_ASSIGN_NS (R172, R173). -/
def parcelAssignNsFx (s : State) (n : Nat) (p : Packet) : State :=
  let k := p.parcel
  let x := parGet s k
  let id := pAt p 8 4
  if x.st ≠ .provisioned ∧ x.st ≠ .active ∧ x.st ≠ .frozen then pkFail s n .wrongState
  else match nsGet s id with
    | none => pkFail s n .badParameter
    | some v =>
      if bitOf p.flags 0 then
        if v.parcel = some k then pkReply (nsWithdraw s id k) n .ok else pkFail s n .badParameter
      else if v.parcel = some k then pkReply (nsMod s id fun v => { v with leaving := false }) n .ok
      else if v.parcel.isSome then pkFail s n .badParameter
      else if min 64 x.lim.namespaces ≤ (parcelNss s k).length then pkFail s n .noResource
      else pkReply (nsAssign s id k) n .ok

/-! ## State changes (R168) -/

/-- PARCEL_ENABLE. -/
def parcelEnableFx (s : State) (n : Nat) (p : Packet) : State :=
  let k := p.parcel
  let x := parGet s k
  match x.st with
  | .provisioned => if attached x then pkReply (parcelActivate s k) n .ok else pkFail s n .badParameter
  | .resetting => parMod s k fun x => { x with st := .enabling, pend := some (.packet n) }
  | _ => pkFail s n .wrongState

/-- Is a save of the parcel in progress? -/
def parcelSaving (s : State) (k : Nat) : Bool := ((tabGet s.pc.saves k).map fun v => !v.restore).getD false

/-- PARCEL_THAW: a freeze still unanswered replies ABORTED (R715). -/
def parcelThawFx (s : State) (n : Nat) (p : Packet) : State :=
  let k := p.parcel
  if (parGet s k).st ≠ .frozen then pkFail s n .wrongState
  else if parcelSaving s k then pkFail s n .busy
  else pkReply (freezeAnswer (parMod s k fun x => { x with st := .active, drained := false }) k .aborted) n .ok

/-- PARCEL_RETIRE (R168, R220): answered when the entry is VACANT. -/
def parcelRetireFx (s : State) (n : Nat) (p : Packet) : State :=
  let k := p.parcel
  let x := parGet s k
  if x.st ≠ .provisioned ∧ x.st ≠ .frozen then pkFail s n .wrongState
  else if x.st = .frozen ∧ (parcelSaving s k ∨ !x.drained) then pkFail s n .busy
  else retireStart s k (.packet n)

/-- PARCEL_SHARE (R715): the registers are written and the change holds from this boundary (R185). -/
def parcelShareFx (s : State) (n : Nat) (p : Packet) : State :=
  let k := p.parcel
  if (parGet s k).st = .vacant ∨ (parGet s k).st = .retiring then pkFail s n .wrongState
  else
    let s := ([0, 1, 2, 3].filter (bitOf (pAt p 8 1))).foldl (fun s c =>
      shareWrite (shareWrite s k c false (pAt p (12 + 8 * c) 4)) k c true (pAt p (16 + 8 * c) 4)) s
    pkReply (shareEffect s k) n .ok

/-! ## Query (R714) -/

/-- Sections of an image: the fixed ones and those that the packet selects (R213, R214). -/
def saveSections (p : Packet) : Nat := 0xE7 + 8 * b2n (bitOf (pAt p 8 1) 3) + 16 * b2n (bitOf (pAt p 8 1) 4)

/-- PARCEL_QUERY. -/
def parcelQueryFx (s : State) (n : Nat) (p : Packet) : State :=
  let k := p.parcel
  let x := parGet s k
  let bits := b2n x.drained + 2 * b2n x.queued.isSome + 4 * b2n x.vf.isSome + 8 * b2n (!x.pairs.isEmpty)
  pkReply s n .ok (leBytes 1 (pstateCode x.st) ++ leBytes 1 bits ++ leBytes 2 x.edition
    ++ leBytes 1 (parcelNss s k).length ++ leBytes 1 (pairsUsed s k) ++ leBytes 1 (ownedSlots s k 4096)
    ++ leBytes 1 (parcelProgs s k).length ++ leBytes 1 (parcelRanges s k).length ++ leBytes 1 (parcelCtrls s k).length
    ++ leBytes 2 (parcelConns s k).length ++ leBytes 8 (imageLength (parcelImage s k 0xFF [])))

/-! ## Save (R213-R216, R715) -/

/-- Does a slot exist and permit migration (R213, R217)? -/
def migrationKey (s : State) (k : Nat) : Bool := decide (k < 4096) && (slotGet s k).valid && bitOf (slotGet s k).uses 7

/-- PARCEL_SAVE begins (R213). -/
def parcelSaveFx (s : State) (n : Nat) (p : Packet) : State :=
  let k := p.parcel
  let x := parGet s k
  let slot := pAt p 10 2
  if x.st ≠ .frozen then pkFail s n .wrongState
  else if !x.drained || (tabGet s.pc.saves k).isSome then pkFail s n .busy
  else if !migrationKey s slot || decide (p.bufLen < imageLength (parcelImage s k (saveSections p) (slotGet s slot).key)) then
    pkFail s n .badParameter
  else
    let v : SaveSt := { packet := n, sections := saveSections p, slot := slot, image := [], restore := false }
    { s with pc := { s.pc with saves := tabSet s.pc.saves k v } }

/-- A save completes (R215): transfer spends bring every balance to 0, and the reply carries the length. A key erased under
the save, or an image grown beyond the buffer, ends it without effect. -/
def saveEnd (s : State) (k : Nat) : State :=
  match tabGet s.pc.saves k with
  | none => s
  | some v =>
    if v.restore then s
    else
      let s := { s with pc := { s.pc with saves := tabErase s.pc.saves k } }
      let key := (slotGet s v.slot).key
      let s := (List.range 8).foldl (fun s cl => if bitOf (parGet s k).mask cl && bitOf v.sections 4 then
        (ofParcel s.cs.ranges k 4096).foldl (fun s r => spanCleanInval s cl r.2.phys r.2.len) s else s) s
      let i := parcelImage s k v.sections key
      let bufLen := ((flightGet s v.packet).map (·.p.bufLen)).getD 0
      if !migrationKey s v.slot || bufLen < imageLength i then pkFail s v.packet .badParameter
      else if !((flightGet s v.packet).map (·.p.bufOk)).getD true then pkFail s v.packet .hostError
      else
        let r := imageSeal s k i key
        let s := [0, 1, 2, 3].foldl (fun s c => tokenSpendRaw s k c ((parGet s k).bal.getD c 0)) r.2
        pkReply s v.packet .ok (leBytes 8 (imageLength i)) r.1

/-- PARCEL_SAVE_COMPLETE (R215). -/
def execParcelSaveComplete (parcel : Nat) (s : State) : Res := .next (saveEnd s parcel)

/-! ## Restore (R217-R219, R716, R800) -/

/-- The namespace map of a restore's buffer: 64 NSIDs (R716). -/
def restoreMap (p : Packet) : List Nat := (List.range 64).map fun i => leAt p.buf (4 * i) 4

/-- The image of a restore's buffer. -/
def restoreImage (p : Packet) : Bytes := p.buf.drop 4352

/-- Does the namespace map serve the image's descriptors (R217 step 3)? -/
def mapOk (s : State) (m : List Nat) (ds : List (Nat × Nat)) : Bool :=
  let used := m.take ds.length
  ds.length ≤ 64 && used.all (· != 0) && used.eraseDups.length == used.length && (m.drop ds.length).all (· == 0)
    && (List.range ds.length).all fun i =>
      let d := ds.getD i (0, 0)
      match nsGet s (used.getD i 0) with
      | some n => n.parcel.isNone && n.lbads == d.2 && decide (d.1 ≤ n.nsze)
      | none => false

/-- The class of a memory range: normal or light octets (R637, R722). -/
def rangeClass (light : Bool) : Nat := if light then 2 else 1

/-- A compression context takes the lowest free number (R366). -/
def installCz (k ed : Nat) : List (Nat × CzCtx) → State × List (Nat × Nat) → State × List (Nat × Nat)
  | [], r => r
  | (o, c) :: t, (s, m) =>
    let j := (tabFree s.en.cz 0 512).getD 0
    installCz k ed t (enMod s fun e => { e with cz := tabSet e.cz j { c with parcel := some k, pEdition := ed } }, m ++ [(o, j)])

/-- A digest context takes the lowest free number from 2 (R362, R366). -/
def installDg (k ed : Nat) : List (Nat × DgCtx) → State × List (Nat × Nat) → State × List (Nat × Nat)
  | [], r => r
  | (o, c) :: t, (s, m) =>
    let j := (tabFree s.en.dg 2 254).getD 2
    installDg k ed t (enMod s fun e =>
      { e with dg := tabSet e.dg j { c with parcel := some k, pEdition := ed, tap := false } }, m ++ [(32768 + o, 32768 + j)])

/-- The lowest-numbered empty slot. -/
def freeSlot (s : State) : Nat → Nat → Nat
  | lo, 0 => lo
  | lo, f + 1 => if (slotGet s lo).valid then freeSlot s (lo + 1) f else lo

/-- Keys take slots: those whose source numbers are free first, then the rest the lowest free ones (R800). None where a
key's wrapping does not check. -/
def installKeys (k : Nat) (mig : Bytes) (same : Bool) : List (Nat × KSlot) → State × List (Nat × Nat) → Option (State × List (Nat × Nat))
  | [], r => some r
  | (o, x) :: t, (s, m) =>
    match Config.kwUnwrap mig x.key with
    | none => none
    | some key =>
      let j := if same then o else freeSlot s 0 4096
      let s := keyInstall s j { x with key := key, device := false, owner := k }
      installKeys k mig same t (s, m ++ [(16384 + o, 16384 + j)])

/-- A program slot of the image, its code placed in DRAM. -/
def installProgs (k : Nat) : List (Nat × Prog × List Word) → State → Option State
  | [], s => some s
  | (idx, g, ws) :: t, s =>
    match placeSpan s classW (4 * g.codeWords) with
    | none => none
    | some a =>
      let s := lineWrites (wordsStore (spanFresh s a (4 * g.codeWords)) a ws) a (4 * g.codeWords) 0
      installProgs k t (csMod s fun x => { x with progs := tabSet x.progs (progKey k idx) { g with code := a } })

/-- A memory range of the image, with its contents. -/
def installRanges (k : Nat) : List (Nat × Bool × Bytes) → State → Option State
  | [], s => some s
  | (r, light, d) :: t, s =>
    match placeSpan s (rangeClass light) d.length with
    | none => none
    | some a =>
      let s := lineWrites (memStore (spanFresh s a d.length) a d) a d.length 0
      installRanges k t (csMod s fun x => { x with ranges := tabSet x.ranges (k * 4096 + r) ⟨a, d.length, light⟩ })

/-- Do an image's resources fit the device (R217 step 4)? Its programs and memory ranges must find room in DRAM. -/
def restoreFits (s : State) (k : Nat) (i : ParcelImage) : Bool :=
  decide (pairsAllocated s k + i.lim.queuePairs ≤ 4096) && decide (tabCount s.ks.slots (·.valid) + i.keys.length ≤ 4096)
    && decide (s.cs.progs.length + i.progs.length ≤ 4096)
    && decide (s.en.cz.length + i.cz.length ≤ 512) && decide (s.en.dg.length + i.dg.length ≤ 256)
    && ((installProgs k i.progs s).bind (installRanges k i.ranges)).isSome

/-- The checks of a restore, in order (R217): the image where they pass. -/
def restoreCheck (s : State) (p : Packet) : RStat × Option ParcelImage :=
  let slot := pAt p 8 2
  let d := restoreImage p
  if (parGet s p.parcel).st ≠ .vacant then (.wrongState, none)
  else if s.pc.held.any fun r => r.parcel == p.parcel then (.busy, none)
  else if !migrationKey s slot then (.badParameter, none)
  else if leAt d 0 2 ≠ 1 then (.notAuthentic, none)
  else if p.bufLen < 4352 + leAt d 8 8 then (.badParameter, none)
  else if !imageAuthentic d (slotGet s slot).key then (.notAuthentic, none)
  else match imageOpen d (slotGet s slot).key with
    | none => (.notAuthentic, none)
    | some i =>
      if !mapOk s (restoreMap p) i.nss then (.badParameter, none)
      else if !restoreFits s p.parcel i then (.noResource, none)
      else (.ok, some i)

/-- A restore fails: NOT_AUTHENTIC raises event 166 (R232). -/
def restoreFail (s : State) (n : Nat) (st : RStat) : State :=
  pkFail (if st = .notAuthentic then raise s 166 else s) n st

/-- PARCEL_RESTORE begins: its checks pass, or it fails at once. It takes effect when its image is installed. -/
def restoreBegin (s : State) (n : Nat) (p : Packet) : State :=
  match restoreCheck s p with
  | (.ok, some _) =>
    if (tabGet s.pc.saves p.parcel).isSome then s
    else
      let v : SaveSt := { packet := n, sections := 0, slot := pAt p 8 2, image := [], restore := true }
      { s with pc := { s.pc with saves := tabSet s.pc.saves p.parcel v } }
  | (st, _) => restoreFail (flightApplied s n) n st

/-- The cadastre entry of a restored parcel (R217 step 6, R219): FROZEN and drained, a transfer grant of each balance. -/
def installEntry (s : State) (k : Nat) (i : ParcelImage) : State :=
  let s := parMod s k fun x => { st := .frozen, edition := nextPEdition s k, lim := i.lim, mask := i.mask
                                 rate := i.rate, depth := i.depth, accr := i.accr, meters := i.meters, closed := i.meters
                                 told := i.meters, restored := true, drained := true, bal := x.bal }
  let s := [0, 1, 2, 3].foldl (fun s c => tokenGrantRaw s k c (i.bal.getD c 0)) s
  let s := [0, 1, 2, 3].foldl (fun s c => regPut (regPut s (PC_SHARE k c) (i.rate.getD c 0)) (PC_DEPTH k c) (i.depth.getD c 0)) s
  regPut s (PC_CORE_MASK k) i.mask

/-- The map of contexts and key slots, 4,096 octets (R716). -/
def contextMap (m : List (Nat × Nat)) : Bytes :=
  let d := (m.map fun e => leBytes 2 e.1 ++ leBytes 2 e.2).flatten
  (d ++ zeros 4096).take 4096

/-- An image is installed: the state, and the map; none where a key does not unwrap or DRAM lacks room. -/
def restoreInstall (s : State) (k slot : Nat) (m : List Nat) (i : ParcelImage) : RStat × State × List (Nat × Nat) :=
  let mig := (slotGet s slot).key
  let s0 := installEntry s k i
  let ed := (parGet s0 k).edition
  let s1 := (List.range i.nss.length).foldl (fun s j => nsMod s (m.getD j 0) fun n => { n with parcel := some k, leaving := false }) s0
  let c := installDg k ed i.dg (installCz k ed i.cz (s1, []))
  let free := fun (e : Nat × KSlot) => !(slotGet s e.1).valid
  match (installKeys k mig true (i.keys.filter free) c).bind (installKeys k mig false (i.keys.filter fun e => !free e)) with
  | none => (.notAuthentic, s, [])
  | some r => match (installProgs k i.progs r.1).bind (installRanges k i.ranges) with
    | none => (.noResource, s, [])
    | some t => (.ok, t, r.2)

/-- A restore's installation completes (R217): the parcel is FROZEN and drained, or nothing is installed (R218). -/
def restoreEnd (s : State) (k : Nat) : State :=
  match tabGet s.pc.saves k with
  | none => s
  | some v =>
    match v.restore, flightGet s v.packet with
    | true, some f =>
      let s := flightApplied { s with pc := { s.pc with saves := tabErase s.pc.saves k } } v.packet
      match restoreCheck s f.p with
      | (.ok, some i) =>
        match restoreInstall s k v.slot (restoreMap f.p) i with
        | (.ok, t, m) =>
          pkReply t v.packet .ok (leBytes 2 (parGet t k).edition ++ leBytes 2 m.length) (contextMap m)
        | (st, _, _) => restoreFail s v.packet st
      | (st, _) => restoreFail s v.packet st
    | _, _ => s

/-- RESTORE_INSTALL_COMPLETE (R217). -/
def execRestoreInstallComplete (parcel : Nat) (s : State) : Res := .next (restoreEnd s parcel)

end Sys2Proof.Machine
end

