-- ==== Sys2Proof/Machine/Survey.lean ====
section
/-! DEFINITION. Chapter 12, the surveyor, on-chip SRAM, and what becomes of what an uncorrectable line or word held (R645, R649-R656). -/
namespace Sys2Proof.Machine

/-- A way is fenced by control firmware (R483): its change is requested and event 384 + 6c + 4 raised. -/
def wayFence (s : State) (cl w : Nat) : State :=
  if wayMode s cl w = 1 ∨ wayChanging s cl w then s
  else
    let old := wayMode s cl w
    let s := clusterMod s cl fun x => { x with changes := x.changes ++ [⟨w, old, 1, none⟩] }
    raise (regPutFld s (TC_WAY_MODE cl) (2 * w + 1) (2 * w) 1) (384 + 6 * cl + 4)

/-- An SRAM word whose correction recurs (R649): moved to a spare word, or no spare is left; an L2 way is then fenced. -/
def sramRemap (s : State) (g : Nat) (h : Held) : State :=
  let n := regFld s (EC_SRAM_REMAP g) 4 0
  if n < 16 then raise (regPutFld s (EC_SRAM_REMAP g) 4 0 (n + 1)) 485
  else
    let s := raise s 487
    match h with
    | .way cl w => if 5 ≤ g ∧ g ≤ 12 ∧ cl = g - 5 ∧ w < 16 then wayFence s cl w else s
    | _ => s

/-- The wrong bits that the code of an SRAM group corrects (R645, R660): 1 with SECDED, 2 with DEC-TED. More than it corrects is taken as
detected (DESIGN CHOICE, log 78). -/
def sramCorrects (s : State) (g : Nat) : Nat := if regBit s EC_SRAM_CODE g then 2 else 1

/-! ## What was held (R655, R656) -/

/-- A write-buffer tile found uncorrectable is never programmed (R656). -/
def wbufPoison (s : State) (slot : Nat) : State :=
  match tabGet s.atl.wbuf slot with
  | none => s
  | some e =>
    if e.poison then s
    else
      let ss := tabMap s.atl.stripes fun _ st =>
        if st.issued then st else { st with frags := st.frags.filter fun f => f.move || f.src != slot }
      let w := tabMod s.atl.wbuf slot fun e => { e with poison := true }
      raise (regInc { s with atl := { s.atl with wbuf := w, stripes := ss } } EC_POISONED) 493

/-- A move whose tile is lost in the move buffer before it is issued is abandoned, and its source stays authoritative (R247, R655); a
fold reads its tile again. -/
def moveSpoiled (s : State) (mv : Nat) : State :=
  match tabGet s.atl.moves mv with
  | none => s
  | some m =>
    if s.atl.stripes.any fun e => e.2.issued && e.2.frags.any fun f => f.move && f.src == mv then s
    else if !m.fold then
      let ss := tabMap s.atl.stripes fun _ st => { st with frags := st.frags.filter fun f => !f.move || f.src != mv }
      atlSet s fun a => { a with moves := tabErase a.moves mv, stripes := ss }
    else match wordLoc m.word with
      | .flash d p _ =>
        if dieLive s d then queueMove (atlSet s fun a => { a with moves := tabMod a.moves mv fun m => { m with image := none } }) d (.move mv p)
        else s
      | _ => s

/-- Is a command one that reads for its host? -/
def readsHost (e : Sqe) : Bool := e.opc == 2 || e.opc == 0x82 || (e.opc == copyOpcode && !copiesOut e)

/-- The staging pool has lost the data of a command: a read ends with Unrecovered Read Error, a write that has not reached its point of no
return with Data Transfer Error (R655). -/
def stagingLost (s : State) (tk : Nat) : State :=
  let t := tkGet s tk
  if !t.busy || t.admin || t.phase != .started || t.ponr then s
  else tkFinish s tk (if readsHost t.cmd then .unrecoveredRead else .dataTransfer)

/-- A fabric receive buffer is lost: the command of its capsule completes with Transient Transport Error, or, where its command identifier
cannot be read, the connection takes a fatal transport error (R655). -/
def receiveLost (s : State) (n : Nat) (cid : Bool) : State :=
  match connGet s n with
  | none => s
  | some x => match x.queue with
    | [] => s
    | c :: rest =>
      if cid then connMod s n fun x => { x with queue := { c with lost := true } :: rest }
      else connFatal s n 2

/-- A dirty line of an L2 is written back as poison, and a clean one fetched again from DRAM at its next use (R655). -/
def l2Lost (s : State) (cl l : Nat) : State :=
  match lineGet s cl l with
  | none => s
  | some x =>
    let s := if x.locked.isSome then linePut s cl l { x with data := none, dirty := false } else lineDrop s cl l
    if x.dirty then drMod s fun d => { d with poison := if d.poison.contains l then d.poison else d.poison ++ [l] } else s

/-- Is what a word held a clean line of an L2, which is not counted as uncorrectable (R655)? -/
def heldClean (s : State) : Held → Bool
  | .l2line cl l => !((lineGet s cl l).map (·.dirty)).getD false
  | _ => false

/-- What becomes of the structure that an uncorrectable line or word held (R655, R656). -/
def heldLost (s : State) : Held → State
  | .memory => s
  | .mapLine l => { s with atl := { s.atl with mapLines := if s.atl.mapLines.contains l then s.atl.mapLines else s.atl.mapLines ++ [l] } }
  | .wbuf slot => wbufPoison s slot
  | .moveBuffer mv => moveSpoiled s mv
  | .staging tk => stagingLost s tk
  | .receive c cid => receiveLost s c cid
  | .l2line cl l => l2Lost s cl l
  | .context c => { s with en := { s.en with cz := tabMod s.en.cz c fun x =>
      { x with st := .invalid, parts := [], input := [], orig := [] } } }
  | .dgContext c => { s with en := { s.en with dg := tabMod s.en.dg c fun x => { x with st := .invalid, data := [], cap := none } } }
  | .gzContext c => gzMod s fun g => { g with ctxs := tabMod g.ctxs c fun x => { x with st := .invalid } }
  | .job n => match jobGet s n with
    | some j => if j.phase = .running then jobMemory s n j else s
    | none => s
  | .accounting => { s with fr := { s.fr with fatal := true } }
  | .way _ _ => s

/-! ## The map journal (R640, R655) -/

/-- A journal record as it is read: from the other copy where the line of one is uncorrectable (R640). -/
def journalRead (s : State) (k : Nat) : Option (Nat × Nat × Word) :=
  if !poisoned s (journalLine s 0 k) then s.atl.journal[k]?
  else if !poisoned s (journalLine s 1 k) then s.atl.journal2[k]?
  else none

/-- The journal records that stand in DRAM alone and can be read, in their order, up to the first that cannot. -/
def journalTail (s : State) : List (Nat × Nat × Word) :=
  (((List.range (s.atl.journal.length - s.atl.jprog)).map fun k => journalRead s (s.atl.jprog + k)).takeWhile (·.isSome)).filterMap id

/-- The journal as it can be programmed: what is programmed, and what of the rest can be read (R295, R640). -/
def journalKept (s : State) : List (Nat × Nat × Word) := s.atl.journal.take s.atl.jprog ++ journalTail s

/-- MAP_LINE_REBUILD_END (R655): the words of a map line are whole again, from the last rolling rewrite and the journal, and what waited
on it goes on; while both copies of a journal line are lost it waits. -/
def mapLineEnd (s : State) (line : Nat) : State :=
  if s.atl.mapLines.contains line && journalKept s == s.atl.journal then
    nvmBoundary (atlSet s fun a => { a with mapLines := a.mapLines.filter (· != line) })
  else s
def execMapLineRebuildEnd (line : Nat) (s : State) : Res := .next (mapLineEnd s line)

/-! ## The surveyor (R649-R654) -/

/-- May the surveyor read: enabled, PWR_FAIL_N not seen (R654, R660)? -/
def surveys (s : State) : Bool := regBit s EC_SURVEY 31 && !s.ev.powerFail

/-- The surveyor reads the next initialised DRAM line, where its subchannel has no request queued (R650, R651). -/
def surveyDram (s : State) (e : Ecc) (h : Held) : State :=
  match surveyNext s s.dr.surveyAt with
  | none => s
  | some l =>
    if !(subReqs s (lineSub l)).isEmpty then s
    else
      let s := bankAccess (drMod s fun x => { x with surveyAt := l + 1 }) l
      if poisoned s l then uncorrected s (64 * l) 12
      else match coded s l ((spanClass s (64 * l) 1).getD 1) e with
        | .clean => s
        | .corrected sy dv => corrected s (64 * l) sy dv 12 e.recurs
        | .uncorrectable => heldLost (raise (drMod (uncorrected s (64 * l) 12) fun x => { x with poison := x.poison ++ [l] }) 492) h

/-- The surveyor reads a word of an SRAM group (R645, R649, R655). -/
def surveySram (s : State) (g bits : Nat) (recurs : Bool) (h : Held) : State :=
  if 14 ≤ g ∨ bits = 0 then s
  else if bits ≤ sramCorrects s g then (if recurs then sramRemap s g h else s)
  else if g = 0 then heldLost s .accounting
  else if heldClean s h then heldLost s h
  else heldLost (raise (lastErr (regInc s EC_UE_COUNT) 0 true false 3 g 0 12) 486) h

/-- SURVEYOR_READ (R650); accounting memory that is lost takes the chip to FATAL (R655). -/
def survey (s : State) (r : SurveyResult) : State :=
  if !surveys s then s
  else
    let t := match r with
      | .dram e h => surveyDram s e h
      | .sram g bits recurs h => surveySram s g bits recurs h
    if t.fr.fatal && !s.fr.fatal then fatalEnter t else t
def execSurveyorRead (r : SurveyResult) (s : State) : Res := .next (survey s r)

end Sys2Proof.Machine
end

