-- ==== Sys2Proof/Machine/Power.lean ====
section
/-! DEFINITION. Chapter 15: the hold-up bank and its energy test, PWR_FAIL_N and the dump, resets of the chip and of
clusters (R731-R755). -/
namespace Sys2Proof.Machine

/-! ## The pages of the dump (R339, R340, R751, R752) -/

/-- Are the two dump blocks of a die, its blocks 0 and 1 (log 37), erased? -/
def dumpErased (s : State) (d : Nat) : Bool :=
  s.fl.pages.all fun e => !(e.1 / 2 ^ 24 == d && decide (e.1 % 2 ^ 24 / ppb s < 2))

/-- The dies that take dump data (R340): live, on an ACTIVE channel, with both dump blocks erased; by their rank on their channel, so
that neighbours lie on distinct channels. -/
def dumpRows (s : State) : List (List Nat) :=
  let ds := (liveDies s).filter fun d => dumpErased s d
  (List.range 32).map fun r => (List.range 32).filterMap fun ch =>
    if chState s ch = chActive then (ds.filter fun d => ((dieGet s d).map (·.ch)) == some ch)[r]? else none

/-- The whole groups of `n` of a list. -/
def wholes (n : Nat) (l : List Nat) : List (List Nat) := (List.range (l.length / n)).map fun i => (l.drop (i * n)).take n

/-- The member sets of the dump's stripes, on distinct channels where the live channels allow (R267, R751); which dies go together is
the model's choice (log 81). -/
def dumpSets (s : State) : List (List Nat) :=
  let n := (fmtOf s).n
  let x := (dumpRows s).flatMap (wholes n)
  if x = [] then wholes n (dumpRows s).flatten else x

/-- The octets of the dump's data pages (R751): the metadata, then the write-buffer tiles, the oldest entry first. -/
def dumpOctets (d : Dump) : Bytes :=
  let pad := fun (n : Nat) (b : Bytes) => b ++ zeros (cdiv b.length n * n - b.length)
  pad 16384 (Config.dumpRecord 1 d.serial)
    ++ ((d.atl.wbuf.map (·.2)).mergeSort fun a b => decide (a.order ≤ b.order)).flatMap fun e => pad 4096 e.image

/-- The pages of the dump in the order in which they are programmed (R340, R751): the opening record on two channels, the stripes with
their parity, the closing record on two channels. -/
def dumpPlan (s : State) (d : Dump) : List (Nat × Nat × Page) :=
  let n := (fmtOf s).n
  let sets := dumpSets s
  let pg := fun (seq : Nat) (b : Bytes) => ({ kind := 7, group := d.serial, seq := seq, dir := [], data := b } : Page)
  let o := dumpOctets d
  let per := n - 1
  let count := cdiv (cdiv o.length 16384) per
  let two := (sets.headD []).take 2
  let stripe := fun (j : Nat) =>
    let data := (List.range per).map fun k => slice o (16384 * (j * per + k)) 16384
    let par := data.foldl xorBytes []
    ((List.range n).zip (sets.getD (j % sets.length) [])).map fun m =>
      (m.2, 1 + j / sets.length, pg (j + 1) (match memberPage j n m.1 with
        | none => par
        | some k => data.getD k []))
  two.map (fun x => (x, 0, pg 0 (Config.dumpRecord 0 d.serial)))
    ++ (List.range count).flatMap stripe
    ++ two.map fun x => (x, 1 + cdiv count sets.length, pg (count + 1) (Config.dumpRecord 2 d.serial))

/-- The first `k` pages of the dump are programmed. -/
def dumpWrite (s : State) (d : Dump) (k : Nat) : State := ((dumpPlan s d).take k).foldl (fun t e => flashPut t e.1 e.2.1 e.2.2) s

/-- A reset that cuts a dump short leaves the pages written so far: how many is a free value (R752; log 3). -/
def dumpCut (s : State) : State :=
  match s.pw.dumping, s.pw.dump with
  | true, some d =>
    let r := takeFree s
    dumpWrite r.2 d (r.1 % ((dumpPlan s d).length + 1))
  | _, _ => s

/-- Every dump block is erased (R340, R756). -/
def dumpErase (s : State) : State :=
  flSet s fun x => { x with pages := x.pages.filter fun e => decide (2 ≤ e.1 % 2 ^ 24 / ppb s) }

/-! ## The energy test (R744-R749, R805) -/

/-- Budget in MiB that an energy of `n / d` mJ covers (R744). -/
def energyBudget (n d : Nat) : Nat := if 8 * n < 8000 * d then 0 else (8 * n - 8000 * d) / (14 * d)

/-- The most that the dump's bound leaves time for, with the live dies there are (R744). -/
def timeBudget (s : State) : Nat := 1287 * min 1000 (liveDies s).length / 1000 - 64

/-- V_MIN in mV. -/
def vMin (s : State) : Nat := regFld s PW_HOLDUP_CFG 15 0

/-- What a test of V1 and V2 in mV and P in mW gives (R744): the budget in MiB, 0 where the test fails, E in mJ and C in µF. Where V2 is
not below V1 no energy is stated: it is a free value (log 3). -/
def testResult (s : State) (v1 v2 p : Nat) : Nat × Nat × Nat :=
  if v1 ≤ v2 then (0, Config.freeNat s.fresh, 0)
  else
    let t := 500 * periodNs s
    let d := v1 * v1 - v2 * v2
    let n := p * t * (v1 * v1 - vMin s * vMin s)
    let den := d * 1000000000
    let b := min 1024 (min (energyBudget n den) (timeBudget s))
    (if b < 64 then 0 else b, n / den, 2 * p * t / d)

/-- HU_TEST is driven (R744). -/
def huTest (s : State) (b : Bool) : State := emit s (.pin 0 b)

/-- Hold-up is armed with a budget, or disarmed into write-through, from the next boundary (R129, R130, R746, R748). -/
def holdupArm (s : State) (b : Nat) : State := { s with cq := { s.cq with armReq := some true, budgetReq := some b } }
def holdupFail (s : State) : State :=
  if armed s then { s with cq := { s.cq with armReq := some false, budgetReq := some 0 } } else s

/-- The reply of a HOLDUP_CONTROL (R719). -/
def holdupReply (s : State) (n b e : Nat) : State := pkReply s n .ok (leBytes 2 b ++ zeros 2 ++ leBytes 4 e)

/-- A test has ended with a budget, an energy and a capacitance (R744-R748): its registers and event, what it arms or
disarms, and the packets that asked for it. A retest that passes applies its budget and arms nothing again (R131, R748). -/
def testDone (s : State) (x : ETest) (r : Nat × Nat × Nat) : State :=
  let s := powMod { s with fresh := s.fresh + 1 } fun p => { p with test := none, lastTest := frameNo s }
  let s := regPutFld s PW_HOLDUP_ENERGY 19 0 (min 1048575 r.2.1)
  let pass := r.1 != 0
  let s := if pass then raise (regPutFld s PW_HOLDUP_CAP 19 0 (min 1048575 r.2.2)) 18
    else raise (regPutBit s PW_STATUS 25 true) 19
  let asked := x.asks.any (·.2)
  let arms := asked || (x.boot && s.pw.choice && (liveDies s).all fun d => dumpErased s d)
  let s := if pass then
      if arms then holdupArm s r.1
      else if x.retest && armed s then { s with cq := { s.cq with budgetReq := some r.1 } } else s
    else if asked || x.retest then holdupFail s else s
  x.asks.foldl (fun s a => holdupReply s a.1 r.1 r.2.1) s

/-- A test is asked for: it starts, or the packet joins the one that runs (R805). -/
def testAsk (s : State) (ask : Option (Nat × Bool)) (retest : Bool) : State :=
  match s.pw.test with
  | some x => match ask with
    | some a => powMod s fun p => { p with test := some { x with asks := x.asks ++ [a] } }
    | none => s
  | none =>
    let x : ETest := { asks := ask.toList, retest := retest, start := frameNo s }
    powMod s fun p => { p with test := some x }

/-- BANK_SETTLED (R744 step 2). -/
def bankSettled (s : State) (v1 : Nat) : State :=
  match s.pw.test with
  | some x => if x.phase = .settling then
      let y : ETest := { x with phase := .running v1 (frameNo s) }
      huTest (powMod s fun p => { p with test := some y }) true else s
  | none => s
def execBankSettled (v1 : Nat) (s : State) : Res := .next (bankSettled s v1)

/-- ENERGY_TEST_END (R744 step 3): 500 frames after HU_TEST rose. -/
def energyTestEnd (s : State) (v2 p : Nat) : State :=
  match s.pw.test with
  | some x => match x.phase with
    | .running v1 f => if f + 500 ≤ frameNo s then testDone (huTest s false) x (testResult s v1 v2 p) else s
    | .settling => s
  | none => s
def execEnergyTestEnd (v2 power : Nat) (s : State) : Res := .next (energyTestEnd s v2 power)

/-- ENERGY_TEST_SETTLE_TIMEOUT (R745): 10 s without a steady bank; the energy of a test that never started is a free value (log 3). -/
def settleTimeout (s : State) : State :=
  match s.pw.test with
  | some x => if x.phase = .settling ∧ x.start + framesOf s 10000000000 ≤ frameNo s then
      testDone s x (0, Config.freeNat s.fresh, 0) else s
  | none => s
def execEnergyTestSettleTimeout (s : State) : Res := .next (settleTimeout s)

/-- RETEST_EXP as it acts (R760). -/
def retestExp (s : State) : Nat := max 0x1C (min 0x28 (regFld s PW_HOLDUP_CFG 21 16))

/-- HOLDUP_RETEST (R748). -/
def holdupRetest (s : State) : State :=
  if armed s ∧ s.pw.test.isNone ∧ s.pw.lastTest + 2 ^ retestExp s ≤ frameNo s then testAsk s none true else s
def execHoldupRetest (s : State) : Res := .next (holdupRetest s)

/-- The bank's voltage at a boundary (R748, R760): where its energy no longer covers the budget, the budget falls to what
it covers, and event 26 is raised. -/
def bankVoltage (s : State) (mv : Nat) : State :=
  let s := regPutFld s PW_HOLDUP_VOLT 15 0 mv
  let cur := (s.cq.budgetReq).getD (regFld s HQ_WBUF_BUDGET 10 0)
  let be := energyBudget (regFld s PW_HOLDUP_CAP 19 0 * (mv * mv - vMin s * vMin s)) 2000000000
  if armed s ∧ be < cur then raise { s with cq := { s.cq with budgetReq := some be } } 26 else s

/-- A test that PWR_FAIL_N cuts off (R749). -/
def testAbort (s : State) : State :=
  match s.pw.test with
  | none => s
  | some x =>
    let s := powMod s fun p => { p with test := none }
    let s := match x.phase with
      | .running _ _ => huTest s false
      | .settling => s
    x.asks.foldl (fun s a => pkFail s a.1 .aborted) s

/-! ## PWR_FAIL_N and the dump (R750-R755) -/

/-- PWR_FAIL_N is seen (R750): event 16 and PF_SEEN; before media-ready it halts boot (R755). -/
def pwrFail (s : State) : State :=
  if regBit s PW_STATUS 28 then s
  else
    let s := testAbort (raise (regPutBit s PW_STATUS 28 true) 16)
    match stage s with
    | 3 => powMod s fun p => { p with stop := true }
    | 5 => s
    | _ => powMod s fun p => { p with halted := true }

/-- PWR_FAIL_SEEN (R750). -/
def execPwrFailSeen (s : State) : Res := .next (pwrFail s)

/-- RAIL_UNDERVOLTAGE (R777): as PWR_FAIL_N. -/
def execRailUndervoltage (s : State) : Res := .next (pwrFail s)

/-- A channel at step 2 (R339): reads are dropped, a suspended program resumes, an erase stays suspended, nothing queued
starts. -/
def dieStop (x : Die) : Die :=
  let isProg := fun (o : Option FOp) => match o with
    | some (.prog _ _ _) => true
    | _ => false
  let isErase := fun (o : Option FOp) => match o with
    | some (.erase _) => true
    | _ => false
  let y := { x with readQ := [], moveQ := [], progQ := [], eraseQ := [], suspending := false, part := false
                    run := none, more := [], susp := none, suspMore := [] }
  let y := if isProg x.susp then { y with run := x.susp, more := x.suspMore }
    else if isProg x.run then { y with run := x.run, more := x.more } else y
  if isErase x.susp then { y with susp := x.susp, suspMore := x.suspMore }
  else if isErase x.run then { y with susp := x.run, suspMore := x.more } else y

/-- A packet that had not taken effect replies ABORTED; a reply that was held for the host's memory goes to the reply cache (R707). -/
def flightLost (s : State) (n : Nat) : State :=
  match flightGet s n with
  | some f => match f.reply with
    | some (st, r, d) => pkReply s n st r d
    | none => if f.applied then s else pkFail s n .aborted
  | none => s

/-- Step 2 after PWR_FAIL_N (R50, R339, R672, R707, R750): intake and host writes stop, descriptors, packets, tickets, slices
and jobs end, and the dump begins. -/
def powerStop (s : State) : State :=
  if !s.pw.stop then s
  else
    let s := dmaPowerFail (powMod s fun p => { p with stop := false })
    let s := (s.mg.flights.map (·.1)).foldl flightLost s
    let s := jobsDrop (slicesStop s)
    let s := (tksWhere s fun _ => true).foldl tkInternal s
    let s := flSet s fun f => { f with dies := tabMap f.dies fun _ x => dieStop x }
    dumpBegin (stagePut s 4)

/-- Boot halted by PWR_FAIL_N (R755): the packets in flight that had not taken effect reply ABORTED (R707). -/
def haltStop (s : State) : State :=
  if s.pw.halted then (s.mg.flights.map (·.1)).foldl flightLost s else s

/-- POWER_FAIL_STOP (R750). -/
def execPowerFailStop (s : State) : Res := .next (powerStop s)

/-! ## Resets of the chip (R736-R738) -/

/-- What the system pairs hold for the next boot: the records of this run once media-ready was reached, else those kept. -/
def keptNow (s : State) : Kept :=
  if regBit s AT_MEDIA_STATE 0 then { atl := { s.atl with journal := journalKept s }, pc := s.pc, sealed_ := regBit s AT_MEDIA_STATE 31 } else s.pw.kept

/-- Power-on reset and SYS_RESET_N (R736): everything is reset but fuses, firmware flash, media and system pairs, and the pins fall to
the levels of reset (R735). The cause
and AFTER_FATAL are left in PW_RESET_CAUSE (R760); THERM_TRIP_N falls back only at power-on reset (R784). -/
def chipReset (s : State) (cause : Nat) : State :=
  let p : PowSt := { dump := s.pw.dump, serial := s.pw.serial, kept := keptNow s, choice := s.pw.choice, life := s.pw.life
                     fw := s.pw.fw, next := s.pw.next, overrd := s.pw.overrd, repairs := s.pw.repairs }
  let s := emit (huTest ((List.range 32).foldl (fun s ch => chanPins s ch false true) (dumpCut s)) false) (.pin 3 false)
  let f : FlashSt := { profiles := s.fl.profiles, retired := s.fl.retired, pages := s.fl.pages
                       dies := tabMap s.fl.dies fun _ x => { dieStop x with run := none, soft := false, retry := 0, resetting := false } }
  let ks : KeySt := { kept := s.ks.kept, fuses := s.ks.fuses }
  let h : HostSt := { vpd := s.host.vpd, sbI3c := s.host.sbI3c }
  let t : State := { pending := s.pending, out := s.out, fresh := s.fresh, host := h, fl := f, ks := ks, pw := p }
  let t := regPut t PW_RESET_CAUSE (8 * b2n s.fr.fatal + cause)
  let t := if cause = 0 then t else regPutBit t FR_TEMP 31 (regBit s FR_TEMP 31)
  let t := s.fl.retired.foldl (fun t ch =>
    regPutFld (regPutFld t (FC_STATUS ch) 31 29 chRetired) (FC_STATUS ch) 24 23 (regFld s (FC_STATUS ch) 24 23)) t
  (s.fl.dies.filter fun d => d.2.lost).foldl (fun t d => regPutFld t (FC_DIE d.2.ch d.2.pos) 31 30 2) t

/-- The level of the ball SB_MODE is sampled and selects the sideband bus: high is I3C (R97). The board sets the level: a free value,
DESIGN CHOICE, log 127. -/
def sbSample (s : State) : State :=
  { s with fresh := s.fresh + 1, host := { s.host with sbI3c := Config.sbMode s.fresh } }

/-- POWER_ON_RESET (R733), at which SB_MODE is sampled. -/
def execPowerOnReset (s : State) : Res := .next (chipReset (sbSample s) 0)

/-- SYS_RESET (R736, R737): after PWR_FAIL_N it waits for the end of the dump, but in FATAL it acts at once. -/
def sysReset (s : State) : State :=
  if stage s ≠ 5 ∧ (s.pw.stop ∨ s.pw.dumping) then powMod s fun p => { p with sysReset := true } else chipReset s 1
def execSysReset (s : State) : Res := .next (sysReset s)

/-- DUMP_END (R750-R752): the dump's pages and its closing record are written where dies take them (R340), PW_DUMP shows the frames and
the serial, the pins are as in reset; a SYS_RESET_N that waited takes effect. -/
def dumpEnd (s : State) : State :=
  match s.pw.dumping, s.pw.dump with
  | true, some d =>
    let fr := min 65535 (frameNo s - d.boundary)
    let y : Dump := { d with closed := dumpSets s != [], frames := fr }
    let s := powMod (dumpWrite s d (dumpPlan s d).length) fun p => { p with dumping := false, dump := some y }
    let s := huTest (regPut s PW_DUMP (fr * 65536 + d.serial % 65536)) false
    let s := (List.range 32).foldl (fun s ch => chanPins s ch false true) s
    if s.pw.sysReset then chipReset s 1 else s
  | _, _ => s
def execDumpEnd (s : State) : Res := .next (dumpEnd s)

/-- DUMP_RESTART (R754): the dump has ended and PWR_FAIL_N has been high for 20,000 frames. -/
def execDumpRestart (s : State) : Res := .next (if stage s = 4 ∧ !s.pw.dumping then chipReset s 2 else s)

/-- BOOT_RESTART_AFTER_POWER_FAIL (R755). -/
def execBootRestartAfterPowerFail (s : State) : Res := .next (if s.pw.halted then chipReset s 2 else s)

/-! ## Cluster reset (R739, R740) -/

/-- CLUSTER_RESET_WRITE (R739): clusters 0 and 1 ignore it (R740). -/
def clusterResetWrite (s : State) (v : Nat) : State :=
  ([2, 3, 4, 5, 6, 7].filter (bitOf v)).foldl (fun s cl => clusterMod s cl fun x => { x with resetReq := true }) s
def execClusterResetWrite (value : Nat) (s : State) : Res := .next (clusterResetWrite s value)

/-- The task of a core that leaves the pool is requeued, LAST_VALID = 0 and SINCE kept (R492); one whose core has stopped
goes back with its save area. -/
def coreLeave (s : State) (c : Nat) : State :=
  let s := coreYieldUp s c
  match (coreGet s c).task with
  | none => s
  | some n =>
    match taskGet s n with
    | none => coreMod s c fun k => { k with task := none }
    | some t =>
      let s := coreSave s c t.ctx
      taskMod s n fun x => { x with last := none, since := t.since }

/-- A cluster reset at its boundary (R739): pool, SERVICE ways, L1 caches, cores. -/
def clusterResetNow (s : State) (cl : Nat) : State :=
  if 2 ≤ cl ∧ cl < 8 ∧ (clusterGet s cl).resetReq then
    let s := (List.range 8).foldl (fun s k => coreLeave s (8 * cl + k)) s
    let s := ((clusterGet s cl).lines.filter fun e => e.2.locked.isNone).foldl (fun s e => lineCleanInval s cl e.1) s
    let s := csMod s fun x => { x with cores := tabFilter x.cores fun c _ => c / 8 != cl }
    let s := regPutFld s (TC_STATUS cl) 15 8 0
    clusterMod s cl fun x => { x with pool := 0, fills := [], resetReq := false, resetAt := some (frameNo s) }
  else s
def execClusterReset (cl : Nat) (s : State) : Res := .next (clusterResetNow s cl)

/-- CLUSTER_RESET_COMPLETE (R739): the cluster rejoins the pool, event 25. -/
def clusterResetEnd (s : State) (cl : Nat) : State :=
  match (clusterGet s cl).resetAt with
  | none => s
  | some f =>
    if f < frameNo s then
      raise (clusterMod s cl fun x => { x with resetAt := none, pool := regFld s (TC_POOL cl) 7 0 }) 25
    else s
def execClusterResetComplete (cl : Nat) (s : State) : Res := .next (clusterResetEnd s cl)

/-! ## Service life (R788, R789) -/

/-- Weight in tenths that a reading in °C sets (R788). -/
def lifeWeight (c : Int) : Nat := if c ≤ 95 then 10 else if c ≤ 100 then 16 else if c ≤ 105 then 25 else 40

/-- FR_LIFE_USED shows the record. -/
def lifeShow (s : State) : State := regPut s FR_LIFE_USED (min (2 ^ 32 - 1) (s.pw.life / 10))

/-- An hour in frames of the device's period (R789). -/
def hourFrames (s : State) : Nat := 3600000000000 / periodNs s

/-- LIFE_RECORD_UPDATE (R789). -/
def lifeUpdate (s : State) : State :=
  if s.pw.lifeAt + hourFrames s ≤ frameNo s ∧ 2 ≤ stage s then
    lifeShow (powMod s fun p => { p with life := p.life + p.hot, lifeAt := frameNo s, hot := 10 })
  else s
def execLifeRecordUpdate (s : State) : Res := .next (lifeUpdate s)

end Sys2Proof.Machine
end

