-- ==== Sys2Proof/Machine/Boot.lean ====
section
/-! DEFINITION. Chapter 15, boot: the ROM stage, admin-ready, media-ready with the replay of the journal and of a dump, and
the rebuilding of the cadastre (R738, R741-R743, R756-R758, R783). -/
namespace Sys2Proof.Machine

/-! ## The ROM stage (R440-R443, R619, R741, R783) -/

/-- TEMPERATURE_MINIMUM_REACHED (R783): DRAM training may begin. -/
def execTemperatureMinimumReached (s : State) : Res := .next (powMod s fun p => { p with warm := true })

/-- The start-up test of the noise source (R450). -/
def entropyStart (s : State) (ok : Bool) : State := if ok then regPutFld s KS_ENTROPY 31 30 1 else healthFail s

/-- The repairs and remaps of the repair record, reapplied by the boot ROM; a record whose digest fails is ignored (R647). -/
def repairsLoad (s : State) (ok : Bool) : State :=
  if !ok then s
  else
    let rs := s.pw.repairs
    let s := drMod s fun x => { x with repaired := rs, spares := rs.filterMap (·.group) }
    (List.range 4).foldl (fun s ch =>
      let mine := rs.filter fun r => r.ch == ch
      regPut s (EC_REMAP ch) ((mine.filter fun r => r.group.isSome).length % 64 * 2 ^ 16
        + (mine.filter fun r => r.group.isNone).length % 64)) s

/-- Fields of a trained DRAM (R657), its top 16 MiB withheld (R623); refresh management is in use where the devices report that it is required (R632). -/
def dramTrained (s : State) (r : RomResult) : State :=
  let s := regPut (regPut s DM_CONFIG (2 ^ 31 + bitsOf r.dmConfig 29 23 * 2 ^ 23)) DM_CAPACITY ((r.dmUnits - 1) % 65536)
  let s := regPutBit (drMod s fun x => { x with rfmAt := r.rfmAt }) DM_DISTURB 31 (0 < r.rfmAt)
  repairsLoad s r.repairOk

/-- KS_TRUST as the Fevoum core loads it (R446). -/
def trustLoad (s : State) (fallback : Bool) : State :=
  let d := fwSlot s s.pw.running
  regPut s KS_TRUST (b2n fallback * 2 ^ 31 + s.pw.running * 2 ^ 29 + 2 ^ 28 + fwKeygen d * 2 ^ 26 + fwRevoked * 2 ^ 16
    + s.ks.fuses % 256 * 2 ^ 8 + fwSvn d % 256)

/-- Core cycles of each frame period code (R19, R26). -/
def coreCycles : Nat → Nat
  | 1 => 500
  | 2 => 2000
  | _ => 1000

/-- The boot configuration in use (R20, R21, R59, R94, R602, R645, R727, R744). -/
def configLoad (s : State) (ok : Bool) : State :=
  let period := bootValue s ok 0 3
  let mode := bootValue s ok 2 3
  let s := regPut s FR_FRAME_PERIOD (coreCycles (period.getD 0) * 2 ^ 16 + b2n period.isNone * 4 + period.getD 0)
  let s := regPut s FX_PORT_MODE (b2n mode.isNone * 4 + mode.getD 0)
  let s := { s with host := { s.host with split := bootValue s ok 1 2 == some 1 } }
  let role := match bootValue s ok 3 3 with
    | some 1 => 2
    | some 2 => 1
    | _ => 0
  let s := { s with gz := { s.gz with casc := { s.gz.casc with role := role } } }
  let s := match bootField s ok 4 with
    | some v => regPut s EC_SRAM_CODE (2 ^ 13 + bitsOf v 12 1 * 2 + 1)
    | none => s
  let s := regPutFld s PW_HOLDUP_CFG 15 0 ((bootField s ok 5).getD 0)
  powMod s fun p => { p with usedOver := p.overrd.isSome && ok }

/-- The region table that control firmware writes (R637, R660). -/
def regionsLoad (s : State) (rs : List (Nat × Nat × Nat)) : State :=
  ((List.range 64).zip rs).foldl (fun s e =>
    regPut (regPut s (EC_REGION_LO e.1) (2 ^ 31 + min 2 e.2.1 * 2 ^ 29 + e.2.2.1 % 65536)) (EC_REGION_HI e.1) (e.2.2.2 % 65536)) s

/-- Clusters leave reset, into the resident supervisor's entry (R740). -/
def clustersRelease (s : State) (cls : List Nat) : State := cls.foldl (fun s cl => regPutBit s (TC_STATUS cl) 31 false) s

/-- ROM_STAGE (R741): it waits for warmth, lets the DRAM's RESET_N rise (R735), stays where DRAM training fails (R619), enters recovery without a valid slot
(R443), or releases the Graticule and clusters 0 and 1. -/
def romStage (s : State) (r : RomResult) : State :=
  if stage s ≠ 1 ∨ s.pw.rom ≠ .waiting ∨ s.pw.halted ∨ (r.cold ∧ !s.pw.warm) then s
  else
    let s := emit (entropyStart s r.entropyOk) (.pin 3 true)
    if r.failedCh % 16 ≠ 0 then
      powMod (regPut s DM_CONFIG (2 ^ 30 + r.failedCh % 16)) fun p => { p with rom := .failed }
    else
      let s := dramTrained s r
      let s := bootLoad s
      match bootSlot s with
      | none => powMod s fun p => { p with rom := .recovery }
      | some (k, fallback) =>
        let s := powMod s fun p => { p with running := k, rom := .done }
        let s := regionsLoad (configLoad (trustLoad s fallback) r.overrideOk) r.regions
        let s := { s with dr := { s.dr with entry := r.entry }, fr := { s.fr with released := true }
                          mg := { s.mg with caches := [] } }
        let s := if r.late then regPutBit s PW_STATUS 24 true else s
        clustersRelease s [0, 1]
def execRomStage (r : RomResult) (s : State) : Res := .next (romStage s r)

/-! ## Admin-ready (R741, R742) -/

/-- A physical function that its host has enabled becomes ready. -/
def pfReady (s : State) (fn : Nat) : State := if (ctrlGet s fn).cc % 2 = 1 then ctrlReady s fn else s

/-- ADMIN_READY (R742). -/
def adminReady (s : State) : State :=
  if stage s ≠ 1 ∨ s.pw.rom ≠ .done ∨ s.pw.halted then s
  else
    let s := raise (stagePut s 2) 21
    let s := if regBit s KS_TRUST 31 then raise s 374 else s
    let s := lifeShow (powMod s fun p => { p with lifeAt := frameNo s })
    let s := pfReady s 0
    if s.host.split then pfReady s compFn else s
def execAdminReady (s : State) : Res := .next (adminReady s)

/-! ## The map without a dump (R295, R297) -/

/-- The tiles of a sheet, by device tile. -/
def inSheet (s : State) (q sh t : Nat) : Bool := t / quadTiles == q && t % quadTiles / sheetTiles s == sh

/-- The flash addresses last journalled for tiles, those of a set of tiles forgotten. -/
def lastDrop (l : Table Word) (p : Nat → Bool) : Table Word := tabFilter l fun t _ => !p t

/-- A tile's word as journalled, with what it leaves as the tile's last flash address. -/
def lastPut (l : Table Word) (t : Nat) (w : Word) : Table Word := if wDie w < 1016 then tabSet l t w else l

/-- A directory word of the journal: what its change of form made of tables, sheets and overlays (R236, R259, R260). -/
def replayDir (s : State) (l : Table Word) (q : Nat) (w : Word) : State × Table Word :=
  let o := dirGet s q
  let paged := fun (x : Word) => qForm x = formPage ∨ qForm x = formToPage ∨ qForm x = formToSheet
  let set := fun (s : State) => atlSet s fun a => { a with dir := if w = 0 then tabErase a.dir q else tabSet a.dir q w }
  if qForm w = formFree ∨ qForm w = formEmpty then
    let s := atlSet s fun a => { a with
      tabs := if paged o then tabErase a.tabs (qTable o) else a.tabs
      sheets := tabErase a.sheets q, overlays := tabFilter a.overlays fun _ v => v.quad != q }
    (set s, lastDrop l fun t => t / quadTiles == q)
  else if qForm o = formToPage ∧ qForm w = formPage then
    let s := toPageFill s q
    let ws := ((tabGet s.atl.tabs (qTable o)).map (·.words)).getD []
    (set s, ws.foldl (fun l e => lastPut l (q * quadTiles + e.1) e.2) l)
  else if paged w ∧ !paged o then
    (set (atlSet s fun a => { a with tabs := tabSet a.tabs (qTable w) { fill := if qForm w = formPage then wUnmapped else wElse } }), l)
  else if qForm o = formToSheet ∧ qForm w = formSheet then
    (set (atlSet s fun a => { a with tabs := tabErase a.tabs (qTable o) }), l)
  else (set s, l)

/-- A sheet word of the journal: overlays come and go with it (R252, R255). -/
def replaySheet (ovs : Table Overlay) (s : State) (l : Table Word) (q sh : Nat) (w : Word) : State × Table Word :=
  let o := sheetGet s q sh
  let l := if sDie o = sDie w ∧ sBlock o = sBlock w then l else lastDrop l (inSheet s q sh)
  let s := atlSet s fun a => { a with
    overlays := if sOv o ∧ (!sOv w ∨ sOverlay o ≠ sOverlay w) then tabErase a.overlays (sOverlay o) else a.overlays
    sheets := tabSet a.sheets q (tabSet (tabGetD a.sheets q []) sh w) }
  if sOv w ∧ (tabGet s.atl.overlays (sOverlay w)).isNone then
    let v : Overlay := match tabGet ovs (sOverlay w) with
      | some v => { v with quad := q, sheet := sh, words := [] }
      | none => { quad := q, sheet := sh, primDie := 1023, primBlk := 0, mirDie := 1023, mirBlk := 0 }
    (atlSet s fun a => { a with overlays := tabSet a.overlays (sOverlay w) v }, l)
  else (s, l)

/-- One record of the journal played over the map, with the flash addresses last journalled. -/
def replayOne (ovs : Table Overlay) (x : State × Table Word) (e : Nat × Nat × Word) : State × Table Word :=
  let s := x.1
  let w := e.2.2
  match e.1 with
  | 0 => replayDir s x.2 e.2.1 w
  | 1 =>
    let q := e.2.1 / quadTiles
    let put := fun (p : PageTab) => { p with words := tabSet p.words (e.2.1 % quadTiles) w }
    (atlSet s fun a => { a with tabs := tabMod a.tabs (qTable (dirGet s q)) put }, lastPut x.2 e.2.1 w)
  | 2 => replaySheet ovs s x.2 (e.2.1 / 256) (e.2.1 % 256) w
  | _ =>
    let o := e.2.1 / 65536
    let i := e.2.1 % 65536
    let put := fun (v : Overlay) => { v with words := if w = wElse then tabErase v.words i else tabSet v.words i w }
    let t := match tabGet s.atl.overlays o with
      | some v => v.quad * quadTiles + v.sheet * sheetTiles s + i
      | none => 0
    (atlSet s fun a => { a with overlays := tabMod a.overlays o put }, lastPut x.2 t w)

/-- Words that say 3FDh fall back to the last flash address journalled for their tile: through the sheet's base where the
quadrangle is in sheet form, 3FFh where there is none (R297). -/
def fallWord (l : Table Word) (t : Nat) (none_ w : Word) : Word := if wDie w = 0x3FD then tabGetD l t none_ else w

def mapFall (s : State) (l : Table Word) : State :=
  let tile := fun (v : Overlay) i => v.quad * quadTiles + v.sheet * sheetTiles s + i
  let s := s.atl.dir.foldl (fun s e =>
    let f := qForm e.2
    if f = formPage ∨ f = formToPage ∨ f = formToSheet then
      let fall := fun (p : PageTab) => { p with
        words := tabMap p.words fun t w => fallWord l (e.1 * quadTiles + t) (if f = formPage then wUnmapped else wElse) w }
      atlSet s fun a => { a with tabs := tabMod a.tabs (qTable e.2) fall }
    else s) s
  let fall := fun (v : Overlay) => { v with
    words := tabFilter (tabMap v.words fun i w => fallWord l (tile v i) wElse w) fun _ w => w != wElse }
  atlSet s fun a => { a with overlays := tabMap a.overlays fun _ v => fall v }

/-- The map as the first `k` records of the journal left it (R297). -/
def journalReplay (s : State) (k : Nat) : State :=
  let ovs := s.atl.overlays
  let s := atlSet s fun a => { a with
    dir := [], tabs := [], sheets := [], overlays := [], wbuf := [], journal := a.journal.take k
    journal2 := a.journal.take k, jprog := k }
  let x := s.atl.journal.foldl (replayOne ovs) (s, [])
  mapFall x.1 x.2

/-- How far the journal was programmed when power was lost: a free value between what was known to be and all of it (log 3). -/
def journalCut (s : State) : Nat × State :=
  let f := takeFree s
  let n := s.atl.journal.length - s.atl.jprog
  (s.atl.jprog + f.1 % (n + 1), f.2)

/-! ## The dump (R756, R757) -/

/-- The write buffer of a replayed dump: every tile acknowledged, the tiles that were lost fallen back (R756, R757). -/
def lostTile (s : State) (t : Nat) : State :=
  match s.atl.wbuf.find? (fun e => mapWord s t == wBuffer e.1) with
  | none => s
  | some (k, e) =>
    let w := if wDie e.old < 1016 ∨ wDie e.old = 0x3FC then e.old else wUnmapped
    regInc (wbufDrop (tilePut s t w) k) PW_DUMP_LOST

/-- Every tile of the write buffer enters a stripe of its stream, the oldest first; a poisoned one is never programmed (R656). -/
def replayStripes (s : State) : State :=
  ((s.atl.wbuf.filter fun e => !e.2.poison).mergeSort fun a b => decide (a.2.order ≤ b.2.order)).foldl (fun s e =>
    let t := tileStream s e.2.tile
    let comp := ((quadNs s (e.2.tile / quadTiles)).map (·.compress)).getD false
    stripeAdd s t.1 t.2 e.2.raw comp e.2.image.length e.2.tile false e.1) s

/-- The programs queued on a die run to their end, one after another. -/
def dieDrainProgs (s : State) (d : Nat) : Nat → State
  | 0 => s
  | n + 1 => match (dieGet s d).bind (·.progQ.head?) with
    | none => s
    | some o => dieDrainProgs (programDone (dieMod s d fun x => { x with progQ := x.progQ.drop 1, run := some o }) d true) d n

/-- Every tile entered is programmed into the ordinary streams (R756 step 3). -/
def replayProgram (s : State) : State :=
  let s := replayStripes s
  let s := (s.atl.stripes.map (·.1)).foldl (fun s k =>
    let s := stripeIssue s k
    stripeDone ((s.fl.dies.map (·.1)).foldl (fun s d => dieDrainProgs s d progDepth) s) k) s
  atlSet s fun a => { a with jprog := a.journal.length }

/-- A dump's replay ends (R756 step 4): the blocks are erased, REPLAYED and event 23. -/
def replayEnd (s : State) (d : Dump) : State :=
  let s := powMod (dumpErase s) fun p => { p with dump := none }
  let s := regPut s PW_DUMP (min 65535 d.frames * 65536 + d.serial % 65536)
  raise (regPutBit s PW_STATUS 27 true) 23

/-- DUMP_LOST, the count of tiles and event 24 (R757). -/
def dumpLost (s : State) : State := raise (regPutBit s PW_STATUS 26 true) 24

/-- The dump that can be replayed, if there is one. -/
def usableDump (s : State) (r : MediaBoot) : Option Dump := s.pw.dump.filter fun d => d.closed && r.closing

/-! ## The media (R289, R294, R300-R308) -/

/-- What a run leaves behind of the Atlas: stripes, moves and folds in progress are gone, open groups closed, blocks whose
erase did not end free to be released again, conversions taken up from the directory's forms. -/
def atlasRested (a : AtlasSt) : AtlasSt :=
  let conv := fun (e : Nat × Word) => if qForm e.2 = formToPage then some ({ quad := e.1, toPage := true, start := 0 } : Conv)
    else if qForm e.2 = formToSheet then some ({ quad := e.1, toPage := false, start := 0 } : Conv) else none
  { a with
    stripes := [], moves := [], folds := [], foldWait := [], foldGroup := none, foldNeed := [], wearGroups := [], convertNow := 0x84000040, mapLines := [], rebuild := none, urgent := false, windowAt := 0
    wcount := [], whist := [], convs := a.dir.filterMap conv
    groups := tabMap a.groups fun _ g => if g.closed.isNone then { g with closed := some a.closeNo } else g
    closeNo := a.closeNo + 1
    blks := tabMap a.blks fun _ b => if b.role == .data then { b with released := false } else b }

/-- The media as the system pairs and any dump give it: the dump's records, or the last journal page programmed. -/
def atlasLoad (s : State) (r : MediaBoot) : State :=
  match usableDump s r with
  | some d => { s with atl := atlasRested d.atl }
  | none =>
    let s := { s with atl := atlasRested s.pw.kept.atl }
    let x := journalCut s
    journalReplay x.2 x.1

/-- A logical die is where the format put it, or is lost (R316, R336). -/
def dieFound (s : State) (d : Nat) : State :=
  match dieGet s d with
  | none => s
  | some x =>
    if x.lost then regPut s (FC_DIE x.ch x.pos) (2 * 2 ^ 30 + d)
    else if (tabGetD s.fl.found x.ch []).any (·.1 == x.pos) then regPut s (FC_DIE x.ch x.pos) (2 ^ 30 + d)
    else dieLoss s d

/-- Positions that training found and the format did not number are UNUSED (R316). -/
def diesUnused (s : State) : State :=
  (livePositions s).foldl (fun s x =>
    if s.fl.dies.any fun d => d.2.ch == x.1 && d.2.pos == x.2.1 then s else regPut s (FC_DIE x.1 x.2.1) (3 * 2 ^ 30)) s

/-- Lost dies of each channel (R341). -/
def lostCounts (s : State) : State :=
  (List.range 32).foldl (fun s ch =>
    regPutFld s (FC_STATUS ch) 11 6 (tabCount s.fl.dies fun d => d.ch == ch && d.lost)) s

/-- The Atlas's registers at media-ready (R301, R303, R306, R308). -/
def atlasRegs (s : State) (f : Fmt) : State :=
  let code := fun (v a b : Nat) => if v = a then 0 else if v = b then 1 else 2
  let s := regPut s AT_GEOMETRY (code f.n 8 16 * 2 ^ 30 + code f.p 1024 2048 * 2 ^ 28 + (f.blocks - 1) * 2 ^ 13
    + (liveDies s).length)
  let s := regPut s AT_CAPACITY_LO (capacity s)
  let v := spareNow s
  let s := regPutFld (regPutFld s AT_SPARE 30 24 v.1) AT_SPARE 9 0 v.2
  let s := regPut s AT_TABLES_BUDGET (s.atl.budgetKept.getD 0)
  degradedUpdate s

/-- SEALED starts from the recorded state and is looked at again (R294). -/
def sealedLoad (s : State) : State :=
  let s := regPutBit s AT_MEDIA_STATE 31 s.pw.kept.sealed_
  let s := if s.pw.kept.sealed_ then regPutBit s AT_MEDIA_STATE 30 true else s
  sealExit (reserveRefill (sealEnter s))

/-- Rebuilds that a run before left unfinished go on (R285). -/
def rebuildsResume (s : State) : State :=
  match s.pw.kept.atl.rebuild with
  | some (ch, n) => rebuildStart s ch n (if ch then chDies s n else [n])
  | none => s

/-- The media at media-ready. -/
def mediaLoad (s : State) (r : MediaBoot) : State :=
  let s := atlasLoad s r
  match s.atl.fmt with
  | none => s
  | some f =>
    let s := lostCounts s
    let s := atlasRegs ((s.fl.dies.map (·.1)).foldl dieFound (diesUnused s)) f
    let s := rebuildsResume (sealedLoad s)
    match usableDump s r with
    | none => s
    | some _ =>
      let s := r.lost.foldl lostTile (atlSet s fun a => { a with
        wbuf := tabMap a.wbuf fun _ e => { e with ack := true, issued := false } })
      replayProgram s

/-! ## The cadastre (R208, R738, R798, R799) -/

/-- A parcel as it returns (R208, R738): a teardown that was in progress is complete, nothing is pending, and its completions are
counted afresh, since none is in flight (R43). -/
def parcelReturn (x : Parcel) : Parcel :=
  let back := match x.st with
    | .resetting => if x.wasActive && !x.hold && attached x then PState.active else .provisioned
    | .enabling => if attached x then .active else .provisioned
    | t => t
  let st := match x.st, x.queued with
    | .enabling, some (_, true) => PState.provisioned
    | _, _ => back
  { x with st := st, drained := false, reqs := [], waiters := [], wasActive := false, hold := false, pend := none, queued := none
           queuedW := [], inPost := 0, outPost := 0, freezeW := .none, shareDue := false, maskDue := false
           effect := 0, shown := x.bal, closed := x.meters, accepted := 0, posted := 0, internal := 0, cancelDue := false
           enHeld := false, mbUp := x.mbUp || x.st == .resetting || x.st == .enabling }

/-- A parcel that was retiring is VACANT, with its FINAL record (log 67). -/
def retiringEnd (s : State) (p : Nat) : State :=
  let x := parGet s p
  if x.st = .retiring then
    let s := [0, 1, 2, 3].foldl (fun s c => tokenSpendRaw s p c ((parGet s p).bal.getD c 0)) s
    let s := finalRecord s p
    parMod s p fun x => { edition := x.edition, rate := x.rate, depth := x.depth }
  else s

/-- Shares, depths and core masks stand in their registers as before (R738). -/
def parcelRegs (s : State) (p : Nat) : State :=
  let x := parGet s p
  let s := [0, 1, 2, 3].foldl (fun s c =>
    regPut (regPut s (PC_SHARE p c) (x.rate.getD c 0)) (PC_DEPTH p c) (x.depth.getD c 64)) s
  regPut s (PC_CORE_MASK p) x.mask

/-- The running totals of R52 take the balances that return (R48, R738): before media-ready no balance stands and they are 0. -/
def ledgerOpen (s : State) : State :=
  let gs := [0, 1, 2, 3].map fun c => s.fr.spends.getD c 0 + (s.pc.parcels.map fun e => e.2.bal.getD c 0).sum
  { s with fr := { s.fr with grants := gs } }

/-- The cadastre rebuilt (R738): with a dump the open interval is merged across the boot (R799); without one, what was
counted in it is not reported (R798). -/
def cadastreLoad (s : State) (r : MediaBoot) : State :=
  let c : ParSt := match usableDump s r with
    | some d => { d.pc with merged := true, acrossBoot := true, due := none, lastEnd := 0, saves := [] }
    | none =>
      let k := s.pw.kept.pc
      { parcels := tabMap k.parcels fun _ x => { x with told := x.meters }, dev := k.dev, devTold := k.dev }
  let c : ParSt := { c with parcels := tabMap c.parcels fun _ x => parcelReturn x, devClosed := c.dev, interval := 120000000 }
  let s := ledgerOpen { s with pc := c }
  let s := (c.parcels.map (·.1)).foldl retiringEnd s
  (s.pc.parcels.map (·.1)).foldl parcelRegs s

/-- Functions of parcels that are ACTIVE or FROZEN and that their hosts have enabled become ready (R207, R741). -/
def vfsReady (s : State) : State :=
  s.pc.parcels.foldl (fun s e => match e.2.vf with
    | some f => if (ctrlGet s f).cc % 2 = 1 ∧ vfReady s f then ctrlReady s f else s
    | none => s) s

/-! ## Media-ready (R741, R742, R747) -/

/-- The hold-up test of media-ready: done where the bank had settled, else it goes on with 1 s of its wait behind it. -/
def bootTest (s : State) (r : MediaBoot) : State :=
  let y : ETest := { boot := true, start := frameNo s - framesOf s 1000000000 }
  let x : ETest := match s.pw.test with
    | some x => { x with boot := true }
    | none => y
  match r.test with
  | some (v1, v2, p) => testDone s x (testResult s v1 v2 p)
  | none => powMod s fun p => { p with test := some x }

/-- What the hardware and control firmware hold ready at media-ready: key slots that persist (R409), clusters 2 to 7, the
Gazetteer, the context area, the journal area and the pattern store (R298, R361, R592). -/
def unitsLoad (s : State) (r : MediaBoot) : State :=
  let s := { s with ks := { s.ks with slots := s.ks.kept } }
  let s := clustersRelease s [2, 3, 4, 5, 6, 7]
  let s := regPutBit s GZ_STATUS 31 true
  let s := regPut (regPut s CZ_CTX_AREA_LO (r.czArea % 2 ^ 32)) CZ_CTX_AREA_HI (r.czArea / 2 ^ 32 % 4096)
  let s := drMod s fun d => { d with journalAt := r.journal / 256 * 4 }
  regPut (regPut s GZ_STORE_LO (r.gzStore % 2 ^ 32)) GZ_STORE_HI (r.gzStore / 2 ^ 32 % 4096)

/-- What the boot tells of a dump (R756, R757). The blocks of a discarded dump are erased as well: control firmware keeps them erased
whenever hold-up is armed (R340; DEDUCED, log 81). -/
def dumpTell (s : State) (r : MediaBoot) : State :=
  match s.pw.dump with
  | none => s
  | some d =>
    if d.closed && r.closing then
      let s := if regNat s PW_DUMP_LOST = 0 then s else dumpLost s
      replayEnd s d
    else
      let s := regPut s PW_DUMP_LOST (d.atl.wbuf.length)
      dumpLost (powMod (dumpErase s) fun p => { p with dump := none })

/-- MEDIA_READY (R741): flash, system pairs, journal and dump, the cadastre, the hold-up test; event 22. -/
def mediaReady (s : State) (r : MediaBoot) : State :=
  if stage s ≠ 2 ∨ s.pw.halted then s
  else
    let s := unitsLoad (mediaLoad (cadastreLoad s r) r) r
    let s := dumpTell s r
    let s := bootTest s r
    let s := regPutFld s PW_STATUS 15 0 (min 65535 r.bootMs)
    let s := if r.late then regPutBit s PW_STATUS 24 true else s
    vfsReady (raise (stagePut (regPutBit s AT_MEDIA_STATE 0 true) 3) 22)
def execMediaReady (r : MediaBoot) (s : State) : Res := .next (mediaReady s r)

end Sys2Proof.Machine
end

