-- ==== Sys2Proof/Machine/ConfigSpace.lean ====
section
/-! DEFINITION. Chapter 02, the configuration space of a PCIe function: BARs, the capabilities and their values (R60, R62, R65).
The spec gives the values; where PCIe itself fixes a register's place it stands there, and the places that PCIe leaves to a device,
those of the capabilities, are free constants of Config (log 38). -/
namespace Sys2Proof.Machine

/-- Is the function there in the arrangement of the links (R59, R60)? -/
def fnExists (s : State) (f : Nat) : Bool := f == 0 || (f == compFn && s.host.split) || vfExists s f

/-- Octets of BAR `k` of a function, 0 where it is not implemented (R62). -/
def barSize (f k : Nat) : Nat :=
  if k = 0 then 16384
  else if k = 2 then (if f = 0 then 2 ^ 26 else if isVf f then 4096 else 0)
  else if k = 4 then (if isVf f then 4096 else 65536)
  else 0

/-- Where a BAR of a physical function stands: 10h, 18h or 20h; of a virtual function, in the SR-IOV capability of its physical
function. -/
def barReg (k : Nat) : Nat := 0x10 + 4 * k

/-- A word of configuration space that software writes; 0 where it has written none. -/
def cfgWord (s : State) (f a : Nat) : Nat := (tabGetD (fnGet s f).cfg a 0).toNat

/-- The lower word of a BAR: its address bits above its size, and the code of a 64-bit non-prefetchable one, 4h; a BAR that is not
implemented reads 0 (R62). -/
def barLo (s : State) (f k a : Nat) : Nat :=
  if barSize f k = 0 then 0 else cfgWord s f a / barSize f k * barSize f k + 4

def barHi (s : State) (f k a : Nat) : Nat := if barSize f k = 0 then 0 else cfgWord s f a

/-- TotalVFs of a physical function in the arrangement (R60). -/
def totalVfs (s : State) (f : Nat) : Nat := if f = compFn then 256 else if s.host.split then 255 else 511

/-- Device Capabilities: Max Payload Size up to 512 octets (2) and function-level reset (R65). -/
def devCaps : Nat := 2 + 2 ^ 28

/-- Device Capabilities 2: 10-bit tags as completer and requester; no TPH. -/
def devCaps2 : Nat := 2 ^ 16 + 2 ^ 17

/-- Link Capabilities: 64 GT/s, the width of the arrangement, no ASPM (R58, R59, R65). -/
def linkCaps (s : State) : Nat := 6 + (if s.host.split then 8 else 16) * 16

/-- A read of the PCI Express capability, by its offset in it: Device Control keeps what was written. -/
def pcieRead (s : State) (f o : Nat) : Nat :=
  if o = 4 then devCaps
  else if o = 8 then cfgWord s f (Config.pcieCap + 8)
  else if o = 0xC then linkCaps s
  else if o = 0x24 then devCaps2
  else 0

/-- A read of the SR-IOV capability, by its offset in it (R60): InitialVFs and TotalVFs, NumVFs, First VF Offset 1 and VF Stride 1,
the BARs of the virtual functions. -/
def sriovRead (s : State) (f o : Nat) : Nat :=
  if o = 0xC then totalVfs s f * 65537
  else if o = 0x10 then cfgWord s f (Config.sriovCap + 0x10) % 65536
  else if o = 0x14 then 65537
  else if 0x24 ≤ o ∧ o < 0x3C then
    let k := (o - 0x24) / 8 * 2
    if o % 8 = 4 then barLo s (f + 1) k (Config.sriovCap + o) else barHi s (f + 1) k (Config.sriovCap + o)
  else 0

/-- What a 32-bit read of a function's configuration space returns (R62, R65, R793). AER, SR-IOV and DOE stand on physical functions
alone; Interrupt Pin reads 00h. A register not named here reads 0. -/
def configRead (s : State) (f a : Nat) : Nat :=
  let x := fnGet s f
  if a = 4 then b2n x.bme * 4 + 2 ^ 20
  else if !isVf f ∧ 0x10 ≤ a ∧ a < 0x28 then
    if a % 8 = 0 then barLo s f ((a - 0x10) / 8 * 2) a else barHi s f ((a - 0x10) / 8 * 2) a
  else if a = 0x3C then cfgWord s f a % 256
  else if a = Config.msixCap then 0x11 + (vectors f - 1) * 2 ^ 16 + b2n x.fmask * 2 ^ 30 + b2n x.msixEn * 2 ^ 31
  else if a = Config.msixCap + 4 then 4
  else if a = Config.msixCap + 8 then 16 * vectors f + 4
  else if a = Config.pmCap then 1
  else if a = Config.pmCap + 4 then x.pm
  else if Config.pcieCap ≤ a ∧ a < Config.pcieCap + 0x40 then pcieRead s f (a - Config.pcieCap)
  else if !isVf f ∧ Config.sriovCap ≤ a ∧ a < Config.sriovCap + 0x40 then sriovRead s f (a - Config.sriovCap)
  else 0

/-- May Device Control take a value: Max Payload Size up to 512 octets, Max Read Request Size up to 4,096 (R65)? -/
def devControlOk (v : Nat) : Bool := bitsOf v 7 5 ≤ 2 && bitsOf v 14 12 ≤ 5

/-- A word of configuration space kept. -/
def cfgPut (s : State) (f a v : Nat) : State := fnMod s f fun x => { x with cfg := tabSet x.cfg a (BitVec.ofNat 32 v) }

/-- Does software write the word of a function: a BAR, Interrupt Line, Device Control, NumVFs or a BAR of the virtual functions? -/
def cfgWritable (f a v : Nat) : Bool :=
  (!isVf f && decide (0x10 ≤ a) && decide (a < 0x28)) || a == 0x3C || (a == Config.pcieCap + 8 && devControlOk v)
    || (!isVf f && (a == Config.sriovCap + 0x10 || (decide (Config.sriovCap + 0x24 ≤ a) && decide (a < Config.sriovCap + 0x3C))))

/-- A write in the configuration space of a function: Bus Master Enable in the Command register, the MSI-X Message Control, the
power state, and the words that software writes (R62, R65, R68, R793). -/
def configWrite (s : State) (f a v : Nat) : State :=
  if a = 4 then fnMod s f fun x => { x with bme := bitOf v 2 }
  else if a = Config.msixCap then fnMod s f fun x => { x with msixEn := bitOf v 31, fmask := bitOf v 30 }
  else if a = Config.pmCap + 4 then fnMod s f fun x => { x with pm := v % 4 }
  else if cfgWritable f a v then cfgPut s f a v
  else s

end Sys2Proof.Machine
end

