-- ==== Sys2Proof/Machine/Trust.lean ====
section
/-! DEFINITION. Chapter 08, identity and attestation: the SPDM answers (R447-R449), and the firmware commands of physical
function 0 (R148, R444). -/
namespace Sys2Proof.Machine

/-! ## Connection state (R448) -/

def spdmFind (l : List (SpdmEp × Spdm)) (ep : SpdmEp) : Spdm := ((l.find? fun e => e.1 == ep).map (·.2)).getD {}
def spdmGet (s : State) (ep : SpdmEp) : Spdm := spdmFind s.host.spdm ep
def spdmPut (s : State) (ep : SpdmEp) (x : Spdm) : State :=
  { s with host := { s.host with spdm := (ep, x) :: s.host.spdm.filter fun e => e.1 != ep } }

/-- Does the device answer SPDM at an endpoint: firmware runs, and the mailbox is that of a physical function (R65, R448)? -/
def spdmOpen (s : State) (ep : SpdmEp) : Bool :=
  s.pw.rom == .done && (stage s ≤ 3) && (match ep with
    | .doe fn => fn == 0 || fn == compFn && s.host.split
    | .mctp _ => true)

/-- Answers by code of the published protocol (log 52). -/
def spdmVersion : Nat := 0x04
def spdmCapabilities : Nat := 0x61
def spdmAlgorithms : Nat := 0x63
def spdmDigests : Nat := 0x01
def spdmCertificate : Nat := 0x02
def spdmChallengeAuth : Nat := 0x03
def spdmMeasurements : Nat := 0x60
def spdmError : Nat := 0x7F

/-- Errors Invalid Request, Busy and Unexpected Request of the published protocol (log 52). -/
def errInvalid : Nat := 1
def errBusy : Nat := 3
def errUnexpected : Nat := 4

/-- An answer goes out, and the transcript takes request and answer. -/
def spdmAnswer (s : State) (ep : SpdmEp) (code : Nat) (req d : Bytes) : State :=
  let x := spdmGet s ep
  emit (spdmPut s ep { x with transcript := x.transcript ++ req ++ d }) (.spdm ep code d)

/-- An ERROR answer; the transcript does not take it. -/
def spdmFail (s : State) (ep : SpdmEp) (e : Nat) : State := emit s (.spdm ep spdmError (leBytes 1 e))

/-! ## Certificates and measurements (R447, R449) -/

/-- The chain of certificate slot 0: root, manufacturing and DeviceID as burnt in, and the Alias certificate, which DeviceID
signs over the running image's digest at every boot (R447). -/
def certChain (s : State) : Bytes := Config.vault 1 ++ Config.sign 2 (bootDigest s 0)

/-- A signature by the Alias key, which the running image's digest derives (R447); it reseeds the DRBG (R450). -/
def aliasSign (s : State) (msg : Bytes) : Bytes × State :=
  (Config.sign 1 (bootDigest s 0 ++ msg), drbgReseed s)

/-- The boot configuration block in use (R449, R727). -/
def configBlock (s : State) : Bytes :=
  match s.pw.usedOver, s.pw.overrd with
  | true, some fs => (fs.map (leBytes 4)).flatten
  | _, _ => imageConfig s

/-- Measurement block `i` (R449). -/
def measurement (s : State) (i : Nat) : Bytes :=
  match i with
  | 1 => digestOf 1 (Config.vault 2)
  | 2 => bootDigest s 0
  | 3 => bootDigest s 1
  | 4 => digestOf 1 (configBlock s)
  | _ => leBytes 4 (regNat s KS_TRUST)

/-! ## Requests (R448) -/

/-- GET_VERSION: the connection starts afresh, version 1.2 alone. -/
def spdmVersionReq (s : State) (ep : SpdmEp) : State :=
  if spdmOpen s ep then spdmAnswer (spdmPut s ep { version := true }) ep spdmVersion [] [1, 0x12] else s
def execGetVersion (ep : SpdmEp) (s : State) : Res := .next (spdmVersionReq s ep)

/-- Capabilities: CERT_CAP, CHAL_CAP and signed MEAS_CAP, CTExponent 17. -/
def spdmCaps : Bytes := [17, 0x16, 0, 0, 0]

/-- GET_CAPABILITIES. -/
def spdmCapsReq (s : State) (ep : SpdmEp) : State :=
  if !spdmOpen s ep then s
  else
    let x := spdmGet s ep
    if x.version then spdmAnswer (spdmPut s ep { x with caps := true }) ep spdmCapabilities [] spdmCaps
    else spdmFail s ep errUnexpected
def execGetCapabilities (ep : SpdmEp) (s : State) : Res := .next (spdmCapsReq s ep)

/-- Bits of P-384 ECDSA, SHA-384 and the DMTF measurement specification in NEGOTIATE_ALGORITHMS (log 52). -/
def algP384 : Nat := 7
def algSha384 : Nat := 1
def algDmtf : Nat := 0

/-- NEGOTIATE_ALGORITHMS: what the request offers of the three is chosen; an offer without them is invalid. -/
def spdmAlgsReq (s : State) (ep : SpdmEp) (asym hash meas : Nat) : State :=
  if !spdmOpen s ep then s
  else
    let x := spdmGet s ep
    if !x.caps then spdmFail s ep errUnexpected
    else if bitOf asym algP384 && bitOf hash algSha384 then
      spdmAnswer (spdmPut s ep { x with algs := true }) ep spdmAlgorithms (leBytes 4 asym ++ leBytes 4 hash ++ leBytes 1 meas)
        (leBytes 4 (2 ^ algP384) ++ leBytes 4 (2 ^ algSha384) ++ leBytes 1 (b2n (bitOf meas algDmtf)))
    else spdmFail s ep errInvalid
def execNegotiateAlgorithms (ep : SpdmEp) (asym hash meas : Nat) (s : State) : Res :=
  .next (spdmAlgsReq s ep asym hash meas)

/-- A request that the negotiation must come before. -/
def spdmAfter (s : State) (ep : SpdmEp) (f : State → State) : State :=
  if !spdmOpen s ep then s else if (spdmGet s ep).algs then f s else spdmFail s ep errUnexpected

/-- GET_DIGESTS: the SHA-384 of slot 0's chain. -/
def execGetDigests (ep : SpdmEp) (s : State) : Res :=
  .next (spdmAfter s ep fun s => spdmAnswer s ep spdmDigests [] (1 :: digestOf 1 (certChain s)))

/-- GET_CERTIFICATE (R447): a part of slot 0's chain, with how much is left. -/
def certReq (s : State) (ep : SpdmEp) (slot off len : Nat) : State :=
  let c := certChain s
  if slot ≠ 0 ∨ c.length ≤ off then spdmFail s ep errInvalid
  else
    let d := slice c off (min len (c.length - off))
    spdmAnswer s ep spdmCertificate (leBytes 2 off ++ leBytes 2 len) (leBytes 2 d.length ++ leBytes 2 (c.length - off - d.length) ++ d)
def execGetCertificate (ep : SpdmEp) (slot off len : Nat) (s : State) : Res :=
  .next (spdmAfter s ep fun s => certReq s ep slot off len)

/-- A signed answer (R448, R451): the DRBG in ERROR answers Busy; the nonce is fresh, and the signature is over the transcript
with this request and answer, after which the transcript starts again. -/
def signedAnswer (s : State) (ep : SpdmEp) (code : Nat) (req body : Bytes) : State :=
  if drbgError s then spdmFail s ep errBusy
  else
    let n := drbgBytes s 32
    let d := body ++ n.1
    let x := spdmGet n.2 ep
    let g := aliasSign n.2 (x.transcript ++ req ++ d)
    emit (spdmPut g.2 ep { x with transcript := [] }) (.spdm ep code (d ++ g.1))

/-- CHALLENGE. -/
def challengeReq (s : State) (ep : SpdmEp) (slot : Nat) (nonce : Bytes) : State :=
  if slot ≠ 0 then spdmFail s ep errInvalid
  else signedAnswer s ep spdmChallengeAuth nonce (digestOf 1 (certChain s))
def execChallenge (ep : SpdmEp) (slot : Nat) (nonce : Bytes) (s : State) : Res :=
  .next (spdmAfter s ep fun s => challengeReq s ep slot nonce)

/-- The measurement record of a GET_MEASUREMENTS operation: 0 their number alone, 255 all five, else the block named. -/
def measRecord (s : State) (op : Nat) : Option Bytes :=
  let block := fun i => let m := measurement s i; leBytes 1 i ++ leBytes 2 m.length ++ m
  if op = 0 then some [5]
  else if op = 255 then some ([1, 2, 3, 4, 5].map block).flatten
  else if op ≤ 5 then some (block op)
  else none

/-- GET_MEASUREMENTS (R449). -/
def measReq (s : State) (ep : SpdmEp) (op : Nat) (signed : Bool) (nonce : Bytes) : State :=
  match measRecord s op with
  | none => spdmFail s ep errInvalid
  | some d => if signed then signedAnswer s ep spdmMeasurements (leBytes 1 op ++ nonce) d
    else spdmAnswer s ep spdmMeasurements (leBytes 1 op) d
def execGetMeasurements (ep : SpdmEp) (op : Nat) (signed : Bool) (nonce : Bytes) (s : State) : Res :=
  .next (spdmAfter s ep fun s => measReq s ep op signed nonce)

/-! ## Firmware commands (R148, R444) -/

/-- The next-boot slot points at a slot that has been verified (R444). -/
def fwPoint (s : State) (k : Nat) : State := powMod s fun p => { p with next := some k }

/-- FIRMWARE_COMMIT (R444): the slot that is not running is verified before the boot record changes. -/
def firmwareCommit (s : State) (i : Nat) : State :=
  if slotValid s (fwOther s) then tkFinish (fwPoint s (fwOther s)) i .success else tkFinish s i .invalidFwImage
def execFirmwareCommit (tk : Nat) (s : State) : Res := .next (if adminIs s tk 0x10 then firmwareCommit s tk else s)

/-- Firmware Slot Information (R148): the active and next slot, and the revision of each slot's image. -/
def fwSlotLog (s : State) : Bytes :=
  structure' 512 [(0, [BitVec.ofNat 8 (s.pw.running + 16 * (s.pw.next.getD 0))]), (8, fwVersion (fwSlot s 1)), (16, fwVersion (fwSlot s 2))]

/-- GET_LOG_PAGE_FIRMWARE_SLOT (R148). -/
def execGetLogPageFirmwareSlot (tk : Nat) (s : State) : Res :=
  .next (if lidIs s tk 3 then logReturn s tk 3 (fwSlotLog s) else s)

end Sys2Proof.Machine
end

