-- ==== Sys2Proof/Machine/Packets.lean ====
section
/-! DEFINITION. Chapter 14: what the manager's packets do (R717-R729), their intake and checks (R695-R711, R804), and the
boundary's part in them. -/
namespace Sys2Proof.Machine

/-! ## Media packets (R289, R315, R320, R261, R719-R721) -/

/-- Channels that are training. -/
def chansTraining (s : State) : Bool := (List.range 32).any fun ch => chState s ch == chTraining

/-- Retired channels train again for a format (R320): the record of the retirement is cleared. -/
def retiredTrain (s : State) : State :=
  (List.range 32).foldl (fun s ch => if chState s ch = chRetired then
    regPutFld (regPutFld (flSet s fun f => { f with retired := f.retired.filter (· != ch) }) (FC_STATUS ch) 31 29 chTraining)
      (FC_STATUS ch) 24 23 0 else s) s

/-- DRAM above the structures of R298, in 1 MiB units, and half of it: the budget of a first format (R306). -/
def firstBudget (s : State) (f : Fmt) : Nat :=
  let blocks := f.blocks * (liveDies s).length
  let used := 1 + 2 ^ 36 / f.p / 2 ^ 20 + 4096 * 16 * f.p / 2 ^ 20 + (16 * blocks + 2 ^ 20 - 1) / 2 ^ 20 + 1024 + 256 + 128
  min 262144 ((regNat s DM_CAPACITY * 16 - used) / 2)

/-- Channels that hold a live die. -/
def liveChans (s : State) : Nat :=
  ((List.range 32).filter fun ch => (liveDies s).any fun d => ((dieGet s d).map (·.ch)) == some ch).length

/-- The registers that a format leaves (R289, R306, R308). -/
def formatRegs (s : State) (f : Fmt) : State :=
  let b := s.atl.budgetKept.getD (firstBudget s f)
  let s := regPutFld (atlSet s fun a => { a with budgetKept := some b }) AT_TABLES_BUDGET 18 0 b
  let v := spareNow s
  let s := regPutFld (regPutFld s AT_SPARE 30 24 v.1) AT_SPARE 9 0 v.2
  regPutBit (regPutBit s AT_MEDIA_STATE 31 false) AT_MEDIA_STATE 28 (decide (liveChans s < f.n))

/-- STRIPE of a format: N by its code (R301). -/
def stripeN : Nat → Option Nat
  | 0 => some 8
  | 1 => some 16
  | 2 => some 32
  | _ => none

/-- MEDIA_FORMAT (R289, R315): it waits while a channel trains (R320). -/
def mediaFormatFx (s : State) (n : Nat) (p : Packet) : State :=
  let spare := if pAt p 9 1 = 0 then 4 else pAt p 9 1
  match stripeN (pAt p 8 1) with
  | none => pkFail (flightApplied s n) n .badParameter
  | some w =>
    if 25 < spare ∨ pAt p 12 4 = 0 then pkFail (flightApplied s n) n .badParameter
    else if !s.atl.nss.isEmpty then pkFail (flightApplied s n) n .wrongState
    else
      let s := retiredTrain s
      if chansTraining s then s
      else
        let s := flightApplied s n
        match mediaFormat s w spare (pAt p 12 4) with
        | none => pkFail s n .badParameter
        | some s =>
          let s := formatRegs s (fmtOf s)
          pkReply s n .ok (leBytes 2 (liveDies s).length ++ zeros 2 ++ leBytes 8 (capacity s))

/-- QUADRANGLE_PIN and UNPIN (R261): a pinned SHEET quadrangle converts to page form, and the packet is answered then. -/
def quadPinFx (s : State) (n : Nat) (p : Packet) : State :=
  let q := pAt p 8 4
  let w := dirGet s q
  let pin := !pFlag p 0
  let put := fun (s : State) => dirPut s q (quadWord (qForm w) pin (qNs w) (qTable w))
  if 262144 ≤ q then pkFail s n .badParameter
  else if qForm w = formFree then pkFail s n .wrongState
  else if !pin then pkReply (put s) n .ok
  else if qForm w = formSheet then
    if tablesFree s = 0 then pkFail s n .noResource
    else
      let s := put s
      if convs s true < 4 then convToPage s q else s
  else if qForm w = formToSheet then
    pkReply (atlSet (put s) fun a => { a with convs := a.convs.map fun c =>
      if c.quad == q then ({ quad := q, toPage := true, start := frameNo s } : Conv) else c }) n .ok
  else pkReply (put s) n .ok

/-- A pinned quadrangle's conversion goes on, and its packet is answered when it has ended. -/
def pinCheck (s : State) (n : Nat) (p : Packet) : State :=
  let q := pAt p 8 4
  let f := qForm (dirGet s q)
  if f = formPage then pkReply s n .ok
  else if f = formFree ∨ f = formEmpty then pkFail s n .wrongState
  else if f = formSheet ∧ convs s true < 4 then convToPage s q
  else s

/-- CHANNEL_RETIRE (R320). -/
def chanRetireFx (s : State) (n : Nat) (p : Packet) : State :=
  let ch := pAt p 8 1
  if 32 ≤ ch then pkFail s n .badParameter
  else if chState s ch = chActive then
    if regBit s AT_REBUILD 31 then pkFail s n .busy else pkReply (chRetire s ch 1) n .ok
  else if chState s ch = chTraining ∨ chState s ch = chRetraining then chanMod s ch fun x => { x with retireReq := some 1 }
  else pkFail s n .wrongState

/-- A held CHANNEL_RETIRE is answered when the training has ended. -/
def retireCheck (s : State) (n : Nat) (p : Packet) : State :=
  let ch := pAt p 8 1
  if chState s ch = chTraining ∨ chState s ch = chRetraining then s
  else if chState s ch = chRetired then pkReply s n .ok else pkFail s n .wrongState

/-- MEDIA_QUERY (R720). -/
def mediaQueryFx (s : State) (n : Nat) : State :=
  let m := regNat s AT_MEDIA_STATE
  let bits := b2n (bitOf m 0) + 2 * b2n (bitOf m 31) + 4 * b2n (bitOf m 29) + 8 * b2n (bitOf m 28) + 16 * b2n (armed s)
    + 32 * b2n (regBit s HQ_DURABILITY 30)
  pkReply s n .ok (leBytes 1 bits ++ leBytes 1 (spareNow s).1 ++ leBytes 2 (liveDies s).length
    ++ leBytes 8 (if s.atl.fmt.isSome then capacity s else 0) ++ leBytes 4 (freeBlocks s) ++ leBytes 4 s.atl.tabs.length
    ++ leBytes 1 (percentUsed s) ++ leBytes 1 (regFld s AT_GEOMETRY 31 30) ++ leBytes 1 (regFld s AT_GEOMETRY 29 28))

/-- HOLDUP_CONTROL (R746, R805). -/
def holdupFx (s : State) (n : Nat) (p : Packet) : State :=
  match pAt p 8 1 with
  | 0 =>
    let s := powMod s fun w => { w with choice := false, disarm := true }
    holdupReply { s with cq := { s.cq with armReq := some false, budgetReq := some 0 } } n 0 (regFld s PW_HOLDUP_ENERGY 19 0)
  | 1 => testAsk (powMod s fun w => { w with choice := true }) (some (n, true)) false
  | 2 => testAsk s (some (n, false)) false
  | _ => pkFail s n .badParameter

/-! ## Compute packets (R722, R723) -/

/-- Is a parcel there for the packets that act on its resources? -/
def parcelThere (s : State) (k : Nat) : Bool := (parGet s k).st != .vacant && (parGet s k).st != .retiring

/-- Is a memory range named by a set or used by an invocation (R723)? -/
def rangeUsed (s : State) (k r : Nat) : Bool :=
  (ofParcel s.cs.sets k 16).any (fun e => e.2.contains r) || s.cs.invs.any fun e => e.2.parcel == k && e.2.ranges.contains r

/-- COMPUTE_RANGE (R722, R723). -/
def computeRangeFx (s : State) (n : Nat) (p : Packet) : State :=
  let k := p.parcel
  let r := pAt p 8 1
  let len := pAt p 16 8
  let light := pFlag p 1
  if !parcelThere s k then pkFail s n .wrongState
  else if 32 ≤ r then pkFail s n .badParameter
  else if pFlag p 0 then
    if (rangeGet s k r).isNone then pkFail s n .badParameter
    else if rangeUsed s k r then pkFail s n .wrongState
    else pkReply (rangeGone s k r) n .ok
  else if len % 4096 ≠ 0 ∨ len < 4096 ∨ 2 ^ 31 < len then pkFail s n .badParameter
  else if (rangeGet s k r).isSome then pkFail s n .wrongState
  else if (parGet s k).lim.ranges ≤ (parcelRanges s k).length then pkFail s n .noResource
  else match placeSpan s (rangeClass light) len with
    | none => pkFail s n .noResource
    | some a =>
      let s := lineWrites (memZero (spanFresh s a len) a len) a len 0
      pkReply (csMod s fun x => { x with ranges := tabSet x.ranges (k * 4096 + r) ⟨a, len, light⟩ }) n .ok (leBytes 8 a)

/-- COMPUTE_LIMITS (R491, R722). -/
def computeLimitsFx (s : State) (n : Nat) (p : Packet) : State :=
  let t := pAt p 8 4
  let f := pAt p 12 2
  let b := pAt p 16 4
  if !parcelThere s p.parcel then pkFail s n .wrongState
  else if t = 0 ∨ 65536 < t ∨ f = 0 ∨ 16384 < f ∨ b = 0 ∨ 16777216 < b ∨ 7 < pAt p 20 1 then pkFail s n .badParameter
  else
    let l := { (parGet s p.parcel).lim with tasks := t, flows := f, budget := b, prio := pAt p 20 1 }
    pkReply (parMod s p.parcel fun x => { x with lim := l }) n .ok

/-- OPERATOR_LOAD (R508, R723). -/
def operatorLoadFx (s : State) (n : Nat) (p : Packet) : State :=
  let k := p.parcel
  let idx := pAt p 8 1
  if !parcelThere s k then pkFail s n .wrongState
  else if 63 < idx || !imgLength p.buf || !imgHeader p.buf then pkFail s n .badParameter
  else if progActive s k idx then pkFail s n .wrongState
  else if progsFull s k idx then pkFail s n .noResource
  else match progInstall s k idx p.buf with
    | none => pkFail s n .noResource
    | some s => pkReply s n .ok

/-- OPERATOR_INVOKE (R508, R723): it takes a reserved ticket; without room for the invocation it waits. -/
def operatorInvokeFx (s : State) (n : Nat) (p : Packet) : State :=
  let k := p.parcel
  let idx := pAt p 8 1
  let bad := fun (st : RStat) => pkFail (flightApplied s n) n st
  if (parGet s k).st ≠ .active then bad .wrongState
  else match tabGet s.cs.progs (progKey k idx), setRanges s k (pAt p 10 2) with
    | some g, some rs =>
      if 63 < idx ∨ 4096 < p.buf.length then bad .badParameter
      else match tkAlloc s true with
        | (none, _) => bad .noResource
        | (some tk, t) =>
          let t := tkMod t tk fun x => { x with busy := true, admin := true, parcel := some k, pEdition := (parGet s k).edition
                                                phase := .started, begun := true }
          match invStart t (.packet n) k tk idx g true rs p.buf with
          | none => s
          | some t => flightApplied t n
    | _, _ => bad .badParameter

/-- WAY_ASSIGN (R723): the owner is written, then the mode; answered when the change is complete. -/
def wayAssignFx (s : State) (n : Nat) (p : Packet) : State :=
  let cl := pAt p 8 1
  let w := pAt p 9 1
  let m := pAt p 10 1
  if cl < 2 ∨ 7 < cl ∨ 15 < w ∨ 3 < m then pkFail s n .badParameter
  else if wayChanging s cl w then pkFail s n .busy
  else if 2 ≤ m ∧ 2 ≤ wayMode s cl w ∧ regFld s (TC_WAY_OWNER cl w) 9 0 ≠ p.parcel then pkFail s n .wrongState
  else
    let t := if 2 ≤ wayMode s cl w then s
      else regPut s (TC_WAY_OWNER cl w) (if 2 ≤ m then 2 ^ 31 + p.parcel else 0)
    let v := putBits (regNat t (TC_WAY_MODE cl)) (2 * w + 1) (2 * w) m
    if wayRefused t cl v then pkFail s n .badParameter
    else if wayMode s cl w = m then pkReply t n .ok
    else wayWrite t cl v

/-- A way's change is complete. -/
def wayCheck (s : State) (n : Nat) (p : Packet) : State :=
  if (clusterGet s (pAt p 8 1)).changes.any (·.way == pAt p 9 1) then s else pkReply s n .ok

/-- COMPUTE_QUERY (R722). -/
def computeQueryFx (s : State) (n : Nat) (p : Packet) : State :=
  let k := p.parcel
  pkReply s n .ok (leBytes 4 (parcelTasks s k).length ++ leBytes 2 (parcelFlows s k).length
    ++ leBytes 2 (tabCount s.cs.invs fun i => i.parcel == k) ++ leBytes 1 (parcelRanges s k).length
    ++ leBytes 1 (b2n (s.cs.stalled.contains k)))

/-! ## Gazetteer packets (R568-R570, R592, R607, R724) -/

/-- The owner a packet names: a parcel, or the device. -/
def packetOwner (p : Packet) : Option Nat := if p.parcel = 0xFFFF then none else some p.parcel

/-- Is the owner there? -/
def ownerThere (s : State) (p : Packet) : Bool := p.parcel == 0xFFFF || parcelThere s p.parcel

/-- GZ_TABLE_CREATE (R568). -/
def gzCreateFx (s : State) (n : Nat) (p : Packet) : State :=
  let cap := pAt p 8 4
  let h := if pAt p 12 1 = 0 then 6 else pAt p 12 1
  let c := pAt p 13 1
  let own := packetOwner p
  if !ownerThere s p then pkFail s n .wrongState
  else if cap % 64 ≠ 0 ∨ cap < 64 ∨ 65536 < cap ∨ h < 3 ∨ 10 < h ∨ 15 < c ∨ (c ≠ 0 ∧ own.isSome) then pkFail s n .badParameter
  else if own.isSome && decide ((gzQuota s p.parcel).2.2 ≤ tabCount s.gz.tabs fun t => t.owner == own) then pkFail s n .noResource
  else match tabFree s.gz.tabs 0 1024, gzSpan s cap with
    | some t, some (b, base) =>
      let x : GzTab := { owner := own, bank := b, base := base, cap := cap, hole := 2 ^ h, casc := c }
      pkReply (gzMod s fun g => { g with tabs := tabSet g.tabs t x }) n .ok
        (leBytes 2 t ++ leBytes 1 b ++ zeros 1 ++ leBytes 4 (b * 65536 + base))
    | _, _ => pkFail s n .noResource

/-- GZ_TABLE_DELETE (R570): jobs that start from now on find no table; the reply follows the last record. -/
def gzDeleteFx (s : State) (n : Nat) (p : Packet) : State :=
  let t := pAt p 8 2
  match gzTab s t with
  | none => pkFail s n .badParameter
  | some x =>
    if x.owner ≠ packetOwner p then pkFail s n .badParameter
    else if x.deleting.isSome then pkFail s n .busy
    else gzMod s fun g => { g with tabs := tabMod g.tabs t fun x => { x with deleting := some n } }

/-- A table whose last started job has written its record is zeroized and the packet answered. -/
def gzDeleteCheck (s : State) (n : Nat) (p : Packet) : State :=
  if gzTableBusy s (pAt p 8 2) then s else pkReply (gzTableGone s (pAt p 8 2)) n .ok

/-- GZ_LIMITS (R592). -/
def gzLimitsFx (s : State) (n : Nat) (p : Packet) : State :=
  if !ownerThere s p then pkFail s n .wrongState
  else if 1024 < pAt p 10 2 then pkFail s n .badParameter
  else pkReply (gzMod s fun g => { g with limits := tabSet g.limits p.parcel (pAt p 8 1, pAt p 9 1, pAt p 10 2) }) n .ok

/-- GZ_CASCADE_SET (R607): answered at H. -/
def gzCascadeFx (s : State) (n : Nat) (p : Packet) : State :=
  let mask := pAt p 8 1
  let h := pAt p 16 8
  if !cascHead s then pkFail s n .wrongState
  else if h < frameNo s + 16 ∨ mask &&& regFld s GZ_CASCADE 23 16 ≠ mask then pkFail s n .badParameter
  else if s.gz.casc.change.isSome then pkFail s n .busy
  else cascMod s fun c =>
    { c with change := some (mask, (regFld s GZ_CASCADE 7 0 + 1) % 256, h % 2 ^ 32), changePacket := some n }

/-! ## Meter packets (R193, R725) -/

/-- A record's 128 octets (R193). -/
def recBytes (r : MRec) : Bytes :=
  leBytes 2 r.parcel ++ leBytes 2 r.edition ++ leBytes 1 r.state ++ leBytes 1 r.flags ++ zeros 2 ++ leBytes 8 r.start
    ++ leBytes 8 r.stop ++ ((List.range 9).map fun m => leBytes 8 (r.meters.getD m 0)).flatten ++ zeros 32

/-- METER_READ: whole records, oldest first. -/
def meterReadFx (s : State) (n : Nat) (p : Packet) : State :=
  let rs := s.pc.ring.take (p.bufLen / 128)
  pkReply s n .ok (leBytes 4 rs.length ++ leBytes 4 s.pc.ring.length ++ leBytes 4 (regFld s PC_SNAP_STATUS 15 0))
    (rs.map recBytes).flatten

/-- METER_FREE: held FINAL records then follow as room allows (R796). -/
def meterFreeFx (s : State) (n : Nat) (p : Packet) : State :=
  let k := pAt p 8 4
  if s.pc.ring.length < k then pkFail s n .badParameter
  else
    let s := heldWrite { s with pc := { s.pc with ring := s.pc.ring.drop k } }
    pkReply s n .ok (leBytes 4 s.pc.ring.length)

/-! ## Firmware and diagnostics packets (R444, R445, R724, R726-R729) -/

/-- FW_DOWNLOAD (R726). -/
def fwDownloadFx (s : State) (n : Nat) (p : Packet) : State :=
  let k := pAt p 8 1
  let off := pAt p 12 4
  if k = 0 ∨ 2 < k ∨ off % 4 ≠ 0 ∨ p.buf.length % 4 ≠ 0 ∨ 33554432 < off + p.buf.length then pkFail s n .badParameter
  else if k = s.pw.running then pkFail s n .wrongState
  else pkReply (fwPut s k off p.buf) n .ok

/-- FW_COMMIT (R444): the slot is verified under R441 before the boot record points at it. -/
def fwCommitFx (s : State) (n : Nat) (p : Packet) : State :=
  let k := pAt p 8 1
  if k = 0 ∨ 2 < k then pkFail s n .badParameter
  else if slotValid s k then
    pkReply (fwPoint s k) n .ok (leBytes 2 (fwSvn (fwSlot s k)) ++ leBytes 1 (fwKeygen (fwSlot s k)))
  else pkFail s n .notAuthentic

/-- FW_SVN_ADVANCE (R445): not while PWR_FAIL_N is asserted; answered when the blow has ended. -/
def svnAdvanceFx (s : State) (n : Nat) : State :=
  let svn := min 64 (fwSvn (fwSlot s s.pw.running))
  if regBit s PW_STATUS 28 then pkFail s n .wrongState
  else if s.ks.blowing.isSome then pkFail s n .busy
  else if svn ≤ s.ks.fuses then pkReply s n .ok (leBytes 1 s.ks.fuses)
  else ksMod s fun k => { k with blowing := some (svn, n) }

/-- BOOTCFG_SET (R727). -/
def bootcfgFx (s : State) (n : Nat) (p : Packet) : State :=
  if bitOf (pAt p 14 1) 0 then pkReply (powMod s fun w => { w with overrd := none }) n .ok
  else if 2 < pAt p 8 1 ∨ 1 < pAt p 9 1 ∨ 2 < pAt p 10 1 ∨ 2 < pAt p 11 1 then pkFail s n .badParameter
  else pkReply (powMod s fun w => { w with overrd := some [pAt p 8 1, pAt p 9 1, pAt p 10 1, pAt p 11 1, pAt p 12 2] }) n .ok

/-- DIAG_DUMP (R728): the snapshot's content is not stated (log 3). -/
def diagDumpFx (s : State) (n : Nat) (p : Packet) : State :=
  let off := pAt p 8 8
  let s := if off = 0 then
      { s with fresh := s.fresh + 1, pw := { s.pw with diag := Config.diag s.fresh } }
    else s
  let d := s.pw.diag
  if d.length ≤ off then pkFail s n .badParameter
  else
    let part := slice d off (min p.bufLen (d.length - off))
    pkReply s n .ok (leBytes 8 d.length ++ leBytes 4 part.length) part

/-- EVENT_READ (R729): the words as they stand, then the clears. -/
def eventReadFx (s : State) (n : Nat) (p : Packet) : State :=
  let k := pAt p 8 1
  if 10 < k then pkFail s n .badParameter
  else
    let r := leBytes 4 (evSummary s) ++ ((List.range 6).map fun i => leBytes 4 (regNat s (EV_PENDING (k + i)))).flatten
    let s := if pFlag p 0 then (List.range 6).foldl (fun s i => evClear s (k + i) (pAt p (12 + 4 * i) 4)) s else s
    pkReply s n .ok r

/-- The device state of R724 and R705: 0 recovery, 1 booting, 2 admin-ready, 3 media-ready, 4 FATAL. -/
def deviceState (s : State) : Nat :=
  if s.fr.fatal then 4 else if s.pw.rom = .recovery then 0 else if stage s = 2 then 2 else if stage s = 1 then 1 else 3

/-- DEVICE_QUERY (R724). -/
def deviceQueryFx (s : State) (n : Nat) : State :=
  pkReply s n .ok (leBytes 1 (deviceState s) ++ leBytes 1 s.pw.running ++ leBytes 1 s.mg.flights.length
    ++ leBytes 1 (b2n (regBit s PW_STATUS 28)) ++ leBytes 8 (frameNo s) ++ fwVersion (fwSlot s s.pw.running))

/-! ## Carrying out (R708, R709, R804) -/

/-- Packets that take effect in a later step of their own: they mark it themselves. -/
def marksItself (op : Nat) : Bool := op == 0x10C || op == 0x301 || op == 0x404

/-- What a packet does when it takes effect. -/
def packetFx (s : State) (n op : Nat) (p : Packet) : State :=
  match op with
  | 0x101 => parcelCreateFx s n p
  | 0x102 => parcelConfigureFx s n p
  | 0x103 => parcelBindVfFx s n p
  | 0x104 => parcelUnbindVfFx s n p
  | 0x105 => parcelHostPairFx s n p
  | 0x106 => parcelAssignNsFx s n p
  | 0x107 => parcelEnableFx s n p
  | 0x10A => parcelThawFx s n p
  | 0x10B => if drbgError s then pkFail s n .entropyFailed else parcelSaveFx s n p
  | 0x10C => restoreBegin s n p
  | 0x10D => parcelRetireFx s n p
  | 0x10E => parcelQueryFx s n p
  | 0x10F => parcelShareFx s n p
  | 0x204 => keyQueryFx s n p
  | 0x301 => mediaFormatFx s n p
  | 0x302 => quadPinFx s n p
  | 0x303 => chanRetireFx s n p
  | 0x304 => mediaQueryFx s n
  | 0x305 => nsTransformFx s n p
  | 0x306 => holdupFx s n p
  | 0x401 => computeRangeFx s n p
  | 0x402 => computeLimitsFx s n p
  | 0x403 => operatorLoadFx s n p
  | 0x404 => operatorInvokeFx s n p
  | 0x405 => wayAssignFx s n p
  | 0x406 => computeQueryFx s n p
  | 0x501 => gzCreateFx s n p
  | 0x502 => gzDeleteFx s n p
  | 0x503 => gzLimitsFx s n p
  | 0x504 => gzCascadeFx s n p
  | 0x601 => meterReadFx s n p
  | 0x602 => meterFreeFx s n p
  | 0x701 => fwDownloadFx s n p
  | 0x702 => fwCommitFx s n p
  | 0x703 => svnAdvanceFx s n
  | 0x704 => bootcfgFx s n p
  | 0x705 => diagDumpFx s n p
  | 0x706 => eventReadFx s n p
  | 0x707 => deviceQueryFx s n
  | _ => s

/-- A packet takes effect, unless it waits (R708, R697). -/
def pkRun (s : State) (n : Nat) : State :=
  match flightGet s n with
  | none => s
  | some f =>
    if f.applied || pkWaits s n then s
    else if bufUse f.op f.p != .none && !f.p.bufOk && f.op != 0x10B then pkFail (flightApplied s n) n .hostError
    else packetFx (if marksItself f.op then s else flightApplied s n) n f.op f.p

/-- Packets of step 5: those that change a parcel, but for resets, freezes and queries (R167). -/
def stepFive (op : Nat) : Bool := decide (0x101 ≤ op) && decide (op ≤ 0x10F) && op != 0x108 && op != 0x109 && op != 0x10E

/-- Packets with a step of their own: step 3 or step 4. -/
def ownStep (op : Nat) : Bool := op == 0x108 || op == 0x109 || op == 0x201 || op == 0x202 || op == 0x203

/-- Does an NS_TRANSFORM turn the encryption of its namespace on or off, and so a key slot in step 4 (R411, R432)? -/
def keyTurns (s : State) (p : Packet) : Bool :=
  ((nsGet s (pAt p 8 4)).map fun v => v.encrypt != bitOf (pAt p 12 1) 1).getD false

/-- Does a packet wait for step 4? -/
def keyWaits (s : State) (n : Nat) : Bool := s.ks.reqs.any fun r => match r with
  | .packet m _ => m == n
  | _ => false

/-- A packet taken in goes to the step that owns it, or takes effect at once (R709, R804). -/
def packetStart (s : State) (n op : Nat) (p : Packet) : State :=
  if op = 0x108 then reqReset s p.parcel 0 (pFlag p 0) (.packet n)
  else if op = 0x109 then parMod s p.parcel fun x => { x with reqs := x.reqs ++ [.freeze n] }
  else if op = 0x201 ∨ op = 0x202 ∨ op = 0x203 then
    if bufUse op p != .none && !p.bufOk then pkFail s n .hostError
    else keyAsk s (.packet n (pAt p 8 2))
  else if op = 0x305 ∧ keyTurns s p then keyAsk s (.packet n (((nsGet s (pAt p 8 4)).bind (·.media)).getD 4096))
  else if stepFive op then s
  else pkRun s n

/-! ## Checks (R695, R697, R702, R705) -/

/-- Opcodes of R712 to R724. -/
def opKnown (op : Nat) : Bool :=
  (decide (0x101 ≤ op) && decide (op ≤ 0x10F)) || (decide (0x201 ≤ op) && decide (op ≤ 0x204))
    || (decide (0x301 ≤ op) && decide (op ≤ 0x306)) || (decide (0x401 ≤ op) && decide (op ≤ 0x406))
    || (decide (0x501 ≤ op) && decide (op ≤ 0x504)) || (decide (0x601 ≤ op) && decide (op ≤ 0x602))
    || (decide (0x701 ≤ op) && decide (op ≤ 0x707))

/-- Flag bits that an opcode defines. -/
def flagMask (op : Nat) : Nat :=
  if op = 0x202 ∨ op = 0x401 then 3
  else if [0x105, 0x106, 0x108, 0x201, 0x204, 0x302, 0x706].contains op then 1 else 0

/-- Octets of PARAMS that an opcode assigns: first octet, count, and the bits of each that it assigns. -/
def paramFields (op : Nat) : List (Nat × Nat × Nat) :=
  match op with
  | 0x101 | 0x102 => [(8, 10, 255), (20, 1, 255)]
  | 0x103 => [(8, 3, 255)]
  | 0x106 => [(8, 4, 255)]
  | 0x10B => [(8, 1, 0x18), (10, 2, 255)]
  | 0x10C => [(8, 2, 255)]
  | 0x10F => [(8, 1, 15), (12, 3, 255), (16, 3, 255), (20, 3, 255), (24, 3, 255), (28, 3, 255), (32, 3, 255), (36, 3, 255), (40, 3, 255)]
  | 0x201 => [(8, 4, 255)]
  | 0x202 => [(8, 6, 255), (16, 32, 255)]
  | 0x203 | 0x204 => [(8, 2, 255)]
  | 0x301 => [(8, 2, 255), (12, 4, 255)]
  | 0x302 => [(8, 4, 255)]
  | 0x303 => [(8, 1, 255)]
  | 0x305 => [(8, 4, 255), (12, 1, 3), (13, 2, 255)]
  | 0x306 => [(8, 1, 255)]
  | 0x401 => [(8, 1, 255), (16, 8, 255)]
  | 0x402 => [(8, 6, 255), (16, 5, 255)]
  | 0x403 => [(8, 1, 255)]
  | 0x404 => [(8, 1, 255), (10, 2, 255)]
  | 0x405 => [(8, 3, 255)]
  | 0x501 => [(8, 6, 255)]
  | 0x502 => [(8, 2, 255)]
  | 0x503 => [(8, 4, 255)]
  | 0x504 => [(8, 1, 255), (16, 8, 255)]
  | 0x602 => [(8, 4, 255)]
  | 0x701 => [(8, 1, 255), (12, 4, 255)]
  | 0x702 => [(8, 1, 255)]
  | 0x704 => [(8, 4, 255), (12, 1, 0xFE), (13, 1, 0x1F), (14, 1, 1)]
  | 0x705 => [(8, 8, 255)]
  | 0x706 => [(8, 1, 255), (12, 24, 255)]
  | _ => []

/-- Are the bits of PARAMS that the opcode leaves unassigned zero (R695)? -/
def paramsOk (op : Nat) (p : Packet) : Bool :=
  (List.range 40).all fun i =>
    let m := ((paramFields op).filter fun f => decide (f.1 ≤ i + 8) && decide (i + 8 < f.1 + f.2.1)).foldl (fun m f => m ||| f.2.2) 0
    pAt p (i + 8) 1 &&& (255 - m) == 0

/-- Does PARCEL take a value that the opcode admits (R695)? -/
def parcelOk (op : Nat) (p : Packet) : Bool :=
  let num := decide (p.parcel < 1024)
  let dev := p.parcel == 0xFFFF
  if op / 256 = 1 then num
  else if op = 0x405 then (if 2 ≤ pAt p 10 1 then num else dev)
  else if op / 256 = 4 then num
  else if op / 256 = 2 ∨ op = 0x501 ∨ op = 0x502 ∨ op = 0x503 then num || dev
  else dev

/-- The buffer's address and length, by the carrier (R697, R702). -/
def bufferOk (op : Nat) (p : Packet) : Bool :=
  match bufUse op p with
  | .none => p.bufAddr == 0 && p.bufLen == 0
  | u =>
    if p.mctp then p.bufAddr == 0 && (decide (896 < p.bufLen) || u == .output || p.buf.length == p.bufLen)
    else p.bufAddr % 4 == 0

/-- Check 2 of R705. -/
def packetWhole (op : Nat) (p : Packet) : Bool :=
  p.rsvdZero && decide (p.flags ||| flagMask op = flagMask op) && paramsOk op p && parcelOk op p && bufferOk op p

/-- Can the buffer travel on the carrier (R702)? -/
def carrierOk (op : Nat) (p : Packet) : Bool :=
  !p.mctp || !(op == 0x10B || op == 0x10C || decide (896 < p.bufLen))

/-- Does the device state admit a packet (R705)? -/
def admitted (s : State) (op : Nat) : Bool :=
  match deviceState s with
  | 0 => [0x701, 0x702, 0x707].contains op
  | 1 => [0x705, 0x707].contains op
  | 2 => [0x10E, 0x204, 0x304, 0x306, 0x406].contains op || (decide (0x701 ≤ op) && decide (op ≤ 0x707))
  | 3 => true
  | _ => [0x701, 0x702, 0x705, 0x706, 0x707].contains op

/-- The first of the checks 1 to 4 of R705 that fails. -/
def packetCheck (s : State) (op : Nat) (p : Packet) : Option RStat :=
  if !opKnown op then some .badOpcode
  else if !packetWhole op p then some .badParameter
  else if !carrierOk op p then some .wrongCarrier
  else if !admitted s op then some .notReady
  else none

/-! ## Intake (R699, R704, R706, R707, R710) -/

/-- Does an admin packet come on a ticket of physical function 0 that waits for it? -/
def onTicket (s : State) (p : Packet) : Bool :=
  let t := tkGet s p.id
  t.busy && t.admin && t.ctrl == 0 && decide (0xC0 ≤ t.cmd.opc) && t.phase == .started
    && !s.mg.flights.any fun f => !f.2.p.mctp && f.2.p.id == p.id

/-- Do the fields of a C1h command keep R699? -/
def c1Fields (e : Sqe) : Bool :=
  e.cdw10 == 16 && e.cdw11 == 0 && e.cdw14 == 0 && e.cdw15 == 0 && e.nsid == 0 && e.cdw12 % 16 == 0

/-- The octets of two packets agree (R710). -/
def samePacket (a b : Packet) : Bool :=
  a.seq == b.seq && a.flags == b.flags && a.parcel == b.parcel && a.params == b.params && a.bufAddr == b.bufAddr
    && a.bufLen == b.bufLen && a.rsvdZero == b.rsvdZero

/-- A packet is in flight (R704); MG_INFLIGHT.PEAK follows (R730). -/
def flightAdd (s : State) (op : Nat) (p : Packet) : State :=
  let n := s.mg.next
  let f : Flight := { op := op, p := p, intake := frameNo s, fevoum := fevoum s, tkEd := (tkGet s p.id).edition }
  let s := mgMod s fun m => { m with next := n + 1, flights := tabSet m.flights n f }
  if fevoum s then s else regPutFld s MG_INFLIGHT 22 16 (max (regFld s MG_INFLIGHT 22 16) (inFlight s))

/-- A packet's interpreter takes it in and checks it. -/
def packetTake (s : State) (op : Nat) (p : Packet) : State :=
  let n := s.mg.next
  let s := flightAdd s op p
  if s.ev.powerFail || s.pw.halted then pkFail s n (if op = 0x703 then .wrongState else .aborted)
  else match packetCheck s op p with
    | some st => pkFail s n st
    | none => packetStart s n op p

/-- A packet that is refused at 64 in flight, or 4 under the Fevoum core (R704, R706). -/
def tooMany (s : State) (op : Nat) (p : Packet) : State :=
  if fevoum s then replySend s true op p (tkGet s p.id).edition .tooMany [] []
  else raise (regInc (replySend s false op p (tkGet s p.id).edition .tooMany [] []) MG_REFUSED) 501

/-- A packet arrives (R704, R710). -/
def packetArrive (s : State) (op : Nat) (p : Packet) : State :=
  let fev := fevoum s
  if (if fev then 4 else 64) ≤ s.mg.flights.length then tooMany s op p
  else if s.mg.flights.any fun f => carrier f.2.p == carrier p && f.2.p.seq == p.seq then replySend s fev op p (tkGet s p.id).edition .duplicate [] []
  else match (tabGetD s.mg.caches (carrier p) []).find? fun c => c.op == op && samePacket c.p p with
    | some c => replySend s fev op p (tkGet s p.id).edition c.st c.result c.data
    | none => packetTake s op p

/-- A manager packet comes over MCTP, or with an admin command of physical function 0, whose own fields R699 checks. -/
def packetIn (s : State) (op : Nat) (p : Packet) : State :=
  if p.mctp then packetArrive s op p
  else if !onTicket s p then s
  else if !c1Fields (tkGet s p.id).cmd then tkFinish s p.id .invalidField
  else if !(tkGet s p.id).cmd.dok then tkFinish s p.id .dataTransfer
  else packetArrive s op p

/-! ## The boundary (R167, R708, R804) -/

/-- A packet not yet applied whose step has come. -/
def flightTurn (s : State) (n : Nat) : State :=
  match flightGet s n with
  | none => s
  | some f => if f.applied || ownStep f.op || keyWaits s n || decide (frameNo s ≤ f.intake) then s else pkRun s n

/-- A packet whose effect runs on is answered when it has ended. -/
def flightFollow (s : State) (n : Nat) : State :=
  match flightGet s n with
  | none => s
  | some f =>
    if !f.applied then s
    else if let some (st, r, d) := f.reply then pkReply s n st r d
    else if f.op = 0x302 then pinCheck s n f.p
    else if f.op = 0x303 then retireCheck s n f.p
    else if f.op = 0x405 then wayCheck s n f.p
    else if f.op = 0x502 then gzDeleteCheck s n f.p
    else s

/-- The firmware work queue (R33): the packets whose work has not been done, oldest first. One of them is one work item, and its
turn is the control-firmware slice. -/
def firmwareWork (s : State) : List Nat := tabKeys s.mg.flights fun f => !f.applied

/-- Step 5, and the packets that waited for others (R167, R708, R804). -/
def flightsBoundary (s : State) : State :=
  let s := (firmwareWork s).foldl flightTurn s
  (s.mg.flights.map (·.1)).foldl flightFollow s

/-- The packets of a parcel of a kind take effect. -/
def parcelTurn (s : State) (p : Nat) (ok : Nat → Bool) : State :=
  (tabKeys s.mg.flights fun f => f.p.parcel == p && stepFive f.op && ok f.op).foldl flightTurn s

/-- PARCEL_REQUEST_EFFECT (R167): the enables of the parcel's function and its packets of step 5. -/
def execParcelRequestEffect (parcel : Nat) (s : State) : Res :=
  .next (parcelTurn (reqsRun s parcel isCcEn) parcel fun _ => true)

/-- RETIREMENT_EFFECT (R220). -/
def execRetirementEffect (parcel : Nat) (s : State) : Res := .next (parcelTurn s parcel fun op => op == 0x10D)

/-! ## The packets -/

def execParcelCreate (p : Packet) (s : State) : Res := .next (packetIn s 0x101 p)
def execParcelConfigure (p : Packet) (s : State) : Res := .next (packetIn s 0x102 p)
def execParcelBindVf (p : Packet) (s : State) : Res := .next (packetIn s 0x103 p)
def execParcelUnbindVf (p : Packet) (s : State) : Res := .next (packetIn s 0x104 p)
def execParcelHostPair (p : Packet) (s : State) : Res := .next (packetIn s 0x105 p)
def execParcelAssignNs (p : Packet) (s : State) : Res := .next (packetIn s 0x106 p)
def execParcelEnable (p : Packet) (s : State) : Res := .next (packetIn s 0x107 p)
def execParcelReset (p : Packet) (s : State) : Res := .next (packetIn s 0x108 p)
def execParcelFreeze (p : Packet) (s : State) : Res := .next (packetIn s 0x109 p)
def execParcelThaw (p : Packet) (s : State) : Res := .next (packetIn s 0x10A p)
def execParcelSave (p : Packet) (s : State) : Res := .next (packetIn s 0x10B p)
def execParcelRestore (p : Packet) (s : State) : Res := .next (packetIn s 0x10C p)
def execParcelRetire (p : Packet) (s : State) : Res := .next (packetIn s 0x10D p)
def execParcelQuery (p : Packet) (s : State) : Res := .next (packetIn s 0x10E p)
def execParcelShare (p : Packet) (s : State) : Res := .next (packetIn s 0x10F p)
def execKeyUnwrap (p : Packet) (s : State) : Res := .next (packetIn s 0x201 p)
def execKeyDerive (p : Packet) (s : State) : Res := .next (packetIn s 0x202 p)
def execKeyErase (p : Packet) (s : State) : Res := .next (packetIn s 0x203 p)
def execKeyQuery (p : Packet) (s : State) : Res := .next (packetIn s 0x204 p)
def execMediaFormat (p : Packet) (s : State) : Res := .next (packetIn s 0x301 p)
/-- QUADRANGLE_PIN and QUADRANGLE_UNPIN are one packet, told apart by its flag. -/
def execQuadranglePin (p : Packet) (s : State) : Res := .next (if pFlag p 0 then s else packetIn s 0x302 p)
def execQuadrangleUnpin (p : Packet) (s : State) : Res := .next (if pFlag p 0 then packetIn s 0x302 p else s)
def execChannelRetire (p : Packet) (s : State) : Res := .next (packetIn s 0x303 p)
def execMediaQuery (p : Packet) (s : State) : Res := .next (packetIn s 0x304 p)
def execNsTransform (p : Packet) (s : State) : Res := .next (packetIn s 0x305 p)
/-- The three HOLDUP_CONTROL packets are told apart by their action; an action beyond 2 is refused by the third. -/
def execHoldupDisarm (p : Packet) (s : State) : Res := .next (if pAt p 8 1 = 0 then packetIn s 0x306 p else s)
def execHoldupTestAndArm (p : Packet) (s : State) : Res := .next (if pAt p 8 1 = 1 then packetIn s 0x306 p else s)
def execHoldupTestOnly (p : Packet) (s : State) : Res := .next (if 2 ≤ pAt p 8 1 then packetIn s 0x306 p else s)
/-- COMPUTE_RANGE creates or deletes, by its flag. -/
def execComputeRangeCreate (p : Packet) (s : State) : Res := .next (if pFlag p 0 then s else packetIn s 0x401 p)
def execComputeRangeDelete (p : Packet) (s : State) : Res := .next (if pFlag p 0 then packetIn s 0x401 p else s)
def execComputeLimits (p : Packet) (s : State) : Res := .next (packetIn s 0x402 p)
def execOperatorLoad (p : Packet) (s : State) : Res := .next (packetIn s 0x403 p)
def execOperatorInvoke (p : Packet) (s : State) : Res := .next (packetIn s 0x404 p)
def execWayAssign (p : Packet) (s : State) : Res := .next (packetIn s 0x405 p)
def execComputeQuery (p : Packet) (s : State) : Res := .next (packetIn s 0x406 p)
def execGzTableCreate (p : Packet) (s : State) : Res := .next (packetIn s 0x501 p)
def execGzTableDelete (p : Packet) (s : State) : Res := .next (packetIn s 0x502 p)
def execGzLimits (p : Packet) (s : State) : Res := .next (packetIn s 0x503 p)
def execGzCascadeSet (p : Packet) (s : State) : Res := .next (packetIn s 0x504 p)
def execMeterRead (p : Packet) (s : State) : Res := .next (packetIn s 0x601 p)
def execMeterFree (p : Packet) (s : State) : Res := .next (packetIn s 0x602 p)
def execFwDownload (p : Packet) (s : State) : Res := .next (packetIn s 0x701 p)
def execFwCommit (p : Packet) (s : State) : Res := .next (packetIn s 0x702 p)
def execFwSvnAdvance (p : Packet) (s : State) : Res := .next (packetIn s 0x703 p)
def execBootcfgSet (p : Packet) (s : State) : Res := .next (packetIn s 0x704 p)
def execDiagDump (p : Packet) (s : State) : Res := .next (packetIn s 0x705 p)
def execEventRead (p : Packet) (s : State) : Res := .next (packetIn s 0x706 p)
def execDeviceQuery (p : Packet) (s : State) : Res := .next (packetIn s 0x707 p)
/-- UNKNOWN_MANAGER_PACKET: an opcode that is none of the others' (R705). -/
def execUnknownManagerPacket (opcode : Nat) (p : Packet) (s : State) : Res :=
  .next (if opKnown opcode then s else packetIn s opcode p)

/-- MG_INFLIGHT_READ (R730): the count now and the peak, which the read clears. -/
def mgInflight (s : State) : Nat := regFld s MG_INFLIGHT 22 16 * 2 ^ 16 + inFlight s
def execMgInflightRead (s : State) : Res :=
  .next (regPutFld (emit s (.regRead MG_INFLIGHT (BitVec.ofNat 32 (mgInflight s)))) MG_INFLIGHT 22 16 0)

end Sys2Proof.Machine
end

