-- ==== Sys2Proof/Machine/Sideband.lean ====
section
/-! DEFINITION. Chapter 02, the sideband: the bus, MCTP messages and their packets, NVMe-MI (R97-R100). What R98 and R99 take
from DSP0236 and NVMe-MI 1.2 without spelling it out (codes and layouts) is PRESUMED, log 53. -/
namespace Sys2Proof.Machine

/-! ## The bus (R97) -/

/-- The target address at which the device answers: 1Dh on SMBus, the one its controller assigned on I3C. -/
def sbAddress (s : State) : Option Nat := if s.host.sbI3c then s.host.i3cAddr else some 0x1D

/-- An I3C controller assigns the dynamic address. -/
def i3cAssign (s : State) (a : Option Nat) : State :=
  match s.host.sbI3c, a with
  | true, some n => { s with host := { s.host with i3cAddr := some (n % 128) } }
  | _, _ => s

/-! ## Messages and packets (R98) -/

/-- The longest message. -/
def mctpMost : Nat := 1024

/-- Do packets follow one another as one message: the first starts it, the last ends it, sequence numbers rise modulo 4, every
one but the last is a whole unit? -/
def mctpChain : List MctpPacket → Nat → Bool
  | [], _ => false
  | [p], q => p.eom && p.seq % 4 == q && decide (p.data.length ≤ mctpUnit)
  | p :: t, q => !p.eom && p.seq % 4 == q && p.data.length == mctpUnit && t.all (!·.som) && mctpChain t ((q + 1) % 4)

/-- The message that packets carry; none where they do not fit together or the message is longer than 1,024 octets. -/
def mctpMessage (l : List MctpPacket) : Option Bytes :=
  let d := l.flatMap (·.data)
  match l with
  | p :: _ => if p.som && mctpChain l (p.seq % 4) && decide (d.length ≤ mctpMost) then some d else none
  | [] => none

/-- The MCTP message types accepted. -/
def mctpTypes : List Nat := [0x00, 0x04, 0x05, 0x7E]

/-- The version that Get MCTP Version reports for a type: 1.2 for NVMe-MI and SPDM, else 1.3.1 of DSP0236. DESIGN CHOICE, log 53:
R98 names no version of DSP0236. -/
def mctpVersion (t : Nat) : Bytes := if t = 4 ∨ t = 5 then [0xF1, 0xF2, 0xFF, 0] else [0xF1, 0xF3, 0xF1, 0]

/-- An MCTP control message (R98): 01h Set Endpoint ID (set and force; an endpoint ID of 0 or FFh, or another operation, is invalid
data, 02h), 02h Get Endpoint ID, 04h Get Version (80h for a type not supported), 05h Get Message Types; any other command is
unsupported, 05h. `m` is the message from its type octet on. -/
def mctpControl (s : State) (eid : Nat) (m : Bytes) : State :=
  match leAt m 2 1 with
  | 1 =>
    let e := leAt m 4 1
    if m.length < 5 then mctpSend s eid 0 3 []
    else if 1 < bitsOf (leAt m 3 1) 1 0 ∨ e = 0 ∨ e = 255 then mctpSend s eid 0 2 []
    else mctpSend { s with host := { s.host with eids := [e] } } eid 0 0 [0, BitVec.ofNat 8 e, 0]
  | 2 => mctpSend s eid 0 0 [BitVec.ofNat 8 (s.host.eids.headD 0), 0, 0]
  | 4 =>
    let t := leAt m 3 1
    if t = 255 ∨ mctpTypes.contains t then mctpSend s eid 0 0 ([1] ++ mctpVersion t) else mctpSend s eid 0 0x80 []
  | 5 => mctpSend s eid 0 0 ([4] ++ mctpTypes.map (BitVec.ofNat 8))
  | _ => mctpSend s eid 0 5 []

/-- MCTP_CONTROL_MESSAGE (R98): packets that make no message, or one of another type, are dropped. -/
def execMctpControlMessage (eid : Nat) (first : MctpPacket) (rest : List MctpPacket) (s : State) : Res :=
  .next (match mctpMessage (first :: rest) with
    | some m => if leAt m 0 1 = 0 ∧ 3 ≤ m.length then mctpControl s eid m else s
    | none => s)

/-! ## NVMe-MI (R99) -/

/-- An NVMe-MI answer: its status and octets. -/
def miSend (s : State) (eid status : Nat) (d : Bytes) : State := mctpSend s eid 4 status d

/-- The controllers of the subsystem, by CNTLID: the physical functions', bound virtual functions' and fabric ones. -/
def miControllers (s : State) : List Nat :=
  let vfs := s.pc.parcels.filterMap fun e => e.2.vf
  let fab := (s.host.ctrls.filter fun e => decide (fabricBase ≤ e.1)).map (·.1)
  sortBy id ((([0] ++ (if s.host.split then [compFn] else []) ++ vfs).map cntlid) ++ fab)

/-- Ports of the subsystem: PCIe link A, link B in the x8+x8 arrangement, and the two-wire port. -/
def miPorts (s : State) : Nat := if s.host.split then 3 else 2

/-- READ_NVME_MI_DATA_STRUCTURE: 32-octet structures of the subsystem (0: ports less one, version 1.2), a port (1: its kind, its
transmission unit, its link or address), the list of controllers from an ID on (2), a controller (3) and the optional commands,
of which there are none (4). Another type, port or controller is an invalid parameter, 04h. -/
def execReadNvmeMiDataStructure (eid kind arg : Nat) (s : State) : Res :=
  .next (match kind with
    | 0 => miSend s eid 0 (structure' 32 [(0, [BitVec.ofNat 8 (miPorts s - 1), 1, 2])])
    | 1 =>
      if miPorts s ≤ arg then miSend s eid 4 []
      else if arg + 1 = miPorts s then
        miSend s eid 0 (structure' 32 [(0, [2, 0]), (2, leBytes 2 mctpUnit), (10, leBytes 1 ((sbAddress s).getD 0)), (11, [3])])
      else miSend s eid 0 (structure' 32 [(0, [1, 0]), (2, leBytes 2 mctpUnit), (8, [2, 0x3F]),
        (11, [if s.host.split then 8 else 16]), (13, leBytes 1 arg)])
    | 2 =>
      let cs := (miControllers s).filter fun c => decide (arg ≤ c)
      miSend s eid 0 (leBytes 2 cs.length ++ cs.flatMap (leBytes 2))
    | 3 =>
      if (miControllers s).contains arg then miSend s eid 0 (structure' 32 [(0, [if s.host.split ∧ 256 ≤ arg then 1 else 0]), (6, leBytes 2 arg)])
      else miSend s eid 4 []
    | 4 => miSend s eid 0 (leBytes 2 0)
    | _ => miSend s eid 4 [])

/-- What a health poll sees: ready, fatal, kelvin, percentage used, spare, Critical Warning. -/
def miNow (s : State) : List Nat :=
  [b2n (ctrlGet s 0).rdy, b2n ((ctrlGet s 0).cfs || s.fr.fatal), kelvin s, percentUsed s, regFld s AT_SPARE 30 24, criticalWarning s 0]

/-- Composite controller status: what has changed since the last poll that cleared it. -/
def miChanges (s : State) : Nat :=
  let ch := fun (k bit : Nat) => if (miNow s).getD k 0 = s.host.miStatus.getD k 0 then 0 else 2 ^ bit
  ch 0 0 + ch 1 1 + ch 2 8 + ch 3 9 + ch 4 10 + ch 5 11

/-- A poll with Clear Status starts the comparison anew. -/
def miClear (s : State) (clear : Bool) : State :=
  if clear then { s with host := { s.host with miStatus := miNow s } } else s

/-- SUBSYSTEM_HEALTH_STATUS_POLL (R99): 8 octets: subsystem status (functional, reset not required, links up), the Critical
Warning bits inverted, composite temperature in °C, percentage used, composite controller status. -/
def subsystemHealth (s : State) : Bytes :=
  let up := fun (l : LinkSt) (b : Nat) => if l.up then 2 ^ b else 0
  let nss := (if s.fr.fatal then 0 else 0x20) + 0x10 + up s.host.linkA 3 + up s.host.linkB 2
  leBytes 1 nss ++ leBytes 1 (255 - criticalWarning s 0) ++ leBytes 1 (regFld s FR_TEMP 23 16) ++ leBytes 1 (percentUsed s)
    ++ leBytes 2 (miChanges s) ++ zeros 2
def execSubsystemHealthStatusPoll (eid : Nat) (clear : Bool) (s : State) : Res :=
  .next (miClear (miSend s eid 0 (subsystemHealth s)) clear)

/-- The function or fabric number of a controller ID. -/
def ctrlOfId (s : State) (id : Nat) : Nat := if fabricBase ≤ id then id else fnOfCntlid s id

/-- CONTROLLER_HEALTH_STATUS_POLL (R99): 16 octets for each controller: its ID, CSTS, kelvin, percentage used, spare, Critical
Warning. -/
def controllerHealth (s : State) (id : Nat) : Bytes :=
  let c := ctrlOfId s id
  structure' 16 [(0, leBytes 2 id), (2, leBytes 2 (cstsReg s c)), (4, leBytes 2 (kelvin s)), (6, leBytes 1 (percentUsed s)),
    (7, leBytes 1 (regFld s AT_SPARE 30 24)), (8, leBytes 1 (criticalWarning s c))]
def execControllerHealthStatusPoll (eid : Nat) (clear : Bool) (s : State) : Res :=
  .next (miClear (miSend s eid 0 (leBytes 4 (miControllers s).length ++ (miControllers s).flatMap (controllerHealth s))) clear)

/-- The value of a configuration at reset: 100 kHz for the SMBus frequency (1), 64 octets for the MCTP transmission unit (3), and 0.
DESIGN CHOICE, log 53: R99 gives no defaults. -/
def miDefault (ident : Nat) : Nat := if ident = 1 then 1 else if ident = 3 then mctpUnit else 0

/-- CONFIGURATION_GET (R99): SMBus frequency (1), health status change (2), MCTP transmission unit (3). -/
def execConfigurationGet (eid ident : Nat) (s : State) : Res :=
  .next (if 1 ≤ ident ∧ ident ≤ 3 then miSend s eid 0 (leBytes 4 (tabGetD s.host.miConfig ident (miDefault ident)))
    else miSend s eid 4 [])

/-- May a configuration take a value: the rates of R97, the baseline transmission unit? -/
def miValueOk (ident value : Nat) : Bool :=
  match ident with
  | 1 => 1 ≤ value && value ≤ 3
  | 2 => true
  | 3 => value == mctpUnit
  | _ => false

/-- CONFIGURATION_SET (R99). -/
def execConfigurationSet (eid ident value : Nat) (s : State) : Res :=
  .next (if miValueOk ident value then
      miSend { s with host := { s.host with miConfig := tabSet s.host.miConfig ident value } } eid 0 []
    else miSend s eid 4 [])

/-- VPD_READ (R99). -/
def execVpdRead (eid off len : Nat) (s : State) : Res :=
  .next (if off + len ≤ s.host.vpd.length then miSend s eid 0 (slice s.host.vpd off len) else miSend s eid 4 [])

/-- VPD_WRITE (R99): octets replaced, the data extended with zeros up to the offset; a message of more than 1,024 octets is none
(R98). -/
def execVpdWrite (eid off : Nat) (data : Bytes) (s : State) : Res :=
  .next (if mctpMost < data.length then s
    else
      let v := s.host.vpd
      let v := v.take off ++ zeros (off - v.length) ++ data ++ v.drop (off + data.length)
      miSend { s with host := { s.host with vpd := v } } eid 0 [])

/-- TUNNELLED_ADMIN_COMMAND (R99): an admin command for physical function 0 takes a reserved ticket and runs as one fetched from its
queue; its answer returns over the sideband. One for another controller is an invalid parameter, 04h. With no reserved ticket to
be had the answer is an internal error, 02h. DESIGN CHOICE, log 53: the spec says nothing of it. -/
def execTunnelledAdminCommand (eid : Nat) (x : Tunnelled) (s : State) : Res :=
  .next (if x.ctrl ≠ 0 then miSend s eid 4 []
    else
      let r := tkAlloc s true
      match r.1 with
      | none => miSend r.2 eid 2 []
      | some i => adminTake r.2 i 0 (.side eid) x.e none)

/-- UNSUPPORTED_NVME_MI_COMMAND (R99): Invalid Command Opcode, 03h of NVMe-MI. -/
def execUnsupportedNvmeMiCommand (eid op : Nat) (s : State) : Res := .next (miSend s eid 3 (leBytes 1 op))

end Sys2Proof.Machine
end

