-- ==== Sys2Proof/Machine/Frame.lean ====
section
/-! DEFINITION. The frame boundary (R29): its steps in their order, each a call of the operations that the blocks' own
files define, and writes of registers that have no row of their own (R9-R14). -/
namespace Sys2Proof.Machine

/-! ## Step 1: the counter, overruns, the mark (R23, R28, R36-R42) -/

/-- The frame counter one higher (R23). -/
def countUp (s : State) : State := { s with fr := { s.fr with count := s.fr.count + 1 } }

/-- Overruns of classes 0 to 2 that the boundary finds in the frame that ends (R36, R37). -/
def overrunsSeen (s : State) (os : List (Nat × Nat)) : State :=
  (os.filter (·.1 < 3)).foldl (fun s o => overrun s o.1 o.2 (frameNo s - 1) false) s

/-- TC_STATUS.RAN shows the cores that ran a slice in the frame that ends (R509). -/
def ranShow (s : State) : State :=
  let ran := fun (cl : Nat) => ((List.range 8).map fun k => b2n (coreGet s (8 * cl + k)).ran * 2 ^ k).sum
  let t := (List.range 8).foldl (fun t cl => regPutFld t (TC_STATUS cl) 7 0 (ran cl)) s
  csMod t fun x => { x with cores := tabMap x.cores fun _ k => { k with ran := false } }

/-- Step 1. Where a boundary finds several overruns, FR_OVERRUN_LAST keeps the last of this order: the synthetic ones as they
were written, classes 0 to 2 as the environment gives them, classes 3 and 4 by rising core. DESIGN CHOICE, log 54: R40 names
the most recent and gives no order within a boundary. -/
def boundaryOne (s : State) (env : FrameEnv) : State :=
  let s := overrunsSeen (synthRecord (countUp s)) env.overruns
  let s := (env.overruns.filter (·.1 == 2)).foldl (fun s o => issueCut s o.2) s
  frameMarkTest (((List.range 64).filter (16 ≤ ·)).foldl sliceClose s)

/-! ## The sensors (R782-R784, R787) and the bank (R748) -/

/-- An 8-bit two's-complement reading in °C. -/
def degC (v : Nat) : Int := if v % 256 < 128 then ((v % 256 : Nat) : Int) else ((v % 256 : Nat) : Int) - 256

/-- The hottest of the sensors and its number, the lower number on a tie. -/
def hottest : List (Nat × Nat) → Option (Nat × Nat)
  | [] => none
  | (n, v) :: t => match hottest t with
    | none => some (n, v)
    | some (m, w) => if degC v < degC w then some (m, w) else some (n, v)

/-- FR_TEMP follows the hottest sensor; above 120 °C THERM_TRIP_N falls (R784), and the hour's weight follows (R788). -/
def tempBoundary (s : State) (temps : List Nat) : State :=
  match hottest ((List.range temps.length).zip temps) with
  | none => s
  | some (n, v) =>
    let s := regPutFld (regPutFld s FR_TEMP 23 16 (v % 256)) FR_TEMP 4 0 n
    let s := powMod s fun p => { p with hot := max p.hot (lifeWeight (degC v)) }
    if 120 < degC v ∧ !regBit s FR_TEMP 31 then emit (regPutBit s FR_TEMP 31 true) (.pin 1 false) else s

def bankBoundary (s : State) (mv : Option Nat) : State :=
  match mv with
  | some v => bankVoltage s v
  | none => s

/-! ## Steps 2 to 7 -/

/-- `f` applied for every parcel in the cadastre. -/
def forParcels (s : State) (f : State → Nat → State) : State := (s.pc.parcels.map (·.1)).foldl f s

/-- Step 2 (R750, R755). -/
def boundaryTwo (s : State) : State := haltStop (powerStop s)

/-- Step 3: lost links, resets and freezes, and the drains that have ended (R70, R167, R200, R209, R210). -/
def boundaryThree (s : State) : State :=
  let s := linkLoss (linkLoss s .a) .b
  let s := forParcels s queuedReset
  let s := forParcels s fun s p => reqsRun s p fun r => isReset r || isFreeze r
  forParcels s drainCheck

/-- Step 5: the packets whose effect waits for a boundary, the teardowns that have ended (R167), shares, masks, pools, and a
cascade membership change announced for this boundary at the head; a member changes with the mark that carries it (R607). The
requests come before the teardowns' ends, so that one made in the last frame of a teardown meets the state in which it was
made. DESIGN CHOICE, log 68: R167 puts both in step 5. -/
def boundaryFive (s : State) : State :=
  let s := forParcels s fun s p => reqsRun s p isCcEn
  let s := flightsBoundary s
  let s := forParcels s teardown
  let s := forParcels s retireEnd
  let s := forParcels s shareEffect
  let s := forParcels s maskEffect
  let s := [2, 3, 4, 5, 6, 7].foldl clusterResetEnd s
  let s := [2, 3, 4, 5, 6, 7].foldl clusterResetNow s
  let s := [2, 3, 4, 5, 6, 7].foldl poolEffect s
  let s := nsSettings (nsLeave s)
  let s := s.atl.deleted.foldl nsDeleteEffect s
  let s := budgetApply (durabilityChange s)
  let s := if cascHead s then cascEffect s else s
  forParcels s mbVisible

/-- Meter 8 counts each frame's acknowledged data not yet programmed (R189). -/
def occupancyMeter (s : State) : State :=
  forParcels s fun s p => meterAdd s p 8 (tabCount s.atl.wbuf fun e => e.ack && e.parcel == p)

/-- Step 7 (R52, R190), and the records and comparisons that follow from it (R53, R192, R796). -/
def boundarySeven (s : State) : State := heldWrite (snapWrite (intervalEnd (auditTake (auditCompare s))))

/-! ## Step 8: the schedulers -/

/-- Fills install (R472), TC_BEARING takes effect (R513), and way changes complete and begin (R480). -/
def clusterBoundary (s : State) (cl : Nat) : State :=
  let s := fillsInstall s cl
  wayStart (wayComplete (clusterMod s cl fun k => { k with bearing := regNat s (TC_BEARING cl) }) cl) cl

/-- Slices end, tasks come out of their waits, and every pool core takes a task (R485-R489, R504). -/
def tasksBoundary (s : State) : State :=
  let s := affinityTake ((List.range 8).foldl clusterBoundary s)
  let s := ((List.range 64).filter (16 ≤ ·)).foldl slicePreempt s
  let s := ranShow s
  let s := (s.cs.invs.map (·.1)).foldl budgetEnd s
  let s := invRetry (copyBoundary (invBoundary s))
  let s := (s.cs.tasks.map (·.1)).foldl taskWake s
  let s := (s.cs.tasks.map (·.1)).foldl taskUnblock s
  let s := (s.cs.flows.map (·.1)).foldl flowHandoff s
  let s := stallCheck ((s.cs.tasks.map (·.1)).foldl taskMove s)
  idleNote ([2, 3, 4, 5, 6, 7].foldl dispatchCluster s)

/-- The engines and the Gazetteer (R350, R600, R605, R609). -/
def enginesBoundary (s : State) (env : FrameEnv) : State :=
  let s := gcmBoundary s
  let s := engineBoundary (engineBoundary (engineBoundary s .cz) .dg) .cp
  let s := tapsBoundary s
  cascBoundary (gzBoundary (gzTemp s env.gzLoad))

/-- The flash channels and the Atlas (R319, R326, R269). -/
def mediaBoundary (s : State) : State :=
  if stage s = 3 then flashIssue (atlasBoundary ((List.range 32).foldl chRetrain s)) else s

/-- Host and fabric service (R84, R93, R95, R97, R109, R111, R687): Aborts are evaluated before the frame's data move (R138). -/
def hostBoundary (s : State) (env : FrameEnv) : State :=
  let s := env.fec.foldl (fun s x => fecCount s x.1 x.2) (i3cAssign s env.i3c)
  let s := (s.host.conns.map (·.1)).foldl (fun s c => pullNext (buffersRepost s c) c) s
  let s := hostFetch (discNotify (discScan s))
  let s := nvmBoundary (adminRest (abortsRun (adminFetch s)))
  eventsBoundary (warnAll (slmBoundary s))

/-- A device self-test that was running ends (log 35). -/
def selfTestEnd (s : State) : State := { s with cq := { s.cq with selfTest := none } }

/-- What the control firmware does at its own times: entropy, energy tests, the life record (R450, R745, R748, R789). -/
def firmwareBoundary (s : State) : State := lifeUpdate (holdupRetest (settleTimeout (entropyBoundary s)))

/-- Step 8: the DRAM epoch turns (R627); what resets of this boundary cancel comes first (R201). Host and media go before the engines, so that a transform whose
tile has come takes a lane in this frame (R163). -/
def boundaryEight (s : State) (env : FrameEnv) : State :=
  let s := forParcels (dramEpoch s) parcelCancel
  let s := xformEnd (firmwareBoundary (granDue (selfTestEnd s)))
  let s := hostBoundary (mediaBoundary s) env
  tasksBoundary (dmaBoundary (enginesBoundary s env))

/-! ## The boundary (R29) -/

/-- The boundary of a device that neither stands in FATAL nor dumps. -/
def boundaryRun (s : State) (env : FrameEnv) : State :=
  let s := keysBoundary (boundaryThree s)
  let s := occupancyMeter (grantAll (boundaryFive s))
  boundaryEight (boundarySeven s) env

/-- A frame boundary: none before the Graticule is released (R22); in FATAL the counter runs and events go out (R759); while
the dump is written the ledgers stand (R50). -/
def frameStep (s : State) (env : FrameEnv) : State :=
  if !s.fr.released then s
  else
    let s := boundaryOne s env
    if s.fr.fatal then eventsBoundary s
    else
      let s := boundaryTwo (bankBoundary (tempBoundary s env.temps) env.bankMv)
      if stage s = 4 then eventsBoundary (auditTake (auditCompare s)) else boundaryRun s env

/-- FRAME_BOUNDARY (R29). -/
def execFrameBoundary (env : FrameEnv) (s : State) : Res := .next (frameStep s env)

/-! ## REGISTER_WRITE (R2, R9-R14) -/

/-- The state a command answers, where it answers one. -/
def after (r : Res) (s : State) : State :=
  match r with
  | .next t => t
  | _ => s

/-- A write to the EV block (R691). -/
def evWrite (s : State) (a v : Nat) : State :=
  if a < 0x200040 then evClear s ((a - 0x200000) / 4) v
  else if a < 0x200080 then evMaskWrite s ((a - 0x200040) / 4) v
  else if a = EV_TEST then after (execEvTestRaise v s) s
  else if 0x201000 ≤ a ∧ a < 0x201800 then evRoute s ((a - 0x201000) / 4) v
  else s

/-- A write to a parcel's mailbox page by the tenant or the manager (R175, R176). -/
def mbWrite (s : State) (tenant : Bool) (p off v : Nat) : State :=
  if off < 0x800 then mbSlot s tenant p off v
  else if off = 0x800 ∧ tenant then mbInPost s p (v % 65536)
  else if off = 0x804 ∧ !tenant then mbInConsume s p (v % 65536)
  else if off = 0x808 ∧ !tenant then mbOutPost s p (v % 65536)
  else if off = 0x80C ∧ tenant then mbOutConsume s p (v % 65536)
  else if off = 0x810 then regWrite s (PC_MB_STATUS p) v
  else s

/-- A write to the PC block (R225, R227, R229, R230). -/
def pcWrite (s : State) (a v : Nat) : State :=
  if a < 0xA00000 then
    let p := (a - 0x800000) / 0x800
    let off := a % 0x800
    if off = 0xC then maskWriteReg s p v
    else if 0x20 ≤ off ∧ off < 0x40 then shareWrite s p ((off - 0x20) / 4 % 4) (0x30 ≤ off) v
    else regWrite s a v
  else if 0xC00000 ≤ a then mbWrite s false ((a - 0xC00000) / 0x1000) (a % 0x1000) v
  else regWrite s a v

/-- A write to a cluster's page (R510-R513). -/
def tcWrite (s : State) (a v : Nat) : State :=
  let cl := (a - 0x1800000) / 0x80000
  let off := a % 0x80000
  if off = 4 then poolWrite s cl v
  else if off = 8 then wayWrite s cl v
  else if 0x40 ≤ off ∧ off < 0x80 then wayOwner s cl ((off - 0x40) / 4) v
  else regWrite s a v

/-- A write to a DMA channel's page (R674, R678): GO before STOP where both are written. Where GO or STOP is ignored the fields of the
word that are RW are written all the same (R14, R672). -/
def dxWrite (s : State) (a v : Nat) : State :=
  let c := (a - 0x2000000) / 0x1000
  let off := a % 0x1000
  if 64 ≤ c then regWrite s a v
  else if off = 0 then
    if bitOf v 31 then dmaGo s c v else if bitOf v 30 ∧ dmaRunning s c then dmaStop s c else dmaWrite s c a v
  else if off = 0x28 ∨ off = 0x2C ∨ off = 0x30 then dmaConfig s c off v
  else if off = 0x34 then dmaHead s c (v % 65536)
  else dmaWrite s c a v

/-- A 32-bit write at an offset of the management window: the row of its own where the register has one, else by access
code; nothing at a reserved offset (R9, R14). -/
def windowWrite (s : State) (a v : Nat) : State :=
  if (regDesc a).isNone then s
  else if a = FR_DIAG_OVERRUN then after (execDiagOverrunFire v s) s
  else if a = PW_CLUSTER_RESET then clusterResetWrite s v
  else if 0x200000 ≤ a ∧ a < 0x300000 then evWrite s a v
  else if 0x800000 ≤ a ∧ a < 0x1000000 then pcWrite s a v
  else if a = AT_TABLES_BUDGET then budgetWrite s v
  else if 0x1100000 ≤ a ∧ a < 0x1300000 ∧ a % 0x10000 = 4 then
    let s := if bitOf v 26 then after (execRetrainWrite ((a - 0x1100000) / 0x10000) s) s else s
    regWrite s a v
  else if 0x1400100 ≤ a ∧ a < 0x1400140 then tapWrite s ((a - 0x1400100) / 4) v
  else if 0x1800000 ≤ a ∧ a < 0x1C00000 then tcWrite s a v
  else if 0x1E00100 ≤ a ∧ a < 0x1E00130 then qosWrite s ((a - 0x1E00100) / 4) v
  else if 0x2000000 ≤ a ∧ a < 0x2100000 then dxWrite s a v
  else regWrite s a v

/-- A write of CC (R61, R66, R67, R207): EN going up or down is the enable or the controller reset of its function. -/
def ccWrite (s : State) (fn v : Nat) : State :=
  let old := (ctrlGet s fn).cc % 2
  let s := ctrlMod s fn fun c => { c with cc := v - v % 2 + old }
  if v % 2 = 1 ∧ old = 0 then after (if isVf fn then execCcEnSet fn s else execPfCcEnSet fn s) s
  else if v % 2 = 0 ∧ old = 1 then after (if isVf fn then execVfCcEnClear fn s else execPfCcEnClear fn s) s
  else s

/-- Replace the low or the high 32 bits of a 64-bit register. -/
def halfPut (old v : Nat) (hi : Bool) : Nat :=
  if hi then old % 2 ^ 32 + v * 2 ^ 32 else old / 2 ^ 32 * 2 ^ 32 + v

/-- A write in BAR0 of a function (R62, R63): CC, AQA, ASQ, ACQ and the completion queue doorbells. Submission queue tails
come with their entries, as SQ_TAIL_DOORBELL (log 38). -/
def nvmeWrite (s : State) (fn a v : Nat) : State :=
  if a = 0x14 then ccWrite s fn v
  else if a = 0x24 then ctrlMod s fn fun c => { c with aqa := v % 2 ^ 28 / 65536 % 4096 * 65536 + v % 4096 }
  else if a = 0x28 then ctrlMod s fn fun c => { c with asq := halfPut c.asq (v / 4096 * 4096) false }
  else if a = 0x2C then ctrlMod s fn fun c => { c with asq := halfPut c.asq v true }
  else if a = 0x30 then ctrlMod s fn fun c => { c with acq := halfPut c.acq (v / 4096 * 4096) false }
  else if a = 0x34 then ctrlMod s fn fun c => { c with acq := halfPut c.acq v true }
  else if 0x1000 ≤ a ∧ a < 0x4000 ∧ a % 8 = 4 then cqDoorbell s fn ((a - 0x1000) / 8) (v % 65536)
  else s

/-- A write in BAR4 of a function (R62, R793): a vector's message words and its Mask bit; the PBA takes no write. -/
def msixWrite (s : State) (fn a v : Nat) : State :=
  if vectors fn ≤ a / 16 then s
  else if a % 16 = 12 then
    fnMod s fn fun x =>
      let o := x.vopen.filter (· != a / 16)
      { x with vopen := if v % 2 = 1 then o else o ++ [a / 16] }
  else fnMod s fn fun x => { x with table := tabSet x.table a (BitVec.ofNat 32 v) }

/-- One 32-bit write (R2, R62): BAR2 of physical function 0 is the management window, of a virtual function its parcel's
mailbox window. -/
def writeDword (s : State) (sp : Space) (a v : Nat) : State :=
  match sp with
  | .bar2 fn =>
    if fn = 0 then windowWrite s a v
    else if isVf fn ∧ a < 0x1000 then
      match boundParcel s fn with
      | some p => mbWrite s true p a v
      | none => s
    else s
  | .bar0 fn => nvmeWrite s fn a v
  | .bar4 fn => msixWrite s fn a v
  | .config fn => configWrite s fn a v

/-- A write of 4 or 8 octets, naturally aligned, is one or two 32-bit writes, the lower address first; a narrower or misaligned one is
an Unsupported Request and changes no register (R10, R11). So is one wider than 64 bits. DESIGN CHOICE, log 56: R11 speaks of 64
bits and of less than 32. -/
def registerWrite (s : State) (sp : Space) (a size v : Nat) : State :=
  if size = 4 ∧ a % 4 = 0 then writeDword s sp a (v % 2 ^ 32)
  else if size = 8 ∧ a % 8 = 0 then writeDword (writeDword s sp a (v % 2 ^ 32)) sp (a + 4) (v / 2 ^ 32 % 2 ^ 32)
  else emit s (.unsupported a)

/-- REGISTER_WRITE (R14). -/
def execRegisterWrite (sp : Space) (addr size value : Nat) (s : State) : Res := .next (registerWrite s sp addr size value)

end Sys2Proof.Machine
end

