-- ==== Sys2Proof/Machine/Dispatch.lean ====
section
/-! DEFINITION. Every command's meaning: one arm per constructor of Instr, each one call. -/
namespace Sys2Proof.Machine

/-- The effect of a command on everything but the queue. -/
def exec (i : Instr) (s : State) : Host.Outcome State Fault Refusal :=
  match i with
  | .registerWrite sp addr size value => Sys2Proof.Machine.execRegisterWrite sp addr size value s
  | .frameBoundary env => Sys2Proof.Machine.execFrameBoundary env s
  | .frameMark => Sys2Proof.Machine.execFrameMark s
  | .frameCountLoRead => Sys2Proof.Machine.execFrameCountLoRead s
  | .diagOverrunFire value => Sys2Proof.Machine.execDiagOverrunFire value s
  | .syntheticOverrunRecord => Sys2Proof.Machine.execSyntheticOverrunRecord s
  | .auditSnapshot => Sys2Proof.Machine.execAuditSnapshot s
  | .auditComparison => Sys2Proof.Machine.execAuditComparison s
  | .discardedGranuleReturn n => Sys2Proof.Machine.execDiscardedGranuleReturn n s
  | .staleMessageDiscard m => Sys2Proof.Machine.execStaleMessageDiscard m s
  | .fatalEntry => Sys2Proof.Machine.execFatalEntry s
  | .slicePreemption core => Sys2Proof.Machine.execSlicePreemption core s
  | .perstAssert l => Sys2Proof.Machine.execPerstAssert l s
  | .perstDeassert l => Sys2Proof.Machine.execPerstDeassert l s
  | .dlDown l => Sys2Proof.Machine.execDlDown l s
  | .linkLossEffect l => Sys2Proof.Machine.execLinkLossEffect l s
  | .vfFunctionLevelReset fn => Sys2Proof.Machine.execVfFunctionLevelReset fn s
  | .pfFunctionLevelReset fn => Sys2Proof.Machine.execPfFunctionLevelReset fn s
  | .pfCcEnClear fn => Sys2Proof.Machine.execPfCcEnClear fn s
  | .vfCcEnClear fn => Sys2Proof.Machine.execVfCcEnClear fn s
  | .ccEnSet fn => Sys2Proof.Machine.execCcEnSet fn s
  | .busMasterEnableSet fn => Sys2Proof.Machine.execBusMasterEnableSet fn s
  | .heldTicketResume tk => Sys2Proof.Machine.execHeldTicketResume tk s
  | .pmcsrD3hotWrite fn => Sys2Proof.Machine.execPmcsrD3hotWrite fn s
  | .msixPendingDelivery fn vec => Sys2Proof.Machine.execMsixPendingDelivery fn vec s
  | .getVersion ep => Sys2Proof.Machine.execGetVersion ep s
  | .getCapabilities ep => Sys2Proof.Machine.execGetCapabilities ep s
  | .negotiateAlgorithms ep asym hash meas => Sys2Proof.Machine.execNegotiateAlgorithms ep asym hash meas s
  | .getDigests ep => Sys2Proof.Machine.execGetDigests ep s
  | .getCertificate ep slot off len => Sys2Proof.Machine.execGetCertificate ep slot off len s
  | .challenge ep slot nonce => Sys2Proof.Machine.execChallenge ep slot nonce s
  | .getMeasurements ep op signed nonce => Sys2Proof.Machine.execGetMeasurements ep op signed nonce s
  | .ethLinkUp port anDone => Sys2Proof.Machine.execEthLinkUp port anDone s
  | .ethLinkLost port => Sys2Proof.Machine.execEthLinkLost port s
  | .ecnMarkedPacket conn => Sys2Proof.Machine.execEcnMarkedPacket conn s
  | .cnpReceived conn => Sys2Proof.Machine.execCnpReceived conn s
  | .connect c => Sys2Proof.Machine.execConnect c s
  | .propertyGet tk => Sys2Proof.Machine.execPropertyGet tk s
  | .propertySet tk => Sys2Proof.Machine.execPropertySet tk s
  | .keepAlive tk => Sys2Proof.Machine.execKeepAlive tk s
  | .capsuleReceived conn c => Sys2Proof.Machine.execCapsuleReceived conn c s
  | .receiveBufferRepost conn => Sys2Proof.Machine.execReceiveBufferRepost conn s
  | .rdmaReadResponse conn m ok data => Sys2Proof.Machine.execRdmaReadResponse conn m ok data s
  | .icreq conn hdgst ddgst => Sys2Proof.Machine.execIcreq conn hdgst ddgst s
  | .h2cDataPdu conn tag off last digestOk headerOk data => Sys2Proof.Machine.execH2cDataPdu conn tag off last digestOk headerOk data s
  | .connectionClosed conn => Sys2Proof.Machine.execConnectionClosed conn s
  | .discoveryLogChange => Sys2Proof.Machine.execDiscoveryLogChange s
  | .mctpControlMessage eid first rest => Sys2Proof.Machine.execMctpControlMessage eid first rest s
  | .readNvmeMiDataStructure eid kind arg => Sys2Proof.Machine.execReadNvmeMiDataStructure eid kind arg s
  | .subsystemHealthStatusPoll eid clear => Sys2Proof.Machine.execSubsystemHealthStatusPoll eid clear s
  | .controllerHealthStatusPoll eid clear => Sys2Proof.Machine.execControllerHealthStatusPoll eid clear s
  | .configurationGet eid ident => Sys2Proof.Machine.execConfigurationGet eid ident s
  | .configurationSet eid ident value => Sys2Proof.Machine.execConfigurationSet eid ident value s
  | .vpdRead eid off len => Sys2Proof.Machine.execVpdRead eid off len s
  | .vpdWrite eid off data => Sys2Proof.Machine.execVpdWrite eid off data s
  | .tunnelledAdminCommand eid x => Sys2Proof.Machine.execTunnelledAdminCommand eid x s
  | .unsupportedNvmeMiCommand eid op => Sys2Proof.Machine.execUnsupportedNvmeMiCommand eid op s
  | .sqTailDoorbell fn qid tail entries => Sys2Proof.Machine.execSqTailDoorbell fn qid tail entries s
  | .cqHeadDoorbell fn qid head => Sys2Proof.Machine.execCqHeadDoorbell fn qid head s
  | .heldCompletionPost tk => Sys2Proof.Machine.execHeldCompletionPost tk s
  | .hazardReleaseStart tk => Sys2Proof.Machine.execHazardReleaseStart tk s
  | .orderedCommandStart tk => Sys2Proof.Machine.execOrderedCommandStart tk s
  | .heldWriteBufferEntry tk => Sys2Proof.Machine.execHeldWriteBufferEntry tk s
  | .commandCompletion tk => Sys2Proof.Machine.execCommandCompletion tk s
  | .durabilityModeChange => Sys2Proof.Machine.execDurabilityModeChange s
  | .budgetLowered => Sys2Proof.Machine.execBudgetLowered s
  | .read tk => Sys2Proof.Machine.execRead tk s
  | .write tk data => Sys2Proof.Machine.execWrite tk data s
  | .flush tk => Sys2Proof.Machine.execFlush tk s
  | .compare tk data => Sys2Proof.Machine.execCompare tk data s
  | .fusedCompareAndWrite tk cmp data => Sys2Proof.Machine.execFusedCompareAndWrite tk cmp data s
  | .writeZeroes tk => Sys2Proof.Machine.execWriteZeroes tk s
  | .datasetManagement tk => Sys2Proof.Machine.execDatasetManagement tk s
  | .verify tk => Sys2Proof.Machine.execVerify tk s
  | .copy tk => Sys2Proof.Machine.execCopy tk s
  | .createIoSubmissionQueue tk => Sys2Proof.Machine.execCreateIoSubmissionQueue tk s
  | .createIoCompletionQueue tk => Sys2Proof.Machine.execCreateIoCompletionQueue tk s
  | .deleteIoSubmissionQueue tk => Sys2Proof.Machine.execDeleteIoSubmissionQueue tk s
  | .sqDeleteCompletion tk => Sys2Proof.Machine.execSqDeleteCompletion tk s
  | .deleteIoCompletionQueue tk => Sys2Proof.Machine.execDeleteIoCompletionQueue tk s
  | .getLogPageErrorInformation tk => Sys2Proof.Machine.execGetLogPageErrorInformation tk s
  | .getLogPageSmartHealth tk => Sys2Proof.Machine.execGetLogPageSmartHealth tk s
  | .getLogPageFirmwareSlot tk => Sys2Proof.Machine.execGetLogPageFirmwareSlot tk s
  | .getLogPageCommandsSupported tk => Sys2Proof.Machine.execGetLogPageCommandsSupported tk s
  | .getLogPageDeviceSelfTest tk => Sys2Proof.Machine.execGetLogPageDeviceSelfTest tk s
  | .identify tk => Sys2Proof.Machine.execIdentify tk s
  | .abort tk => Sys2Proof.Machine.execAbort tk s
  | .getFeatures tk => Sys2Proof.Machine.execGetFeatures tk s
  | .setFeaturesArbitration tk => Sys2Proof.Machine.execSetFeaturesArbitration tk s
  | .setFeaturesPowerManagement tk => Sys2Proof.Machine.execSetFeaturesPowerManagement tk s
  | .setFeaturesTemperatureThreshold tk => Sys2Proof.Machine.execSetFeaturesTemperatureThreshold tk s
  | .setFeaturesErrorRecovery tk => Sys2Proof.Machine.execSetFeaturesErrorRecovery tk s
  | .setFeaturesVolatileWriteCache tk => Sys2Proof.Machine.execSetFeaturesVolatileWriteCache tk s
  | .setFeaturesNumberOfQueues tk => Sys2Proof.Machine.execSetFeaturesNumberOfQueues tk s
  | .setFeaturesInterruptCoalescing tk => Sys2Proof.Machine.execSetFeaturesInterruptCoalescing tk s
  | .setFeaturesInterruptVectorConfig tk => Sys2Proof.Machine.execSetFeaturesInterruptVectorConfig tk s
  | .setFeaturesAsyncEventConfig tk => Sys2Proof.Machine.execSetFeaturesAsyncEventConfig tk s
  | .setFeaturesKeepAliveTimer tk => Sys2Proof.Machine.execSetFeaturesKeepAliveTimer tk s
  | .setFeaturesOrderMark tk => Sys2Proof.Machine.execSetFeaturesOrderMark tk s
  | .setFeaturesRequireHoldup tk => Sys2Proof.Machine.execSetFeaturesRequireHoldup tk s
  | .asynchronousEventRequest tk => Sys2Proof.Machine.execAsynchronousEventRequest tk s
  | .namespaceCreate tk nsze flbas => Sys2Proof.Machine.execNamespaceCreate tk nsze flbas s
  | .namespaceDelete tk => Sys2Proof.Machine.execNamespaceDelete tk s
  | .namespaceDeleteEffect nsid => Sys2Proof.Machine.execNamespaceDeleteEffect nsid s
  | .namespaceAttach tk ctrls => Sys2Proof.Machine.execNamespaceAttach tk ctrls s
  | .namespaceDetach tk ctrls => Sys2Proof.Machine.execNamespaceDetach tk ctrls s
  | .firmwareImageDownload tk data => Sys2Proof.Machine.execFirmwareImageDownload tk data s
  | .firmwareCommit tk => Sys2Proof.Machine.execFirmwareCommit tk s
  | .deviceSelfTest tk => Sys2Proof.Machine.execDeviceSelfTest tk s
  | .virtualizationManagement tk => Sys2Proof.Machine.execVirtualizationManagement tk s
  | .formatNvmNoErase tk => Sys2Proof.Machine.execFormatNvmNoErase tk s
  | .formatNvmCryptoErase tk => Sys2Proof.Machine.execFormatNvmCryptoErase tk s
  | .parcelCreate p => Sys2Proof.Machine.execParcelCreate p s
  | .parcelConfigure p => Sys2Proof.Machine.execParcelConfigure p s
  | .parcelBindVf p => Sys2Proof.Machine.execParcelBindVf p s
  | .parcelUnbindVf p => Sys2Proof.Machine.execParcelUnbindVf p s
  | .parcelHostPair p => Sys2Proof.Machine.execParcelHostPair p s
  | .parcelAssignNs p => Sys2Proof.Machine.execParcelAssignNs p s
  | .parcelEnable p => Sys2Proof.Machine.execParcelEnable p s
  | .parcelReset p => Sys2Proof.Machine.execParcelReset p s
  | .parcelFreeze p => Sys2Proof.Machine.execParcelFreeze p s
  | .parcelThaw p => Sys2Proof.Machine.execParcelThaw p s
  | .parcelSave p => Sys2Proof.Machine.execParcelSave p s
  | .parcelSaveComplete parcel => Sys2Proof.Machine.execParcelSaveComplete parcel s
  | .parcelRestore p => Sys2Proof.Machine.execParcelRestore p s
  | .restoreInstallComplete parcel => Sys2Proof.Machine.execRestoreInstallComplete parcel s
  | .parcelRetire p => Sys2Proof.Machine.execParcelRetire p s
  | .parcelQuery p => Sys2Proof.Machine.execParcelQuery p s
  | .parcelShare p => Sys2Proof.Machine.execParcelShare p s
  | .parcelRequestEffect parcel => Sys2Proof.Machine.execParcelRequestEffect parcel s
  | .parcelResetEffect parcel => Sys2Proof.Machine.execParcelResetEffect parcel s
  | .teardownEnd parcel => Sys2Proof.Machine.execTeardownEnd parcel s
  | .queuedResetEffect parcel => Sys2Proof.Machine.execQueuedResetEffect parcel s
  | .parcelFreezeEffect parcel => Sys2Proof.Machine.execParcelFreezeEffect parcel s
  | .parcelDrained parcel => Sys2Proof.Machine.execParcelDrained parcel s
  | .retirementEffect parcel => Sys2Proof.Machine.execRetirementEffect parcel s
  | .retirementTeardownEnd parcel => Sys2Proof.Machine.execRetirementTeardownEnd parcel s
  | .mailboxSlotWrite tenant parcel off value => Sys2Proof.Machine.execMailboxSlotWrite tenant parcel off value s
  | .mailboxInPost parcel mask => Sys2Proof.Machine.execMailboxInPost parcel mask s
  | .mailboxOutPost parcel mask => Sys2Proof.Machine.execMailboxOutPost parcel mask s
  | .mailboxPostVisible parcel => Sys2Proof.Machine.execMailboxPostVisible parcel s
  | .mailboxInConsume parcel mask => Sys2Proof.Machine.execMailboxInConsume parcel mask s
  | .shareWrite parcel cls depth value => Sys2Proof.Machine.execShareWrite parcel cls depth value s
  | .shareChangeEffect parcel => Sys2Proof.Machine.execShareChangeEffect parcel s
  | .coreMaskWrite parcel value => Sys2Proof.Machine.execCoreMaskWrite parcel value s
  | .coreMaskEffect parcel => Sys2Proof.Machine.execCoreMaskEffect parcel s
  | .snapIntervalWrite value => Sys2Proof.Machine.execSnapIntervalWrite value s
  | .meterLoRead parcel meter => Sys2Proof.Machine.execMeterLoRead parcel meter s
  | .snapLastLoRead => Sys2Proof.Machine.execSnapLastLoRead s
  | .meterIntervalEnd => Sys2Proof.Machine.execMeterIntervalEnd s
  | .snapshotRecordsWritten => Sys2Proof.Machine.execSnapshotRecordsWritten s
  | .heldFinalRecordWrite => Sys2Proof.Machine.execHeldFinalRecordWrite s
  | .stripePadTimeout stripe => Sys2Proof.Machine.execStripePadTimeout stripe s
  | .stripeProgramComplete stripe => Sys2Proof.Machine.execStripeProgramComplete stripe s
  | .blockEraseRelease die block => Sys2Proof.Machine.execBlockEraseRelease die block s
  | .sheetFoldStart quad sheet => Sys2Proof.Machine.execSheetFoldStart quad sheet s
  | .sheetFoldEnd quad sheet => Sys2Proof.Machine.execSheetFoldEnd quad sheet s
  | .conversionWindowEnd => Sys2Proof.Machine.execConversionWindowEnd s
  | .toPageConversionEnd quad => Sys2Proof.Machine.execToPageConversionEnd quad s
  | .toSheetConversionEnd quad => Sys2Proof.Machine.execToSheetConversionEnd quad s
  | .resurveyStart => Sys2Proof.Machine.execResurveyStart s
  | .wearLevelMove => Sys2Proof.Machine.execWearLevelMove s
  | .rebuildEnd => Sys2Proof.Machine.execRebuildEnd s
  | .sealedEntry => Sys2Proof.Machine.execSealedEntry s
  | .sealedExit => Sys2Proof.Machine.execSealedExit s
  | .tablesBudgetWrite value => Sys2Proof.Machine.execTablesBudgetWrite value s
  | .capacityLoRead => Sys2Proof.Machine.execCapacityLoRead s
  | .channelTrainingEnd ch r => Sys2Proof.Machine.execChannelTrainingEnd ch r s
  | .retrainWrite ch => Sys2Proof.Machine.execRetrainWrite ch s
  | .channelRetrain ch => Sys2Proof.Machine.execChannelRetrain ch s
  | .channelRetrainEnd ch ok => Sys2Proof.Machine.execChannelRetrainEnd ch ok s
  | .zqCalibrationShort => Sys2Proof.Machine.execZqCalibrationShort s
  | .suspendEntered die => Sys2Proof.Machine.execSuspendEntered die s
  | .flashReadReady die d => Sys2Proof.Machine.execFlashReadReady die d s
  | .softDecodeComplete die d => Sys2Proof.Machine.execSoftDecodeComplete die d s
  | .flashProgramDone die ok => Sys2Proof.Machine.execFlashProgramDone die ok s
  | .flashEraseDone die ok => Sys2Proof.Machine.execFlashEraseDone die ok s
  | .dieTimeout die => Sys2Proof.Machine.execDieTimeout die s
  | .dieLost die => Sys2Proof.Machine.execDieLost die s
  | .corrBitsRead ch => Sys2Proof.Machine.execCorrBitsRead ch s
  | .compress job => Sys2Proof.Machine.execCompress job s
  | .decompress job => Sys2Proof.Machine.execDecompress job s
  | .czOpenContext job => Sys2Proof.Machine.execCzOpenContext job s
  | .czCloseContext job => Sys2Proof.Machine.execCzCloseContext job s
  | .dgOpenContext job => Sys2Proof.Machine.execDgOpenContext job s
  | .dgUpdate job => Sys2Proof.Machine.execDgUpdate job s
  | .dgCloseContext job => Sys2Proof.Machine.execDgCloseContext job s
  | .engineJobEnd job => Sys2Proof.Machine.execEngineJobEnd job s
  | .nsTapWrite tap value => Sys2Proof.Machine.execNsTapWrite tap value s
  | .nsTapAttach tap => Sys2Proof.Machine.execNsTapAttach tap s
  | .tapHoldTimeout tap => Sys2Proof.Machine.execTapHoldTimeout tap s
  | .encrypt job => Sys2Proof.Machine.execEncrypt job s
  | .decrypt job => Sys2Proof.Machine.execDecrypt job s
  | .gcmGranuleStart job => Sys2Proof.Machine.execGcmGranuleStart job s
  | .gcmPlaintextWriteoutEnd job => Sys2Proof.Machine.execGcmPlaintextWriteoutEnd job s
  | .gcmVerify job => Sys2Proof.Machine.execGcmVerify job s
  | .gcmDecryptAfterVerify job => Sys2Proof.Machine.execGcmDecryptAfterVerify job s
  | .aesKwUnwrap job => Sys2Proof.Machine.execAesKwUnwrap job s
  | .maskGeneratorReseed lane => Sys2Proof.Machine.execMaskGeneratorReseed lane s
  | .entropyGraceExpiry => Sys2Proof.Machine.execEntropyGraceExpiry s
  | .keyUnwrap p => Sys2Proof.Machine.execKeyUnwrap p s
  | .keyDerive p => Sys2Proof.Machine.execKeyDerive p s
  | .keyErase p => Sys2Proof.Machine.execKeyErase p s
  | .keyQuery p => Sys2Proof.Machine.execKeyQuery p s
  | .keyInstallEffect slot => Sys2Proof.Machine.execKeyInstallEffect slot s
  | .keyErasureEffect slot => Sys2Proof.Machine.execKeyErasureEffect slot s
  | .fuseBlowComplete => Sys2Proof.Machine.execFuseBlowComplete s
  | .healthTestFailure => Sys2Proof.Machine.execHealthTestFailure s
  | .startupTestRetry pass => Sys2Proof.Machine.execStartupTestRetry pass s
  | .drbgReseed => Sys2Proof.Machine.execDrbgReseed s
  | .clean c x oct ra => Sys2Proof.Machine.execClean c x oct ra s
  | .inval c x oct ra => Sys2Proof.Machine.execInval c x oct ra s
  | .cleanInval c x oct ra => Sys2Proof.Machine.execCleanInval c x oct ra s
  | .zero c x oct ra => Sys2Proof.Machine.execZero c x oct ra s
  | .lock c x oct rd ra => Sys2Proof.Machine.execLock c x oct rd ra s
  | .unlock c x oct ra => Sys2Proof.Machine.execUnlock c x oct ra s
  | .cleanRange c x oct ra rb => Sys2Proof.Machine.execCleanRange c x oct ra rb s
  | .invalRange c x oct ra rb => Sys2Proof.Machine.execInvalRange c x oct ra rb s
  | .cleanInvalRange c x oct ra rb => Sys2Proof.Machine.execCleanInvalRange c x oct ra rb s
  | .invalI c x oct ra => Sys2Proof.Machine.execInvalI c x oct ra s
  | .sync c x => Sys2Proof.Machine.execSync c x s
  | .wayModeWrite cl value => Sys2Proof.Machine.execWayModeWrite cl value s
  | .wayModeChangeStart cl => Sys2Proof.Machine.execWayModeChangeStart cl s
  | .wayModeChangeComplete cl => Sys2Proof.Machine.execWayModeChangeComplete cl s
  | .wayOwnerWrite cl way value => Sys2Proof.Machine.execWayOwnerWrite cl way value s
  | .poolWrite cl value => Sys2Proof.Machine.execPoolWrite cl value s
  | .poolChangeEffect cl => Sys2Proof.Machine.execPoolChangeEffect cl s
  | .taskWake task => Sys2Proof.Machine.execTaskWake task s
  | .taskUnblock task => Sys2Proof.Machine.execTaskUnblock task s
  | .flowHandoff flow => Sys2Proof.Machine.execFlowHandoff flow s
  | .taskClusterMove task => Sys2Proof.Machine.execTaskClusterMove task s
  | .exit_ c x => Sys2Proof.Machine.execExit c x s
  | .yield_ c x => Sys2Proof.Machine.execYield c x s
  | .delay c x => Sys2Proof.Machine.execDelay c x s
  | .spawn c x => Sys2Proof.Machine.execSpawn c x s
  | .flowOpen c x => Sys2Proof.Machine.execFlowOpen c x s
  | .flowClose c x => Sys2Proof.Machine.execFlowClose c x s
  | .flowRelease c x => Sys2Proof.Machine.execFlowRelease c x s
  | .engineSubmit c x => Sys2Proof.Machine.execEngineSubmit c x s
  | .engineWait c x => Sys2Proof.Machine.execEngineWait c x s
  | .gzSubmit c x => Sys2Proof.Machine.execGzSubmit c x s
  | .frame c x => Sys2Proof.Machine.execFrame c x s
  | .unknownSupervisorCall c x num => Sys2Proof.Machine.execUnknownSupervisorCall c x num s
  | .loadProgram tk image => Sys2Proof.Machine.execLoadProgram tk image s
  | .programActivate tk => Sys2Proof.Machine.execProgramActivate tk s
  | .programDeactivate tk => Sys2Proof.Machine.execProgramDeactivate tk s
  | .executeProgram tk param => Sys2Proof.Machine.execExecuteProgram tk param s
  | .memoryRangeSetCreate tk rs => Sys2Proof.Machine.execMemoryRangeSetCreate tk rs s
  | .memoryRangeSetDelete tk => Sys2Proof.Machine.execMemoryRangeSetDelete tk s
  | .slmRead tk => Sys2Proof.Machine.execSlmRead tk s
  | .slmWrite tk data => Sys2Proof.Machine.execSlmWrite tk data s
  | .memoryCopy tk => Sys2Proof.Machine.execMemoryCopy tk s
  | .invocationBudgetEnd tk => Sys2Proof.Machine.execInvocationBudgetEnd tk s
  | .invocationCompletionPost tk => Sys2Proof.Machine.execInvocationCompletionPost tk s
  | .add c x rd ra rb => Sys2Proof.Machine.execAdd c x rd ra rb s
  | .adc c x rd ra rb => Sys2Proof.Machine.execAdc c x rd ra rb s
  | .sub c x rd ra rb => Sys2Proof.Machine.execSub c x rd ra rb s
  | .sbc c x rd ra rb => Sys2Proof.Machine.execSbc c x rd ra rb s
  | .cmp c x ra rb => Sys2Proof.Machine.execCmp c x ra rb s
  | .and_ c x rd ra rb => Sys2Proof.Machine.execAnd c x rd ra rb s
  | .or_ c x rd ra rb => Sys2Proof.Machine.execOr c x rd ra rb s
  | .xor c x rd ra rb => Sys2Proof.Machine.execXor c x rd ra rb s
  | .andn c x rd ra rb => Sys2Proof.Machine.execAndn c x rd ra rb s
  | .tst c x ra rb => Sys2Proof.Machine.execTst c x ra rb s
  | .mov c x rd rb => Sys2Proof.Machine.execMov c x rd rb s
  | .neg c x rd rb => Sys2Proof.Machine.execNeg c x rd rb s
  | .not_ c x rd rb => Sys2Proof.Machine.execNot c x rd rb s
  | .shl c x rd ra rb => Sys2Proof.Machine.execShl c x rd ra rb s
  | .shr c x rd ra rb => Sys2Proof.Machine.execShr c x rd ra rb s
  | .sar c x rd ra rb => Sys2Proof.Machine.execSar c x rd ra rb s
  | .ror c x rd ra rb => Sys2Proof.Machine.execRor c x rd ra rb s
  | .mulu c x rd ra rb => Sys2Proof.Machine.execMulu c x rd ra rb s
  | .muls c x rd ra rb => Sys2Proof.Machine.execMuls c x rd ra rb s
  | .divu c x rd ra rb => Sys2Proof.Machine.execDivu c x rd ra rb s
  | .divs c x rd ra rb => Sys2Proof.Machine.execDivs c x rd ra rb s
  | .clz c x rd ra => Sys2Proof.Machine.execClz c x rd ra s
  | .popc c x rd ra => Sys2Proof.Machine.execPopc c x rd ra s
  | .sel c x cond rd ra rb => Sys2Proof.Machine.execSel c x cond rd ra rb s
  | .mff c x rd => Sys2Proof.Machine.execMff c x rd s
  | .mtf c x ra => Sys2Proof.Machine.execMtf c x ra s
  | .addi c x rd ra imm => Sys2Proof.Machine.execAddi c x rd ra imm s
  | .addq c x rd k => Sys2Proof.Machine.execAddq c x rd k s
  | .subq c x rd k => Sys2Proof.Machine.execSubq c x rd k s
  | .cmpi c x ra imm => Sys2Proof.Machine.execCmpi c x ra imm s
  | .cmpq c x rd k => Sys2Proof.Machine.execCmpq c x rd k s
  | .andi c x rd ra imm => Sys2Proof.Machine.execAndi c x rd ra imm s
  | .ori c x rd ra imm => Sys2Proof.Machine.execOri c x rd ra imm s
  | .xori c x rd ra imm => Sys2Proof.Machine.execXori c x rd ra imm s
  | .shli c x rd ra k => Sys2Proof.Machine.execShli c x rd ra k s
  | .shri c x rd ra k => Sys2Proof.Machine.execShri c x rd ra k s
  | .sari c x rd ra k => Sys2Proof.Machine.execSari c x rd ra k s
  | .rori c x rd ra k => Sys2Proof.Machine.execRori c x rd ra k s
  | .shlq c x rd k => Sys2Proof.Machine.execShlq c x rd k s
  | .shrq c x rd k => Sys2Proof.Machine.execShrq c x rd k s
  | .sarq c x rd k => Sys2Proof.Machine.execSarq c x rd k s
  | .ext c x rd ra p n => Sys2Proof.Machine.execExt c x rd ra p n s
  | .exts c x rd ra p n => Sys2Proof.Machine.execExts c x rd ra p n s
  | .ins c x rd ra p n => Sys2Proof.Machine.execIns c x rd ra p n s
  | .movhi c x rd imm => Sys2Proof.Machine.execMovhi c x rd imm s
  | .mfsr c x rd num => Sys2Proof.Machine.execMfsr c x rd num s
  | .mtsr c x ra num => Sys2Proof.Machine.execMtsr c x ra num s
  | .movi c x rd imm => Sys2Proof.Machine.execMovi c x rd imm s
  | .movq c x rd k => Sys2Proof.Machine.execMovq c x rd k s
  | .ldw c x rd ra m => Sys2Proof.Machine.execLdw c x rd ra m s
  | .stw c x rd ra m => Sys2Proof.Machine.execStw c x rd ra m s
  | .ldo8u c x rd ra m => Sys2Proof.Machine.execLdo8u c x rd ra m s
  | .ldo8s c x rd ra m => Sys2Proof.Machine.execLdo8s c x rd ra m s
  | .ldo16u c x rd ra m => Sys2Proof.Machine.execLdo16u c x rd ra m s
  | .ldo16s c x rd ra m => Sys2Proof.Machine.execLdo16s c x rd ra m s
  | .ldo32u c x rd ra m => Sys2Proof.Machine.execLdo32u c x rd ra m s
  | .ldo32s c x rd ra m => Sys2Proof.Machine.execLdo32s c x rd ra m s
  | .ldo64 c x rd ra m => Sys2Proof.Machine.execLdo64 c x rd ra m s
  | .sto8 c x rd ra m => Sys2Proof.Machine.execSto8 c x rd ra m s
  | .sto16 c x rd ra m => Sys2Proof.Machine.execSto16 c x rd ra m s
  | .sto32 c x rd ra m => Sys2Proof.Machine.execSto32 c x rd ra m s
  | .sto64 c x rd ra m => Sys2Proof.Machine.execSto64 c x rd ra m s
  | .b c x cond disp => Sys2Proof.Machine.execB c x cond disp s
  | .call c x disp => Sys2Proof.Machine.execCall c x disp s
  | .jmpr c x ra => Sys2Proof.Machine.execJmpr c x ra s
  | .callr c x ra => Sys2Proof.Machine.execCallr c x ra s
  | .ret c x => Sys2Proof.Machine.execRet c x s
  | .rett c x => Sys2Proof.Machine.execRett c x s
  | .nop c x => Sys2Proof.Machine.execNop c x s
  | .illegalInstruction c => Sys2Proof.Machine.execIllegalInstruction c s
  | .search job ups => Sys2Proof.Machine.execSearch job ups s
  | .insert job => Sys2Proof.Machine.execInsert job s
  | .gzDelete job => Sys2Proof.Machine.execGzDelete job s
  | .walk job => Sys2Proof.Machine.execWalk job s
  | .openScanContext job => Sys2Proof.Machine.execOpenScanContext job s
  | .scan job => Sys2Proof.Machine.execScan job s
  | .closeScanContext job => Sys2Proof.Machine.execCloseScanContext job s
  | .loadAutomaton job => Sys2Proof.Machine.execLoadAutomaton job s
  | .unloadAutomaton job => Sys2Proof.Machine.execUnloadAutomaton job s
  | .suspectRepair entry => Sys2Proof.Machine.execSuspectRepair entry s
  | .shadowComparison entry ups => Sys2Proof.Machine.execShadowComparison entry ups s
  | .cascadeLinkTrained position present => Sys2Proof.Machine.execCascadeLinkTrained position present s
  | .cascadeMarkReceived octets crc => Sys2Proof.Machine.execCascadeMarkReceived octets crc s
  | .cascadeBatchSearch keys => Sys2Proof.Machine.execCascadeBatchSearch keys s
  | .matchChainDrive mi => Sys2Proof.Machine.execMatchChainDrive mi s
  | .cascadeAnswerReceived a => Sys2Proof.Machine.execCascadeAnswerReceived a s
  | .cascadeMarkMissing => Sys2Proof.Machine.execCascadeMarkMissing s
  | .cascadeMembershipEffect => Sys2Proof.Machine.execCascadeMembershipEffect s
  | .gzTableCreate p => Sys2Proof.Machine.execGzTableCreate p s
  | .gzTableDelete p => Sys2Proof.Machine.execGzTableDelete p s
  | .gzLimits p => Sys2Proof.Machine.execGzLimits p s
  | .gzCascadeSet p => Sys2Proof.Machine.execGzCascadeSet p s
  | .gzThrottleRead => Sys2Proof.Machine.execGzThrottleRead s
  | .caParityAlert ch => Sys2Proof.Machine.execCaParityAlert ch s
  | .portQosWrite port value => Sys2Proof.Machine.execPortQosWrite port value s
  | .rowIdleClose bank => Sys2Proof.Machine.execRowIdleClose bank s
  | .rfmIssue bank => Sys2Proof.Machine.execRfmIssue bank s
  | .refreshDue ch sub rank postpone => Sys2Proof.Machine.execRefreshDue ch sub rank postpone s
  | .owedRefreshIssue ch sub rank => Sys2Proof.Machine.execOwedRefreshIssue ch sub rank s
  | .mr4Read ch codes => Sys2Proof.Machine.execMr4Read ch codes s
  | .rowRepairSwitch ch row => Sys2Proof.Machine.execRowRepairSwitch ch row s
  | .surveyorRead r => Sys2Proof.Machine.execSurveyorRead r s
  | .surveyorLapEnd => Sys2Proof.Machine.execSurveyorLapEnd s
  | .lastErrLoRead => Sys2Proof.Machine.execLastErrLoRead s
  | .dmaGo ch value => Sys2Proof.Machine.execDmaGo ch value s
  | .dmaStop ch => Sys2Proof.Machine.execDmaStop ch s
  | .dmaDescriptorStart ch => Sys2Proof.Machine.execDmaDescriptorStart ch s
  | .dmaDescriptorEnd ch hostData => Sys2Proof.Machine.execDmaDescriptorEnd ch hostData s
  | .dmaDescriptorHalt ch why done => Sys2Proof.Machine.execDmaDescriptorHalt ch why done s
  | .dxCqHeadWrite ch value => Sys2Proof.Machine.execDxCqHeadWrite ch value s
  | .dxCqConfigWrite ch reg value => Sys2Proof.Machine.execDxCqConfigWrite ch reg value s
  | .eventMsixDelivery ev => Sys2Proof.Machine.execEventMsixDelivery ev s
  | .evPendingClear k value => Sys2Proof.Machine.execEvPendingClear k value s
  | .evTestRaise value => Sys2Proof.Machine.execEvTestRaise value s
  | .evRouteWrite ev value => Sys2Proof.Machine.execEvRouteWrite ev value s
  | .mediaFormat p => Sys2Proof.Machine.execMediaFormat p s
  | .quadranglePin p => Sys2Proof.Machine.execQuadranglePin p s
  | .quadrangleUnpin p => Sys2Proof.Machine.execQuadrangleUnpin p s
  | .channelRetire p => Sys2Proof.Machine.execChannelRetire p s
  | .mediaQuery p => Sys2Proof.Machine.execMediaQuery p s
  | .nsTransform p => Sys2Proof.Machine.execNsTransform p s
  | .holdupDisarm p => Sys2Proof.Machine.execHoldupDisarm p s
  | .holdupTestAndArm p => Sys2Proof.Machine.execHoldupTestAndArm p s
  | .holdupTestOnly p => Sys2Proof.Machine.execHoldupTestOnly p s
  | .computeRangeCreate p => Sys2Proof.Machine.execComputeRangeCreate p s
  | .computeRangeDelete p => Sys2Proof.Machine.execComputeRangeDelete p s
  | .computeLimits p => Sys2Proof.Machine.execComputeLimits p s
  | .operatorLoad p => Sys2Proof.Machine.execOperatorLoad p s
  | .operatorInvoke p => Sys2Proof.Machine.execOperatorInvoke p s
  | .wayAssign p => Sys2Proof.Machine.execWayAssign p s
  | .computeQuery p => Sys2Proof.Machine.execComputeQuery p s
  | .meterRead p => Sys2Proof.Machine.execMeterRead p s
  | .meterFree p => Sys2Proof.Machine.execMeterFree p s
  | .fwDownload p => Sys2Proof.Machine.execFwDownload p s
  | .fwCommit p => Sys2Proof.Machine.execFwCommit p s
  | .fwSvnAdvance p => Sys2Proof.Machine.execFwSvnAdvance p s
  | .bootcfgSet p => Sys2Proof.Machine.execBootcfgSet p s
  | .diagDump p => Sys2Proof.Machine.execDiagDump p s
  | .eventRead p => Sys2Proof.Machine.execEventRead p s
  | .deviceQuery p => Sys2Proof.Machine.execDeviceQuery p s
  | .unknownManagerPacket opcode p => Sys2Proof.Machine.execUnknownManagerPacket opcode p s
  | .mgInflightRead => Sys2Proof.Machine.execMgInflightRead s
  | .fecUncorrRead port => Sys2Proof.Machine.execFecUncorrRead port s
  | .powerOnReset => Sys2Proof.Machine.execPowerOnReset s
  | .sysReset => Sys2Proof.Machine.execSysReset s
  | .temperatureMinimumReached => Sys2Proof.Machine.execTemperatureMinimumReached s
  | .romStage r => Sys2Proof.Machine.execRomStage r s
  | .adminReady => Sys2Proof.Machine.execAdminReady s
  | .mediaReady r => Sys2Proof.Machine.execMediaReady r s
  | .pwrFailSeen => Sys2Proof.Machine.execPwrFailSeen s
  | .railUndervoltage => Sys2Proof.Machine.execRailUndervoltage s
  | .powerFailStop => Sys2Proof.Machine.execPowerFailStop s
  | .dumpEnd => Sys2Proof.Machine.execDumpEnd s
  | .dumpRestart => Sys2Proof.Machine.execDumpRestart s
  | .bootRestartAfterPowerFail => Sys2Proof.Machine.execBootRestartAfterPowerFail s
  | .bankSettled v1 => Sys2Proof.Machine.execBankSettled v1 s
  | .energyTestEnd v2 power => Sys2Proof.Machine.execEnergyTestEnd v2 power s
  | .energyTestSettleTimeout => Sys2Proof.Machine.execEnergyTestSettleTimeout s
  | .holdupRetest => Sys2Proof.Machine.execHoldupRetest s
  | .clusterResetWrite value => Sys2Proof.Machine.execClusterResetWrite value s
  | .clusterReset cl => Sys2Proof.Machine.execClusterReset cl s
  | .clusterResetComplete cl => Sys2Proof.Machine.execClusterResetComplete cl s
  | .lifeRecordUpdate => Sys2Proof.Machine.execLifeRecordUpdate s
  | .busMasterEnableClear fn => Sys2Proof.Machine.execBusMasterEnableClear fn s
  | .pfCcEnSet fn => Sys2Proof.Machine.execPfCcEnSet fn s
  | .pcieLinkUp l => Sys2Proof.Machine.execPcieLinkUp l s
  | .doeDiscovery fn index => Sys2Proof.Machine.execDoeDiscovery fn index s
  | .getLogPageDiscovery tk => Sys2Proof.Machine.execGetLogPageDiscovery tk s
  | .keepAliveTimeout conn => Sys2Proof.Machine.execKeepAliveTimeout conn s
  | .mapLineRebuildEnd line => Sys2Proof.Machine.execMapLineRebuildEnd line s

end Sys2Proof.Machine
end

