-- ==== Sys2Proof/Safety.lean ====
section
/-! DEFINITION. What counts as a safe run: the machine goes on from step to step, and its ledgers stay whole (R43). -/
namespace Sys2Proof.Machine

/-- A run of `n` steps ends in `t`. -/
def runs : Nat → State → State → Prop
  | 0, s, t => s = t
  | n + 1, s, t => ∃ u, step s = .next u ∧ runs n u t

/-- A run is safe where none of its steps up to the `n`-th faults or refuses. -/
def safe (n : Nat) (s : State) : Prop := ∃ t, runs n s t

/-- The staging granules are whole: none created, none lost (R43). -/
def granulesWhole (s : State) : Prop := granSum s = 16384

end Sys2Proof.Machine
end

