-- ==== Sys2Proof/Certificates/Slice0/Obligations.lean ====
section
/-! DEFINITION. The statements for the provers, with the words they are said in. -/
open Sys2Proof Sys2Proof.Machine

namespace Sys2Proof.Says

/-! ## Words common to the statements -/

/-- The command answers a next state of which `P` holds. -/
def gives (i : Instr) (s : State) (P : State → Prop) : Prop := ∃ t, exec i s = .next t ∧ P t

/-- Memory is the same octet for octet and word for word. -/
def memSame (s t : State) : Prop := (∀ a, memGet t a = memGet s a) ∧ ∀ a, wordGet t a = wordGet s a

/-- The registers of the management window are the same but for those in `l`. -/
def regsSameBut (s t : State) (l : List Nat) : Prop := ∀ a, a ∉ l → regRaw t a = regRaw s a

/-! ## Chapter 10: instructions of a core -/

/-- Core `c` starts an operation in state `s`: it can run, the encoding fits its code pointer, the fetch found the words, and a
PRED condition holds; `u` is the state in which the operation reads its sources (R529, R536, R544). -/
def starts (s : State) (c : Nat) (x : Pfx) (u : State) : Prop :=
  coreRuns s c = true ∧ encFits s c x = true ∧
    ∃ f w, atFetch s c x = (f, .word w) ∧ (x.pred.all fun p => condHolds p (flagsOf f c)) = true ∧ u = pairKeep f c x

/-- From `u` to `t` core `c` has gone on to the next instruction and written no register but those in `rs`, nor any other
state but its flags; no other core and nothing outside the cores has changed. -/
def goesOn (u t : State) (c : Nat) (x : Pfx) (rs : List Nat) : Prop :=
  t = { u with cs := { u.cs with cores := t.cs.cores } } ∧ (∀ d, d ≠ c → coreGet t d = coreGet u d) ∧
    coreGet t c = { coreGet u c with w := (coreGet t c).w, fl := (coreGet t c).fl, pc := nextPc u c x.enc, pair := (coreGet t c).pair } ∧
    ∀ r, (∀ q ∈ rs, r % 32 ≠ q % 32) → reg t c r = reg u c r

/-- An operation that completes wherever core `c` starts it, with registers `rs` as its destinations. -/
def completes (i : Nat → Pfx → Instr) (rs : List Nat) (P : State → State → Nat → Pfx → Prop) : Prop :=
  ∀ c x s u, starts s c x u → gives (i c x) s fun t => goesOn u t c x rs ∧ P u t c x

/-- The same for an operation that takes no L32 prefix (R540). -/
def completesPlain (i : Nat → Pfx → Instr) (rs : List Nat) (P : State → State → Nat → Pfx → Prop) : Prop :=
  ∀ c x s u, x.l32 = false → starts s c x u → gives (i c x) s fun t => goesOn u t c x rs ∧ P u t c x

/-- What an operation sees of a source, and writes of a result: bits [31:0] alone under L32 (R545). -/
def lane (l : Bool) (v : Word) : Word := if l then (v.setWidth 32).setWidth 36 else v

/-- The width that flags and shift counts are taken against. -/
def laneBits (l : Bool) : Nat := if l then 32 else 36

/-- A source read as a two's-complement number. -/
def laneInt (l : Bool) (v : Word) : Int := if l then (v.setWidth 32).toInt else v.toInt

/-- Z and N of a result `r` (R520). -/
def zeroNegative (l : Bool) (r : Word) (f : Flags) : Prop := f.z = (r == 0) ∧ f.n = r.getLsbD (laneBits l - 1)

/-- The sum `a + b` and its five flags (R520, R545, R546). -/
def isSum (l : Bool) (a b : Word) (cin : Bool) (r : Word) (f : Flags) : Prop :=
  r = lane l (a + b + BitVec.ofNat 36 (b2n cin)) ∧ zeroNegative l r f ∧
    f.c = decide (2 ^ laneBits l ≤ (lane l a).toNat + (lane l b).toNat + b2n cin) ∧
    f.v = decide (laneInt l r ≠ laneInt l a + laneInt l b + b2n cin) ∧
    f.g = decide (2 ^ 32 ≤ a.toNat % 2 ^ 32 + b.toNat % 2 ^ 32 + b2n cin)

/-- The difference `a - b - bin` and its five flags (R520, R545, R546). -/
def isDifference (l : Bool) (a b : Word) (bin : Bool) (r : Word) (f : Flags) : Prop :=
  r = lane l (a - b - BitVec.ofNat 36 (b2n bin)) ∧ zeroNegative l r f ∧
    f.c = decide ((lane l b).toNat + b2n bin ≤ (lane l a).toNat) ∧
    f.v = decide (laneInt l r ≠ laneInt l a - laneInt l b - b2n bin) ∧
    f.g = decide (b.toNat % 2 ^ 32 + b2n bin ≤ a.toNat % 2 ^ 32)

def add : Prop := ∀ rd ra rb, completes (fun c x => .add c x rd ra rb) [rd] fun u t c x =>
  isSum x.l32 (reg u c ra) (reg u c rb) false (reg t c rd) (flagsOf t c)
def adc : Prop := ∀ rd ra rb, completes (fun c x => .adc c x rd ra rb) [rd] fun u t c x =>
  isSum x.l32 (reg u c ra) (reg u c rb) (flagsOf u c).c (reg t c rd) (flagsOf t c)
def addi : Prop := ∀ rd ra imm, completes (fun c x => .addi c x rd ra imm) [rd] fun u t c x =>
  isSum x.l32 (reg u c ra) imm false (reg t c rd) (flagsOf t c)
def addq : Prop := ∀ rd k, completesPlain (fun c x => .addq c x rd k) [rd] fun u t c _ =>
  isSum false (reg u c rd) (BitVec.ofNat 36 k) false (reg t c rd) (flagsOf t c)
def sub : Prop := ∀ rd ra rb, completes (fun c x => .sub c x rd ra rb) [rd] fun u t c x =>
  isDifference x.l32 (reg u c ra) (reg u c rb) false (reg t c rd) (flagsOf t c)
def sbc : Prop := ∀ rd ra rb, completes (fun c x => .sbc c x rd ra rb) [rd] fun u t c x =>
  isDifference x.l32 (reg u c ra) (reg u c rb) (!(flagsOf u c).c) (reg t c rd) (flagsOf t c)
def subq : Prop := ∀ rd k, completesPlain (fun c x => .subq c x rd k) [rd] fun u t c _ =>
  isDifference false (reg u c rd) (BitVec.ofNat 36 k) false (reg t c rd) (flagsOf t c)
def neg : Prop := ∀ rd rb, completes (fun c x => .neg c x rd rb) [rd] fun u t c x =>
  isDifference x.l32 0 (reg u c rb) false (reg t c rd) (flagsOf t c)
def cmp : Prop := ∀ ra rb, completes (fun c x => .cmp c x ra rb) [] fun u t c x =>
  ∃ r, isDifference x.l32 (reg u c ra) (reg u c rb) false r (flagsOf t c)
def cmpi : Prop := ∀ ra imm, completes (fun c x => .cmpi c x ra imm) [] fun u t c x =>
  ∃ r, isDifference x.l32 (reg u c ra) imm false r (flagsOf t c)
def cmpq : Prop := ∀ rd k, completesPlain (fun c x => .cmpq c x rd k) [] fun u t c _ =>
  ∃ r, isDifference false (reg u c rd) (BitVec.ofNat 36 k) false r (flagsOf t c)

/-- A logical result `v`: Z and N are set, C, V and G stay (R546). -/
def isLogical (l : Bool) (v r : Word) (f g : Flags) : Prop :=
  r = lane l v ∧ zeroNegative l r g ∧ g.c = f.c ∧ g.v = f.v ∧ g.g = f.g

def and3 : Prop := ∀ rd ra rb, completes (fun c x => .and_ c x rd ra rb) [rd] fun u t c x =>
  isLogical x.l32 (reg u c ra &&& reg u c rb) (reg t c rd) (flagsOf u c) (flagsOf t c)
def or3 : Prop := ∀ rd ra rb, completes (fun c x => .or_ c x rd ra rb) [rd] fun u t c x =>
  isLogical x.l32 (reg u c ra ||| reg u c rb) (reg t c rd) (flagsOf u c) (flagsOf t c)
def xor3 : Prop := ∀ rd ra rb, completes (fun c x => .xor c x rd ra rb) [rd] fun u t c x =>
  isLogical x.l32 (reg u c ra ^^^ reg u c rb) (reg t c rd) (flagsOf u c) (flagsOf t c)
def andn : Prop := ∀ rd ra rb, completes (fun c x => .andn c x rd ra rb) [rd] fun u t c x =>
  isLogical x.l32 (reg u c ra &&& ~~~ reg u c rb) (reg t c rd) (flagsOf u c) (flagsOf t c)
def not2 : Prop := ∀ rd rb, completes (fun c x => .not_ c x rd rb) [rd] fun u t c x =>
  isLogical x.l32 (~~~ reg u c rb) (reg t c rd) (flagsOf u c) (flagsOf t c)
def tst : Prop := ∀ ra rb, completes (fun c x => .tst c x ra rb) [] fun u t c x =>
  ∃ r, isLogical x.l32 (reg u c ra &&& reg u c rb) r (flagsOf u c) (flagsOf t c)
def andi : Prop := ∀ rd ra imm, completes (fun c x => .andi c x rd ra imm) [rd] fun u t c x =>
  isLogical x.l32 (reg u c ra &&& imm) (reg t c rd) (flagsOf u c) (flagsOf t c)
def ori : Prop := ∀ rd ra imm, completes (fun c x => .ori c x rd ra imm) [rd] fun u t c x =>
  isLogical x.l32 (reg u c ra ||| imm) (reg t c rd) (flagsOf u c) (flagsOf t c)
def xori : Prop := ∀ rd ra imm, completes (fun c x => .xori c x rd ra imm) [rd] fun u t c x =>
  isLogical x.l32 (reg u c ra ^^^ imm) (reg t c rd) (flagsOf u c) (flagsOf t c)

/-- `n` is the number of zeros above the highest 1 of the low `w` bits. -/
def leadingZeros (v : Word) (w n : Nat) : Prop :=
  n ≤ w ∧ (∀ j, w - n ≤ j → j < w → v.getLsbD j = false) ∧ (n < w → v.getLsbD (w - 1 - n) = true)

def clz : Prop := ∀ rd ra, completes (fun c x => .clz c x rd ra) [rd] fun u t c x =>
  ∃ n, leadingZeros (reg u c ra) (laneBits x.l32) n ∧
    isLogical x.l32 (BitVec.ofNat 36 n) (reg t c rd) (flagsOf u c) (flagsOf t c)
def popc : Prop := ∀ rd ra, completes (fun c x => .popc c x rd ra) [rd] fun u t c x =>
  isLogical x.l32 (BitVec.ofNat 36 ((List.range (laneBits x.l32)).countP fun i => (reg u c ra).getLsbD i)) (reg t c rd)
    (flagsOf u c) (flagsOf t c)

/-- EXT, EXTS and INS: position and width as R549 has them. -/
def ext : Prop := ∀ rd ra p n, 1 ≤ n → p + n ≤ 36 → completes (fun c x => .ext c x rd ra p n) [rd] fun u t c x =>
  isLogical x.l32 ((BitVec.extractLsb' p n (lane x.l32 (reg u c ra))).setWidth 36) (reg t c rd) (flagsOf u c) (flagsOf t c)
def exts : Prop := ∀ rd ra p n, 1 ≤ n → p + n ≤ 36 → completes (fun c x => .exts c x rd ra p n) [rd] fun u t c x =>
  isLogical x.l32 ((BitVec.extractLsb' p n (lane x.l32 (reg u c ra))).signExtend 36) (reg t c rd) (flagsOf u c) (flagsOf t c)
def ins : Prop := ∀ rd ra p n, 1 ≤ n → p + n ≤ 36 → completes (fun c x => .ins c x rd ra p n) [rd] fun u t c x =>
  zeroNegative x.l32 (reg t c rd) (flagsOf t c) ∧ (flagsOf t c).c = (flagsOf u c).c ∧ (flagsOf t c).v = (flagsOf u c).v ∧
    (flagsOf t c).g = (flagsOf u c).g ∧
    ∀ i, i < 36 → (reg t c rd).getLsbD i =
      (decide (i < laneBits x.l32) &&
        if p ≤ i ∧ i < p + n then (lane x.l32 (reg u c ra)).getLsbD (i - p) else (reg u c rd).getLsbD i)

/-- Z and N follow the shifted result; V and G stay; C is unchanged at count 0, else `last` (R546, R547). -/
def isShift (l : Bool) (r : Word) (k : Nat) (last : Bool) (f g : Flags) : Prop :=
  zeroNegative l r g ∧ g.v = f.v ∧ g.g = f.g ∧ g.c = if k = 0 then f.c else last

/-- A left shift by `k`: C is the last bit shifted out, 0 past the width. -/
def isShl (l : Bool) (a : Word) (k : Nat) (r : Word) (f g : Flags) : Prop :=
  r = lane l (a <<< k) ∧ isShift l r k (decide (k ≤ laneBits l) && (lane l a).getLsbD (laneBits l - k)) f g
/-- A logical right shift. -/
def isShr (l : Bool) (a : Word) (k : Nat) (r : Word) (f g : Flags) : Prop :=
  r = lane l a >>> k ∧ isShift l r k (decide (k ≤ laneBits l) && (lane l a).getLsbD (k - 1)) f g
/-- An arithmetic right shift: past the width, copies of the sign bit. -/
def isSar (l : Bool) (a : Word) (k : Nat) (r : Word) (f g : Flags) : Prop :=
  r = lane l (if l then ((a.setWidth 32).sshiftRight k).setWidth 36 else a.sshiftRight k) ∧
    isShift l r k (if k ≤ laneBits l then (lane l a).getLsbD (k - 1) else (lane l a).getLsbD (laneBits l - 1)) f g
/-- A rotation right, by the count modulo the width; C is the top bit of the result. -/
def isRor (l : Bool) (a : Word) (k : Nat) (r : Word) (f g : Flags) : Prop :=
  r = (if l then ((a.setWidth 32).rotateRight k).setWidth 36 else a.rotateRight k) ∧
    isShift l r k (r.getLsbD (laneBits l - 1)) f g

/-- The count in a register (R547). -/
def countIn (u : State) (c rb : Nat) : Nat := (reg u c rb).toNat % 64

def shl : Prop := ∀ rd ra rb, completes (fun c x => .shl c x rd ra rb) [rd] fun u t c x =>
  isShl x.l32 (reg u c ra) (countIn u c rb) (reg t c rd) (flagsOf u c) (flagsOf t c)
def shr : Prop := ∀ rd ra rb, completes (fun c x => .shr c x rd ra rb) [rd] fun u t c x =>
  isShr x.l32 (reg u c ra) (countIn u c rb) (reg t c rd) (flagsOf u c) (flagsOf t c)
def sar : Prop := ∀ rd ra rb, completes (fun c x => .sar c x rd ra rb) [rd] fun u t c x =>
  isSar x.l32 (reg u c ra) (countIn u c rb) (reg t c rd) (flagsOf u c) (flagsOf t c)
def ror : Prop := ∀ rd ra rb, completes (fun c x => .ror c x rd ra rb) [rd] fun u t c x =>
  isRor x.l32 (reg u c ra) (countIn u c rb) (reg t c rd) (flagsOf u c) (flagsOf t c)
def shli : Prop := ∀ rd ra k, k < 64 → completes (fun c x => .shli c x rd ra k) [rd] fun u t c x =>
  isShl x.l32 (reg u c ra) k (reg t c rd) (flagsOf u c) (flagsOf t c)
def shri : Prop := ∀ rd ra k, k < 64 → completes (fun c x => .shri c x rd ra k) [rd] fun u t c x =>
  isShr x.l32 (reg u c ra) k (reg t c rd) (flagsOf u c) (flagsOf t c)
def sari : Prop := ∀ rd ra k, k < 64 → completes (fun c x => .sari c x rd ra k) [rd] fun u t c x =>
  isSar x.l32 (reg u c ra) k (reg t c rd) (flagsOf u c) (flagsOf t c)
def rori : Prop := ∀ rd ra k, k < 64 → completes (fun c x => .rori c x rd ra k) [rd] fun u t c x =>
  isRor x.l32 (reg u c ra) k (reg t c rd) (flagsOf u c) (flagsOf t c)
def shlq : Prop := ∀ rd k, k < 32 → completesPlain (fun c x => .shlq c x rd k) [rd] fun u t c _ =>
  isShl false (reg u c rd) k (reg t c rd) (flagsOf u c) (flagsOf t c)
def shrq : Prop := ∀ rd k, k < 32 → completesPlain (fun c x => .shrq c x rd k) [rd] fun u t c _ =>
  isShr false (reg u c rd) k (reg t c rd) (flagsOf u c) (flagsOf t c)
def sarq : Prop := ∀ rd k, k < 32 → completesPlain (fun c x => .sarq c x rd k) [rd] fun u t c _ =>
  isSar false (reg u c rd) k (reg t c rd) (flagsOf u c) (flagsOf t c)

/-- C and G of a multiplication or division are 0 (R546). -/
def noCarry (f : Flags) : Prop := f.c = false ∧ f.g = false

/-- The unsigned product, its low and high word (R548). -/
def mulu : Prop := ∀ rd ra rb, rd % 2 = 0 → completes (fun c x => .mulu c x rd ra rb) [rd, rd + 1] fun u t c x =>
  let w := 2 ^ laneBits x.l32
  let p := (lane x.l32 (reg u c ra)).toNat * (lane x.l32 (reg u c rb)).toNat
  (reg t c rd).toNat = p % w ∧ (reg t c (rd + 1)).toNat = p / w ∧ noCarry (flagsOf t c) ∧
    (flagsOf t c).z = decide (p = 0) ∧ (flagsOf t c).n = decide (w * w ≤ 2 * p) ∧ (flagsOf t c).v = decide (w ≤ p)

/-- The signed product (R548). -/
def muls : Prop := ∀ rd ra rb, rd % 2 = 0 → completes (fun c x => .muls c x rd ra rb) [rd, rd + 1] fun u t c x =>
  let w := 2 ^ laneBits x.l32
  let p := laneInt x.l32 (reg u c ra) * laneInt x.l32 (reg u c rb)
  ((reg t c rd).toNat : Int) + w * laneInt x.l32 (reg t c (rd + 1)) = p ∧ (reg t c rd).toNat < w ∧
    (reg t c (rd + 1)).toNat < w ∧ noCarry (flagsOf t c) ∧ (flagsOf t c).z = decide (p = 0) ∧
    (flagsOf t c).n = decide (p < 0) ∧ (flagsOf t c).v = decide (laneInt x.l32 (reg t c rd) ≠ p)

/-- The unsigned quotient and remainder; a zero divisor gives 0, the dividend, and V (R548). -/
def divu : Prop := ∀ rd ra rb, rd % 2 = 0 → completes (fun c x => .divu c x rd ra rb) [rd, rd + 1] fun u t c x =>
  let a := (lane x.l32 (reg u c ra)).toNat
  let b := (lane x.l32 (reg u c rb)).toNat
  noCarry (flagsOf t c) ∧ zeroNegative x.l32 (reg t c rd) (flagsOf t c) ∧ (flagsOf t c).v = decide (b = 0) ∧
    (reg t c rd).toNat = a / b ∧ (reg t c (rd + 1)).toNat = a % b

/-- The signed quotient, toward zero, and the remainder, with the dividend's sign; the two cases that set V (R548). -/
def divs : Prop := ∀ rd ra rb, rd % 2 = 0 → completes (fun c x => .divs c x rd ra rb) [rd, rd + 1] fun u t c x =>
  let a := laneInt x.l32 (reg u c ra)
  let b := laneInt x.l32 (reg u c rb)
  let least := -2 ^ (laneBits x.l32 - 1)
  noCarry (flagsOf t c) ∧ zeroNegative x.l32 (reg t c rd) (flagsOf t c) ∧
    (flagsOf t c).v = decide (b = 0 ∨ (a = least ∧ b = -1)) ∧
    lane x.l32 (reg t c rd) = reg t c rd ∧ lane x.l32 (reg t c (rd + 1)) = reg t c (rd + 1) ∧
    laneInt x.l32 (reg t c rd) = (if a = least ∧ b = -1 then least else Int.tdiv a b) ∧
    laneInt x.l32 (reg t c (rd + 1)) = Int.tmod a b

/-- Moves, which leave the flags. -/
def moves (i : Nat → Pfx → Instr) (rd : Nat) (v : State → Nat → Word) : Prop :=
  completesPlain i [rd] fun u t c _ => reg t c rd = v u c ∧ flagsOf t c = flagsOf u c

def mov : Prop := ∀ rd rb, moves (fun c x => .mov c x rd rb) rd fun u c => reg u c rb
def movq : Prop := ∀ rd k, moves (fun c x => .movq c x rd k) rd fun _ _ => BitVec.ofNat 36 k
def movi : Prop := ∀ rd imm, moves (fun c x => .movi c x rd imm) rd fun _ _ => imm
def movhi : Prop := ∀ rd imm, moves (fun c x => .movhi c x rd imm) rd fun _ _ => imm * BitVec.ofNat 36 (2 ^ 18)
def sel : Prop := ∀ cond rd ra rb, cond ≠ 15 → moves (fun c x => .sel c x cond rd ra rb) rd fun u c =>
  if condHolds cond (flagsOf u c) then reg u c ra else reg u c rb
/-- MFF lays the flags out as R521 has them. -/
def mff : Prop := ∀ rd, completesPlain (fun c x => .mff c x rd) [rd] fun u t c _ =>
  flagsOf t c = flagsOf u c ∧ (reg t c rd).toNat < 32 ∧ (reg t c rd).getLsbD 4 = (flagsOf u c).n ∧
    (reg t c rd).getLsbD 3 = (flagsOf u c).z ∧ (reg t c rd).getLsbD 2 = (flagsOf u c).c ∧
    (reg t c rd).getLsbD 1 = (flagsOf u c).v ∧ (reg t c rd).getLsbD 0 = (flagsOf u c).g
def mtf : Prop := ∀ ra, completesPlain (fun c x => .mtf c x ra) [] fun u t c _ =>
  (flagsOf t c).n = (reg u c ra).getLsbD 4 ∧ (flagsOf t c).z = (reg u c ra).getLsbD 3 ∧
    (flagsOf t c).c = (reg u c ra).getLsbD 2 ∧ (flagsOf t c).v = (reg u c ra).getLsbD 1 ∧
    (flagsOf t c).g = (reg u c ra).getLsbD 0
def nop : Prop := completesPlain (fun c x => .nop c x) [] fun u t c _ => flagsOf t c = flagsOf u c
def sync : Prop := completesPlain (fun c x => .sync c x) [] fun u t c _ => flagsOf t c = flagsOf u c

/-- MFSR reads the listed registers at the upper level (R562); CYCLES, number 7, reads a free value (log 3). -/
def mfsr : Prop := ∀ rd n c x s u, x.l32 = false → starts s c x u → (coreGet s c).lower = false →
  (n < 7 ∨ (0x100 ≤ n ∧ n < 0x200) → gives (.mfsr c x rd n) s fun t => goesOn u t c x [rd] ∧ flagsOf t c = flagsOf u c ∧
    reg t c rd = match n with
      | 0 => BitVec.ofNat 36 c
      | 1 => BitVec.ofNat 36 (2 * b2n (coreGet u c).nest + b2n (coreGet u c).prev)
      | 2 => (coreGet u c).tepc
      | 3 => (coreGet u c).tflags
      | 4 => (coreGet u c).tcause
      | 5 => (coreGet u c).taddr
      | 6 => (coreGet u c).tvbase
      | _ => projWord (coreGet u c) ((n - 0x100) / 4) (n % 4)) ∧
  (n = 7 → gives (.mfsr c x rd n) s fun t => flagsOf t c = flagsOf u c ∧ ∀ r, r % 32 ≠ rd % 32 → reg t c r = reg u c r)

/-- MTSR writes the listed registers at the upper level (R562): no general register and no flag, and of the system
registers that one alone. -/
def mtsr : Prop := ∀ ra n c x s u, x.l32 = false → starts s c x u → (coreGet s c).lower = false →
  (n < 8 ∨ (0x100 ≤ n ∧ n < 0x200)) → gives (.mtsr c x ra n) s fun t =>
    flagsOf t c = flagsOf u c ∧ (∀ r, reg t c r = reg u c r) ∧ (coreGet t c).pc = nextPc u c x.enc ∧
    (coreGet t c).tepc = (if n = 2 then reg u c ra else (coreGet u c).tepc) ∧
    (coreGet t c).tflags = (if n = 3 then BitVec.ofNat 36 ((reg u c ra).toNat % 32) else (coreGet u c).tflags) ∧
    (coreGet t c).tcause = (if n = 4 then BitVec.ofNat 36 ((reg u c ra).toNat % 65536) else (coreGet u c).tcause) ∧
    (coreGet t c).taddr = (if n = 5 then reg u c ra else (coreGet u c).taddr) ∧
    (coreGet t c).nest = (if n = 1 then (reg u c ra).getLsbD 1 else (coreGet u c).nest) ∧
    (coreGet t c).prev = (if n = 1 then (reg u c ra).getLsbD 0 else (coreGet u c).prev) ∧
    (n ≠ 6 → (coreGet t c).tvbase = (coreGet u c).tvbase) ∧
    (n = 6 → let k := if (reg u c ra).getLsbD 35 then 1024 else 256
      (coreGet t c).tvbase = codePtr ((reg u c ra).getLsbD 35) ((reg u c ra).toNat % 2 ^ 35 / k * k)) ∧
    (n < 0x100 → (coreGet t c).proj = (coreGet u c).proj ∧ (coreGet t c).resetProj = (coreGet u c).resetProj) ∧
    (0x100 ≤ n → (coreGet t c).resetProj = false ∧
      ∀ j, j + 0x100 ≠ n → tabGetD (coreGet t c).proj j 0 = tabGetD (coreGet u c).proj j 0) ∧
    (coreGet t c).lower = (coreGet u c).lower

/-- The target of B and CALL: the code pointer plus the displacement, in its own encoding (R530). -/
def target (u : State) (c : Nat) (d : Int) : Word :=
  let p := (coreGet u c).pc
  codePtr (p.getLsbD 35) (((p.toNat % 2 ^ 35 : Nat) + d) % 2 ^ 35).toNat

/-- From `u` to `t` core `c` has gone to `p`; only LK may have been written, with the return pointer (R530, R531). -/
def goesTo (u t : State) (c : Nat) (x : Pfx) (link : Bool) (p : Word) : Prop :=
  t = { u with cs := { u.cs with cores := t.cs.cores } } ∧ (∀ d, d ≠ c → coreGet t d = coreGet u d) ∧
    coreGet t c = { coreGet u c with w := (coreGet t c).w, pc := p, pair := (coreGet t c).pair } ∧
    (∀ r, (link = true → r % 32 ≠ 30) → reg t c r = reg u c r) ∧ (link = true → reg t c 30 = nextPc u c x.enc)

def jumps (i : Nat → Pfx → Instr) (link : Bool) (p : State → Nat → Pfx → Word) : Prop :=
  ∀ c x s u, x.l32 = false → starts s c x u → gives (i c x) s fun t => goesTo u t c x link (p u c x)

def branch : Prop := ∀ cond disp, cond ≠ 15 → jumps (fun c x => .b c x cond disp) false fun u c x =>
  if condHolds cond (flagsOf u c) then target u c disp else nextPc u c x.enc
def call : Prop := ∀ disp, jumps (fun c x => .call c x disp) true fun u c _ => target u c disp
def jmpr : Prop := ∀ ra, jumps (fun c x => .jmpr c x ra) false fun u c _ => reg u c ra
def callr : Prop := ∀ ra, jumps (fun c x => .callr c x ra) true fun u c _ => reg u c ra
def ret : Prop := jumps (fun c x => .ret c x) false fun u c _ => reg u c 30
/-- RETT at the upper level (R561): flags, level and code pointer come back from the trap registers. -/
def rett : Prop := ∀ c x s u, x.l32 = false → starts s c x u → (coreGet s c).lower = false →
  gives (.rett c x) s fun t => t = { u with cs := { u.cs with cores := t.cs.cores } } ∧
    (∀ d, d ≠ c → coreGet t d = coreGet u d) ∧ coreGet t c =
      { coreGet u c with fl := wordFlags (coreGet u c).tflags, lower := (coreGet u c).prev, nest := false,
                         pc := (coreGet u c).tepc, pair := none }

/-! Loads and stores -/

/-- The address of an access and the base register after it (R526). -/
def address (u : State) (c ra : Nat) : Mode → Nat
  | .off d => (reg u c ra + d).toNat
  | .idx rb k => (reg u c ra + reg u c rb * BitVec.ofNat 36 k).toNat
  | .post _ => (reg u c ra).toNat
  | .pre d => (reg u c ra - d).toNat
def baseAfter (u : State) (c ra : Nat) : Mode → Word
  | .post d => reg u c ra + d
  | .pre d => reg u c ra - d
  | _ => reg u c ra
def writesBase : Mode → Bool
  | .post _ => true
  | .pre _ => true
  | _ => false

/-- The access of `n` units at the mode's address is allowed and finds physical address `p` (R464, R466, R525). -/
def reaches (u : State) (c ra : Nat) (m : Mode) (oct : Bool) (n : Nat) (need : Perm) (p : Nat) : Prop :=
  (oct = true → 1 < n → address u c ra m % n = 0) ∧
    ∃ lo hi e, translate u c oct (address u c ra m) n need = .ok p lo hi e

/-- Does a bearing detector follow the access: displacement or post-increment mode, the detectors on, and not the scratchpad
(R475, R482)? Then it may prefetch, which changes the caches and the DRAM's timing (R476). -/
def followed (v : State) (c : Nat) (m : Mode) (p : Nat) : Prop :=
  (match m with
    | .off _ => True
    | .post _ => True
    | _ => False) ∧ bearingOn v (c / 8) = true ∧ isScratch p = false

/-- After an access that `u` began and whose memory part left `v`, core `c` goes on; registers `rs` and the base are written, no
other, and no flag; nothing outside the cores differs from `v` where no detector follows the access. -/
def accessed (u v t : State) (c : Nat) (x : Pfx) (ra p : Nat) (m : Mode) (rs : List Nat) : Prop :=
  (¬ followed v c m p → t = { v with cs := { v.cs with cores := t.cs.cores } }) ∧
  flagsOf t c = flagsOf u c ∧ (coreGet t c).pc = nextPc u c x.enc ∧
    (∀ r, (∀ q ∈ rs, r % 32 ≠ q % 32) → (writesBase m = true → r % 32 ≠ ra % 32) → reg t c r = reg u c r) ∧
    (writesBase m = true → reg t c ra = baseAfter u c ra m) ∧ ∀ d, d ≠ c → coreGet t d = coreGet u d

def ldw : Prop := ∀ rd ra m c x s u p v d, x.l32 = false → starts s c x u → (writesBase m = true → rd % 32 ≠ ra % 32) →
  rd < 32 → ra < 32 → reaches u c ra m false 1 .r p → loadWord u (c / 8) p x.ecc = (v, some d) →
  gives (.ldw c x rd ra m) s fun t => accessed u v t c x ra p m [rd] ∧ reg t c rd = d

/-- An octet load of `n` octets of which `f` makes the word (R524). -/
def octetLoad (i : Nat → Pfx → Nat → Nat → Mode → Instr) (n : Nat) (f : Nat → Word) : Prop :=
  ∀ rd ra m c x s u p v d, x.l32 = false → starts s c x u → (writesBase m = true → rd % 32 ≠ ra % 32) →
  rd < 32 → ra < 32 → reaches u c ra m true n .r p → loadOctets u (c / 8) p n x.ecc = (v, some d) → d.length = n →
  gives (i c x rd ra m) s fun t => accessed u v t c x ra p m [rd] ∧ reg t c rd = f (leNat d)

def ldo8u : Prop := octetLoad .ldo8u 1 fun k => BitVec.ofNat 36 k
def ldo8s : Prop := octetLoad .ldo8s 1 fun k => (BitVec.ofNat 8 k).signExtend 36
def ldo16u : Prop := octetLoad .ldo16u 2 fun k => BitVec.ofNat 36 k
def ldo16s : Prop := octetLoad .ldo16s 2 fun k => (BitVec.ofNat 16 k).signExtend 36
def ldo32u : Prop := octetLoad .ldo32u 4 fun k => BitVec.ofNat 36 k
def ldo32s : Prop := octetLoad .ldo32s 4 fun k => (BitVec.ofNat 32 k).signExtend 36
/-- LDO64: octets 0 to 3 to rd, 4 to 7 to rd + 1, zero-extended. -/
def ldo64 : Prop := ∀ rd ra m c x s u p v d, x.l32 = false → starts s c x u → rd % 2 = 0 → rd < 31 → ra < 32 →
  (writesBase m = true → rd ≠ ra ∧ rd + 1 ≠ ra) → reaches u c ra m true 8 .r p →
  loadOctets u (c / 8) p 8 x.ecc = (v, some d) → d.length = 8 →
  gives (.ldo64 c x rd ra m) s fun t => accessed u v t c x ra p m [rd, rd + 1] ∧
    reg t c rd = BitVec.ofNat 36 (leNat (d.take 4)) ∧ reg t c (rd + 1) = BitVec.ofNat 36 (leNat (d.drop 4))

/-- What core `c` stores at `p`: the low `n` octets of a register, the lowest at the lowest address (R524). -/
def octetStore (i : Nat → Pfx → Nat → Nat → Mode → Instr) (n : Nat) : Prop :=
  ∀ rd ra m c x s u p v, x.l32 = false → starts s c x u → reaches u c ra m true n .w p →
  storeOctets u (c / 8) p (leBytes n (reg u c rd).toNat) x.ecc = (v, true) →
  gives (i c x rd ra m) s fun t => accessed u v t c x ra p m []

def sto8 : Prop := octetStore .sto8 1
def sto16 : Prop := octetStore .sto16 2
def sto32 : Prop := octetStore .sto32 4
/-- STO64: bits [31:0] of rd, then those of rd + 1. -/
def sto64 : Prop := ∀ rd ra m c x s u p v, x.l32 = false → starts s c x u → rd % 2 = 0 → reaches u c ra m true 8 .w p →
  storeOctets u (c / 8) p (leBytes 4 (reg u c rd).toNat ++ leBytes 4 (reg u c (rd + 1)).toNat) x.ecc = (v, true) →
  gives (.sto64 c x rd ra m) s fun t => accessed u v t c x ra p m []
def stw : Prop := ∀ rd ra m c x s u p v, x.l32 = false → starts s c x u → reaches u c ra m false 1 .w p →
  storeWord u (c / 8) p (reg u c rd) x.ecc = (v, true) →
  gives (.stw c x rd ra m) s fun t => accessed u v t c x ra p m []

/-! Cache maintenance (R469-R474) -/

/-- The address in `ra` is allowed and finds physical address `p` outside the scratchpad. -/
def names (u : State) (c ra : Nat) (oct : Bool) (need : Perm) (p : Nat) : Prop :=
  isScratch p = false ∧ ∃ lo hi e, translate u c oct (reg u c ra).toNat 1 need = .ok p lo hi e

/-- Core `c` goes on from `u`, no register and no flag of it written. -/
def onlyGoesOn (u t : State) (c : Nat) (x : Pfx) : Prop :=
  flagsOf t c = flagsOf u c ∧ (coreGet t c).pc = nextPc u c x.enc ∧ (∀ r, reg t c r = reg u c r) ∧
    ∀ d, d ≠ c → coreGet t d = coreGet u d

/-- The operation waits in the slot of the fill of its line, counted, and changes nothing else yet (R472). -/
def waitsInFill (u t : State) (cl l : Nat) (f : Fill) (o : LineOp) : Prop :=
  fillGet t cl l = some { f with ops := f.ops ++ [o] } ∧ regNat t (TC_FILL_WAITS cl) = (regNat u (TC_FILL_WAITS cl) + 1) % 2 ^ 32 ∧
    (clusterGet t cl).lines = (clusterGet u cl).lines ∧ memSame u t
/-- An operation by address: what `P` says, where no fill of the line is under way; else it waits for the fill (R472). -/
def lineOp (i : Nat → Pfx → Bool → Nat → Instr) (need : Perm) (o : LineOp) (P : State → State → Nat → Nat → Prop) : Prop :=
  ∀ oct ra c x s u p, x.l32 = false → starts s c x u → names u c ra oct need p →
  (fillGet u (c / 8) (p / 64) = none → gives (i c x oct ra) s fun t => onlyGoesOn u t c x ∧ P u t (c / 8) (p / 64)) ∧
  ∀ f, fillGet u (c / 8) (p / 64) = some f → gives (i c x oct ra) s fun t => onlyGoesOn u t c x ∧ waitsInFill u t (c / 8) (p / 64) f o

/-- CLEAN: a dirty line is written to DRAM and stays, clean; a line not dirty, or not there, leaves everything as it is. -/
def clean : Prop := lineOp .clean .r .clean fun u t cl l =>
  (∀ d w k, lineGet u cl l = some ⟨some d, true, w, k⟩ → lineGet t cl l = some ⟨some d, false, w, k⟩) ∧
  ((∀ d w k, lineGet u cl l ≠ some ⟨some d, true, w, k⟩) → t = { u with cs := { u.cs with cores := t.cs.cores } }) ∧
  ∀ o w k, lineGet u cl l = some ⟨some (.octets o), true, w, k⟩ → o.length = 64 → isScratch (64 * l) = false →
    Memory.wf u.dr.mem = true →
    memRead t (64 * l) 64 = o ∧ ∀ a, (a < 64 * l ∨ 64 * l + 64 ≤ a) → memGet t a = memGet u a
/-- INVAL: the line is dropped; a locked line's slot stays, empty, and a dirty one is counted (R473). -/
def inval : Prop := lineOp .inval .w .inval fun u t cl l =>
  (∀ x, lineGet u cl l = some x → x.locked.isSome = true →
    lineGet t cl l = some { x with data := none, dirty := false } ∧
      (x.dirty = true → regNat t (TC_LOCK_DISCARD cl) = (regNat u (TC_LOCK_DISCARD cl) + 1) % 2 ^ 32)) ∧
  (∀ x, lineGet u cl l = some x → x.locked = none → tabSorted (clusterGet u cl).lines = true → lineGet t cl l = none) ∧
  memSame u t
/-- CLEAN_INVAL: written back and dropped; a locked line's slot stays, empty. -/
def cleanInval : Prop := lineOp .cleanInval .r .cleanInval fun u t cl l =>
  (∀ x, lineGet u cl l = some x → x.locked.isSome = true → lineGet t cl l = some { x with data := none, dirty := false }) ∧
  (∀ x, lineGet u cl l = some x → x.locked = none → tabSorted (clusterGet u cl).lines = true → lineGet t cl l = none) ∧
  ∀ o w k, lineGet u cl l = some ⟨some (.octets o), true, w, k⟩ → o.length = 64 → isScratch (64 * l) = false →
    Memory.wf u.dr.mem = true → memRead t (64 * l) 64 = o
/-- UNLOCK: a line that is not locked stays as it is. -/
def unlock : Prop := lineOp .unlock .r .unlock fun u t cl l =>
  ((∀ d b w k, lineGet u cl l ≠ some ⟨d, b, w, some k⟩) → t = { u with cs := { u.cs with cores := t.cs.cores } }) ∧
  ∀ o w k, lineGet u cl l = some ⟨some (.octets o), true, w, some k⟩ → o.length = 64 → isScratch (64 * l) = false →
    Memory.wf u.dr.mem = true → memRead t (64 * l) 64 = o
/-- ZERO: the line is present, zero and dirty, and nothing is fetched. -/
def zero : Prop := ∀ oct ra c x s u p, x.l32 = false → starts s c x u → names u c ra oct .w p → kindOk u oct p 1 = true →
  (fillGet u (c / 8) (p / 64) = none → gives (.zero c x oct ra) s fun t => onlyGoesOn u t c x ∧
    ∃ w k, lineGet t (c / 8) (p / 64) =
      some ⟨some (if spanClass u (64 * (p / 64)) 64 = some 0 then .words (List.replicate 16 0) else .octets (zeros 64)),
        true, w, k⟩) ∧
  ∀ f, fillGet u (c / 8) (p / 64) = some f → gives (.zero c x oct ra) s fun t => onlyGoesOn u t c x ∧
    waitsInFill u t (c / 8) (p / 64) f .zero
/-- The ways that hold a locked line of a line's set. -/
def lockedWays (u : State) (cl l : Nat) : List Nat :=
  ((clusterGet u cl).lines.filter fun e => lineSet e.1 == lineSet l && e.2.locked.isSome).map fun e => e.2.way

/-- LOCK waits for a fill of the line, counted (R472). LOCK of a line already locked answers 1; with no lock way of the core's own, 2 (R474); else, with a lock way in the set and
the line read, 0, and the line stands there locked. -/
def lock : Prop := ∀ oct rd ra c x s u p, x.l32 = false → starts s c x u → names u c ra oct .r p → kindOk u oct p 1 = true →
  ((fillGet u (c / 8) (p / 64)).isSome = true → gives (.lock c x oct rd ra) s fun t => fillGet t (c / 8) (p / 64) = none ∧
    regNat t (TC_FILL_WAITS (c / 8)) = (regNat u (TC_FILL_WAITS (c / 8)) + 1) % 2 ^ 32) ∧
  (fillGet u (c / 8) (p / 64) = none → (∃ d b w k, lineGet u (c / 8) (p / 64) = some ⟨d, b, w, some k⟩) →
    gives (.lock c x oct rd ra) s fun t => goesOn u t c x [rd] ∧ flagsOf t c = flagsOf u c ∧ reg t c rd = 1) ∧
  (fillGet u (c / 8) (p / 64) = none → (∀ d b w k, lineGet u (c / 8) (p / 64) ≠ some ⟨d, b, w, some k⟩) → (coreGet u c).task = none →
    gives (.lock c x oct rd ra) s fun t => goesOn u t c x [rd] ∧ flagsOf t c = flagsOf u c ∧ reg t c rd = 2) ∧
  (∀ n k w v d y, fillGet u (c / 8) (p / 64) = none → (∀ d b w k, lineGet u (c / 8) (p / 64) ≠ some ⟨d, b, w, some k⟩) → (coreGet u c).task = some n →
    taskGet u n = some k → (lockWays u (c / 8) (taskParcel u k)).find? (fun w => !(lockedWays u (c / 8) (p / 64)).contains w) = some w →
    lineFetch u (c / 8) (p / 64) x.ecc = (v, some d) → lineGet v (c / 8) (p / 64) = some y →
    gives (.lock c x oct rd ra) s fun t => flagsOf t c = flagsOf u c ∧ reg t c rd = 0 ∧
      (∀ r, r % 32 ≠ rd % 32 → reg t c r = reg u c r) ∧
      lineGet t (c / 8) (p / 64) = some { y with data := some d, way := w, locked := some (taskParcel u k) })
/-- A range operation that its start's projection holds whole: the address moves past the lines, the count is 0 (R471). -/
def rangeOp (i : Nat → Pfx → Bool → Nat → Nat → Instr) (need : Perm) : Prop :=
  ∀ oct ra rb c x s u p lo hi e, x.l32 = false → starts s c x u → ra % 32 ≠ rb % 32 →
  translate u c oct (reg u c ra).toNat 1 need = .ok p lo hi e → (reg u c rb).toNat ≤ hi / 64 + 1 - p / 64 →
  gives (i c x oct ra rb) s fun t => flagsOf t c = flagsOf u c ∧ (coreGet t c).pc = nextPc u c x.enc ∧
    reg t c ra = reg u c ra + BitVec.ofNat 36 ((reg u c rb).toNat * if oct then 64 else 16) ∧ reg t c rb = 0 ∧
    (∀ r, r % 32 ≠ ra % 32 → r % 32 ≠ rb % 32 → reg t c r = reg u c r) ∧ (∀ d, d ≠ c → coreGet t d = coreGet u d) ∧
    (isScratch p = false → tabSorted (clusterGet u (c / 8)).lines = true → (clusterGet u (c / 8)).fills = [] → ∀ l d w k, p / 64 ≤ l →
      l < p / 64 + (reg u c rb).toNat → lineGet t (c / 8) l ≠ some ⟨some d, true, w, k⟩)
def cleanRange : Prop := rangeOp .cleanRange .r
def invalRange : Prop := rangeOp .invalRange .w
def cleanInvalRange : Prop := rangeOp .cleanInvalRange .r
/-- INVAL_I: the line leaves core `c`'s L1 instruction cache and nothing else changes. -/
def invalI : Prop := ∀ oct ra c x s u p, x.l32 = false → starts s c x u → names u c ra oct .x p →
  tabSorted (coreGet u c).icache = true →
  gives (.invalI c x oct ra) s fun t => onlyGoesOn u t c x ∧ tabGet (coreGet t c).icache (p / 64) = none ∧
    (∀ l, l ≠ p / 64 → tabGet (coreGet t c).icache l = tabGet (coreGet u c).icache l) ∧
    t = { u with cs := { u.cs with cores := t.cs.cores } }

/-! Traps (R554-R561) -/

/-- Core `c` has taken a trap of the vector and DETAIL: the saved registers, the upper level, the handler's address (R555). The
general registers are those of `u`, or those before the first operation of a paired word (R536). -/
def trapped (u t : State) (c vec det : Nat) (tepc : Word) : Prop :=
  let k := coreGet t c
  k.tepc = tepc ∧ k.tcause = BitVec.ofNat 36 (det % 256 * 256 + vec) ∧ k.prev = (coreGet u c).lower ∧ k.nest = true ∧
    k.lower = false ∧
    k.pc = codePtr ((coreGet u c).tvbase.getLsbD 35) ((coreGet u c).tvbase.toNat % 2 ^ 35 + 16 * vec) ∧
    k.tvbase = (coreGet u c).tvbase ∧ k.proj = (coreGet u c).proj ∧
    ((coreGet u c).pair = none → k.tflags = flagsWord (coreGet u c).fl)

/-- An operation outside the L32 classes takes the illegal-instruction trap, DETAIL 3, at the upper level with NEST = 0 (R540). -/
def laneTrap (i : Nat → Pfx → Instr) : Prop := ∀ c x s u, x.l32 = true → starts s c x u → (coreGet u c).nest = false →
  (coreGet u c).task = none → gives (i c x) s fun t => trapped u t c 1 3 (coreGet u c).pc ∧ memSame u t
/-- What stands at the code pointer does not decode: the trap that the decoder names (R535, R537, R552). -/
def illegalInstruction : Prop := ∀ c s f w v d, coreRuns s c = true → (coreGet s c).pair = none → (coreGet s c).pc.getLsbD 35 = false →
  fetchWord s c ((coreGet s c).pc.toNat % 2 ^ 35) (coreGet s c).pc .clean = (f, .word w) → decodePaired w.toNat = .trap v d →
  v ≠ 5 → (coreGet f c).nest = false → (coreGet f c).task = none →
  gives (.illegalInstruction c) s fun t => trapped f t c v d (coreGet s c).pc ∧ memSame f t


/-! ## Chapter 09: addresses and caches -/

/-- Projection `i` covers address `a` of a space, and no other does (R463, R464). -/
def covers (x : Core) (oct : Bool) (a i : Nat) : Prop :=
  i < 64 ∧ ∀ j, j < 64 → ((projWord x j 0).getLsbD 35 = true ∧ (projWord x j 0).getLsbD 34 = oct ∧ (projWord x j 1).toNat ≤ a ∧
    a ≤ (projWord x j 2).toNat ↔ j = i)
/-- The bit of word 0 that gives a permission (R463). -/
def permBit : Perm → Nat
  | .r => 30
  | .w => 31
  | .x => 32
/-- Translation (R464): PBASE × 4,096 and the distance from VBASE, in units of 1 octet or of 4; and where it faults: uncovered, without the
permission, SUP at the lower level, across LIMIT, or another cluster's scratchpad (R466). -/
def translates : Prop := ∀ s c oct a n need, (coreGet s c).resetProj = false → 1 ≤ n →
  (∀ i p, covers (coreGet s c) oct a i → p = ((projWord (coreGet s c) i 3).toNat % 2 ^ 32) * 4096 +
      (if oct then 1 else 4) * (a - (projWord (coreGet s c) i 1).toNat) →
    ((projWord (coreGet s c) i 0).getLsbD (permBit need) = true →
      ((projWord (coreGet s c) i 0).getLsbD 29 = false ∨ (coreGet s c).lower = false) →
      a + n - 1 ≤ (projWord (coreGet s c) i 2).toNat → (isScratch p = false ∨ scratchCluster p = c / 8) →
      ∃ lo hi e, translate s c oct a n need = .ok p lo hi e) ∧
    ((projWord (coreGet s c) i 0).getLsbD (permBit need) = false ∨
      ((projWord (coreGet s c) i 0).getLsbD 29 = true ∧ (coreGet s c).lower = true) ∨
      (projWord (coreGet s c) i 2).toNat < a + n - 1 ∨ (isScratch p = true ∧ scratchCluster p ≠ c / 8) →
      ∃ k, translate s c oct a n need = .fault k)) ∧
  ((∀ i, i < 64 → ¬ ((projWord (coreGet s c) i 0).getLsbD 35 = true ∧ (projWord (coreGet s c) i 0).getLsbD 34 = oct ∧
      (projWord (coreGet s c) i 1).toNat ≤ a ∧ a ≤ (projWord (coreGet s c) i 2).toNat)) → translate s c oct a n need = .fault 0)

/-- Every load and store, with its space, size and permission. -/
def accessForm (i : Nat → Pfx → Nat → Nat → Mode → Instr) (oct : Bool) (n : Nat) (need : Perm) : Prop :=
  (i, oct, n, need) ∈ [(.ldw, false, 1, .r), (.ldo8u, true, 1, .r), (.ldo8s, true, 1, .r), (.ldo16u, true, 2, .r), (.ldo16s, true, 2, .r),
    (.ldo32u, true, 4, .r), (.ldo32s, true, 4, .r), (.ldo64, true, 8, .r), (.stw, false, 1, .w), (.sto8, true, 1, .w), (.sto16, true, 2, .w),
    (.sto32, true, 4, .w), (.sto64, true, 8, .w)]
/-- A load or store whose octet address is no multiple of its size takes trap 04h with its size, and one that does not translate trap 03h;
TADDR is its address, no memory changes, and but for an undone first operation (R536) no register of w0 to w31; with NEST = 0 (R466, R525, R555, R556,
R564). -/
def accessTraps : Prop := ∀ i oct n need, accessForm i oct n need → ∀ rd ra m c x s u, x.l32 = false → starts s c x u → rd < 32 → ra < 32 →
  (n = 8 → rd % 2 = 0) → (need = .r → writesBase m = true → rd ≠ ra ∧ (n = 8 → rd + 1 ≠ ra)) →
  (coreGet u c).nest = false →
  (oct = true → 1 < n → address u c ra m % n ≠ 0 → gives (i c x rd ra m) s fun t => trapped u t c 4 n (coreGet u c).pc ∧
    (coreGet t c).taddr = BitVec.ofNat 36 (address u c ra m) ∧ ((coreGet u c).pair = none → ∀ r, reg t c r = reg u c r) ∧ memSame u t) ∧
  (∀ k, (oct = true → 1 < n → address u c ra m % n = 0) → translate u c oct (address u c ra m) n need = .fault k →
    gives (i c x rd ra m) s fun t => trapped u t c 3 k (coreGet u c).pc ∧ (coreGet t c).taddr = BitVec.ofNat 36 (address u c ra m) ∧
      ((coreGet u c).pair = none → ∀ r, reg t c r = reg u c r) ∧ memSame u t)

/-- What cluster `cl` sees at an octet or at a word: its line's data where it holds the line, else DRAM (R457, R458). -/
def seen (s : State) (cl a : Nat) : Octet :=
  match (lineGet s cl (lineOf a)).bind (·.data) with
  | some d => (dataOctets d (a % 64) 1).getD 0 0
  | none => memGet s a
def seenWord (s : State) (cl a : Nat) : Word :=
  match (lineGet s cl (lineOf a)).bind (·.data) with
  | some d => dataWord d (a % 64 / 4)
  | none => wordGet s a
/-- The cluster holds the line's place or has a way in service free for it, so that no line of its set is written back. -/
def roomy (s : State) (cl l : Nat) : Prop :=
  (lineGet s cl l).isSome = true ∨ ∃ w ∈ waysIn s cl 0, ∀ e ∈ (clusterGet s cl).lines, lineSet e.1 = lineSet l → e.2.locked = none → e.2.way ≠ w
/-- The cluster's lines are in order and whole, and so is memory. -/
def whole (s : State) (cl : Nat) : Prop :=
  tabSorted (clusterGet s cl).lines = true ∧ Memory.wf s.dr.mem = true ∧ tabSorted s.dr.words = true ∧
    ∀ l x, lineGet s cl l = some x → (∀ o, x.data = some (.octets o) → o.length = 64) ∧ ∀ w, x.data = some (.words w) → w.length = 16
/-- Nothing but line `l` and what eviction from its set gives up looks different to the cluster, and no memory is written but of that set;
with room nothing else at all. -/
def lineOnly (s t : State) (cl l : Nat) : Prop :=
  (roomy s cl l → memSame s t) ∧ (∀ a, lineSet (lineOf a) ≠ lineSet l → memGet t a = memGet s a ∧ wordGet t a = wordGet s a) ∧
    ∀ a, lineOf a ≠ l → (lineSet (lineOf a) ≠ lineSet l ∨ roomy s cl l) → seen t cl a = seen s cl a ∧ seenWord t cl a = seenWord s cl a
/-- The line of `p` is held as its region's kind, or not at all. -/
def kindHeld (s : State) (cl p : Nat) (oct : Bool) : Prop :=
  ∀ x d, lineGet s cl (lineOf p) = some x → x.data = some d → match d with
    | .octets _ => oct = true
    | .words _ => oct = false

/-- A store outside the scratchpad puts its octets, or its word, where its cluster sees them, and changes nothing else that it sees there;
memory itself changes only by what eviction writes back (R457, R461, R524). -/
def storesReach : Prop := ∀ s cl p e t, isScratch p = false → whole s cl → fillGet s cl (lineOf p) = none →
  (∀ b, kindHeld s cl p true → 1 ≤ b.length → p % 64 + b.length ≤ 64 → storeOctets s cl p b e = (t, true) →
    (∀ k, k < b.length → seen t cl (p + k) = b.getD k 0) ∧
    (∀ a, lineOf a = lineOf p → (a < p ∨ p + b.length ≤ a) → seen t cl a = seen s cl a) ∧ lineOnly s t cl (lineOf p)) ∧
  (∀ v, kindHeld s cl p false → p % 4 = 0 → storeWord s cl p v e = (t, true) → seenWord t cl p = v ∧
    (∀ a, lineOf a = lineOf p → a % 64 / 4 ≠ p % 64 / 4 → a % 4 = 0 → seenWord t cl a = seenWord s cl a) ∧ lineOnly s t cl (lineOf p))
/-- A load outside the scratchpad reads what its cluster sees, and changes nothing that it sees; a fill of its line installs first (R457, R461,
R472, R524). -/
def loadsSee : Prop := ∀ s cl p e t, isScratch p = false → whole s cl →
  (∀ f o n d, fillGet s cl (lineOf p) = some f → f.ops = [] → f.data = .octets o → loadOctets s cl p n e = (t, some d) →
    d = slice o (p % 64) n ∧ fillGet t cl (lineOf p) = none ∧ memSame s t) ∧
  (∀ n d, fillGet s cl (lineOf p) = none → kindHeld s cl p true → 1 ≤ n → p % 64 + n ≤ 64 → loadOctets s cl p n e = (t, some d) → d.length = n ∧
    (∀ k, k < n → d.getD k 0 = seen s cl (p + k)) ∧ (∀ a, lineOf a = lineOf p → seen t cl a = seen s cl a) ∧ lineOnly s t cl (lineOf p)) ∧
  (∀ v, fillGet s cl (lineOf p) = none → kindHeld s cl p false → p % 4 = 0 → loadWord s cl p e = (t, some v) → v = seenWord s cl p ∧
    (∀ a, lineOf a = lineOf p → a % 4 = 0 → seenWord t cl a = seenWord s cl a) ∧ lineOnly s t cl (lineOf p))
/-- The scratchpad is reached directly: in a way that is in SCRATCH a store is in memory at once and a load reads it; in another a store is
discarded and a load reads 0 (R482). -/
def scratchReached : Prop := ∀ s cl p e, isScratch p = true → Memory.wf s.dr.mem = true →
  (∀ b, scratchLive s p = true → ∃ t, storeOctets s cl p b e = (t, true) ∧ (∀ k, k < b.length → memGet t (p + k) = b.getD k 0) ∧
    (∀ a, a < p ∨ p + b.length ≤ a → memGet t a = memGet s a) ∧ ∀ a, wordGet t a = wordGet s a) ∧
  (∀ b, scratchLive s p = false → storeOctets s cl p b e = (s, true)) ∧
  (∀ n, scratchLive s p = true → loadOctets s cl p n e = (s, some ((List.range n).map fun k => memGet s (p + k)))) ∧
  (∀ n, scratchLive s p = false → loadOctets s cl p n e = (s, some (List.replicate n 0)))

/-! ## Chapter 04: the grant of tokens -/

/-- The accrual and grant of one class (R183, R227). -/
def grantIs (x y : Parcel) (cls : Nat) : Prop :=
  let a := x.accr.getD cls 0 + x.rate.getD cls 0
  let depth : Int := max 1 (x.depth.getD cls 64)
  (depth ≤ x.bal.getD cls 0 → y.accr.getD cls 0 = 0 ∧ y.bal.getD cls 0 = x.bal.getD cls 0) ∧
  (x.bal.getD cls 0 < depth → y.accr.getD cls 0 = a % 256 ∧ y.bal.getD cls 0 = min depth (x.bal.getD cls 0 + (a / 256 : Nat)))
/-- Step 6 of a boundary grants every ACTIVE parcel its tokens of each class and no other parcel any; the device's grants rise with the
balances (R43, R183, R184). -/
def grantsTokens : Prop := ∀ s, tabSorted s.pc.parcels = true →
  (∀ k x, tabGet s.pc.parcels k = some x →
    (x.st = .active → ∀ cls, cls < 4 → cls < x.bal.length → cls < x.accr.length → grantIs x (parGet (grantAll s) k) cls) ∧
    (x.st ≠ .active → (parGet (grantAll s) k).bal = x.bal ∧ (parGet (grantAll s) k).accr = x.accr)) ∧
  ∀ k x, s.pc.parcels = [(k, x)] → ∀ cls, cls < 4 → cls < x.bal.length → cls < s.fr.grants.length →
    (grantAll s).fr.grants.getD cls 0 - s.fr.grants.getD cls 0 = (parGet (grantAll s) k).bal.getD cls 0 - x.bal.getD cls 0


/-! ## Chapter 10: traps of the decode checks -/

/-- The operation takes the illegal-instruction trap with DETAIL `d` where core `c` starts it with NEST = 0, and no memory changes (R554,
R555, R564). -/
def illegal (i : Nat → Pfx → Instr) (d : Nat) (P : State → Nat → Pfx → Prop) : Prop := ∀ c x s u, starts s c x u →
  (coreGet u c).nest = false → P u c x → gives (i c x) s fun t => trapped u t c 1 d (coreGet u c).pc ∧ memSame u t ∧
    ((coreGet u c).pair = none → ∀ r, reg t c r = reg u c r)
/-- Loads by their octets; a word counts as 0. -/
def loadForm (i : Nat → Pfx → Nat → Nat → Mode → Instr) (n : Nat) : Prop :=
  (i, n) ∈ [(.ldw, 0), (.ldo8u, 1), (.ldo8s, 1), (.ldo16u, 2), (.ldo16s, 2), (.ldo32u, 4), (.ldo32s, 4), (.ldo64, 8)]
/-- A load in mode 2 or 3 whose data register, or whose second pair register for LDO64, is the base register (R527). -/
def baseConflicts : Prop := ∀ i n, loadForm i n → ∀ rd ra m, rd < 32 → ra < 32 → writesBase m = true →
  (rd = ra → (n = 8 → rd % 2 = 0) → illegal (fun c x => i c x rd ra m) 5 fun _ _ x => x.l32 = false) ∧
  (n = 8 → rd % 2 = 0 → rd + 1 = ra → illegal (fun c x => i c x rd ra m) 5 fun _ _ x => x.l32 = false)
/-- An odd register of a pair (R524, R548). -/
def oddPairs : Prop := ∀ rd, rd % 2 = 1 →
  (∀ ra rb, ∀ i : Nat → Pfx → Nat → Nat → Nat → Instr, i ∈ [.mulu, .muls, .divu, .divs] → illegal (fun c x => i c x rd ra rb) 4 fun _ _ _ => True) ∧
  ∀ ra m, ∀ i : Nat → Pfx → Nat → Nat → Mode → Instr, i ∈ [.ldo64, .sto64] → illegal (fun c x => i c x rd ra m) 4 fun _ _ x => x.l32 = false
/-- A bit field of no width, or beyond bit 35 (R549). -/
def fieldsOut : Prop := ∀ rd ra p n, n = 0 ∨ 36 < p + n → ∀ i : Nat → Pfx → Nat → Nat → Nat → Nat → Instr, i ∈ [.ext, .exts, .ins] →
  illegal (fun c x => i c x rd ra p n) 7 fun _ _ _ => True
/-- MFSR, MTSR and RETT at the lower level (R553): the trap ends the task and its invocation with PROGRAM_TRAP, whose dword 0 holds the vector
and the core, counted with event 435 (R485, R503, R506). -/
def privileged : Prop := ∀ i : Nat → Pfx → Instr, (∃ rd n, i = fun c x => .mfsr c x rd n) ∨ (∃ ra n, i = fun c x => .mtsr c x ra n) ∨
    i = (fun c x => .rett c x) →
  illegal i 2 (fun u c x => (coreGet u c).lower = true ∧ x.l32 = false) ∧
  ∀ c x s u n d k, starts s c x u → (coreGet u c).nest = false → (coreGet u c).lower = true → x.l32 = false → (coreGet u c).task = some n →
    taskGet u n = some d → invGet u d.inv = some k → k.ended = none → tabSorted u.cs.tasks = true → gives (i c x) s fun t =>
      taskGet t n = none ∧ invGet t d.inv = some { k with ended := some (.programTrap, 1 + 256 * c, (coreGet u c).pc.toNat % 2 ^ 32) } ∧
        evPending t 435 = true ∧ regNat t TS_TRAP_ENDS = (regNat u TS_TRAP_ENDS + 1) % 2 ^ 32
/-- L32 before an operation outside its classes (R540). -/
def laneTraps : Prop := ∀ rd ra m n, ∀ i : Nat → Pfx → Instr,
  i ∈ [fun c x => .ldw c x rd ra m, fun c x => .sto8 c x rd ra m, fun c x => .mov c x rd ra, fun c x => .mff c x rd, fun c x => .mtf c x ra,
    fun c x => .movi c x rd 0, fun c x => .b c x 14 0, fun c x => .jmpr c x ra, fun c x => .ret c x, fun c x => .nop c x,
    fun c x => .exit_ c x, fun c x => .frame c x, fun c x => .sync c x, fun c x => .clean c x true ra, fun c x => .mfsr c x rd n] →
  illegal i 3 fun _ _ x => x.l32 = true
/-- A data access that finds an uncorrectable line or a region of the other kind is a machine check: vector 05h, DETAIL 1, counted, and
neither memory nor a register of w0 to w31 changes (R527, R641, R655). -/
def machineChecks : Prop := ∀ i oct n need, accessForm i oct n need → ∀ rd ra m c x s u p, x.l32 = false → starts s c x u → rd < 32 →
  ra < 32 → (n = 8 → rd % 2 = 0) → (need = .r → writesBase m = true → rd ≠ ra ∧ (n = 8 → rd + 1 ≠ ra)) → (coreGet u c).nest = false →
  reaches u c ra m oct n need p →
  (need = .r → oct = true → (loadOctets u (c / 8) p n x.ecc).2 = none) → (need = .r → oct = false → (loadWord u (c / 8) p x.ecc).2 = none) →
  (need = .w → oct = true → n ≠ 8 → (storeOctets u (c / 8) p (leBytes n (reg u c rd).toNat) x.ecc).2 = false) →
  (n = 8 → need = .w →
    (storeOctets u (c / 8) p (leBytes 4 (reg u c rd).toNat ++ leBytes 4 (reg u c (rd + 1)).toNat) x.ecc).2 = false) →
  (need = .w → oct = false → (storeWord u (c / 8) p (reg u c rd) x.ecc).2 = false) →
  gives (i c x rd ra m) s fun t => trapped u t c 5 1 (coreGet u c).pc ∧ memSame u t ∧
    ((coreGet u c).pair = none → ∀ r, reg t c r = reg u c r) ∧
    regNat t (TC_MCHECK_COUNT (c / 8)) = (regNat u (TC_MCHECK_COUNT (c / 8)) + 1) % 2 ^ 32
/-- An error trap with NEST = 1 stops the core: its bit of TC_STATUS.STOPPED, its cluster's event; clusters 2 to 7 are then reset (R559). -/
def nestedStops : Prop := ∀ rd ra rb c x s u, rd % 2 = 1 → starts s c x u → (coreGet u c).nest = true →
  ∀ i : Nat → Pfx → Nat → Nat → Nat → Instr, i ∈ [.mulu, .muls, .divu, .divs] → gives (i c x rd ra rb) s fun t =>
    regBit t (TC_STATUS (c / 8)) (8 + c % 8) = true ∧ evPending t (384 + 6 * (c / 8) + 2) = true ∧
      (16 ≤ c → (clusterGet t (c / 8)).resetReq = true ∧ memSame u t)
/-- Conditions by their codes, and Fh in a branch or a select (R550). -/
def conditions : Prop := (∀ f : Flags, condHolds 0 f = f.z ∧ condHolds 1 f = !f.z ∧ condHolds 2 f = f.c ∧ condHolds 3 f = !f.c ∧
    condHolds 4 f = f.n ∧ condHolds 5 f = !f.n ∧ condHolds 6 f = f.v ∧ condHolds 7 f = !f.v ∧ condHolds 8 f = (f.c && !f.z) ∧
    condHolds 9 f = (!f.c || f.z) ∧ condHolds 10 f = (f.n == f.v) ∧ condHolds 11 f = (f.n != f.v) ∧
    condHolds 12 f = (!f.z && f.n == f.v) ∧ condHolds 13 f = (f.z || f.n != f.v) ∧ condHolds 14 f = true) ∧
  ∀ w, w < 2 ^ 35 → (bitsOf w 34 28 = 0x58 → bitsOf w 27 24 = 15 → decodePaired w = .trap 1 6) ∧
    (bitsOf w 34 28 = 0x18 → bitsOf w 12 9 = 15 → bitsOf w 8 0 = 0 → decodePaired w = .trap 1 6)


/-! ## Chapter 10: what the paired encoding of a long operation admits (R532, R533, R551) -/

/-- A signed immediate of `n` bits, and one that is not. -/
def fitsSigned (n : Nat) (v : Word) : Prop := -(2 ^ (n - 1) : Int) ≤ v.toInt ∧ v.toInt < 2 ^ (n - 1)
def fitsDisp (n : Nat) (d : Int) : Prop := -(2 ^ (n - 1) : Int) ≤ d ∧ d < 2 ^ (n - 1)
def fitsMode : Mode → Prop
  | .off d => fitsSigned 15 d
  | .post d => fitsSigned 15 d
  | .pre d => d.toNat < 2 ^ 15
  | .idx rb k => rb < 32 ∧ (k = 1 ∨ k = 2 ∨ k = 4 ∨ k = 8)
/-- The operands of a long operation have an encoding: registers 0 to 31, immediates and displacements within their fields, conditions 0
to 14. The Q-forms of the short operations have none. -/
def encodable : Tuirus → Prop
  | .clean _ ra => ra < 32
  | .inval _ ra => ra < 32
  | .cleanInval _ ra => ra < 32
  | .zero _ ra => ra < 32
  | .lock _ rd ra => rd < 32 ∧ ra < 32
  | .unlock _ ra => ra < 32
  | .cleanRange _ ra rb => ra < 32 ∧ rb < 32
  | .invalRange _ ra rb => ra < 32 ∧ rb < 32
  | .cleanInvalRange _ ra rb => ra < 32 ∧ rb < 32
  | .invalI _ ra => ra < 32
  | .unknownSupervisorCall n => 10 < n ∧ n < 512
  | .add rd ra rb | .adc rd ra rb | .sub rd ra rb | .sbc rd ra rb | .and_ rd ra rb | .or_ rd ra rb | .xor rd ra rb | .andn rd ra rb
  | .shl rd ra rb | .shr rd ra rb | .sar rd ra rb | .ror rd ra rb | .mulu rd ra rb | .muls rd ra rb | .divu rd ra rb | .divs rd ra rb =>
    rd < 32 ∧ ra < 32 ∧ rb < 32
  | .cmp ra rb | .tst ra rb | .mov ra rb | .neg ra rb | .not_ ra rb | .clz ra rb | .popc ra rb => ra < 32 ∧ rb < 32
  | .sel c rd ra rb => c < 15 ∧ rd < 32 ∧ ra < 32 ∧ rb < 32
  | .mff r | .mtf r | .jmpr r | .callr r => r < 32
  | .addi rd ra v => rd < 32 ∧ ra < 32 ∧ fitsSigned 18 v
  | .cmpi ra v => ra < 32 ∧ fitsSigned 18 v
  | .andi rd ra v | .ori rd ra v | .xori rd ra v => rd < 32 ∧ ra < 32 ∧ v.toNat < 2 ^ 18
  | .shli rd ra k | .shri rd ra k | .sari rd ra k | .rori rd ra k => rd < 32 ∧ ra < 32 ∧ k < 64
  | .ext rd ra p n | .exts rd ra p n | .ins rd ra p n => rd < 32 ∧ ra < 32 ∧ p < 64 ∧ n < 64
  | .movhi rd v => rd < 32 ∧ v.toNat < 2 ^ 18
  | .mfsr r n | .mtsr r n => r < 32 ∧ n < 2 ^ 18
  | .movi rd v => rd < 32 ∧ fitsSigned 23 v
  | .ldw rd ra m | .stw rd ra m | .ldo8u rd ra m | .ldo8s rd ra m | .ldo16u rd ra m | .ldo16s rd ra m | .ldo32u rd ra m | .ldo32s rd ra m
  | .ldo64 rd ra m | .sto8 rd ra m | .sto16 rd ra m | .sto32 rd ra m | .sto64 rd ra m => rd < 32 ∧ ra < 32 ∧ fitsMode m
  | .b c d => c < 15 ∧ fitsDisp 24 d
  | .call d => fitsDisp 28 d
  | .sync | .exit_ | .yield_ | .delay | .spawn | .flowOpen | .flowClose | .flowRelease | .engineSubmit | .engineWait | .gzSubmit | .frame
  | .ret | .rett | .nop => True
  | .addq _ _ | .subq _ _ | .cmpq _ _ | .shlq _ _ | .shrq _ _ | .sarq _ _ | .movq _ _ => False

/-- A register field of the words written out in a statement. -/
def encodes (i : Tuirus) : Prop := ∃ w, encodeLong i = some w ∧ w < 2 ^ 36 ∧ decodePaired w = .ops [i]

/-! ## Chapter 03: words about tickets -/

/-- Ticket `tk` is a started command of an opcode, admin or I/O. -/
def started (s : State) (tk : Nat) (adm : Bool) (opc : Nat) : Prop :=
  (tkGet s tk).busy = true ∧ (tkGet s tk).admin = adm ∧ (tkGet s tk).phase = .started ∧ (tkGet s tk).cmd.opc = opc

/-- The command of ticket `tk` has ended with a status, and its completion is due. -/
def ends (t : State) (tk : Nat) (st : Status) : Prop :=
  (tkGet t tk).phase = .done ∧ (tkGet t tk).status = st ∧ (tkGet t tk).busy = true

/-- Every ticket but `tk` is as it was. -/
def otherTickets (s t : State) (tk : Nat) : Prop := ∀ i, i ≠ tk → tkGet t i = tkGet s i

/-! ## Chapter 09: tasks, supervisor calls and ways -/

/-- A task's call from core `c`: it starts at the lower level with task `n`, described by `d`, on the core (R500, R561). -/
def calls (s : State) (c : Nat) (x : Pfx) (u : State) (n : Nat) (d : Task) : Prop :=
  x.l32 = false ∧ starts s c x u ∧ (coreGet u c).lower = true ∧ (coreGet u c).task = some n ∧ taskGet u n = some d

/-- The call has returned: w0 holds the status, w1 the result where there is one; every other register, the flags and the level
are as before, and the core goes on behind the call (R500, R561). -/
def returned (u t : State) (c : Nat) (x : Pfx) (st : Nat) (res : Option Word) : Prop :=
  flagsOf t c = flagsOf u c ∧ (coreGet t c).lower = true ∧ (coreGet t c).pc = nextPc u c x.enc ∧
    reg t c 0 = BitVec.ofNat 36 st ∧ reg t c 1 = res.getD (reg u c 1) ∧
    (∀ r, r % 32 ≠ 0 → r % 32 ≠ 1 → reg t c r = reg u c r) ∧ ∀ d, d ≠ c → coreGet t d = coreGet u d

/-- Nothing outside the cores has changed. -/
def onlyCores (u t : State) : Prop := t = { u with cs := { u.cs with cores := t.cs.cores } }

/-- The save area of a task that has given up core `c` in a call that returned status 0. -/
def savedAfter (u : State) (c : Nat) (x : Pfx) (y : Ctx) : Prop :=
  y.pc = nextPc u c x.enc ∧ y.fl = flagsOf u c ∧ tabGetD y.w 0 0 = 0 ∧
    ∀ r, r % 32 ≠ 0 → tabGetD y.w (r % 32) 0 = reg u c r

def frameCall : Prop := ∀ c x s u n d, calls s c x u n d → gives (.frame c x) s fun t =>
  returned u t c x 0 (some (BitVec.ofNat 36 u.fr.count.toNat)) ∧ onlyCores u t
def unknownCall : Prop := ∀ c x num s u n d, calls s c x u n d → 10 < num → gives (.unknownSupervisorCall c x num) s fun t =>
  returned u t c x 3 none ∧ onlyCores u t
/-- EXIT: the task's descriptor is free; a root task ends its invocation with SUCCESS and bits [31:0] of w1 (R500, R503). -/
def exit : Prop := ∀ c x s u n d, calls s c x u n d → tabSorted u.cs.tasks = true → gives (.exit_ c x) s fun t =>
  taskGet t n = none ∧ ∀ i, invGet u d.inv = some i → i.ended = none →
    invGet t d.inv = some (if d.root then { i with ended := some (.success, (reg u c 1).toNat % 2 ^ 32, 0) } else i)
/-- YIELD: the task stands at the tail of a list, or runs again at once; it goes on behind the call (R485, R490). -/
def yield : Prop := ∀ c x s u n d, calls s c x u n d → gives (.yield_ c x) s fun t =>
  ∃ y, taskGet t n = some y ∧ (y.st = .ready ∨ y.st = .running) ∧ y.since = frameNo u ∧ savedAfter u c x y.ctx
/-- DELAY of 1 to 16,777,216 frames: the task is DELAYED and gives up its core; any other count is BAD_CALL (R489, R500). -/
def delay : Prop := ∀ c x s u n d, calls s c x u n d → tabSorted u.cs.tasks = true →
  (1 ≤ (reg u c 1).toNat → (reg u c 1).toNat ≤ 16777216 → gives (.delay c x) s fun t =>
    (∃ y, taskGet t n = some y ∧ y.st = .delayed ∧ y.wake = frameNo u + (reg u c 1).toNat ∧ savedAfter u c x y.ctx) ∧
      (coreGet t c).task ≠ some n) ∧
  ((reg u c 1).toNat = 0 ∨ 16777216 < (reg u c 1).toNat → gives (.delay c x) s fun t => returned u t c x 3 none ∧ onlyCores u t)
/-- SPAWN of a task without a flow: it is READY, starts at w1 with w2 in its w1, and no higher than its parcel's ceiling (R485,
R491, R500). -/
def spawn : Prop := ∀ c x s u n d, calls s c x u n d → (reg u c 3).toNat ≤ 7 → reg u c 4 = BitVec.allOnes 36 →
  (parcelTasks u (taskParcel u d)).length < (parGet u (taskParcel u d)).lim.tasks →
  (invTasks u d.inv).length < ((invGet u d.inv).map (·.maxTasks)).getD 0 → 0 < tasksFree u →
  gives (.spawn c x) s fun t => returned u t c x 0 (some (handleOf u.cs.nextTask)) ∧
    ∃ y, taskGet t u.cs.nextTask = some y ∧ y.st = .ready ∧ y.inv = d.inv ∧ y.root = false ∧ y.ctx.pc = reg u c 1 ∧
      tabGetD y.ctx.w 1 0 = reg u c 2 ∧ y.prio = max (reg u c 3).toNat (parGet u (taskParcel u d)).lim.prio
def flowOpen : Prop := ∀ c x s u n d f, calls s c x u n d →
  (parcelFlows u (taskParcel u d)).length < (parGet u (taskParcel u d)).lim.flows → tabFree u.cs.flows 0 16384 = some f →
  gives (.flowOpen c x) s fun t => returned u t c x 0 (some (handleOf f)) ∧ tabGet t.cs.flows f = some { inv := d.inv }
def flowClose : Prop := ∀ c x s u n d f, calls s c x u n d → tabSorted u.cs.flows = true → flowBy u d.inv (reg u c 1) = some f →
  (u.cs.tasks.any fun e => e.2.flow == some f) = false →
  gives (.flowClose c x) s fun t => returned u t c x 0 none ∧ tabGet t.cs.flows f = none
/-- FLOW_RELEASE: the holder gives its flow up, and is bound to it no more (R488). -/
def flowReleaseCall : Prop := ∀ c x s u n d, calls s c x u n d → gives (.flowRelease c x) s fun t => returned u t c x 0 none ∧
  (d.flow = none → onlyCores u t) ∧
  ∀ f i, d.flow = some f → tabGet u.cs.flows f = some ⟨i, some n⟩ →
    tabGet t.cs.flows f = some ⟨i, none⟩ ∧ (taskGet t n).map (·.flow) = some none

/-- The state inside a call, which the trap has entered. -/
def inCall (u : State) (c : Nat) (x : Pfx) (num : Nat) : State := takeTrap u c 6 0 (nextPc u c x.enc) (BitVec.ofNat 36 num)

/-- The job as its submission fills its owner in (R356, R502). -/
def jobOf (g : Eng) (i : Invoc) (inv : Nat) (device : Bool) (desc : Bytes) : Job :=
  { eng := g, desc := putAt desc 6 (descOwner i device), parcel := if device then none else some i.parcel
    pEdition := i.pEdition, ticket := i.ticket, tEdition := i.tEdition, inv := some inv }

/-- A submission that its checks pass: the descriptor is read, its spans translate, and there is room. -/
def submits (u : State) (c : Nat) (x : Pfx) (num : Nat) (g : Eng) (device : Bool) (d : Task) (i : Invoc) (desc pd : Bytes) (v : State) :
    Prop :=
  invGet u d.inv = some i ∧ (device = true → i.oper = true) ∧
    ∃ p, spanPhys (inCall u c x num) c (reg u c 1).toNat 64 .r = some p ∧ octetsIn (inCall u c x num) p 64 8 = (v, some desc) ∧
      descPhys v c (jobOf g i d.inv device desc) (spansOf v (jobOf g i d.inv device desc)) = some pd ∧
      parcelJobs v i.parcel < 64 ∧ queueFull v g = false

/-- ENGINE_SUBMIT: the job waits in its engine's queue, and w1 is its handle (R500, R502). -/
def engineSubmit : Prop := ∀ c x s u n d i desc pd v, calls s c x u n d → 1 ≤ (reg u c 2).toNat → (reg u c 2).toNat ≤ 3 →
  submits u c x 7 (engOf (reg u c 2).toNat) ((reg u c 3).getLsbD 0) d i desc pd v →
  gives (.engineSubmit c x) s fun t => returned u t c x 0 (some (handleOf v.en.nextJob)) ∧
    jobGet t v.en.nextJob = some { jobOf (engOf (reg u c 2).toNat) i d.inv ((reg u c 3).getLsbD 0) desc with
      desc := pd, order := v.en.nextJob, handle := handleOf v.en.nextJob }
/-- GZ_SUBMIT: its handle is the RESULT address of the descriptor, and w1 stays (R572). -/
def gzSubmit : Prop := ∀ c x s u n d i desc pd v, calls s c x u n d →
  submits u c x 9 .gz ((reg u c 2).getLsbD 0) d i desc pd v →
  gives (.gzSubmit c x) s fun t => returned u t c x 0 none ∧
    jobGet t v.en.nextJob = some { jobOf .gz i d.inv ((reg u c 2).getLsbD 0) desc with
      desc := pd, order := v.en.nextJob, handle := BitVec.ofNat 36 (leAt desc 40 8) }
/-- ENGINE_WAIT: the status of a job that has its record; else the task is BLOCKED on it (R485, R500) and calls again when it runs
(log 50). -/
def engineWait : Prop := ∀ c x s u n d k j, calls s c x u n d → tabSorted u.cs.tasks = true → jobBy u d.inv (reg u c 1) = some (k, j) →
  (j.phase = .ended → gives (.engineWait c x) s fun t => returned u t c x 0 (some (BitVec.ofNat 36 j.status))) ∧
  (j.phase ≠ .ended → gives (.engineWait c x) s fun t => (coreGet t c).task ≠ some n ∧
    ∃ y, taskGet t n = some y ∧ y.st = .blocked ∧ y.wait = some (.job k) ∧ y.ctx.pc = (coreGet u c).pc)

/-- Every task but `n` is as it was. -/
def otherTasks (s t : State) (n : Nat) : Prop := ∀ m, m ≠ n → taskGet t m = taskGet s m

/-- Task `n` has become READY at the tail of a list (R485). -/
def madeReady (s t : State) (n : Nat) (d : Task) : Prop :=
  ∃ y, taskGet t n = some y ∧ y.st = .ready ∧ y.since = frameNo s ∧ y.seq = s.cs.seq ∧ y.ctx = d.ctx ∧ y.prio = d.prio ∧
    y.inv = d.inv ∧ y.flow = d.flow

def taskWakes : Prop := ∀ n s d, taskGet s n = some d →
  (d.st = .delayed ∧ d.wake ≤ frameNo s → gives (.taskWake n) s fun t => madeReady s t n d ∧ otherTasks s t n) ∧
  (¬ (d.st = .delayed ∧ d.wake ≤ frameNo s) → gives (.taskWake n) s fun t => t = s)
def taskUnblocks : Prop := ∀ n s d, taskGet s n = some d →
  (d.st = .blocked → (d.unblock = true ∨ ∃ e, d.wait = some (.space e) ∧ queueFull s (engOf e) = false) →
    gives (.taskUnblock n) s fun t => madeReady s t n d ∧ otherTasks s t n) ∧
  (d.st ≠ .blocked → gives (.taskUnblock n) s fun t => t = s)
/-- FLOW_HANDOFF: of the tasks that wait for a free flow, one that entered FLOW_WAIT earliest becomes READY and holds it (R488). -/
def handsOff : Prop := ∀ f s i, tabGet s.cs.flows f = some ⟨i, none⟩ → tabSorted s.cs.tasks = true →
  (∃ n d, taskGet s n = some d ∧ d.st = .flowWait ∧ d.flow = some f) →
  gives (.flowHandoff f) s fun t => ∃ n d, taskGet s n = some d ∧ d.st = .flowWait ∧ d.flow = some f ∧
    (∀ m e, taskGet s m = some e → e.st = .flowWait → e.flow = some f → d.seq ≤ e.seq) ∧
    tabGet t.cs.flows f = some ⟨i, some n⟩ ∧ madeReady s t n d ∧ otherTasks s t n
/-- The clusters a task may move to: allowed, with a pool core (R487). -/
def movesTo (s : State) (d : Task) : List Nat := (List.range 8).filter fun cl => taskAllows s d cl && hasPool s cl
/-- TASK_CLUSTER_MOVE out of a cluster that is not allowed or has no pool core, or of a task READY for CLUSTER_WINDOW frames at the last
dispatch at which its cluster had no idle core and another had: to the one with the fewest ready tasks; SINCE stays and LAST_VALID is
lost. Any other task stays (R487). -/
def clusterMove : Prop := ∀ n s d w, taskGet s n = some d → w = bitsOf s.cs.affinity 23 12 →
  (∀ k, d.st = .ready → (taskAllows s d d.cluster = false ∨ hasPool s d.cluster = false) → fewest s (movesTo s d) = some k →
    gives (.taskClusterMove n) s fun t => taskGet t n = some { d with cluster := k, last := none } ∧ otherTasks s t n) ∧
  (∀ k, d.st = .ready → taskAllows s d d.cluster = true → hasPool s d.cluster = true → w ≠ 0 → d.since + w ≤ s.cs.idleAt →
    d.cluster ∉ s.cs.idle → fewest s ((movesTo s d).filter fun cl => decide (cl ∈ s.cs.idle)) = some k →
    gives (.taskClusterMove n) s fun t => taskGet t n = some { d with cluster := k, last := none } ∧ otherTasks s t n) ∧
  (d.st ≠ .ready ∨ taskAllows s d d.cluster = true ∧ hasPool s d.cluster = true ∧ (w = 0 ∨ s.cs.idleAt < d.since + w ∨ d.cluster ∈ s.cs.idle) →
    gives (.taskClusterMove n) s fun t => t = s)
/-- SLICE_PREEMPTION of a running slice of an earlier frame: the core takes trap 7 and has no task; the task is READY with its
registers saved (R485, R555, R558). -/
def slicePreempted : Prop := ∀ c s n d, 16 ≤ c → (coreGet s c).task = some n → (coreGet s c).lower = true →
  (coreGet s c).sliceAt < frameNo s → (coreGet s c).pair = none → taskGet s n = some d →
  gives (.slicePreemption c) s fun t => (coreGet t c).task = none ∧ trapped s t c 7 0 (coreGet s c).pc ∧
    (∀ r, reg t c r = reg s c r) ∧
    ∃ y, taskGet t n = some y ∧ y.st = .ready ∧ y.since = frameNo s ∧ y.ctx.pc = (coreGet s c).pc ∧ y.ctx.fl = flagsOf s c ∧
      ∀ r, tabGetD y.ctx.w (r % 32) 0 = reg s c r

/-! Ways, owners and pools (R479-R483, R492, R512) -/

/-- WAY_MODE_WRITE: TC_WAY_MODE takes the value and nothing is changing yet; or it is ignored and REFUSED is set (R480, R481). -/
def wayModeWrite : Prop := ∀ cl v s, cl < 8 → v < 2 ^ 32 →
  (wayRefused s cl v = false → gives (.wayModeWrite cl v) s fun t => regNat t (TC_WAY_MODE cl) = v ∧
    regsSameBut s t [TC_WAY_MODE cl] ∧ (∀ w, wayChanging t cl w = wayChanging s cl w) ∧ memSame s t) ∧
  (wayRefused s cl v = true → gives (.wayModeWrite cl v) s fun t => regBit t (TC_WAY_STATE cl) 31 = true ∧
    regsSameBut s t [TC_WAY_STATE cl] ∧ clusterGet t cl = clusterGet s cl ∧ memSame s t)
/-- WAY_MODE_CHANGE_START: every change asked for has begun (R480). -/
def wayChangeStart : Prop := ∀ cl s, cl < 8 → gives (.wayModeChangeStart cl) s fun t =>
  (∀ x ∈ (clusterGet t cl).changes, x.start.isSome = true) ∧
    (∀ x ∈ (clusterGet s cl).changes, x.start = none → x.way < 16 → regBit t (TC_WAY_STATE cl) x.way = true)
/-- WAY_MODE_CHANGE_COMPLETE: every change that had begun is over, and event 384 + 6c is pending (R480). -/
def wayChangeComplete : Prop := ∀ cl s, cl < 8 → (∃ x ∈ (clusterGet s cl).changes, x.start.isSome = true) →
  (∀ x ∈ (clusterGet s cl).changes, x.way < 16) →
  gives (.wayModeChangeComplete cl) s fun t => evPending t (384 + 6 * cl) = true ∧
    (clusterGet t cl).changes = (clusterGet s cl).changes.filter (·.start.isNone) ∧
    ∀ x ∈ (clusterGet s cl).changes, x.start.isSome = true → regBit t (TC_WAY_STATE cl) x.way = false
/-- WAY_OWNER_WRITE of a way in SERVICE or FENCED with no change asked for: owner and VALID as written; else REFUSED (R512). -/
def wayOwnerWrite : Prop := ∀ cl w v s, cl < 8 → w < 16 → v < 2 ^ 32 →
  (wayMode s cl w < 2 → ((clusterGet s cl).changes.any (·.way == w)) = false → gives (.wayOwnerWrite cl w v) s fun t =>
    regFld t (TC_WAY_OWNER cl w) 9 0 = bitsOf v 9 0 ∧ regBit t (TC_WAY_OWNER cl w) 31 = bitOf v 31 ∧
      regsSameBut s t [TC_WAY_OWNER cl w]) ∧
  (2 ≤ wayMode s cl w ∨ ((clusterGet s cl).changes.any (·.way == w)) = true → gives (.wayOwnerWrite cl w v) s fun t =>
    regBit t (TC_WAY_STATE cl) 31 = true ∧ regsSameBut s t [TC_WAY_STATE cl])
/-- POOL_WRITE asks for a pool of clusters 2 to 7; clusters 0 and 1 ignore it. The pool in effect is unchanged (R492, R510). -/
def poolWritten : Prop := ∀ cl v s, cl < 8 → gives (.poolWrite cl v) s fun t => t.cs = s.cs ∧
  (cl < 2 → t = s) ∧ (2 ≤ cl → regFld t (TC_POOL cl) 7 0 = v % 256 ∧ regsSameBut s t [TC_POOL cl])
/-- POOL_CHANGE_EFFECT with no core withdrawn: the pool in effect is the one asked for (R492). -/
def poolChange : Prop := ∀ cl s, 2 ≤ cl → cl < 8 → regFld s (TC_POOL cl) 7 0 ≠ (clusterGet s cl).pool →
  (∀ k, k < 8 → bitOf (clusterGet s cl).pool k = true → bitOf (regFld s (TC_POOL cl) 7 0) k = true) →
  gives (.poolChangeEffect cl) s fun t => (clusterGet t cl).pool = regFld s (TC_POOL cl) 7 0

/-! ## Chapter 09: programs and memory ranges -/

/-- An I/O command of the compute command set whose work has not begun. -/
def fresh (s : State) (tk opc p : Nat) : Prop :=
  started s tk false opc ∧ (tkGet s tk).begun = false ∧ (tkGet s tk).r2t = false ∧ (tkGet s tk).parcel = some p

/-- LOAD_PROGRAM of an image that keeps R496 and R497 into an inactive slot: the program stands there, not active, its code word
for word in memory. -/
def programLoaded : Prop := ∀ tk img s p v, started s tk true 0x20 → tkBme s tk = true → (tkGet s tk).parcel = some p →
  let idx := bitsOf (tkGet s tk).cmd.cdw10 15 0
  idx ≤ 63 → imgLength img = true → imgHeader img = true → imgOperator img = false → progActive s p idx = false →
  progsFull s p idx = false → progInstall s p idx img = some v → tabSorted s.dr.words = true →
  gives (.loadProgram tk img) s fun t => ends t tk .success ∧ otherTickets s t tk ∧ ∃ g, tabGet t.cs.progs (progKey p idx) = some g ∧
    g.active = false ∧ g.codeWords = imgCode img ∧ g.entry = imgEntry img ∧ g.budget = imgBudget img ∧
    g.maxTasks = imgTasks img ∧ g.data = (List.range (imgData img)).map (fun k => imgWord img (imgCode img + k)) ∧
    (g.code % 4 = 0 → ∀ k, k < imgCode img → wordGet t (g.code + 4 * k) = imgWord img k)
/-- An image whose length is not what its header gives is DATA LENGTH MISMATCH, a header out of R496 INVALID FIELD, an active slot
COMMAND SEQUENCE ERROR, a slot beyond the parcel's limit INVALID PROGRAM DATA (R164, R497, R498). While Bus Master Enable is 0 it waits (R68). -/
def programRefused : Prop := ∀ tk img s p, started s tk true 0x20 → (tkGet s tk).parcel = some p →
  let idx := bitsOf (tkGet s tk).cmd.cdw10 15 0
  (tkBme s tk = false → gives (.loadProgram tk img) s fun t => t = s) ∧ (tkBme s tk = true → idx ≤ 63 →
  (imgLength img = false → gives (.loadProgram tk img) s fun t => ends t tk .lengthMismatch ∧ t.cs = s.cs ∧ memSame s t) ∧
  (imgLength img = true → imgHeader img = false → gives (.loadProgram tk img) s fun t => ends t tk .invalidField ∧ t.cs = s.cs ∧ memSame s t) ∧
  (imgLength img = true → imgHeader img = true → imgOperator img = false → progActive s p idx = true →
    gives (.loadProgram tk img) s fun t => ends t tk .sequenceError ∧ t.cs = s.cs ∧ memSame s t) ∧
  (imgLength img = true → imgHeader img = true → imgOperator img = false → progActive s p idx = false → progsFull s p idx = true →
    gives (.loadProgram tk img) s fun t => ends t tk .invalidProgram ∧ t.cs = s.cs ∧ memSame s t))
/-- PROGRAM_ACTIVATE and PROGRAM_DEACTIVATE (R495, R498). -/
def programActivate : Prop := ∀ tk s p g, started s tk true 0x21 → bitOf (tkGet s tk).cmd.cdw10 16 = true →
  (tkGet s tk).parcel = some p → tabGet s.cs.progs (progKey p (bitsOf (tkGet s tk).cmd.cdw10 15 0)) = some g →
  gives (.programActivate tk) s fun t => ends t tk .success ∧ otherTickets s t tk ∧
    tabGet t.cs.progs (progKey p (bitsOf (tkGet s tk).cmd.cdw10 15 0)) = some { g with active := true }
def programDeactivate : Prop := ∀ tk s p g, started s tk true 0x21 → bitOf (tkGet s tk).cmd.cdw10 16 = false →
  (tkGet s tk).parcel = some p → tabGet s.cs.progs (progKey p (bitsOf (tkGet s tk).cmd.cdw10 15 0)) = some g →
  (progInvs s p (bitsOf (tkGet s tk).cmd.cdw10 15 0) = [] → gives (.programDeactivate tk) s fun t => ends t tk .success ∧
    tabGet t.cs.progs (progKey p (bitsOf (tkGet s tk).cmd.cdw10 15 0)) = some { g with active := false }) ∧
  (progInvs s p (bitsOf (tkGet s tk).cmd.cdw10 15 0) ≠ [] → gives (.programDeactivate tk) s fun t =>
    ends t tk .sequenceError ∧ t.cs = s.cs)
/-- EXECUTE_PROGRAM of an active program: an invocation of the ticket, accepted in this frame, whose budget is the smaller of the
program's and the parcel's (R499). -/
def executeStarts : Prop := ∀ tk param s p g rs v, fresh s tk 0x81 p → (tkGet s tk).heldData = none →
  let idx := bitsOf (tkGet s tk).cmd.cdw10 15 0
  let d := hostData (tkGet s tk) param
  idx ≤ 63 → tabGet s.cs.progs (progKey p idx) = some g → g.active = true → g.operatorOnly = false →
  setRanges s p (bitsOf (tkGet s tk).cmd.cdw11 15 0) = some rs → d.length ≤ 4096 →
  invStart s (.ticket tk) p tk idx g false rs d = some v →
  gives (.executeProgram tk param) s fun t => (tkGet t tk).begun = true ∧ (tkGet t tk).phase = .started ∧ otherTickets s t tk ∧
    ∃ i, invGet t s.cs.nextInv = some i ∧ i.owner = .ticket tk ∧ i.parcel = p ∧ i.prog = idx ∧ i.accepted = frameNo s ∧
      i.budget = min g.budget (parGet s p).lim.budget ∧ i.ended = none ∧
      ∃ y, taskGet t s.cs.nextTask = some y ∧ y.root = true ∧ y.inv = s.cs.nextInv ∧ y.st = .ready ∧
        y.ctx.pc = codePtr g.compact g.entry
/-- A program that is not loaded, not active, or an operator's is INVALID FIELD (R498). -/
def executeRefused : Prop := ∀ tk param s p rs, fresh s tk 0x81 p → (tkGet s tk).heldData = none →
  setRanges s p (bitsOf (tkGet s tk).cmd.cdw11 15 0) = some rs →
  (∀ g, tabGet s.cs.progs (progKey p (bitsOf (tkGet s tk).cmd.cdw10 15 0)) = some g → g.active = false ∨ g.operatorOnly = true) →
  gives (.executeProgram tk param) s fun t => ends t tk .invalidField ∧ t.cs = s.cs ∧ memSame s t
def rangeSetCreated : Prop := ∀ tk rs s p k, started s tk true 0x22 → tkBme s tk = true → bitsOf (tkGet s tk).cmd.cdw10 3 0 = 0 →
  (tkGet s tk).parcel = some p → rs ≠ [] → rs.length ≤ 31 → (∀ r ∈ rs, (rangeGet s p r).isSome = true) →
  tabFree s.cs.sets (p * 16) 16 = some k →
  gives (.memoryRangeSetCreate tk rs) s fun t => ends t tk .success ∧ (tkGet t tk).dw0 = k % 16 ∧ tabGet t.cs.sets k = some rs
def rangeSetDeleted : Prop := ∀ tk s p rs, started s tk true 0x22 → bitsOf (tkGet s tk).cmd.cdw10 3 0 = 1 →
  (tkGet s tk).parcel = some p → bitsOf (tkGet s tk).cmd.cdw10 31 16 < 16 →
  tabGet s.cs.sets (p * 16 + bitsOf (tkGet s tk).cmd.cdw10 31 16) = some rs → tabSorted s.cs.sets = true →
  ((∀ e ∈ s.cs.invs, e.2.parcel = p → e.2.ranges ≠ rs) → gives (.memoryRangeSetDelete tk) s fun t => ends t tk .success ∧
    tabGet t.cs.sets (p * 16 + bitsOf (tkGet s tk).cmd.cdw10 31 16) = none) ∧
  ((∃ e ∈ s.cs.invs, e.2.parcel = p ∧ e.2.ranges = rs) → gives (.memoryRangeSetDelete tk) s fun t =>
    ends t tk .rangesInUse ∧ t.cs = s.cs)
/-- SLM_READ within a range: the octets of the range go to the host and count in meter 1 (R189, R461, R498);
while Bus Master Enable is 0 it is held and gives nothing (R68). -/
def slmReads : Prop := ∀ tk s p r v d, fresh s tk 0x82 p →
  let c := (tkGet s tk).cmd
  let off := c.cdw10 + c.cdw11 * 2 ^ 32
  rangeGet s p c.cdw13 = some r → off + c.cdw12 ≤ r.len → c.cdw12 ≤ c.dlen →
  octetsIn (rangeClean s p (r.phys + off) c.cdw12) (r.phys + off) c.cdw12 0 = (v, some d) →
  (tkBme s tk = true → gives (.slmRead tk) s fun t => ends t tk .success ∧ otherTickets s t tk ∧
    (∀ o ∈ dataOuts s tk d, o ∈ t.out) ∧
    d = (if c.cdw12 = 0 then [] else memRead (rangeClean s p (r.phys + off) c.cdw12) (r.phys + off) c.cdw12)) ∧
  (tkBme s tk = false → gives (.slmRead tk) s fun t => tkGet t tk = { tkGet s tk with held := true } ∧ otherTickets s t tk ∧
    t.out = s.out ∧ memSame s t)
/-- SLM_WRITE within a range of an octet region: the range holds the host's octets, and no other octet changes but by what the
parcel's clusters write back first (R461). -/
def slmWrites : Prop := ∀ tk data s p r v, fresh s tk 0x83 p →
  let c := (tkGet s tk).cmd
  let off := c.cdw10 + c.cdw11 * 2 ^ 32
  let d := hostData (tkGet s tk) data
  rangeGet s p c.cdw13 = some r → off + c.cdw12 ≤ r.len → 1 ≤ c.cdw12 → c.cdw12 ≤ c.dlen → c.cdw12 ≤ d.length →
  v = rangeClean s p (r.phys + off) c.cdw12 → Memory.wf v.dr.mem = true → isScratch (r.phys + off) = false →
  (∃ k, spanClass v (r.phys + off) c.cdw12 = some k ∧ k ≠ 0) →
  gives (.slmWrite tk data) s fun t => ends t tk .success ∧ otherTickets s t tk ∧
    (∀ k, k < c.cdw12 → memGet t (r.phys + off + k) = d.getD k 0) ∧
    ∀ a, (a < r.phys + off ∨ r.phys + off + c.cdw12 ≤ a) → memGet t a = memGet v a
/-- SLM_READ, SLM_WRITE and MEMORY_COPY beyond the end of their range end with LBA OUT OF RANGE, of a range that is not there with
INVALID MEMORY RANGE ID (R498), and no memory changes. -/
def rangeErrors : Prop := ∀ tk data s p, (fresh s tk 0x82 p → (∀ r, rangeGet s p (tkGet s tk).cmd.cdw13 = some r →
      r.len < (tkGet s tk).cmd.cdw10 + (tkGet s tk).cmd.cdw11 * 2 ^ 32 + (tkGet s tk).cmd.cdw12) →
    gives (.slmRead tk) s fun t => memSame s t ∧
      ends t tk (if (rangeGet s p (tkGet s tk).cmd.cdw13).isSome then .lbaRange else .invalidRange)) ∧
  (fresh s tk 0x83 p → (∀ r, rangeGet s p (tkGet s tk).cmd.cdw13 = some r →
      r.len < (tkGet s tk).cmd.cdw10 + (tkGet s tk).cmd.cdw11 * 2 ^ 32 + (tkGet s tk).cmd.cdw12) →
    gives (.slmWrite tk data) s fun t => memSame s t ∧
      ends t tk (if (rangeGet s p (tkGet s tk).cmd.cdw13).isSome then .lbaRange else .invalidRange))
/-- MEMORY_COPY into a range whose tiles have been read and decoded: the range holds the blocks copied, and the command ends (R498). -/
def memoryCopies : Prop := ∀ tk s p n r v u, started s tk false copyOpcode → (tkGet s tk).parcel = some p →
  let c := (tkGet s tk).cmd
  let d := gather (tkGet s tk) copyBase (copySpans n c)
  nsGet s c.nsid = some n → copiesOut c = false → rangeGet s p c.cdw13 = some r → c.cdw15 + c.cdw14 ≤ r.len →
  copyBlocks c * lbaSize n = c.cdw14 → (tkGet s tk).reads ≠ [] → readsDone (tkGet s tk) = true →
  ((tkGet s tk).reads.any (·.bad)) = false →
  decodeStage (tkMod s tk fun t => { t with begun := true, released := true }) tk p n = (true, u) →
  v = rangeClean u p (r.phys + c.cdw15) c.cdw14 → Memory.wf v.dr.mem = true →
  isScratch (r.phys + c.cdw15) = false → d ≠ [] → (∃ k, spanClass v (r.phys + c.cdw15) d.length = some k ∧ k ≠ 0) →
  gives (.memoryCopy tk) s fun t => ends t tk .success ∧ ∀ k, k < d.length → memGet t (r.phys + c.cdw15 + k) = d.getD k 0
/-- INVOCATION_BUDGET_END: an invocation past its budget loses its tasks and ends with PROGRAM FRAME OVERRUN; one within it is
untouched (R504). -/
def budgetEnds : Prop := ∀ tk s n i, ticketInv s tk = some n → invGet s n = some i → i.ended = none → tabSorted s.cs.tasks = true →
  (i.accepted + i.budget ≤ frameNo s → gives (.invocationBudgetEnd tk) s fun t => evPending t 434 = true ∧
    regNat t TS_BUDGET_ENDS = (regNat s TS_BUDGET_ENDS + 1) % 2 ^ 32 ∧ invTasks t n = [] ∧
    invGet t n = some { i with ended := some (.programFrameOverrun, 0, 0) }) ∧
  (frameNo s < i.accepted + i.budget → gives (.invocationBudgetEnd tk) s fun t => t = s)
/-- INVOCATION_COMPLETION_POST: with no engine job outstanding, the ended invocation's command ends with its status and return
word; with one, it waits (R505). -/
def invocationPosts : Prop := ∀ tk s n i st a b, ticketInv s tk = some n → invGet s n = some i → i.owner = .ticket tk →
  i.ended = some (st, a, b) → (tkGet s tk).busy = true → (tkGet s tk).edition = i.tEdition →
  (tkGet s tk).phase ≠ .done →
  (invJobs s n = 0 → gives (.invocationCompletionPost tk) s fun t => ends t tk st ∧ (tkGet t tk).dw0 = a ∧ (tkGet t tk).dw1 = b ∧
    otherTickets s t tk) ∧
  (invJobs s n ≠ 0 → gives (.invocationCompletionPost tk) s fun t => t = s)

/-! ## Chapter 01: registers, the frame and the ledgers -/

/-- `n` has been raised: both latches show it, no other event has changed, and no register but its EV_PENDING word (R686). -/
def raised (s t : State) (n : Nat) : Prop :=
  evPending t n = true ∧ t.ev.fwLatch.getLsbD n = true ∧ ∀ m, m ≠ n → m < 512 →
    evPending t m = evPending s m ∧ t.ev.fwLatch.getLsbD m = s.ev.fwLatch.getLsbD m

/-- Registers of the window that have no rule of their own for a write: FR, PW and HQ but for two. -/
def ordinary (a : Nat) : Prop := a < 0x200000 ∧ a ≠ FR_DIAG_OVERRUN ∧ a ≠ PW_CLUSTER_RESET

/-- Bit `i` of a register after a write of `v`, by its access code (R14). -/
def writtenBit (d : RegDesc) (old v i : Nat) : Bool :=
  if bitOf d.w1c i then (if bitOf d.rw i then bitOf v i else bitOf old i) && !bitOf v i
  else if bitOf d.rw i then bitOf v i else bitOf old i

/-- REGISTER_WRITE of 4 octets at an implemented offset: RW bits take the value, W1C bits written 1 clear, all others and all
other registers stay; at a reserved offset nothing changes (R9, R14). -/
def wordWritten : Prop := ∀ a v s, a % 4 = 0 → ordinary a → v < 2 ^ 32 →
  (∀ d, regDesc a = some d → gives (.registerWrite (.bar2 0) a 4 v) s fun t => regsSameBut s t [a] ∧
    t = { s with regs := t.regs } ∧ ∀ i, i < 32 → regBit t a i = writtenBit d (regNat s a) v i) ∧
  (regDesc a = none → gives (.registerWrite (.bar2 0) a 4 v) s fun t => t = s)
/-- A write of 8 octets is two of 4, the lower address first (R10). -/
def pairWritten : Prop := ∀ sp a v s, a % 8 = 0 → v < 2 ^ 64 → gives (.registerWrite sp a 8 v) s fun t =>
  ∃ m, exec (.registerWrite sp a 4 (v % 2 ^ 32)) s = .next m ∧ exec (.registerWrite sp (a + 4) 4 (v / 2 ^ 32)) m = .next t
/-- Any other size or alignment is an Unsupported Request and changes no register (R11). -/
def oddRefused : Prop := ∀ sp a n v s, ¬ (n = 4 ∧ a % 4 = 0) → ¬ (n = 8 ∧ a % 8 = 0) →
  gives (.registerWrite sp a n v) s fun t => t = { s with out := s.out ++ [.unsupported a] }

/-- FRAME_BOUNDARY once the Graticule is released: the counter is one higher; before, nothing (R22, R23). -/
def boundaryCounts : Prop := ∀ env s,
  (s.fr.released = true → gives (.frameBoundary env) s fun t => t.fr.count = s.fr.count + 1) ∧
  (s.fr.released = false → gives (.frameBoundary env) s fun t => t = s)
/-- The mark: with EN, in a frame whose number is a multiple of 2^SHIFT (R28). -/
def marks : Prop := ∀ s, (regBit s FR_FRAME_MARK 31 = true → frameNo s % 2 ^ max 10 (regFld s FR_FRAME_MARK 4 0) = 0 →
    gives .frameMark s fun t => raised s t 0) ∧
  (regBit s FR_FRAME_MARK 31 = false ∨ frameNo s % 2 ^ max 10 (regFld s FR_FRAME_MARK 4 0) ≠ 0 → gives .frameMark s fun t => t = s)
/-- FRAME_COUNT_LO_READ returns the low half and shadows the upper (R25). -/
def countRead : Prop := ∀ s, gives .frameCountLoRead s fun t =>
  t.out = s.out ++ [.regRead FR_FRAME_COUNT_LO (s.fr.count.setWidth 32)] ∧
    regNat t FR_FRAME_COUNT_HI = s.fr.count.toNat / 2 ^ 32 ∧ regsSameBut s t [FR_FRAME_COUNT_HI] ∧ t.fr = s.fr

/-- An overrun of class `c` recorded against frame `f` (R37, R40). -/
def overrunTold (s t : State) (c unit f : Nat) (synth : Bool) : Prop :=
  regNat t (FR_OVERRUN_COUNT c) = (regNat s (FR_OVERRUN_COUNT c) + 1) % 2 ^ 32 ∧ regBit t FR_OVERRUN_LAST 31 = synth ∧
    regFld t FR_OVERRUN_LAST 30 28 = c ∧ regFld t FR_OVERRUN_LAST 27 22 = unit ∧ regFld t FR_OVERRUN_LAST 21 0 = f % 2 ^ 22 ∧
    (regBit s FR_OVERRUN_EVENT_EN c = true → raised s t 1)

/-- DIAG_OVERRUN_FIRE arms a synthetic overrun of classes 0 to 4; 5 to 7 are ignored (R42). -/
def diagFires : Prop := ∀ v s,
  (bitOf v 31 = true → bitsOf v 2 0 < 5 → gives (.diagOverrunFire v) s fun t =>
    t = { s with fr := { s.fr with synth := s.fr.synth ++ [bitsOf v 2 0] } }) ∧
  (bitOf v 31 = false ∨ 5 ≤ bitsOf v 2 0 → gives (.diagOverrunFire v) s fun t => t = s)
def synthetic : Prop := ∀ s c, c < 5 →
  (s.fr.synth = [c] → gives .syntheticOverrunRecord s fun t => overrunTold s t c 0 (frameNo s - 1) true ∧ t.fr.synth = []) ∧
  (s.fr.synth = [c, c] → gives .syntheticOverrunRecord s fun t => t.fr.synth = [] ∧
    regNat t (FR_OVERRUN_COUNT c) = (regNat s (FR_OVERRUN_COUNT c) + 2) % 2 ^ 32)
/-- AUDIT_SNAPSHOT at a positive multiple of 1,024: the granule sum and the four token gaps; else nothing (R52). -/
def snapshots : Prop := ∀ s, (s.fr.snap.map (·.boundary)) ≠ some (frameNo s) →
  (frameNo s ≠ 0 → frameNo s % 1024 = 0 → gives .auditSnapshot s fun t => t = { s with fr := { s.fr with snap := t.fr.snap } } ∧
    ∃ x, t.fr.snap = some x ∧ x.boundary = frameNo s ∧ x.sum = s.fr.pool + s.fr.tick + s.fr.eng + s.fr.disc ∧
      x.tokens = [tokenGap s 0, tokenGap s 1, tokenGap s 2, tokenGap s 3]) ∧
  (frameNo s = 0 ∨ frameNo s % 1024 ≠ 0 → gives .auditSnapshot s fun t => t = s)
/-- AUDIT_COMPARISON: the registers take the snapshot; only an imbalance counts and raises event 2; no ledger changes (R53-R57). -/
def compares : Prop := ∀ s x, s.fr.snap = some x → x.sum < 32768 → x.tokens.length = 4 → gives .auditComparison s fun t =>
  regNat t FR_AUDIT_LAST = x.boundary % 2 ^ 32 ∧ regNat t FR_AUDIT_GRANULES = x.sum ∧
    t.fr = { s.fr with snap := none } ∧ t.pc = s.pc ∧
    (x.sum = 16384 → (∀ g ∈ x.tokens, g = 0) → t.ev = s.ev ∧ regNat t FR_AUDIT_FAILS = regNat s FR_AUDIT_FAILS ∧
      regNat t FR_AUDIT_STATUS = regNat s FR_AUDIT_STATUS) ∧
    (x.sum ≠ 16384 ∨ (∃ g ∈ x.tokens, g ≠ 0) → raised s t 2 ∧
      regNat t FR_AUDIT_FAILS = (regNat s FR_AUDIT_FAILS + 1) % 2 ^ 32) ∧
    (x.sum ≠ 16384 → regBit t FR_AUDIT_STATUS 0 = true) ∧
    ∀ c, c < 4 → (∀ d, d < c → x.tokens.getD d 0 = 0) → x.tokens.getD c 0 ≠ 0 →
      regBit t FR_AUDIT_STATUS 1 = true ∧ regFld t FR_AUDIT_STATUS 4 2 = c
/-- DISCARDED_GRANULE_RETURN: granules on discarding paths are in the pool again (R45). -/
def discardsReturn : Prop := ∀ n s, n ≤ s.fr.disc → gives (.discardedGranuleReturn n) s fun t =>
  t.fr.pool = s.fr.pool + n ∧ t.fr.disc = s.fr.disc - n ∧ t.fr.tick = s.fr.tick ∧ t.fr.eng = s.fr.eng
/-- STALE_MESSAGE_DISCARD: counted, with event 113 for a fabric message; its granules pass to a discarding path (R45, R198). -/
def staleGoes : Prop := ∀ m s, m.line = none → (tkGet s m.ticket).gran ≤ s.fr.tick →
  (∀ l ∈ (tkGet s m.ticket).earlier, l.edition ≠ m.tkEdition) →
  (msgStale s m = true → gives (.staleMessageDiscard m) s fun t =>
    (m.fabric = true → regNat t FX_STALE_COUNT = (regNat s FX_STALE_COUNT + 1) % 2 ^ 32 ∧ raised s t 113) ∧
    (m.fabric = false → regNat t HQ_STALE_COUNT = (regNat s HQ_STALE_COUNT + 1) % 2 ^ 32 ∧ t.ev = s.ev) ∧
    t.fr.disc = s.fr.disc + min m.granules (tkGet s m.ticket).gran ∧ t.fr.pool = s.fr.pool ∧
    (tkGet t m.ticket).gran = (tkGet s m.ticket).gran - m.granules ∧ (tkGet t m.ticket).busy = (tkGet s m.ticket).busy) ∧
  (msgStale s m = false → gives (.staleMessageDiscard m) s fun t => t = s)
/-- An edition that ended with messages outstanding keeps the granules they carry until the last has come (R113). -/
def lateGoes : Prop := ∀ m s l, m.line = none → msgStale s m = true → (tkGet s m.ticket).earlier = [l] → l.edition = m.tkEdition →
  l.gran ≤ s.fr.tick → m.granules ≤ l.gran → gives (.staleMessageDiscard m) s fun t =>
    (l.count ≤ 1 → (tkGet t m.ticket).earlier = [] ∧ t.fr.disc = s.fr.disc + l.gran) ∧
    (1 < l.count → (tkGet t m.ticket).earlier = [{ l with count := l.count - 1, gran := l.gran - m.granules }] ∧
      t.fr.disc = s.fr.disc + m.granules) ∧ (tkGet t m.ticket).gran = (tkGet s m.ticket).gran
/-- A reader of a ticket's line takes no data whose side tag or CHECK is not the one it expects: EC_TAG_MISMATCH, event 489 and the
message goes as a stale one; with the right tag and live editions the read changes nothing more (R644). -/
def tagsChecked : Prop := ∀ m s l u, m.line = some l → spanClass s (64 * l) 64 = some 2 →
  dramLine s (64 * l) (b2n m.fabric) m.ecc = (u, false) →
  (tagArrived u l m.ecc ≠ tagWord (tagBits m.parcel m.pEdition 1 m.ticket m.tkEdition) → gives (.staleMessageDiscard m) s fun t =>
    regNat t EC_TAG_MISMATCH = (regNat u EC_TAG_MISMATCH + 1) % 2 ^ 32 ∧ evPending t 489 = true ∧ memSame u t) ∧
  (tagArrived u l m.ecc = tagWord (tagBits m.parcel m.pEdition 1 m.ticket m.tkEdition) → msgStale u m = false →
    gives (.staleMessageDiscard m) s fun t => t = u)
/-- FATAL_ENTRY: the stage, event 20, controllers with CFS, no connection, job or slice left; no packet that had not taken effect
is in flight, and the dump is being written (R32, R50, R759). -/
def fatalEnters : Prop := ∀ s, stage s ≠ 5 → tabSorted s.mg.flights = true → gives .fatalEntry s fun t =>
  stage t = 5 ∧ t.fr.fatal = true ∧ evPending t 20 = true ∧ t.en.jobs = [] ∧ t.pw.dumping = true ∧
    (∀ c k, tabGet t.host.ctrls c = some k → k.cfs = true) ∧ (∀ c, 16 ≤ c → (coreGet t c).task = none) ∧
    (∀ n f, tabGet t.mg.flights n = some f → f.applied = true) ∧ (tabSorted s.host.conns = true → t.host.conns = [])

/-! ## Chapter 02: functions, links, ports and connections -/

/-- Nothing has changed but the device has sent `l`. -/
def sends (s t : State) (l : List Out) : Prop := t = { s with out := s.out ++ l }

/-- Only function `fn` and controller `c` have changed. -/
def onlyFn (s t : State) (fn : Nat) : Prop := ∀ g, g ≠ fn → fnGet t g = fnGet s g ∧ ctrlGet t g = ctrlGet s g

/-- Bus Master Enable, and the power-state field (R65, R68). -/
def busMaster : Prop := ∀ fn s,
  gives (.busMasterEnableSet fn) s (fun t => fnGet t fn = { fnGet s fn with bme := true } ∧ onlyFn s t fn ∧ t.out = s.out) ∧
  gives (.busMasterEnableClear fn) s (fun t => fnGet t fn = { fnGet s fn with bme := false } ∧ onlyFn s t fn ∧ t.out = s.out) ∧
  gives (.pmcsrD3hotWrite fn) s (fun t => fnGet t fn = { fnGet s fn with pm := 3 } ∧ onlyFn s t fn ∧ t.out = s.out)
/-- MSIX_PENDING_DELIVERY of a vector that is open: the message goes out and its bit is 0 (R793). -/
def pendingSent : Prop := ∀ fn v s, (fnGet s fn).pba.contains v = true → (fnGet s fn).msixEn = true → (fnGet s fn).fmask = false →
  (fnGet s fn).vopen.contains v = true → (fnGet s fn).bme = true →
  gives (.msixPendingDelivery fn v) s fun t => t.out = s.out ++ [.msix fn v] ∧ (fnGet t fn).pba.contains v = false ∧ onlyFn s t fn
/-- HELD_TICKET_RESUME with Bus Master Enable 1: a held completion is written to a queue with room, and the ticket is free (R68). -/
def heldResumes : Prop := ∀ tk s fn qid q cq, (tkGet s tk).busy = true → (tkGet s tk).held = true → (tkGet s tk).phase = .done →
  s.fr.fatal = false → (tkGet s tk).src = .pcie fn qid → (fnGet s fn).bme = true → tabGet s.cq.sqs (qkey fn qid) = some q →
  tabGet s.cq.cqs (qkey fn q.cqid) = some cq → cqFull cq = false →
  gives (.heldTicketResume tk) s fun t => (tkGet t tk).busy = false ∧ (tkGet t tk).edition = (tkGet s tk).edition ∧
    .cqe fn q.cqid { mkCqe (tkGet s tk).cmd.cid (tkGet s tk).status (tkGet s tk).dw0 (tkGet s tk).dw1 qid q.head with
                     phase := cq.phase } ∈ t.out

/-- A reset of a physical function's controller: its queues and their tickets are gone (R67). -/
def functionCleared (t : State) (fn : Nat) : Prop :=
  (∀ q, tabGet t.cq.sqs (qkey fn q) = none ∨ 65536 ≤ q) ∧ (∀ q, tabGet t.cq.cqs (qkey fn q) = none ∨ 65536 ≤ q) ∧
    ∀ i q, (tkGet t i).busy = true → (tkGet t i).src ≠ .pcie fn q

/-- A function-level reset and CC.EN 1→0 of a physical function act alike: its controller is disabled, its queues and their tickets are
gone, its configuration stays (R67). -/
def pfResets : Prop := ∀ fn s, isVf fn = false → tabSorted s.cq.tickets = true →
  let cleared := fun (t : State) => functionCleared t fn ∧ fnGet t fn = fnGet s fn ∧ (ctrlGet t fn).rdy = false ∧
    (ctrlGet t fn).cc = (ctrlGet s fn).cc - (ctrlGet s fn).cc % 2 ∧ (ctrlGet t fn).aqa = (ctrlGet s fn).aqa
  gives (.pfFunctionLevelReset fn) s cleared ∧ ((ctrlGet s fn).cc % 2 = 1 → gives (.pfCcEnClear fn) s cleared)

/-- A controller stands ready, with an empty admin queue pair of the sizes in AQA, VWC as hold-up stands (R129, R791). -/
def ready (s t : State) (fn : Nat) : Prop :=
  (ctrlGet t fn).rdy = true ∧ (ctrlGet t fn).vwc = !armed s ∧
    (∃ q, tabGet t.cq.sqs (qkey fn 0) = some q ∧ q.depth = bitsOf (ctrlGet s fn).aqa 11 0 + 1 ∧ q.head = 0 ∧ q.tail = 0 ∧ q.waiting = []) ∧
    ∃ q, tabGet t.cq.cqs (qkey fn 0) = some q ∧ q.depth = bitsOf (ctrlGet s fn).aqa 27 16 + 1 ∧ q.head = 0 ∧ q.tail = 0 ∧ q.phase = true

/-- PF_CC_EN_SET once admin-ready is reached, CC_EN_SET of a function whose parcel is ACTIVE or FROZEN at media-ready: ready at
once; CC_EN_SET in another state is held, and ignored by an unbound function (R61, R207, R791). -/
def controllersEnable : Prop := ∀ fn s, (ctrlGet s fn).cc % 2 = 0 →
  (isVf fn = false → adminUp s = true → gives (.pfCcEnSet fn) s fun t => ready s t fn ∧ (ctrlGet t fn).cc = (ctrlGet s fn).cc + 1) ∧
  (isVf fn = false → adminUp s = false → gives (.pfCcEnSet fn) s fun t =>
    ctrlGet t fn = { ctrlGet s fn with cc := (ctrlGet s fn).cc + 1 }) ∧
  (∀ p, isVf fn = true → boundParcel s fn = some p → (ctrlGet s fn).rdy = false →
    (mediaUp s = true → (parGet s p).st = .active ∨ (parGet s p).st = .frozen → gives (.ccEnSet fn) s fun t =>
      ready s t fn ∧ (ctrlGet t fn).cc = (ctrlGet s fn).cc + 1) ∧
    ((parGet s p).st ≠ .active → (parGet s p).st ≠ .frozen → gives (.ccEnSet fn) s fun t =>
      ctrlGet t fn = { ctrlGet s fn with cc := (ctrlGet s fn).cc + 1 } ∧ (parGet t p).st = (parGet s p).st)) ∧
  (isVf fn = true → boundParcel s fn = none → gives (.ccEnSet fn) s fun t => t = s)
/-- VF_FUNCTION_LEVEL_RESET and VF_CC_EN_CLEAR of a bound function ask for a reset of its parcel with their cause (R66, R168); behind a
pending enable CC.EN 1→0 leaves the enable its effect (R170). -/
def vfResets : Prop := ∀ fn p s, isVf fn = true → boundParcel s fn = some p → (parGet s p).st ≠ .retiring →
  let asks := fun (t : State) (w : PReq) => (parGet t p).reqs = (parGet s p).reqs ++ [w] ∧ (parGet t p).st = (parGet s p).st ∧
    ((parGet s p).st ≠ .enabling → parGet t p = { parGet s p with reqs := (parGet s p).reqs ++ [w] }) ∧
    ((parGet s p).st = .enabling → (ctrlGet s fn).cc % 2 = 1 → (parGet t p).enHeld = true)
  gives (.vfFunctionLevelReset fn) s (fun t => fnGet t fn = {} ∧ (ctrlGet t fn).cc = 0 ∧ (ctrlGet t fn).rdy = false ∧
    asks t (.reset 1 false (.flr fn))) ∧
  ((ctrlGet s fn).cc % 2 = 1 → gives (.vfCcEnClear fn) s fun t => (ctrlGet t fn).cc = (ctrlGet s fn).cc - 1 ∧
    (ctrlGet t fn).rdy = (ctrlGet s fn).rdy ∧ asks t (.reset 2 false .none))

/-- The link inputs (R69-R71). -/
def links : Prop := ∀ l s, linkExists s l = true →
  (tabSorted s.cq.tickets = true → gives (.perstAssert l) s fun t => linkGet t l = { up := false, reset := true, loss := true } ∧
    functionCleared t (linkPf l) ∧ (∀ f, fnOn l f = true → fnGet t f = {}) ∧
    ∀ f, f ≤ 768 → fnOn l f = true → (ctrlGet t f).cc = 0 ∧ (ctrlGet t f).rdy = false) ∧
  ((linkGet s l).reset = true → gives (.perstDeassert l) s fun t =>
    linkGet t l = { linkGet s l with up := s.pw.rom == .done, reset := false }) ∧
  gives (.dlDown l) s (fun t => linkGet t l = { linkGet s l with up := false, loss := true }) ∧
  ((linkGet s l).reset = false → s.pw.rom = .done → gives (.pcieLinkUp l) s fun t => linkGet t l = { linkGet s l with up := true })
/-- LINK_LOSS_EFFECT on a parcel that has the link's function and host pairs: it loses the function and stays in its state (R70). -/
def linkLost : Prop := ∀ l s p f, (linkGet s l).loss = true → s.pc.parcels.map (·.1) = [p] → (parGet s p).vf = some f →
  fnOn l f = true → (parGet s p).pairs ≠ [] → gives (.linkLossEffect l) s fun t => (linkGet t l).loss = false ∧
    (parGet t p).vf = none ∧ (parGet t p).st = (parGet s p).st ∧ (parGet t p).pairs = (parGet s p).pairs

/-- Ethernet ports (R74, R95). -/
def ports : Prop := ∀ p an s, p < portCount s →
  (s.pw.rom = .done → gives (.ethLinkUp p an) s fun t => regBit t (FX_PORT_STATUS p) 31 = true ∧ regBit t (FX_PORT_STATUS p) 30 = an ∧
    regFld t (FX_PORT_STATUS p) 29 0 = regFld s (FX_PORT_STATUS p) 29 0 ∧ regsSameBut s t [FX_PORT_STATUS p]) ∧
  (regBit s (FX_PORT_STATUS p) 31 = true → gives (.ethLinkLost p) s fun t => regFld t (FX_PORT_STATUS p) 31 30 = 0 ∧
    regBit t (FX_PORT_STATUS p) 29 = true ∧ regFld t (FX_PORT_STATUS p) 28 0 = regFld s (FX_PORT_STATUS p) 28 0 ∧ raised s t (96 + p)) ∧
  gives (.fecUncorrRead p) s (fun t => t.out = s.out ++ [.regRead (FX_PORT_STATUS p) (regRaw s (FX_PORT_STATUS p))] ∧
    regFld t (FX_PORT_STATUS p) 15 0 = 0 ∧ regFld t (FX_PORT_STATUS p) 31 16 = regFld s (FX_PORT_STATUS p) 31 16 ∧
    regsSameBut s t [FX_PORT_STATUS p])

/-- Every other connection is as it was. -/
def otherConns (s t : State) (c : Nat) : Prop := ∀ d, d ≠ c → connGet t d = connGet s d

/-- Congestion (R76): a notification answers a marked packet, at most one in 4 frames; one received slows the connection. -/
def congestion : Prop := ∀ c s x, connGet s c = some x → x.tcp = false →
  ((∀ f, x.cnp = some f → f + 4 ≤ frameNo s) → gives (.ecnMarkedPacket c) s fun t => t.out = s.out ++ [.transport c 3 0 0] ∧
    connGet t c = some { x with cnp := some (frameNo s) } ∧ otherConns s t c) ∧
  (∀ f, x.cnp = some f → frameNo s < f + 4 → gives (.ecnMarkedPacket c) s fun t => t = s) ∧
  gives (.cnpReceived c) s (fun t => connGet t c = some { x with rate := x.rate + 1 } ∧ otherConns s t c ∧ t.out = s.out)
/-- ICREQ is answered with MAXH2CDATA 65,536, CPDA 0, 4 R2Ts a command and the digests asked for, which a Connect of that connection
takes up (R82). -/
def icreqs : Prop := ∀ c h d s, gives (.icreq c h d) s fun t => t.out = s.out ++ [.icresp c 65536 0 4 h d] ∧
  tabGetD t.host.icreq c (false, false) = (h, d) ∧ t.host.conns = s.host.conns
/-- CONNECT of an admin queue for an ACTIVE or FROZEN parcel that registered the pair, within the limits: the connection and a new
controller of the parcel; an RDMA connection starts with a credit for each buffer of its queue (R78, R79, R83, R84). -/
def connects : Prop := ∀ c p k s, connGet s c.conn = none → c.subNqn ≠ discoveryNqn → pairParcel s c.hostNqn c.subNqn = some p →
  (parGet s p).st = .active ∨ (parGet s p).st = .frozen → s.host.conns.length < 8192 → c.qid = 0 → 1 ≤ c.sqsize → c.sqsize ≤ 31 →
  (parcelCtrls s p).length < min 4 (parGet s p).lim.controllers → tabFree s.host.ctrls fabricBase 40000 = some k →
  gives (.connect c) s fun t => t.out = s.out ++ [.capsule c.conn (mkCqe c.cid .success (k % 65536) 0 0 0) false] ∧
    (∃ x, connGet t c.conn = some x ∧ x.parcel = p ∧ x.ctrl = k ∧ x.qid = 0 ∧ x.tcp = c.tcp ∧ x.depth = c.sqsize + 1 ∧
      x.outstanding = (if c.tcp then 0 else c.sqsize + 1) ∧ x.granted = x.outstanding) ∧
    (ctrlGet t k).parcel = some p ∧ (ctrlGet t k).kato = c.kato ∧ otherConns s t c.conn
/-- A pair that no parcel registered is refused, and a parcel that resets answers Controller Busy; no connection is made (R79). -/
def connectsRefused : Prop := ∀ c s, connGet s c.conn = none → c.subNqn ≠ discoveryNqn →
  (pairParcel s c.hostNqn c.subNqn = none → gives (.connect c) s fun t =>
    sends s t [.capsule c.conn (mkCqe c.cid .connInvalidHost 0 0 c.qid 0) false]) ∧
  ∀ p, pairParcel s c.hostNqn c.subNqn = some p → (parGet s p).st = .resetting ∨ (parGet s p).st = .enabling →
    gives (.connect c) s fun t => sends s t [.capsule c.conn (mkCqe c.cid .controllerBusy 0 0 c.qid 0) false]
/-- CAPSULE_RECEIVED: queued for fetch, consuming a credit of an RDMA connection; a bad header digest is fatal (R83, R89, R90). -/
def capsules : Prop := ∀ n c s x, connGet s n = some x → c.data.length ≤ capsuleLimit x →
  (x.tcp = false → 0 < x.outstanding → gives (.capsuleReceived n c) s fun t => otherConns s t n ∧ connGet t n = some { x with
    queue := x.queue ++ [c], consumed := x.consumed + 1, outstanding := x.outstanding - 1 }) ∧
  (x.tcp = true → c.headerOk = true → gives (.capsuleReceived n c) s fun t =>
    connGet t n = some { x with queue := x.queue ++ [c] } ∧ otherConns s t n) ∧
  (x.tcp = true → c.headerOk = false → tabSorted s.host.conns = true → gives (.capsuleReceived n c) s fun t =>
    connGet t n = none ∧ otherConns s t n ∧ evPending t 112 = true ∧ .transport n 2 3 0 ∈ t.out ∧
    regNat t FX_FATAL_COUNT = (regNat s FX_FATAL_COUNT + 1) % 2 ^ 32)
/-- RECEIVE_BUFFER_REPOST: a buffer whose capsule has been taken is a credit again (R83, R84). -/
def reposts : Prop := ∀ n s x, connGet s n = some x → x.tcp = false → 0 < x.repost → gives (.receiveBufferRepost n) s fun t =>
  connGet t n = some { x with repost := x.repost - 1, granted := x.granted + 1, outstanding := x.outstanding + 1 } ∧ otherConns s t n
/-- RDMA_READ_RESPONSE, on a connection where no command waits to send for its data: to its own ticket the data, or the failed
transfer's status; a stale one is counted with event 113 and brings nothing (R88, R89, R198). -/
def readResponses : Prop := ∀ n m ok d s, (∀ i, (tkGet s i).src = .fabric n → (tkGet s i).pullDue = false) →
  (msgStale s m = false → (tkGet s m.ticket).src = .fabric n → (tkGet s m.ticket).r2t = true →
    (ok = true → gives (.rdmaReadResponse n m ok d) s fun t => otherTickets s t m.ticket ∧
      tkGet t m.ticket = { tkGet s m.ticket with got := (tkGet s m.ticket).got ++ d, r2t := false }) ∧
    (ok = false → gives (.rdmaReadResponse n m ok d) s fun t => ends t m.ticket .dataTransfer ∧ otherTickets s t m.ticket)) ∧
  (msgStale s m = true → gives (.rdmaReadResponse n m ok d) s fun t => raised s t 113 ∧ otherTickets s t m.ticket ∧
    (tkGet t m.ticket).got = (tkGet s m.ticket).got ∧ regNat t FX_STALE_COUNT = (regNat s FX_STALE_COUNT + 1) % 2 ^ 32)
/-- H2C_DATA_PDU of a live R2T, in its place: the data arrive, and the last one consumes the credit; a bad data digest ends the
command; one that names nothing outstanding is fatal (R83, R86, R87, R89). -/
def dataPdus : Prop := ∀ n tag off last dok d s x, connGet s n = some x →
  let i := tag % 16384
  (x.tcp = true → (tkGet s i).busy = true → (tkGet s i).r2t = true → (tkGet s i).src = .fabric n →
    (tkGet s i).edition % 4 = tag / 16384 % 4 → off = (tkGet s i).got.length → off + d.length ≤ (tkGet s i).cmd.dlen → d.length ≤ 65536 →
    (dok = true → (last = true → off + d.length = (tkGet s i).cmd.dlen) →
      gives (.h2cDataPdu n tag off last dok true d) s fun t => otherTickets s t i ∧
      tkGet t i = { tkGet s i with got := (tkGet s i).got ++ d, r2t := !last } ∧
      (last = true → 0 < x.outstanding → connGet t n = some { x with consumed := x.consumed + 1, outstanding := x.outstanding - 1 })) ∧
    (dok = false → (last = true → off + d.length = (tkGet s i).cmd.dlen) → gives (.h2cDataPdu n tag off last dok true d) s fun t => ends t i .transientTransport ∧ raised s t 114 ∧
      regNat t FX_DIGEST_ERR_COUNT = (regNat s FX_DIGEST_ERR_COUNT + 1) % 2 ^ 32)) ∧
  (tabSorted s.host.conns = true → (tkGet s i).busy = false → (tkGet s i).r2ts = [] →
    gives (.h2cDataPdu n tag off last dok true d) s fun t => connGet t n = none ∧ evPending t 112 = true)
/-- CONNECTION_CLOSED: the connection is gone and no ticket of it is in use (R89). -/
def closes : Prop := ∀ n s x, connGet s n = some x → tabSorted s.host.conns = true → tabSorted s.cq.tickets = true →
  gives (.connectionClosed n) s fun t => connGet t n = none ∧ otherConns s t n ∧
    ∀ i, (tkGet t i).busy = true → (tkGet t i).src ≠ .fabric n
/-- DISCOVERY_LOG_CHANGE: event 116, once for a change (R93). -/
def discoveryChanges : Prop := ∀ s, (s.host.discChange = true → gives .discoveryLogChange s fun t =>
    evPending t 116 = true ∧ t.host.discChange = false) ∧
  (s.host.discChange = false → gives .discoveryLogChange s fun t => t = s)
/-- KEEP_ALIVE_TIMEOUT: a controller heard of within its timer is untouched; one not heard of loses its connections (R152). -/
def keepAliveEnds : Prop := ∀ n s x, connGet s n = some x →
  ((ctrlGet s x.ctrl).kato ≠ 0 → (ctrlGet s x.ctrl).lastKa + framesOf s ((ctrlGet s x.ctrl).kato * 1000000) ≤ frameNo s →
    tabSorted s.host.conns = true → gives (.keepAliveTimeout n) s fun t => ∀ m y, connGet t m = some y → y.ctrl ≠ x.ctrl) ∧
  ((ctrlGet s x.ctrl).kato = 0 ∨ frameNo s < (ctrlGet s x.ctrl).lastKa + framesOf s ((ctrlGet s x.ctrl).kato * 1000000) →
    gives (.keepAliveTimeout n) s fun t => t = s)

/-- The sideband sends one message of a type and a status, cut into packets of 64 octets, and nothing else changes (R98). -/
def answers (s t : State) (eid kind st : Nat) (d : Bytes) : Prop :=
  let m := [BitVec.ofNat 8 kind, BitVec.ofNat 8 st] ++ d
  let l := pieces 64 (m.length / 64 + 1) m
  sends s t [.mctp eid kind st l] ∧ l.flatten = m ∧ ∀ p ∈ l, p.length ≤ 64

/-- MCTP_CONTROL_MESSAGE: packets that make a control message are answered: the endpoint ID is set and read, versions and types are
told, another command is unsupported; packets that make no message are dropped (R98; codes and layouts are the model's, log 53). -/
def controlMessages : Prop := ∀ eid p l s, (mctpMessage (p :: l) = none → gives (.mctpControlMessage eid p l) s fun t => t = s) ∧
  ∀ m, mctpMessage (p :: l) = some m → leAt m 0 1 = 0 → 3 ≤ m.length → gives (.mctpControlMessage eid p l) s fun t =>
    (leAt m 2 1 = 1 → 5 ≤ m.length → bitsOf (leAt m 3 1) 1 0 ≤ 1 → leAt m 4 1 ≠ 0 → leAt m 4 1 ≠ 255 → t.host.eids = [leAt m 4 1] ∧
      t = { s with host := t.host, out := t.out } ∧ t.host = { s.host with eids := t.host.eids }) ∧
    (leAt m 2 1 = 2 → answers s t eid 0 0 [BitVec.ofNat 8 (s.host.eids.headD 0), 0, 0]) ∧
    (leAt m 2 1 = 5 → answers s t eid 0 0 [4, 0, 4, 5, 0x7E]) ∧
    (leAt m 2 1 = 3 ∨ 6 ≤ leAt m 2 1 ∨ leAt m 2 1 = 0 → answers s t eid 0 5 [])
/-- NVMe-MI structures, polls and configurations answer and change nothing but what they set (R99; layouts are the model's, log 53). -/
def sideband : Prop := ∀ eid a b s,
  gives (.readNvmeMiDataStructure eid a b) s (fun t =>
    (a = 0 → answers s t eid 4 0 ([BitVec.ofNat 8 (miPorts s - 1), 1, 2] ++ zeros 29)) ∧
    (a = 1 → if b < miPorts s then ∃ d, answers s t eid 4 0 d ∧ d.length = 32 else answers s t eid 4 4 []) ∧
    (a = 2 → answers s t eid 4 0 (leBytes 2 ((miControllers s).filter fun c => decide (b ≤ c)).length
      ++ ((miControllers s).filter fun c => decide (b ≤ c)).flatMap (leBytes 2))) ∧
    (a = 3 → if (miControllers s).contains b then ∃ d, answers s t eid 4 0 d ∧ d.length = 32 ∧ leAt d 6 2 = b % 65536
      else answers s t eid 4 4 []) ∧
    (a = 4 → answers s t eid 4 0 [0, 0]) ∧ (5 ≤ a → answers s t eid 4 4 [])) ∧
  gives (.subsystemHealthStatusPoll eid false) s (fun t => answers s t eid 4 0 (subsystemHealth s)) ∧
  gives (.controllerHealthStatusPoll eid false) s (fun t => answers s t eid 4 0
    (leBytes 4 (miControllers s).length ++ (miControllers s).flatMap (controllerHealth s))) ∧
  (1 ≤ a → a ≤ 3 → gives (.configurationGet eid a) s fun t => answers s t eid 4 0 (leBytes 4 (tabGetD s.host.miConfig a (miDefault a)))) ∧
  (miValueOk a b = true → gives (.configurationSet eid a b) s fun t => tabGet t.host.miConfig a = some b ∧ ∀ k, k ≠ a →
    tabGet t.host.miConfig k = tabGet s.host.miConfig k) ∧
  (a = 0 ∨ 4 ≤ a → gives (.configurationGet eid a) s (fun t => answers s t eid 4 4 []) ∧
    gives (.configurationSet eid a b) s (fun t => answers s t eid 4 4 [])) ∧
  gives (.unsupportedNvmeMiCommand eid a) s (fun t => answers s t eid 4 3 (leBytes 1 a)) ∧
  ∀ fn, isVf fn = false → fn ≠ compFn ∨ s.host.split = true → gives (.doeDiscovery fn 0) s fun t => sends s t [.doe fn [1, 0, 0, 1]]
/-- VPD: what a write of a message's length puts reads back, and other octets stay (R99). -/
def vpd : Prop := ∀ eid off len d s,
  (d.length ≤ 1024 → gives (.vpdWrite eid off d) s fun t => (t.host.vpd.drop off).take d.length = d ∧
    (∀ k, k < off → k < s.host.vpd.length → t.host.vpd[k]? = s.host.vpd[k]?) ∧
    ∀ k, off + d.length ≤ k → k < s.host.vpd.length → t.host.vpd[k]? = s.host.vpd[k]?) ∧
  (off + len ≤ s.host.vpd.length → gives (.vpdRead eid off len) s fun t => answers s t eid 4 0 ((s.host.vpd.drop off).take len)) ∧
  (s.host.vpd.length < off + len → gives (.vpdRead eid off len) s fun t => answers s t eid 4 4 [])
/-- TUNNELLED_ADMIN_COMMAND takes a reserved ticket and starts as an admin command of physical function 0, or ends there as one that
does not keep its rules; one for another controller is refused (R99, R111, R148). -/
def tunnels : Prop := ∀ eid c e i v s,
  (tkAlloc s true = (some i, v) → 16128 ≤ s.cq.nextAdm → gives (.tunnelledAdminCommand eid { e }) s fun t =>
    (tkGet t i).src = .side eid ∧ (tkGet t i).cmd = e ∧ otherTickets s t i ∧
    (adminSupported .pf0 e.opc = true → pointerCheck 0 e none = none → started t i true e.opc) ∧
    (adminSupported .pf0 e.opc = false → ends t i .invalidOpcode)) ∧
  (c ≠ 0 → gives (.tunnelledAdminCommand eid { ctrl := c, e }) s fun t => answers s t eid 4 4 [])

/-! SPDM (R447-R449) -/

/-- The version, capability and algorithm requests in their order, and requests out of order (R448). -/
def spdmOrder : Prop := ∀ ep s, spdmOpen s ep = true →
  gives (.getVersion ep) s (fun t => (spdmGet t ep).version = true ∧ (spdmGet t ep).caps = false ∧ (spdmGet t ep).algs = false ∧
    t.out = s.out ++ [.spdm ep 0x04 [1, 0x12]]) ∧
  ((spdmGet s ep).version = true → gives (.getCapabilities ep) s fun t => (spdmGet t ep).caps = true ∧
    t.out = s.out ++ [.spdm ep 0x61 [17, 0x16, 0, 0, 0]]) ∧
  ((spdmGet s ep).version = false → gives (.getCapabilities ep) s fun t => sends s t [.spdm ep 0x7F [4]]) ∧
  ∀ a h m, (spdmGet s ep).caps = true → bitOf a 7 = true → bitOf h 1 = true → gives (.negotiateAlgorithms ep a h m) s fun t =>
    (spdmGet t ep).algs = true ∧ t.out = s.out ++ [.spdm ep 0x63 [0x80, 0, 0, 0, 2, 0, 0, 0, BitVec.ofNat 8 (b2n (bitOf m 0))]]
/-- GET_DIGESTS and GET_CERTIFICATE answer with the digest and the part asked for of slot 0's chain (R447, R448). -/
def spdmChain : Prop := ∀ ep off len s, spdmOpen s ep = true → (spdmGet s ep).algs = true →
  gives (.getDigests ep) s (fun t => t.out = s.out ++ [.spdm ep 1 (1 :: digestOf 1 (certChain s))]) ∧
  gives (.getCertificate ep 0 off len) s fun t => if off < (certChain s).length then ∃ d, t.out = s.out ++ [.spdm ep 2 d] ∧
    d.drop 4 = ((certChain s).drop off).take len else ∃ d, sends s t [.spdm ep 0x7F d]
/-- CHALLENGE and a signed GET_MEASUREMENTS sign the transcript with 32 fresh octets; with the DRBG in ERROR they answer Busy;
unsigned measurements answer without it (R448-R451). -/
def spdmSigned : Prop := ∀ ep nonce s, spdmOpen s ep = true → (spdmGet s ep).algs = true →
  let d := digestOf 1 (certChain s) ++ (drbgBytes s 32).1
  (drbgError s = false → gives (.challenge ep 0 nonce) s fun t => (spdmGet t ep).transcript = [] ∧
    t.out = s.out ++ [.spdm ep 3 (d ++ Config.sign 1 (bootDigest s 0 ++ ((spdmGet s ep).transcript ++ nonce ++ d)))]) ∧
  (drbgError s = true → gives (.challenge ep 0 nonce) s fun t => sends s t [.spdm ep 0x7F [3]]) ∧
  ∀ op, op ≤ 5 ∨ op = 255 → gives (.getMeasurements ep op false nonce) s fun t =>
    ∃ d, measRecord s op = some d ∧ t.out = s.out ++ [.spdm ep 0x60 d]

/-! ## Chapter 03: queues, durability and completion -/

/-- SQ_TAIL_DOORBELL within the queue: the entries up to the new tail wait for fetch (R109). -/
def sqRings : Prop := ∀ fn qid tail es s q, tabGet s.cq.sqs (qkey fn qid) = some q → tail < q.depth → q.tail < q.depth →
  gives (.sqTailDoorbell fn qid tail es) s fun t => t = { s with cq := { s.cq with sqs := t.cq.sqs } } ∧
    tabGet t.cq.sqs (qkey fn qid) = some { q with
      tail := tail, waiting := q.waiting ++ es.take (if q.tail ≤ tail then tail - q.tail else q.depth - q.tail + tail) }
/-- CQ_HEAD_DOORBELL frees the entries up to the new head (R144). -/
def cqRings : Prop := ∀ fn qid head s q, tabGet s.cq.cqs (qkey fn qid) = some q → head < q.depth →
  gives (.cqHeadDoorbell fn qid head) s fun t => t = { s with cq := { s.cq with cqs := t.cq.cqs } } ∧
    tabGet t.cq.cqs (qkey fn qid) = some { q with head := head }

/-- A completion entry that goes to queue `cqid` of function `fn`. -/
def entryOf (k : Ticket) (qid : Nat) (q : Sq) (cq : Cq) : Cqe :=
  { cid := k.cmd.cid, status := k.status, field := statusField k.status, dw0 := k.dw0, dw1 := k.dw1, sqid := qid, sqhd := q.head
    phase := cq.phase }

/-- COMMAND_COMPLETION and HELD_COMPLETION_POST: with room and Bus Master Enable the one entry is written at the tail and the ticket
is free, keeping its edition; with the queue full nothing happens; with Bus Master Enable 0 it holds (R68, R112, R143-R145). -/
def posts : Prop := ∀ tk s fn qid q cq, (tkGet s tk).busy = true → (tkGet s tk).phase = .done → s.fr.fatal = false →
  (tkGet s tk).src = .pcie fn qid → tabGet s.cq.sqs (qkey fn qid) = some q → tabGet s.cq.cqs (qkey fn q.cqid) = some cq →
  ∀ i, i = .commandCompletion tk ∨ i = .heldCompletionPost tk →
    ((fnGet s fn).bme = true → cqFull cq = false → gives i s fun t => (tkGet t tk).busy = false ∧
      (tkGet t tk).edition = (tkGet s tk).edition ∧ otherTickets s t tk ∧ .cqe fn q.cqid (entryOf (tkGet s tk) qid q cq) ∈ t.out ∧
      (∃ c, tabGet t.cq.cqs (qkey fn q.cqid) = some c ∧ c.tail = (if cq.tail + 1 = cq.depth then 0 else cq.tail + 1) ∧
        c.phase = (if cq.tail + 1 = cq.depth then !cq.phase else cq.phase) ∧ c.head = cq.head) ∧
      t.cq.freed = s.cq.freed ++ [tk]) ∧
    ((fnGet s fn).bme = true → cqFull cq = true → gives i s fun t => t = s) ∧
    ((fnGet s fn).bme = false → gives i s fun t => t.out = s.out ∧ tkGet t tk = { tkGet s tk with held := true })
/-- A command whose work has ended and whose connection is gone completes internally: counted, and no entry goes out (R143). -/
def internalEnds : Prop := ∀ tk s c, (tkGet s tk).busy = true → (tkGet s tk).phase = .done → s.fr.fatal = false →
  (tkGet s tk).src = .fabric c → connGet s c = none → gives (.commandCompletion tk) s fun t =>
    (tkGet t tk).busy = false ∧ t.out = s.out ∧ regNat t HQ_INTERNAL_COUNT = (regNat s HQ_INTERNAL_COUNT + 1) % 2 ^ 32
/-- HAZARD_RELEASE_START and ORDERED_COMMAND_START of a function's command that waits: it starts when nothing blocks it any more,
and waits on while something does (R119-R123). -/
def waitersStart : Prop := ∀ tk s fn q, (tkGet s tk).busy = true → (tkGet s tk).phase = .waiting → (tkGet s tk).src = .pcie fn q →
  let i : Instr := if (tkGet s tk).ordered then .orderedCommandStart tk else .hazardReleaseStart tk
  (hazardBlocked s tk = false → orderBlocked s tk = false → gives i s fun t =>
    tkGet t tk = { tkGet s tk with phase := .started } ∧ otherTickets s t tk) ∧
  (hazardBlocked s tk = true ∨ orderBlocked s tk = true → gives i s fun t => t = s)
/-- DURABILITY_MODE_CHANGE: arming or disarming holds from now, with event 33 where it changes; a disarming that the manager did not
ask for brings write-through and Critical Warning bit 4, one that it asked for event 17 (R129, R131, R746). -/
def durabilityChanges : Prop := ∀ s a, s.cq.armReq = some a → gives .durabilityModeChange s fun t => armed t = a ∧
  t.cq.armReq = none ∧ (a = true → regBit t HQ_DURABILITY 30 = false) ∧ (a = false → regFld t HQ_WBUF_BUDGET 10 0 = 0) ∧
  (a ≠ armed s → evPending t 33 = true) ∧
  (a = false → armed s = true → s.pw.disarm = false → regBit t HQ_DURABILITY 30 = true ∧ t.cq.smartBit4 = true) ∧
  (a = false → s.pw.disarm = true → evPending t 17 = true ∧ t.pw.disarm = false ∧ regBit t HQ_DURABILITY 30 = regBit s HQ_DURABILITY 30)
/-- BUDGET_LOWERED: the new budget holds; at 0 while armed the device is in write-through, with event 33 and Critical Warning bit 4
(R130, R131). -/
def budgetLowers : Prop := ∀ s b, s.cq.budgetReq = some b → b < 2048 → gives .budgetLowered s fun t =>
  regFld t HQ_WBUF_BUDGET 10 0 = b ∧ t.cq.budgetReq = none ∧
    (b < regFld s HQ_WBUF_BUDGET 10 0 → regBit t HQ_DURABILITY 29 = true) ∧
    (b = 0 → armed s = true → regBit s HQ_DURABILITY 30 = false →
      regBit t HQ_DURABILITY 30 = true ∧ evPending t 33 = true ∧ t.cq.smartBit4 = true)

/-! ## Chapter 03: the NVM commands -/

/-- Ticket `tk` is a started I/O command of parcel `p` on a namespace, its host reachable and no transform of it in an engine. -/
def runs (s : State) (tk p : Nat) (n : Ns) (opc : Nat) : Prop :=
  started s tk false opc ∧ (tkGet s tk).parcel = some p ∧ nsGet s (tkGet s tk).cmd.nsid = some n ∧ (tkGet s tk).waitProg = [] ∧
    (tkGet s tk).r2t = false ∧ tkXform s tk = false ∧ ∀ f q, (tkGet s tk).src = .pcie f q → (fnGet s f).bme = true

/-- The tiles of a command's block range. -/
def tilesOf (s : State) (tk : Nat) (n : Ns) : List TileSpan := spans n (cmdSlba (tkGet s tk).cmd) (cmdNlb (tkGet s tk).cmd)

/-- Its tiles have all been delivered and need no transform, or have gone through the engines (R163). -/
def allCome (s : State) (tk : Nat) (n : Ns) : Prop :=
  (tkGet s tk).reads ≠ [] ∧ readsDone (tkGet s tk) = true ∧ ((tkGet s tk).reads.any (·.bad)) = false ∧
    (transforms n = 0 ∨ (tkGet s tk).xdec ≠ .idle)

/-- Its tiles have all been delivered; `d` is their blocks. -/
def delivered (s : State) (tk : Nat) (n : Ns) (d : Bytes) : Prop :=
  allCome s tk n ∧ d = gather (tkGet s tk) 0 (tilesOf s tk n)

/-- READ of tiles that are unmapped or zero: as many octets of zero as its blocks have, at once (R241, R242). -/
def readsZero : Prop := ∀ tk s p n, runs s tk p n 2 → (tkGet s tk).reads = [] → 1 ≤ (tilesOf s tk n).length →
  (∀ x ∈ tilesOf s tk n, mapLookup s x.tile = .unmapped ∨ mapLookup s x.tile = .zero) → (tilesOf s tk n).length ≤ s.fr.pool →
  gives (.read tk) s fun t => ends t tk .success ∧
    t.out = s.out ++ dataOuts s tk (zeros (cmdNlb (tkGet s tk).cmd * lbaSize n))
/-- READ, VERIFY and COMPARE whose tiles are delivered; a tile that cannot be read ends each with its status (R150, R274, R434). -/
def readsDelivered : Prop := ∀ tk s p n d,
  (runs s tk p n 2 → delivered s tk n d → gives (.read tk) s fun t => ends t tk .success ∧ t.out = s.out ++ dataOuts s tk d) ∧
  (runs s tk p n 0xC → delivered s tk n d → gives (.verify tk) s fun t => ends t tk .success ∧ t.out = s.out) ∧
  (∀ c, runs s tk p n 5 → (tkGet s tk).cmd.fused = 0 → (tkGet s tk).fuse2 = none → (tkGet s tk).heldData = none → delivered s tk n d →
    gives (.compare tk c) s fun t => ends t tk (if hostData (tkGet s tk) c = d then .success else .compareFailure)) ∧
  (runs s tk p n 2 → (tkGet s tk).reads ≠ [] → readsDone (tkGet s tk) = true → ((tkGet s tk).reads.any (·.bad)) = true →
    gives (.read tk) s fun t => t.out = s.out ∧
      ends t tk (if n.encrypt = true ∧ mediaKey s n = none then .keyRevoked else .unrecoveredRead))

/-- Writes of device tile `d` need no table and no overlay that is not there (R252, R256). -/
def takesWrites (s : State) (d : Nat) : Prop :=
  let q := d / quadTiles
  (qForm (dirGet s q) = formPage ∧ (tabGet s.atl.tabs (qTable (dirGet s q))).isSome = true) ∨
    qForm (dirGet s q) = formSheet ∧ ∃ o, sheetGet s q (d % quadTiles / sheetTiles s) = o ∧ sOv o = true ∧
      (tabGet s.atl.overlays (sOverlay o)).isSome = true

/-- A write-like command of whole tiles without transforms, for which tokens, buffer, budget and map have room. -/
def roomFor (s : State) (tk p : Nat) (n : Ns) (ops : List TileOp) : Prop :=
  (tkGet s tk).reads = [] ∧ transforms n = 0 ∧ tkXform s tk = false ∧ tapFull s ((tkGet s tk).cmd.nsid - 1) = false ∧ tokenOk s p 1 = true ∧
    (armed s = true → occupancy s + ops.length ≤ budgetUnits s) ∧ s.atl.wbuf.length + ops.length ≤ 262144 ∧
    ∀ o ∈ ops, o.whole = true ∧ takesWrites s o.tile

/-- Its completion is due at once, or waits until its tiles are programmed, as the durability mode of its acceptance has it, or the
device-wide write-through (R127, R129, R131). -/
def writeEnds (s t : State) (tk : Nat) (ops : List TileOp) : Prop :=
  if (tkGet s tk).through || regBit s HQ_DURABILITY 30 then
    (tkGet t tk).phase = .started ∧ (tkGet t tk).waitProg = ops.map (·.tile) ∧ (tkGet t tk).ponr = true
  else ends t tk .success

/-- Of a command of one tile: the tile now reads as the content. -/
def tileHolds (t : State) (n : Ns) (ops : List TileOp) (d : Bytes) : Prop :=
  ∀ o, ops = [o] → d.length = 4096 → tileNow t n o.tile = some d

/-- WRITE of whole tiles (R127, R243, R246), and a write held in granules once there is room (R128). -/
def writes : Prop := ∀ tk data s p n, runs s tk p n 1 →
  (∀ d, (tkGet s tk).heldData = none → d = hostData (tkGet s tk) data →
    let ops := dataOps n (cmdSlba (tkGet s tk).cmd) (cmdNlb (tkGet s tk).cmd) d
    roomFor s tk p n ops → gives (.write tk data) s fun t => writeEnds s t tk ops ∧ tileHolds t n ops d ∧ otherTickets s t tk) ∧
  (∀ d, (tkGet s tk).heldData = some d → (tkGet s tk).begun = true →
    let ops := dataOps n (cmdSlba (tkGet s tk).cmd) (cmdNlb (tkGet s tk).cmd) d
    roomFor s tk p n ops → gives (.heldWriteBufferEntry tk) s fun t =>
      writeEnds s t tk ops ∧ tileHolds t n ops d ∧ otherTickets s t tk)
/-- WRITE_ZEROES and a Deallocate of whole tiles: they read as zeros (R245). -/
def zeroes : Prop := ∀ tk s p n,
  (runs s tk p n 8 →
    let ops := zeroOps n (cmdSlba (tkGet s tk).cmd) (cmdNlb (tkGet s tk).cmd) (if bitOf (tkGet s tk).cmd.cdw12 25 then wUnmapped else wZero)
    roomFor s tk p n ops → gives (.writeZeroes tk) s fun t => writeEnds s t tk ops ∧ tileHolds t n ops (zeros 4096)) ∧
  (runs s tk p n 9 →
    let ops := dsmOps n (dsmRanges (tkGet s tk).cmd)
    bitOf (tkGet s tk).cmd.cdw11 2 = true → roomFor s tk p n ops →
      gives (.datasetManagement tk) s fun t => writeEnds s t tk ops ∧ tileHolds t n ops (zeros 4096)) ∧
  (runs s tk p n 9 → bitOf (tkGet s tk).cmd.cdw11 2 = false →
    gives (.datasetManagement tk) s fun t => ends t tk .success ∧ t.atl = s.atl)
/-- COPY whose source tiles are delivered writes their blocks at its destination (R795). -/
def copies : Prop := ∀ tk s p n, runs s tk p n 0x19 → (tkGet s tk).heldData = none → allCome s tk n →
  let d := gather (tkGet s tk) copyBase ((copyRanges (tkGet s tk).cmd).flatMap fun r => spans n r.1 r.2)
  let ops := dataOps n (cmdSlba (tkGet s tk).cmd) (copyBlocks (tkGet s tk).cmd) d
  roomFor (heldPut s tk d) tk p n ops → gives (.copy tk) s fun t => writeEnds s t tk ops ∧ tileHolds t n ops d
/-- FLUSH with nothing of its namespaces left to program ends; while an earlier write of them is not completed it waits (R133). -/
def flushes : Prop := ∀ tk s p, started s tk false 0 → (tkGet s tk).parcel = some p →
  (∀ e ∈ s.atl.wbuf, flushCovers s tk p e.2 = false) →
  (flushBlocked s tk p = false → gives (.flush tk) s fun t => ends t tk .success ∧ t.atl = s.atl ∧ otherTickets s t tk) ∧
  (flushBlocked s tk p = true → gives (.flush tk) s fun t => tkGet t tk = { tkGet s tk with begun := true } ∧ t.atl = s.atl)
/-- FUSED_COMPARE_AND_WRITE: data that compare equal end both commands; data that differ end the Compare with Compare Failure and
the Write with the fused status, and change no tile; a Compare whose next command is not its Write, or is one of another range or
namespace, ends so too, and one whose next command has not been taken waits (R118). -/
def fuses : Prop := ∀ tk c w s p n d, runs s tk p n 5 → (tkGet s tk).cmd.fused = 1 → (tkGet s tk).heldData = none → tabSorted s.cq.tickets = true →
  (fusedMate s tk = none → fusedNext s tk = true →
    gives (.fusedCompareAndWrite tk c w) s fun t => ends t tk .fusedMissing ∧ t.atl = s.atl) ∧
  (fusedMate s tk = none → fusedNext s tk = false → gives (.fusedCompareAndWrite tk c w) s fun t => t = s) ∧
  ∀ j, fusedMate s tk = some j → j ≠ tk →
    (cmdSlba (tkGet s j).cmd ≠ cmdSlba (tkGet s tk).cmd ∨ cmdNlb (tkGet s j).cmd ≠ cmdNlb (tkGet s tk).cmd ∨
        (tkGet s j).cmd.nsid ≠ (tkGet s tk).cmd.nsid → gives (.fusedCompareAndWrite tk c w) s fun t => ends t tk .invalidField ∧ ends t j .fusedFailed ∧ t.atl = s.atl) ∧
    (cmdSlba (tkGet s j).cmd = cmdSlba (tkGet s tk).cmd → cmdNlb (tkGet s j).cmd = cmdNlb (tkGet s tk).cmd →
      (tkGet s j).cmd.nsid = (tkGet s tk).cmd.nsid → delivered s tk n d →
      (hostData (tkGet s tk) c ≠ d → gives (.fusedCompareAndWrite tk c w) s fun t =>
        ends t tk .compareFailure ∧ ends t j .fusedFailed ∧ t.atl = s.atl) ∧
      (∀ ops, ops = dataOps n (cmdSlba (tkGet s j).cmd) (cmdNlb (tkGet s j).cmd) (hostData (tkGet s j) w) →
        hostData (tkGet s tk) c = d → (tkGet s j).cmd.opc = 1 → (tkGet s j).admin = false → roomFor s j p n ops →
        gives (.fusedCompareAndWrite tk c w) s fun t => ends t tk .success ∧ writeEnds s t j ops ∧
          tileHolds t n ops (hostData (tkGet s j) w)))

/-! ## Chapter 03: admin commands -/

/-- A started admin command of a controller. -/
def admin (s : State) (tk opc c : Nat) : Prop := started s tk true opc ∧ (tkGet s tk).ctrl = c

/-- CREATE and DELETE of I/O queues (R102, R105, R794). -/
def createsSq : Prop := ∀ tk c s, admin s tk 1 c →
  let w := (tkGet s tk).cmd
  let qid := bitsOf w.cdw10 15 0
  (1 ≤ qid → qid ≤ 64 → sqCount s c < queueAlloc s c → tabGet s.cq.sqs (qkey c qid) = none → 1 ≤ bitsOf w.cdw10 31 16 →
    bitsOf w.cdw10 31 16 ≤ 4095 → bitsOf w.cdw11 31 16 ≠ 0 → (tabGet s.cq.cqs (qkey c (bitsOf w.cdw11 31 16))).isSome = true →
    bitOf w.cdw11 0 = true → gives (.createIoSubmissionQueue tk) s fun t => ends t tk .success ∧ otherTickets s t tk ∧
      tabGet t.cq.sqs (qkey c qid) = some { cqid := bitsOf w.cdw11 31 16, depth := bitsOf w.cdw10 31 16 + 1, ordered := bitOf w.cdw11 15 }) ∧
  (qid = 0 ∨ 64 < qid ∨ queueAlloc s c ≤ sqCount s c → gives (.createIoSubmissionQueue tk) s fun t =>
    ends t tk .invalidQid ∧ t.cq.sqs = s.cq.sqs)
def createsCq : Prop := ∀ tk c s, admin s tk 5 c →
  let w := (tkGet s tk).cmd
  let qid := bitsOf w.cdw10 15 0
  1 ≤ qid → qid ≤ 64 → cqCount s c < queueAlloc s c → tabGet s.cq.cqs (qkey c qid) = none → 1 ≤ bitsOf w.cdw10 31 16 →
  bitsOf w.cdw10 31 16 ≤ 4095 → bitOf w.cdw11 0 = true →
  (bitOf w.cdw11 1 = true → 63 < bitsOf w.cdw11 31 16 → gives (.createIoCompletionQueue tk) s fun t =>
    ends t tk .invalidVector ∧ t.cq.cqs = s.cq.cqs) ∧
  (bitOf w.cdw11 1 = false ∨ bitsOf w.cdw11 31 16 ≤ 63 → gives (.createIoCompletionQueue tk) s fun t => ends t tk .success ∧
    tabGet t.cq.cqs (qkey c qid) = some { depth := bitsOf w.cdw10 31 16 + 1
                                          vec := if bitOf w.cdw11 1 then some (bitsOf w.cdw11 31 16) else none })
/-- DELETE of a submission queue without commands in flight stops its fetch, and SQ_DELETE_COMPLETION removes it and ends every
Delete that waits for it (R794). -/
def deletesSq : Prop := ∀ tk c s q, admin s tk 0 c →
  let qid := bitsOf (tkGet s tk).cmd.cdw10 15 0
  qid ≠ 0 → tabGet s.cq.sqs (qkey c qid) = some q → queueTks s c qid = [] →
  gives (.deleteIoSubmissionQueue tk) s (fun t => tabGet t.cq.sqs (qkey c qid) = some { q with deleting := q.deleting ++ [tk] } ∧
    (tkGet t tk).phase = .started) ∧
  (tk ∈ q.deleting → tabSorted s.cq.sqs = true → gives (.sqDeleteCompletion tk) s fun t => ends t tk .success ∧
    tabGet t.cq.sqs (qkey c qid) = none)
def deletesCq : Prop := ∀ tk c s, admin s tk 4 c →
  let qid := bitsOf (tkGet s tk).cmd.cdw10 15 0
  qid ≠ 0 → (tabGet s.cq.cqs (qkey c qid)).isSome = true → tabSorted s.cq.cqs = true →
  ((∀ e ∈ s.cq.sqs, e.1 / 65536 = c → e.1 % 65536 ≠ 0 → e.2.cqid ≠ qid) → gives (.deleteIoCompletionQueue tk) s fun t =>
    ends t tk .success ∧ tabGet t.cq.cqs (qkey c qid) = none) ∧
  ((∃ e ∈ s.cq.sqs, e.1 / 65536 = c ∧ e.1 % 65536 ≠ 0 ∧ e.2.cqid = qid) → gives (.deleteIoCompletionQueue tk) s fun t =>
    ends t tk .invalidQueueDeletion ∧ t.cq.cqs = s.cq.cqs)

/-- A log page goes out from its offset, padded to the length asked for (R148). -/
def logOut (s t : State) (tk : Nat) (log : Bytes) : Prop :=
  let w := (tkGet s tk).cmd
  let len := 4 * (bitsOf w.cdw10 31 16 + bitsOf w.cdw11 15 0 * 65536 + 1)
  ends t tk .success ∧
    t.out = s.out ++ dataOuts s tk (((log.drop (w.cdw12 + w.cdw13 * 2 ^ 32)) ++ zeros len).take len)

/-- A Get Log Page of identifier `lid`. -/
def logAsked (s : State) (tk lid : Nat) : Prop := started s tk true 2 ∧ tkBme s tk = true ∧ bitsOf (tkGet s tk).cmd.cdw10 7 0 = lid

/-- The six log pages, and the discovery log on a discovery controller (R92, R148); the SMART page shows the Critical Warning bits
and the composite temperature. -/
def logs : Prop := ∀ tk s,
  (logAsked s tk 1 → gives (.getLogPageErrorInformation tk) s fun t => logOut s t tk (errorLog s)) ∧
  (logAsked s tk 2 → gives (.getLogPageSmartHealth tk) s fun t => let log := smartLog s (tkGet s tk).ctrl
    logOut s t tk log ∧ log.length = 512 ∧ log.head? = some (BitVec.ofNat 8 (criticalWarning s (tkGet s tk).ctrl)) ∧
      slice log 1 2 = leBytes 2 (kelvin s)) ∧
  (logAsked s tk 3 → gives (.getLogPageFirmwareSlot tk) s fun t => let log := fwSlotLog s
    logOut s t tk log ∧ slice log 8 8 = (fwVersion (fwSlot s 1) ++ zeros 8).take 8) ∧
  (logAsked s tk 5 → gives (.getLogPageCommandsSupported tk) s fun t => let log := effectsLog s (tkGet s tk).ctrl
    logOut s t tk log ∧ ∀ o, o < 256 → leAt log (4 * o) 4 = b2n (adminSupported (ctrlKind s (tkGet s tk).ctrl) o)) ∧
  (logAsked s tk 6 → (tkGet s tk).ctrl = 0 → gives (.getLogPageDeviceSelfTest tk) s fun t => 
    logOut s t tk (BitVec.ofNat 8 (s.cq.selfTest.getD 0) :: zeros 563)) ∧
  ∀ n c, logAsked s tk 0x70 → (tkGet s tk).src = .fabric n → connGet s n = some c → c.discovery = true →
    gives (.getLogPageDiscovery tk) s fun t => logOut s t tk (discLog s c.hostNqn)
/-- IDENTIFY of the controller, of an attached namespace, and of one that does not exist (R148, R151); while Bus Master Enable is 0
it holds (R68). -/
def identifies : Prop := ∀ tk c s, admin s tk 6 c → (tkBme s tk = false → gives (.identify tk) s fun t => t = s) ∧ (tkBme s tk = true →
  (bitsOf (tkGet s tk).cmd.cdw10 7 0 = 1 → gives (.identify tk) s fun t => ends t tk .success ∧
    let d := identifyCtrl s c
    t.out = s.out ++ dataOuts s tk d ∧ d.length = 4096 ∧ leAt d 78 2 = cntlid c % 65536 ∧ leAt d 525 1 = b2n (ctrlGet s c).vwc) ∧
  (∀ n, bitsOf (tkGet s tk).cmd.cdw10 7 0 = 0 → nsGet s (tkGet s tk).cmd.nsid = some n → n.parcel.isSome = true →
    n.parcel = ctrlParcel s c → gives (.identify tk) s fun t => ends t tk .success ∧
      let d := identifyNs n
      t.out = s.out ++ dataOuts s tk d ∧ d.length = 4096 ∧ leAt d 0 8 = n.nsze % 2 ^ 64) ∧
  (bitsOf (tkGet s tk).cmd.cdw10 7 0 = 0 → nsGet s (tkGet s tk).cmd.nsid = none → gives (.identify tk) s fun t =>
    ends t tk .invalidNsFormat ∧ t.out = s.out))
/-- ABORT of a command that is not there, or past its point of no return: dword 0 is 1 and the miss is counted (R138-R140). -/
def abortsMissed : Prop := ∀ tk c s, admin s tk 8 c → (tkGet s tk).waitTk = [] → (tksWhere s fun u => u.admin && u.ctrl == c && u.cmd.opc == 8).length ≤ 8 →
  (∀ j, abortTarget s c (bitsOf (tkGet s tk).cmd.cdw10 15 0) (bitsOf (tkGet s tk).cmd.cdw10 31 16) = some j →
    catchable (tkGet s j) = false) →
  gives (.abort tk) s fun t => ends t tk .success ∧ (tkGet t tk).dw0 = 1 ∧ otherTickets s t tk ∧
    regNat t HQ_ABORT_MISSED = (regNat s HQ_ABORT_MISSED + 1) % 2 ^ 32
/-- ABORT of a command that is caught: it ends first, with Command Abort Requested, and changes no map word; while its completion is
held the Abort waits for it (R138, R141). -/
def abortsCaught : Prop := ∀ tk c j s, admin s tk 8 c → (tkGet s tk).waitTk = [] → (tksWhere s fun u => u.admin && u.ctrl == c && u.cmd.opc == 8).length ≤ 8 →
  abortTarget s c (bitsOf (tkGet s tk).cmd.cdw10 15 0) (bitsOf (tkGet s tk).cmd.cdw10 31 16) = some j → j ≠ tk →
  catchable (tkGet s j) = true → gives (.abort tk) s fun t => t.atl = s.atl ∧
    ((tkGet t j).busy = false → ends t tk .success ∧ (tkGet t tk).dw0 = 0) ∧
    ((tkGet t j).busy = true → ends t j .abortRequested ∧ (tkGet t j).caught = true ∧ (tkGet t tk).phase = .started ∧
      (tkGet t tk).waitTk = [j]) ∧
    regNat t HQ_ABORT_CAUGHT = (regNat s HQ_ABORT_CAUGHT + 1) % 2 ^ 32

/-- A Set Features of identifier `fid`. -/
def setting (s : State) (tk fid : Nat) : Prop := started s tk true 9 ∧ bitsOf (tkGet s tk).cmd.cdw10 7 0 = fid

/-- The command ends and its controller alone has changed, as said. -/
def setTo (s t : State) (tk c : Nat) (k : Ctrl) : Prop :=
  ends t tk .success ∧ otherTickets s t tk ∧ ctrlGet t c = k ∧ ∀ d, d ≠ c → ctrlGet t d = ctrlGet s d

/-- SET_FEATURES by identifier (R102, R106, R152). -/
def features : Prop := ∀ tk s,
  let c := (tkGet s tk).ctrl
  let v := (tkGet s tk).cmd.cdw11
  (setting s tk 1 → gives (.setFeaturesArbitration tk) s fun t => setTo s t tk c { ctrlGet s c with arb := v }) ∧
  (setting s tk 2 → gives (.setFeaturesPowerManagement tk) s fun t => otherTickets s t tk ∧
    ends t tk (if bitsOf v 4 0 = 0 then .success else .invalidField)) ∧
  (setting s tk 4 → bitsOf v 19 16 = 0 ∨ bitsOf v 19 16 = 15 →
    (bitsOf v 21 20 = 0 → gives (.setFeaturesTemperatureThreshold tk) s fun t =>
      setTo s t tk c { ctrlGet s c with tOver := v % 65536 }) ∧
    (bitsOf v 21 20 = 1 → gives (.setFeaturesTemperatureThreshold tk) s fun t =>
      setTo s t tk c { ctrlGet s c with tUnder := v % 65536 })) ∧
  (setting s tk 5 → gives (.setFeaturesErrorRecovery tk) s fun t => setTo s t tk c { ctrlGet s c with tler := v % 65536 }) ∧
  (setting s tk 6 → ((ctrlGet s c).vwc = true → gives (.setFeaturesVolatileWriteCache tk) s fun t =>
      setTo s t tk c { ctrlGet s c with wce := bitOf v 0 }) ∧
    ((ctrlGet s c).vwc = false → gives (.setFeaturesVolatileWriteCache tk) s fun t =>
      ends t tk .invalidField ∧ ctrlGet t c = ctrlGet s c)) ∧
  (setting s tk 7 → gives (.setFeaturesNumberOfQueues tk) s fun t => ends t tk .success ∧
    (tkGet t tk).dw0 = (queueAlloc s c - 1) + (queueAlloc s c - 1) * 65536 ∧ ctrlGet t c = ctrlGet s c) ∧
  (setting s tk 8 → isVf c = true → gives (.setFeaturesInterruptCoalescing tk) s fun t =>
    setTo s t tk c { ctrlGet s c with coal := v % 65536 }) ∧
  (setting s tk 9 → isVf c = true → bitsOf v 15 0 ≤ 63 → gives (.setFeaturesInterruptVectorConfig tk) s fun t =>
    ends t tk .success ∧ (((ctrlGet t c).vecCfg.find? (·.1 == bitsOf v 15 0)).map (·.2)) = some (bitsOf v 16 16)) ∧
  (setting s tk 0xB → gives (.setFeaturesAsyncEventConfig tk) s fun t => setTo s t tk c { ctrlGet s c with aen := v }) ∧
  (setting s tk 0xF → (fabricBase ≤ c → gives (.setFeaturesKeepAliveTimer tk) s fun t =>
      setTo s t tk c { ctrlGet s c with kato := v }) ∧
    (c < fabricBase → gives (.setFeaturesKeepAliveTimer tk) s fun t => ends t tk .invalidField ∧ ctrlGet t c = ctrlGet s c)) ∧
  (∀ p, setting s tk 0xC1 → (tkGet s tk).parcel = some p → gives (.setFeaturesOrderMark tk) s fun t =>
    ends t tk .success ∧ t.cq.orderMark.contains p = bitOf v 0 ∧ ∀ q, q ≠ p → t.cq.orderMark.contains q = s.cq.orderMark.contains q) ∧
  (setting s tk 0xC2 → (attachedNs s c).contains (tkGet s tk).cmd.nsid = true →
    gives (.setFeaturesRequireHoldup tk) s fun t => ends t tk .success ∧
      t.cq.reqHoldup.contains ((tkGet s tk).cmd.nsid - 1) = bitOf v 0)
/-- GET_FEATURES returns the value in force in dword 0, and changes nothing (R152). -/
def featuresRead : Prop := ∀ tk c s, admin s tk 0xA c →
  (bitsOf (tkGet s tk).cmd.cdw10 7 0 = 1 → gives (.getFeatures tk) s fun t => ends t tk .success ∧ (tkGet t tk).dw0 = (ctrlGet s c).arb) ∧
  (bitsOf (tkGet s tk).cmd.cdw10 7 0 = 5 → gives (.getFeatures tk) s fun t => ends t tk .success ∧ (tkGet t tk).dw0 = (ctrlGet s c).tler) ∧
  (bitsOf (tkGet s tk).cmd.cdw10 7 0 = 0xB → gives (.getFeatures tk) s fun t => ends t tk .success ∧ (tkGet t tk).dw0 = (ctrlGet s c).aen) ∧
  (bitsOf (tkGet s tk).cmd.cdw10 7 0 = 6 → gives (.getFeatures tk) s fun t => if (ctrlGet s c).vwc then
    ends t tk .success ∧ (tkGet t tk).dw0 = b2n (ctrlGet s c).wce else ends t tk .invalidField) ∧
  (featSupported (bitsOf (tkGet s tk).cmd.cdw10 7 0) = false → gives (.getFeatures tk) s fun t => ends t tk .invalidField)
/-- ASYNCHRONOUS_EVENT_REQUEST: it completes with an event that waits, is kept while fewer than 4 are, and a fifth is refused
(R148). -/
def eventRequests : Prop := ∀ tk c s, admin s tk 0xC c → (ctrlGet s c).aers.contains tk = false →
  ((ctrlGet s c).aers.length < 4 → (ctrlGet s c).events = [] → gives (.asynchronousEventRequest tk) s fun t =>
    (ctrlGet t c).aers = (ctrlGet s c).aers ++ [tk] ∧ tkGet t tk = tkGet s tk) ∧
  (∀ e l, (ctrlGet s c).aers.length < 4 → (ctrlGet s c).events = e :: l → gives (.asynchronousEventRequest tk) s fun t =>
    ends t tk .success ∧ (tkGet t tk).dw0 = e ∧ (ctrlGet t c).events = l) ∧
  (4 ≤ (ctrlGet s c).aers.length → gives (.asynchronousEventRequest tk) s fun t => ends t tk .aerLimit ∧ ctrlGet t c = ctrlGet s c)

/-! Namespaces (R171-R173, R233-R236) -/

/-- NAMESPACE_CREATE within the capacity: the lowest free index, unattached, of the size and format asked for (R233, R235). -/
def creates : Prop := ∀ tk z f k s, started s tk true 0xD → tkBme s tk = true → bitsOf (tkGet s tk).cmd.cdw10 3 0 = 0 → tabFree s.atl.nss 0 4096 = some k →
  z ≠ 0 → f ≤ 1 → ((if f = 0 then (z + 7) / 8 else z) + quadTiles - 1) / quadTiles ≤ quadsLeft s →
  gives (.namespaceCreate tk z f) s fun t => ends t tk .success ∧ (tkGet t tk).dw0 = k + 1 ∧
    (∃ n, nsGet t (k + 1) = some n ∧ n.nsze = z ∧ n.lbads = (if f = 0 then 9 else 12) ∧ n.parcel = none ∧
      ∀ q ∈ n.quads, qForm (dirGet t q) = formEmpty ∧ qNs (dirGet t q) = k % 4096) ∧
    ∀ i, i ≠ k + 1 → nsGet t i = nsGet s i
/-- NAMESPACE_DELETE takes the namespace out of service at once, and NAMESPACE_DELETE_EFFECT frees its quadrangles (R236). -/
def deletes : Prop := ∀ tk s n, started s tk true 0xD → bitsOf (tkGet s tk).cmd.cdw10 3 0 = 1 →
  let id := (tkGet s tk).cmd.nsid
  id ≠ 0xFFFFFFFF → nsGet s id = some n → (∀ p, n.parcel = some p → parcelBusy s p = false) →
  gives (.namespaceDelete tk) s fun t => ends t tk .success ∧ t.atl.deleted.contains id = true ∧ nsGet t id = some { n with leaving := true }
def deletesEffect : Prop := ∀ id s n, s.atl.deleted.contains id = true → nsGet s id = some n → tabSorted s.atl.nss = true →
  tabSorted s.atl.dir = true → gives (.namespaceDeleteEffect id) s fun t => nsGet t id = none ∧ t.atl.deleted.contains id = false ∧
    ∀ q ∈ n.quads, dirGet t q = 0
/-- NAMESPACE_ATTACH and NAMESPACE_DETACH of the parcel whose function the controller list names (R172, R173). -/
def attaches : Prop := ∀ tk cs p n s,
  let id := (tkGet s tk).cmd.nsid
  started s tk true 0x15 → tkBme s tk = true → listParcel s cs = some p → parcelBusy s p = false → nsGet s id = some n →
  (bitsOf (tkGet s tk).cmd.cdw10 3 0 = 0 → n.parcel = none →
    (s.atl.nss.filter fun e => e.2.parcel == some p).length < min 64 (parGet s p).lim.namespaces →
    gives (.namespaceAttach tk cs) s fun t => ends t tk .success ∧ nsGet t id = some { n with parcel := some p, leaving := false }) ∧
  (bitsOf (tkGet s tk).cmd.cdw10 3 0 = 0 → n.parcel.isSome = true → gives (.namespaceAttach tk cs) s fun t =>
    ends t tk .nsAttached ∧ t.atl = s.atl) ∧
  (bitsOf (tkGet s tk).cmd.cdw10 3 0 = 1 → n.parcel = some p → (parGet s p).st = .active → gives (.namespaceDetach tk cs) s fun t =>
    ends t tk .success ∧ nsGet t id = some { n with leaving := true }) ∧
  (bitsOf (tkGet s tk).cmd.cdw10 3 0 = 1 → n.parcel ≠ some p → gives (.namespaceDetach tk cs) s fun t =>
    ends t tk .nsNotAttached ∧ t.atl = s.atl)
/-- DEVICE_SELF_TEST starts a short or extended test, refuses a second one, and Fh ends one (R148). -/
def selfTests : Prop := ∀ tk s, started s tk true 0x14 →
  let stc := bitsOf (tkGet s tk).cmd.cdw10 3 0
  (stc = 15 → gives (.deviceSelfTest tk) s fun t => ends t tk .success ∧ t.cq.selfTest = none) ∧
  (stc = 1 ∨ stc = 2 → (s.cq.selfTest = none → gives (.deviceSelfTest tk) s fun t => ends t tk .success ∧ t.cq.selfTest = some stc) ∧
    (s.cq.selfTest.isSome = true → gives (.deviceSelfTest tk) s fun t => ends t tk .selfTestRunning ∧ t.cq.selfTest = s.cq.selfTest))
/-- VIRTUALIZATION_MANAGEMENT of a function whose parcel resets is refused; else it may be taken offline (R148, R171; log 36). -/
def virtualizes : Prop := ∀ tk p s, started s tk true 0x1C →
  let id := bitsOf (tkGet s tk).cmd.cdw10 31 16
  1 ≤ id → id ≤ 255 → boundParcel s id = some p →
  (parcelBusy s p = true → gives (.virtualizationManagement tk) s fun t => ends t tk .parcelResetting ∧ ctrlGet t id = ctrlGet s id) ∧
  (parcelBusy s p = false → bitsOf (tkGet s tk).cmd.cdw10 3 0 = 7 → gives (.virtualizationManagement tk) s fun t =>
    ends t tk .success ∧ ctrlGet t id = { ctrlGet s id with rdy := false })
/-- FORMAT_NVM of an attached namespace in its own format: every quadrangle is EMPTY. With a cryptographic erase the renewal of its media
key slot is asked for, once, and the command ends with it (R149, R151, R236, R434). -/
def formats : Prop := ∀ tk s n p, started s tk true 0x80 → nsGet s (tkGet s tk).cmd.nsid = some n → (tkGet s tk).parcel = some p →
  n.parcel = some p → (parGet s p).st ≠ .frozen → bitsOf (tkGet s tk).cmd.cdw10 3 0 = (if n.lbads = 9 then 0 else 1) →
  (bitsOf (tkGet s tk).cmd.cdw10 11 9 = 0 → gives (.formatNvmNoErase tk) s fun t => ends t tk .success ∧
    (∀ q ∈ n.quads, qForm (dirGet t q) = formEmpty) ∧ t.ks = s.ks) ∧
  (bitsOf (tkGet s tk).cmd.cdw10 11 9 = 2 → n.media = none → gives (.formatNvmCryptoErase tk) s fun t => ends t tk .success ∧
    ∀ q ∈ n.quads, qForm (dirGet t q) = formEmpty) ∧
  ∀ k, bitsOf (tkGet s tk).cmd.cdw10 11 9 = 2 → n.media = some k →
    let r := KeyReq.renew tk (tkGet s tk).edition (tkGet s tk).cmd.nsid k
    (r ∉ s.ks.reqs → gives (.formatNvmCryptoErase tk) s fun t => t.ks = { s.ks with reqs := s.ks.reqs ++ [r] } ∧ t.atl = s.atl ∧
      tkGet t tk = { tkGet s tk with begun := true }) ∧
    (r ∈ s.ks.reqs → gives (.formatNvmCryptoErase tk) s fun t => t = s)
/-- FIRMWARE_IMAGE_DOWNLOAD places octets in the slot that is not running; FIRMWARE_COMMIT points the next boot at it where it is
authentic, and changes nothing where it is not (R148, R444). -/
def firmware : Prop := ∀ tk data s,
  (started s tk true 0x11 → tkBme s tk = true → gives (.firmwareImageDownload tk data) s fun t => ends t tk .success ∧
    slice (fwSlot t (fwOther s)) (4 * (tkGet s tk).cmd.cdw11) data.length = data ∧
    ∀ k, k ≠ fwOther s → fwSlot t k = fwSlot s k) ∧
  (started s tk true 0x10 → gives (.firmwareCommit tk) s fun t => if slotValid s (fwOther s) then ends t tk .success ∧
    t.pw = { s.pw with next := some (fwOther s) } else ends t tk .invalidFwImage ∧ t.pw = s.pw)
/-- PROPERTY_GET of CC and of a property that is not there, PROPERTY_SET of CC, KEEP_ALIVE (R148, R152). -/
def properties : Prop := ∀ tk c s,
  (admin s tk 0x7F c → (tkGet s tk).cmd.nsid % 256 = 4 →
    ((tkGet s tk).cmd.cdw11 = 0x14 → gives (.propertyGet tk) s fun t => ends t tk .success ∧
      (tkGet t tk).dw0 = (ctrlGet s c).cc % 2 ^ 32 ∧ ctrlGet t c = ctrlGet s c) ∧
    ((tkGet s tk).cmd.cdw11 ∉ [0, 8, 0x14, 0x1C] → gives (.propertyGet tk) s fun t => ends t tk .invalidField)) ∧
  (admin s tk 0x7F c → (tkGet s tk).cmd.nsid % 256 = 0 →
    ((tkGet s tk).cmd.cdw11 = 0x14 → gives (.propertySet tk) s fun t => ends t tk .success ∧
      (ctrlGet t c).cc = (tkGet s tk).cmd.cdw12 ∧ ((ctrlGet s c).cc % 2 = (tkGet s tk).cmd.cdw12 % 2 →
        ctrlGet t c = { ctrlGet s c with cc := (tkGet s tk).cmd.cdw12 }) ∧
      ((ctrlGet s c).cc % 2 ≠ (tkGet s tk).cmd.cdw12 % 2 → (ctrlGet t c).rdy = ((tkGet s tk).cmd.cdw12 % 2 == 1) ∧
        (ctrlGet t c).vwc = !armed s ∧ (ctrlGet t c).wce = true)) ∧
    ((tkGet s tk).cmd.cdw11 ≠ 0x14 → gives (.propertySet tk) s fun t => ends t tk .invalidField ∧ ctrlGet t c = ctrlGet s c)) ∧
  (admin s tk 0x18 c → gives (.keepAlive tk) s fun t => setTo s t tk c { ctrlGet s c with lastKa := frameNo s })

/-! ## Chapter 14: how packets come in and are answered -/

/-- The packet passes its intake and the checks of R705: it comes over MCTP or with a C1h command that waits for it, there is
room, it repeats no other, and nothing stops the device. -/
def arrives (s : State) (op : Nat) (p : Packet) : Prop :=
  (p.mctp = true ∨ onTicket s p = true ∧ c1Fields (tkGet s p.id).cmd = true ∧ (tkGet s p.id).cmd.dok = true) ∧
    s.mg.flights.length < (if fevoum s then 4 else 64) ∧ (∀ e ∈ s.mg.flights, carrier e.2.p = carrier p → e.2.p.seq ≠ p.seq) ∧
    (∀ c ∈ tabGetD s.mg.caches (carrier p) [], c.op = op → samePacket c.p p = false) ∧ s.ev.powerFail = false ∧
    s.pw.halted = false ∧ s.fr.fatal = false ∧ packetCheck s op p = none ∧ tabSorted s.mg.flights = true

/-- It may take effect at once: no other of its PARCEL waits before it, and its buffer is readable (R68, R697, R708). -/
def acts (s : State) (op : Nat) (p : Packet) : Prop :=
  arrives s op p ∧ (∀ e ∈ s.mg.flights, e.2.p.parcel = p.parcel → e.2.applied = true) ∧ p.bufOk = true ∧
    (p.mctp = true ∨ (fnGet s 0).bme = true)

/-- The packet is in flight under the next number, taking effect or not (R704). -/
def flies (s t : State) (op : Nat) (p : Packet) (applied : Bool) : Prop :=
  flightGet t s.mg.next = some { op := op, p := p, intake := frameNo s, applied := applied, fevoum := fevoum s,
                                    tkEd := (tkGet s p.id).edition }

/-- Packet `n` is answered: the reply goes out and it is no longer in flight (R694, R704). -/
def replied (t : State) (n op : Nat) (p : Packet) (st : RStat) (res : Bytes) : Prop :=
  .reply p.mctp p.id p.tag p.seq op st (if st = .ok then res ++ zeros (28 - res.length) else zeros 28) ∈ t.out ∧ flightGet t n = none
def answered (s t : State) (op : Nat) (p : Packet) (st : RStat) (res : Bytes) : Prop := replied t s.mg.next op p st res

/-- Packet `f` in flight can be answered now: the admin command that carried it still waits, and what it writes can go out (R67, R68,
R707, R759). -/
def canReply (s : State) (f : Flight) : Prop :=
  s.ev.powerFail = false ∧ s.fr.fatal = false ∧ replyLive s f.p f.tkEd = true ∧ (f.p.mctp = true ∨ (fnGet s 0).bme = true)

/-- The state in which a packet that acts at once has its effect. -/
def inHand (s : State) (op : Nat) (p : Packet) : State := flightApplied (flightAdd s op p) s.mg.next

/-- A packet of step 5 is in flight and no parcel has changed (R167, R704). -/
def waitsForStep : Prop := ∀ (s : State) (p : Packet), ∀ x : (Packet → Instr) × Nat,
  x ∈ [(.parcelCreate, 0x101), (.parcelConfigure, 0x102), (.parcelBindVf, 0x103), (.parcelUnbindVf, 0x104), (.parcelHostPair, 0x105),
    (.parcelAssignNs, 0x106), (.parcelEnable, 0x107), (.parcelThaw, 0x10A), (.parcelSave, 0x10B), (.parcelRestore, 0x10C),
    (.parcelRetire, 0x10D), (.parcelShare, 0x10F)] →
  arrives s x.2 p → gives (x.1 p) s fun t => flies s t x.2 p false ∧ t.pc = s.pc ∧ t.out = s.out

/-- A reset or a freeze is asked for, for the next boundary (R167). -/
def requestsMade : Prop := ∀ s p,
  (arrives s 0x108 p → gives (.parcelReset p) s fun t => flies s t 0x108 p false ∧
    parGet t p.parcel = { parGet s p.parcel with reqs := (parGet s p.parcel).reqs ++ [.reset 0 (bitOf p.flags 0) (.packet s.mg.next)] }) ∧
  (arrives s 0x109 p → gives (.parcelFreeze p) s fun t => flies s t 0x109 p false ∧
    parGet t p.parcel = { parGet s p.parcel with reqs := (parGet s p.parcel).reqs ++ [.freeze s.mg.next] })
/-- A packet of an unknown opcode fails the first check of R705: it is answered BAD_OPCODE and has no other effect. -/
def checksFail : Prop := ∀ s op p, opKnown op = false → p.mctp = true → s.mg.flights.length < (if fevoum s then 4 else 64) →
  (∀ e ∈ s.mg.flights, carrier e.2.p = carrier p → e.2.p.seq ≠ p.seq) →
  (∀ c ∈ tabGetD s.mg.caches (carrier p) [], c.op = op → samePacket c.p p = false) → s.ev.powerFail = false → s.pw.halted = false →
  tabSorted s.mg.flights = true →
  gives (.unknownManagerPacket op p) s fun t => answered s t op p .badOpcode [] ∧ t.pc = s.pc ∧ t.ks = s.ks ∧ t.cs = s.cs
/-- MG_INFLIGHT_READ shows the packets in flight and the peak, which it clears (R730). -/
def inflightRead : Prop := ∀ s, inFlight s < 65536 → gives .mgInflightRead s fun t =>
  t.out = s.out ++ [.regRead MG_INFLIGHT (BitVec.ofNat 32 (regFld s MG_INFLIGHT 22 16 * 65536 + inFlight s))] ∧
    regFld t MG_INFLIGHT 22 16 = 0 ∧ regsSameBut s t [MG_INFLIGHT]

/-! ## Chapter 04: what parcel packets do in step 5 -/

/-- Flight `n` is a packet `f` of parcel `k` whose step has come, alone of its PARCEL, and no controller of it asks to be enabled
(R167, R804). -/
def due (s : State) (k n : Nat) (f : Flight) : Prop :=
  flightGet s n = some f ∧ f.p.parcel = k ∧ f.applied = false ∧ f.intake < frameNo s ∧ tabSorted s.mg.flights = true ∧
    (∀ e ∈ s.mg.flights, e.2.p.parcel = k → e.1 = n) ∧ (∀ r ∈ (parGet s k).reqs, isCcEn r = false) ∧ f.p.bufOk = true ∧
    keyWaits s n = false ∧ canReply s f

/-- PARCEL_REQUEST_EFFECT with packet `f` of opcode `op` due: it gives `P`. -/
def effect (op : Nat) (P : State → State → Nat → Nat → Flight → Prop) (H : State → Nat → Flight → Prop) : Prop :=
  ∀ k n f s, due s k n f → f.op = op → H s k f → gives (.parcelRequestEffect k) s fun t => P s t k n f

/-- Every parcel but `k` is as it was. -/
def otherParcels (s t : State) (k : Nat) : Prop := ∀ j, j ≠ k → parGet t j = parGet s j

/-- PARCEL_CREATE of a VACANT entry: PROVISIONED with the packet's limits, default compute limits, no attachment, its edition kept
(R164, R168, R199, R713). -/
def created : Prop := effect 0x101
  (fun s t k n f => (parGet t k).st = .provisioned ∧ (parGet t k).edition = (parGet s k).edition ∧ attached (parGet t k) = false ∧
    (parGet t k).lim = { namespaces := pAt f.p 8 2, queuePairs := pAt f.p 10 2, keySlots := pAt f.p 12 2, programs := pAt f.p 14 2
                         ranges := pAt f.p 16 1, controllers := pAt f.p 17 1 } ∧ (parGet t k).mask = pAt f.p 20 1 ∧
    otherParcels s t k ∧ replied t n 0x101 f.p .ok (leBytes 2 (parGet s k).edition))
  fun s k f => (parGet s k).st = .vacant ∧ (∀ r ∈ s.pc.held, r.parcel ≠ k) ∧ limitsOk f.p = true ∧ pAt f.p 20 1 < 256 ∧
    pairsAllocated s k + pAt f.p 10 2 ≤ 4096
/-- PARCEL_CONFIGURE: the packet's limits, where the parcel uses no more (R165). -/
def configured : Prop := effect 0x102
  (fun s t k n f => (parGet t k).lim = { (parGet s k).lim with
      namespaces := pAt f.p 8 2, queuePairs := pAt f.p 10 2, keySlots := pAt f.p 12 2, programs := pAt f.p 14 2
      ranges := pAt f.p 16 1, controllers := pAt f.p 17 1 } ∧ (parGet t k).st = (parGet s k).st ∧ replied t n 0x102 f.p .ok [])
  fun s k f => (parGet s k).st = .active ∧ limitsOk f.p = true ∧ limitsBelowUse s k (limitsOf f.p (parGet s k).lim) = false ∧
    pairsAllocated s k + pAt f.p 10 2 ≤ 4096
/-- PARCEL_BIND_VF and PARCEL_UNBIND_VF (R61, R221). -/
def bound : Prop := ∀ fn, effect 0x103
  (fun s t k n f => parGet t k = { parGet s k with vf := some fn } ∧ otherParcels s t k ∧ replied t n 0x103 f.p .ok [])
  fun s k f => (parGet s k).st = .provisioned ∧ (parGet s k).vf = none ∧ packetVf s f.p = some fn ∧ boundParcel s fn = none
def unbound : Prop := ∀ fn, effect 0x104
  (fun s t k n f => (parGet t k).vf = none ∧ (parGet t k).st = (parGet s k).st ∧ (ctrlGet t fn).cc = 0 ∧ replied t n 0x104 f.p .ok [])
  fun s k _ => (parGet s k).st = .provisioned ∧ (parGet s k).vf = some fn
/-- PARCEL_HOST_PAIR registers a pair that nobody has, and a second parcel is refused it (R803). -/
def paired : Prop := ∀ h q, effect 0x105
  (fun s t k n f => parGet t k = { parGet s k with pairs := (parGet s k).pairs ++ [(h, q)] } ∧ t.host.discChange = true ∧
    replied t n 0x105 f.p .ok [])
  fun s k f => (parGet s k).st = .provisioned ∧ f.p.bufLen = 512 ∧ nqnField (slice f.p.buf 0 256) = some h ∧
    nqnField (slice f.p.buf 256 256) = some q ∧ bitOf f.p.flags 0 = false ∧ pairParcel s h q = none ∧
    (parGet s k).pairs.contains (h, q) = false
def pairTaken : Prop := ∀ h q j, effect 0x105
  (fun s t k n f => parGet t k = parGet s k ∧ replied t n 0x105 f.p .wrongState [])
  fun s k f => (parGet s k).st = .provisioned ∧ f.p.bufLen = 512 ∧ nqnField (slice f.p.buf 0 256) = some h ∧
    nqnField (slice f.p.buf 256 256) = some q ∧ bitOf f.p.flags 0 = false ∧ pairParcel s h q = some j ∧
    (parGet s k).pairs.contains (h, q) = false
/-- PARCEL_ASSIGN_NS of an unassigned namespace, within the limit (R172, R173). -/
def assigned : Prop := ∀ v, effect 0x106
  (fun _ t k n f => nsGet t (pAt f.p 8 4) = some { v with parcel := some k, leaving := false } ∧ replied t n 0x106 f.p .ok [])
  fun s k f => (parGet s k).st = .active ∧ nsGet s (pAt f.p 8 4) = some v ∧ v.parcel = none ∧ bitOf f.p.flags 0 = false ∧
    (parcelNss s k).length < min 64 (parGet s k).lim.namespaces
/-- PARCEL_ENABLE: PROVISIONED with an attachment becomes ACTIVE, without one replies BAD_PARAMETER; RESETTING becomes ENABLING and
answers later; VACANT replies WRONG_STATE (R168, R174). -/
def enabled : Prop := effect 0x107
    (fun _ t k n f => (parGet t k).st = .active ∧ replied t n 0x107 f.p .ok [])
    (fun s k _ => (parGet s k).st = .provisioned ∧ attached (parGet s k) = true) ∧
  effect 0x107 (fun _ t k n f => (parGet t k).st = .provisioned ∧ replied t n 0x107 f.p .badParameter [])
    (fun s k _ => (parGet s k).st = .provisioned ∧ attached (parGet s k) = false) ∧
  effect 0x107 (fun _ t k n f => (parGet t k).st = .enabling ∧ flightGet t n = some { f with applied := true })
    (fun s k _ => (parGet s k).st = .resetting) ∧
  effect 0x107 (fun _ t k n f => (parGet t k).st = .vacant ∧ replied t n 0x107 f.p .wrongState [])
    (fun s k _ => (parGet s k).st = .vacant)
/-- PARCEL_THAW: ACTIVE again; BUSY while a save is in progress (R168, R715). -/
def thawed : Prop := effect 0x10A
    (fun _ t k n f => (parGet t k).st = .active ∧ replied t n 0x10A f.p .ok [])
    (fun s k _ => (parGet s k).st = .frozen ∧ parcelSaving s k = false ∧ (parGet s k).freezeW = .none) ∧
  effect 0x10A (fun _ t k n f => (parGet t k).st = .frozen ∧ replied t n 0x10A f.p .busy [])
    (fun s k _ => (parGet s k).st = .frozen ∧ parcelSaving s k = true)
/-- PARCEL_SAVE of a drained parcel begins, the reply to come, where the image fits the buffer (R213). PARCEL_RESTORE begins where
its checks pass; else it is answered with the status of the first that fails, and nothing is installed (R217). -/
def saving : Prop := ∀ k n f s, due s k n f → tabGet s.pc.saves k = none →
  (f.op = 0x10B → (parGet s k).st = .frozen → (parGet s k).drained = true → migrationKey s (pAt f.p 10 2) = true → drbgError s = false →
    gives (.parcelRequestEffect k) s fun t => (parGet t k).st = .frozen ∧
      if imageLength (parcelImage (flightApplied (reqsRun s k isCcEn) n) k (saveSections f.p) (slotGet s (pAt f.p 10 2)).key) ≤ f.p.bufLen
      then flightGet t n = some { f with applied := true } ∧
        tabGet t.pc.saves k = some { packet := n, sections := saveSections f.p, slot := pAt f.p 10 2, image := [], restore := false }
      else tabGet t.pc.saves k = none ∧ replied t n 0x10B f.p .badParameter []) ∧
  (f.op = 0x10C → ∀ c, restoreCheck (reqsRun s k isCcEn) f.p = c → gives (.parcelRequestEffect k) s fun t =>
    if c.1 = .ok ∧ c.2.isSome = true then (parGet t k).st = .vacant ∧ flightGet t n = some f ∧
      tabGet t.pc.saves k = some { packet := n, sections := 0, slot := pAt f.p 8 2, image := [], restore := true }
    else tabGet t.pc.saves k = none ∧ (parGet t k).st = (parGet s k).st ∧ replied t n 0x10C f.p c.1 [])
/-- PARCEL_SHARE: the new rates and depths hold from this boundary, and every balance stands (R185, R715). -/
def shared : Prop := effect 0x10F
  (fun s t k n f => (parGet t k).bal = (parGet s k).bal ∧ replied t n 0x10F f.p .ok [] ∧ ∀ c, c < 4 → bitOf (pAt f.p 8 1) c = true →
    (parGet t k).rate.getD c 0 = pAt f.p (12 + 8 * c) 4 ∧ (parGet t k).depth.getD c 0 = pAt f.p (16 + 8 * c) 4)
  fun s k f => k < 1024 ∧ (parGet s k).st = .active ∧ ∀ c, c < 4 → pAt f.p (12 + 8 * c) 4 < 2 ^ 24 ∧ pAt f.p (16 + 8 * c) 4 < 2 ^ 24

/-- Nothing of parcel `k` is at work: no ticket in use, no connection, no invocation (R200-R203, R220). -/
def stopped (t : State) (k : Nat) : Prop :=
  (∀ i, (tkGet t i).busy = true → (tkGet t i).parcel ≠ some k) ∧
    (∀ c x, connGet t c = some x → x.parcel = k → x.discovery = true) ∧ ∀ n i, invGet t n = some i → i.parcel ≠ k
/-- The tables it walks are in order. -/
def ordered (s : State) : Prop :=
  tabSorted s.cq.tickets = true ∧ tabSorted s.host.conns = true ∧ tabSorted s.cs.invs = true ∧ tabSorted s.mg.flights = true

/-- PARCEL_RETIRE and RETIREMENT_EFFECT of a parcel that is PROVISIONED, or FROZEN and drained: RETIRING with the next edition, all its
work ended, its pairs withdrawn; the reply waits (R168, R197, R220). -/
def retires : Prop := ∀ k n f s, due s k n f → f.op = 0x10D → ordered s →
  ((parGet s k).st = .provisioned ∨ (parGet s k).st = .frozen ∧ (parGet s k).drained = true ∧ parcelSaving s k = false) →
  ∀ i, i = .parcelRequestEffect k ∨ i = .retirementEffect k → gives i s fun t => (parGet t k).st = .retiring ∧
    (parGet t k).edition = nextPEdition s k ∧ (parGet t k).pairs = [] ∧ (parGet t k).vf = none ∧
    (parGet t k).waiters = [.packet n] ∧ stopped t k
/-- RETIREMENT_TEARDOWN_END at a later boundary: VACANT, its edition kept, its FINAL record in the ring, event 161, and the packet
answered (R199, R220, R226). -/
def retirementEnds : Prop := ∀ k n f s, (parGet s k).st = .retiring → (parGet s k).effect < frameNo s → parcelLive s k = false →
  (parGet s k).waiters = [.packet n] → flightGet s n = some f → tabSorted s.mg.flights = true → s.pc.held = [] → s.pc.ring.length < 65536 →
  canReply s f → gives (.retirementTeardownEnd k) s fun t => (parGet t k).st = .vacant ∧
    (parGet t k).edition = (parGet s k).edition ∧ (parGet t k).bal = [0, 0, 0, 0] ∧
    evPending t 161 = true ∧ replied t n f.op f.p .ok [] ∧ ∃ r, t.pc.ring = s.pc.ring ++ [r] ∧ r.parcel = k ∧ bitOf r.flags 0 = true

/-- PARCEL_RESET_EFFECT and QUEUED_RESET_EFFECT of a parcel that is PROVISIONED, ACTIVE or FROZEN: RESETTING with the next edition,
PC_RESET_STATUS begun with its cause, all its work ended, no mailbox bit pending, its function not ready (R168, R170, R178, R197, R200,
R207, R226). -/
def resets : Prop := ∀ k c h w s, (parGet s k).st = .provisioned ∨ (parGet s k).st = .active ∨ (parGet s k).st = .frozen → ordered s →
  c < 8 → k < 1024 → (parGet s k).freezeW = .none → tabGet s.pc.saves k = none →
  ∀ i, (i = .parcelResetEffect k ∧ (parGet s k).reqs = [.reset c h w]) ∨ (i = .queuedResetEffect k ∧ (parGet s k).queued = some (c, h)) →
  gives i s fun t => (parGet t k).st = .resetting ∧ (parGet t k).edition = nextPEdition s k ∧ (parGet t k).hold = h ∧
    (parGet t k).wasActive = ((parGet s k).st == .active) ∧ regBit t (PC_RESET_STATUS k) 31 = true ∧
    regFld t (PC_RESET_STATUS k) 30 28 = c ∧ regNat t (PC_MB_IN_PENDING k) = 0 ∧ regNat t (PC_MB_OUT_PENDING k) = 0 ∧ stopped t k ∧
    ∀ f, (parGet s k).vf = some f → (ctrlGet t f).rdy = false
/-- A second reset joins the one in progress (R168). -/
def resetsJoin : Prop := ∀ k c h w s, (parGet s k).st = .resetting → (parGet s k).reqs = [.reset c h w] →
  gives (.parcelResetEffect k) s fun t => (parGet t k).st = .resetting ∧ (parGet t k).waiters = (parGet s k).waiters ++ [w] ∧
    (parGet t k).hold = ((parGet s k).hold || h) ∧ (parGet t k).edition = (parGet s k).edition
/-- TEARDOWN_END at a later boundary with nothing left at work: ACTIVE again if it was, with an attachment and without HOLD, else
PROVISIONED; ENABLING with an attachment becomes ACTIVE, with event 163; event 161 (R168, R169, R204). -/
def teardowns : Prop := ∀ k s, (parGet s k).effect < frameNo s → parcelLive s k = false → (parGet s k).waiters = [] →
  ((parGet s k).st = .resetting → gives (.teardownEnd k) s fun t => evPending t 161 = true ∧ regBit t (PC_RESET_STATUS k) 31 = false ∧
    (parGet t k).st = (if (parGet s k).wasActive = true ∧ (parGet s k).hold = false ∧ attached (parGet s k) = true
      then .active else .provisioned)) ∧
  ((parGet s k).st = .enabling → (parGet s k).pend = some .none → attached (parGet s k) = true → gives (.teardownEnd k) s fun t =>
    (parGet t k).st = .active ∧ evPending t 161 = true ∧ evPending t 163 = true) ∧
  ((parGet s k).st = .active → gives (.teardownEnd k) s fun t => t = s)
/-- PARCEL_FREEZE_EFFECT of an ACTIVE parcel, and PARCEL_DRAINED once no I/O ticket or invocation of it is left: event 162 and the
answer (R168, R209, R210). -/
def freezes : Prop := ∀ k n f s, flightGet s n = some f → tabSorted s.mg.flights = true →
  ((parGet s k).st = .active → (parGet s k).reqs = [.freeze n] → pkBlocked s n = false → gives (.parcelFreezeEffect k) s fun t =>
    (parGet t k).st = .frozen ∧ (parGet t k).drained = false ∧ (parGet t k).freezeW = .packet n ∧
      flightGet t n = some { f with applied := true }) ∧
  ((parGet s k).st = .frozen → (parGet s k).drained = false → (parGet s k).freezeW = .packet n → canReply s f → (tksWhere s fun t => t.parcel == some k && !t.admin) = [] → tabCount s.cs.invs (fun i => i.parcel == k) = 0 →
    gives (.parcelDrained k) s fun t => (parGet t k).drained = true ∧ evPending t 162 = true ∧ replied t n f.op f.p .ok [])
/-- PARCEL_SAVE_COMPLETE without memory contents: the image goes out, and transfer spends bring every balance to 0; where the image
has outgrown the buffer it is answered BAD_PARAMETER (R213, R215). -/
def saveCompletes : Prop := ∀ k v f s, tabGet s.pc.saves k = some v → v.restore = false → bitOf v.sections 4 = false →
  flightGet s v.packet = some f → tabSorted s.mg.flights = true → tabSorted s.pc.saves = true → migrationKey s v.slot = true →
  f.p.bufOk = true → (parGet s k).bal.length = 4 → canReply s f →
  gives (.parcelSaveComplete k) s fun t => tabGet t.pc.saves k = none ∧
    let len := imageLength (parcelImage { s with pc := { s.pc with saves := tabErase s.pc.saves k } } k v.sections (slotGet s v.slot).key)
    if len ≤ f.p.bufLen then (parGet t k).bal = [0, 0, 0, 0] ∧ replied t v.packet f.op f.p .ok (leBytes 8 len) ∧ ∃ d, .packetData f.p.mctp f.p.id d ∈ t.out ∧ slice d 0 2 = [1, 0] ∧ slice d 2 2 = leBytes 2 k
    else (parGet t k).bal = (parGet s k).bal ∧ replied t v.packet f.op f.p .badParameter []
/-- RESTORE_INSTALL_COMPLETE: the parcel is FROZEN and drained with the image's limits and rates; or, its checks failing, nothing is
installed (R217-R219). -/
def restoreCompletes : Prop := ∀ k v f s w, tabGet s.pc.saves k = some v → v.restore = true → flightGet s v.packet = some f →
  tabSorted s.mg.flights = true → tabSorted s.pc.saves = true → canReply s f →
  w = flightApplied { s with pc := { s.pc with saves := tabErase s.pc.saves k } } v.packet →
  gives (.restoreInstallComplete k) s fun t => tabGet t.pc.saves k = none ∧
    (∀ i x m, restoreCheck w f.p = (.ok, some i) → restoreInstall w k v.slot (restoreMap f.p) i = (.ok, x, m) →
      (parGet t k).st = .frozen ∧ (parGet t k).drained = true ∧ (parGet t k).lim = i.lim ∧ (parGet t k).rate = i.rate ∧
        replied t v.packet f.op f.p .ok (leBytes 2 (parGet t k).edition ++ leBytes 2 m.length)) ∧
    (∀ st i, restoreCheck w f.p = (st, i) → st ≠ .ok → t.pc = w.pc ∧ t.atl = s.atl ∧ t.ks = s.ks ∧ replied t v.packet f.op f.p st [])

/-! ## Chapter 04: mailboxes, shares, masks and meters -/

/-- MAILBOX_SLOT_WRITE by the side that owns the slot: its value, unless its doorbell bit is pending, which sets REFUSED (R175). -/
def slotWrites : Prop := ∀ ten k o v s, k < 1024 → o < 0x800 → o % 4 = 0 → (ten = true ↔ o < 0x400) → v < 2 ^ 32 →
  (ten = true → (parGet s k).vf.isSome = true) →
  let pend := if o < 0x400 then PC_MB_IN_PENDING k else PC_MB_OUT_PENDING k
  (regBit s pend (o % 0x400 / 0x40) = false → gives (.mailboxSlotWrite ten k o v) s fun t =>
    regNat t (PC_MB_IN_SLOT k 0 + o) = v ∧ regsSameBut s t [PC_MB_IN_SLOT k 0 + o]) ∧
  (regBit s pend (o % 0x400 / 0x40) = true → gives (.mailboxSlotWrite ten k o v) s fun t =>
    regBit t (PC_MB_STATUS k) 30 = true ∧ regsSameBut s t [PC_MB_STATUS k])
/-- Posts of a parcel that accepts them set their bits, which the other side sees once visible; one that does not sets REFUSED (R176-
R178). -/
def postsMade : Prop := ∀ k m s, k < 1024 → m < 65536 → (parGet s k).vf.isSome = true →
  (mbReady s k = true → (∀ j, j < 16 → ¬ (bitOf m j = true ∧ regBit s (PC_MB_IN_PENDING k) j = true)) →
    gives (.mailboxInPost k m) s fun t => (∀ j, j < 16 → regBit t (PC_MB_IN_PENDING k) j = (regBit s (PC_MB_IN_PENDING k) j || bitOf m j)) ∧
      (∀ j, j < 16 → bitOf (parGet t k).inPost j = (bitOf (parGet s k).inPost j || bitOf m j)) ∧ regsSameBut s t [PC_MB_IN_PENDING k]) ∧
  (mbReady s k = true → (∀ j, j < 16 → ¬ (bitOf m j = true ∧ regBit s (PC_MB_OUT_PENDING k) j = true)) →
    gives (.mailboxOutPost k m) s fun t => (∀ j, j < 16 → regBit t (PC_MB_OUT_PENDING k) j = (regBit s (PC_MB_OUT_PENDING k) j || bitOf m j)) ∧
      regsSameBut s t [PC_MB_OUT_PENDING k]) ∧
  (mbReady s k = false → gives (.mailboxInPost k m) s (fun t => regBit t (PC_MB_STATUS k) 30 = true ∧ regsSameBut s t [PC_MB_STATUS k]) ∧
    gives (.mailboxOutPost k m) s fun t => regBit t (PC_MB_STATUS k) 30 = true ∧ regsSameBut s t [PC_MB_STATUS k])
/-- MAILBOX_POST_VISIBLE: the posts are visible; the first that the manager sees raises event 160 and sets the summary bit (R177). -/
def postsVisible : Prop := ∀ k s, k < 1024 → gives (.mailboxPostVisible k) s fun t => (parGet t k).inPost = 0 ∧ (parGet t k).outPost = 0 ∧
  ((parGet s k).inPost ≠ 0 → mbInPending s k false = 0 → evPending t 160 = true ∧ regBit t (PC_MB_SUMMARY (k / 32)) (k % 32) = true)
/-- MAILBOX_IN_CONSUME clears the bits that the manager sees and names; the summary bit falls with the last (R176, R177). -/
def consumes : Prop := ∀ k m s, k < 1024 → m < 65536 → (parGet s k).inPost = 0 → regNat s (PC_MB_IN_PENDING k) < 65536 →
  gives (.mailboxInConsume k m) s fun t =>
    (∀ j, j < 16 → regBit t (PC_MB_IN_PENDING k) j = (regBit s (PC_MB_IN_PENDING k) j && !bitOf m j)) ∧
      (regNat t (PC_MB_IN_PENDING k) = 0 → regBit t (PC_MB_SUMMARY (k / 32)) (k % 32) = false)
/-- SHARE_WRITE and CORE_MASK_WRITE set their registers and change nothing in force; their effects follow at a boundary, every
balance standing (R185, R225, R227, R493). -/
def sharesAndMasks : Prop := ∀ k c v s, k < 1024 → c < 4 → v < 2 ^ 24 →
  gives (.shareWrite k c false v) s (fun t => regFld t (PC_SHARE k c) 23 0 = v ∧ (parGet t k).rate = (parGet s k).rate ∧ (parGet t k).shareDue = true) ∧
  gives (.shareWrite k c true v) s (fun t => regFld t (PC_DEPTH k c) 23 0 = v ∧ (parGet t k).depth = (parGet s k).depth ∧ (parGet t k).shareDue = true) ∧
  ((parGet s k).shareDue = true → gives (.shareChangeEffect k) s fun t => (parGet t k).rate.getD c 0 = regFld s (PC_SHARE k c) 23 0 ∧
    (parGet t k).depth.getD c 0 = regFld s (PC_DEPTH k c) 23 0 ∧ (parGet t k).bal = (parGet s k).bal ∧ otherParcels s t k) ∧
  gives (.coreMaskWrite k v) s (fun t => regFld t (PC_CORE_MASK k) 7 2 = bitsOf v 7 2 ∧ (parGet t k).mask = (parGet s k).mask) ∧
  ((parGet s k).maskDue = true → gives (.coreMaskEffect k) s fun t => (parGet t k).mask = 4 * regFld s (PC_CORE_MASK k) 7 2 ∧
    (parGet t k).maskDue = false ∧ otherParcels s t k)
/-- METER_LO_READ and SNAP_LAST_LO_READ return the low half and shadow the upper (R196, R229). -/
def metersRead : Prop := ∀ k m s, k < 1024 → m < 9 → (parGet s k).meters.getD m 0 < 2 ^ 64 → s.pc.lastEnd < 2 ^ 64 →
  gives (.meterLoRead k m) s (fun t => t.pc = s.pc ∧ t.out = s.out ++ [.regRead (PC_METER_LO k m) (BitVec.ofNat 32 ((parGet s k).meters.getD m 0))] ∧
    regNat t (PC_METER_HI k m) = (parGet s k).meters.getD m 0 / 2 ^ 32) ∧
  gives .snapLastLoRead s fun t => t.out = s.out ++ [.regRead PC_SNAP_LAST_LO (BitVec.ofNat 32 s.pc.lastEnd)] ∧
    regNat t PC_SNAP_LAST_HI = s.pc.lastEnd / 2 ^ 32
/-- METER_INTERVAL_END when the interval is over: every meter's bank switches; and SNAP_INTERVAL_WRITE acts only then (R190, R191). -/
def intervals : Prop := ∀ v s, v < 2 ^ 32 →
  (s.pc.lastEnd + s.pc.interval ≤ frameNo s → gives .meterIntervalEnd s fun t => t.pc.lastEnd = frameNo s ∧ t.pc.due = some (frameNo s) ∧
    t.pc.interval = max 1000000 (regNat s PC_SNAP_INTERVAL) ∧ ∀ k x, tabGet s.pc.parcels k = some x →
      (parGet t k).closed = x.meters ∧ (parGet t k).meters = x.meters ∧ (parGet t k).endEd = x.edition) ∧
  (frameNo s < s.pc.lastEnd + s.pc.interval → gives .meterIntervalEnd s fun t => t = s) ∧
  gives (.snapIntervalWrite v) s fun t => regNat t PC_SNAP_INTERVAL = v ∧ t.pc = s.pc
/-- SNAPSHOT_RECORDS_WRITTEN: one record for each parcel that is there and one for the device, with event 164; where they do not fit,
event 165 and a merged span (R192-R194). -/
def snapshotsWritten : Prop := ∀ b s, s.pc.due = some b →
  (s.pc.held = [] → (snapParcels s).length + 1 ≤ 65536 - s.pc.ring.length → gives .snapshotRecordsWritten s fun t =>
    evPending t 164 = true ∧ t.pc.due = none ∧ t.pc.spanStart = b ∧ ∃ l r, t.pc.ring = s.pc.ring ++ l ++ [r] ∧
      l.map (·.parcel) = snapParcels s ∧ r.parcel = 0xFFFF ∧ ∀ x ∈ l ++ [r], x.start = s.pc.spanStart ∧ x.stop = b) ∧
  (65536 - s.pc.ring.length < (snapParcels s).length + 1 → gives .snapshotRecordsWritten s fun t =>
    evPending t 165 = true ∧ t.pc.ring = s.pc.ring ∧ t.pc.merged = true ∧ t.pc.spanStart = s.pc.spanStart)
/-- HELD_FINAL_RECORD_WRITE: held FINAL records enter the ring as room allows, in their order (R796). -/
def heldWritten : Prop := ∀ s, gives .heldFinalRecordWrite s fun t => ∃ a b, s.pc.held = a ++ b ∧ t.pc.ring = s.pc.ring ++ a ∧
  t.pc.held = b ∧ (b = [] ∨ 65536 ≤ t.pc.ring.length)

/-! ## Chapter 05: the Atlas -/

/-- STRIPE_PAD_TIMEOUT: a stripe not full is programmed as it is 200 frames after its first tile, in a group of its stream, once its dies
have room; before that a stripe of moved data, and a stripe already issued or empty, stay, as does one of the fold stream (R246, R270,
R325). -/
def stripePads : Prop := ∀ k s st, tabGet s.atl.stripes k = some st →
  (∀ g u, st.overlay = none → st.issued = false → st.frags ≠ [] → st.first + 200 ≤ frameNo s → st.stream ≠ .fold →
    openGroup s (streamNow s st) = some (g, u) → progRoom u (((tabGet u.atl.groups g).map (·.members)).getD []) = true →
    gives (.stripePadTimeout k) s fun t => ∃ x, tabGet t.atl.stripes k = some x ∧ x.issued = true ∧ x.group = some g ∧ x.frags = st.frags) ∧
  ((st.issued = true ∨ st.frags = [] ∨ st.stream = .fold ∨ frameNo s < st.first + 200 ∧ st.stream = .cold) →
    gives (.stripePadTimeout k) s fun t => t = s)

/-- The flash address at which a stripe's fragment stands (R246, R267). -/
def fragWord (s : State) (st : Stripe) (f : Frag) : Word :=
  let m := st.mem.getD (pageMember (st.group.getD 0) st.mem.length f.page) (0, 0)
  flashWord m.1 (m.2 * ppb s + st.k) (f.off / 4096)

/-- Writes of tile `d` of a PAGE quadrangle set its page word, which is in the quadrangle's table. -/
def pageMapped (s : State) (d : Nat) : Prop :=
  qForm (dirGet s (d / quadTiles)) = formPage ∧ (tabGet s.atl.tabs (qTable (dirGet s (d / quadTiles)))).isSome = true

/-- STRIPE_PROGRAM_COMPLETE: once every page has reported success the stripe is done with; the word of a buffered tile takes the
flash address and its buffer space is free; a move's word changes only if it still holds what the move read, else the copy is
counted stale; while a page is outstanding nothing changes (R246, R247, R269). -/
def stripesComplete : Prop := ∀ k s st, tabGet s.atl.stripes k = some st →
  (stripeOk st = true → st.stream ≠ .fold → tabSorted s.atl.stripes = true → gives (.stripeProgramComplete k) s fun t => tabGet t.atl.stripes k = none ∧
    ∀ f, st.frags = [f] → st.overlay = none →
      (∀ e, f.move = false → tabGet s.atl.wbuf f.src = some e → e.tile = f.tile → e.poison = false → mapWord s e.tile = wBuffer f.src →
        pageMapped s e.tile →
        tabSorted s.atl.wbuf = true → tabGet t.atl.wbuf f.src = none ∧
          pageWord t (e.tile / quadTiles) (e.tile % quadTiles) = fragWord s st f) ∧
      (∀ v, f.move = true → tabGet s.atl.moves f.src = some v → v.fold = false → mapWord s v.tile = v.word → pageMapped s v.tile →
        pageWord t (v.tile / quadTiles) (v.tile % quadTiles) = fragWord s st f) ∧
      (∀ v, f.move = true → tabGet s.atl.moves f.src = some v → v.fold = false → mapWord s v.tile ≠ v.word →
        t.atl.tabs = s.atl.tabs ∧ regNat t AT_RELOC_STALE = (regNat s AT_RELOC_STALE + 1) % 2 ^ 32)) ∧
  (stripeOk st = false → gives (.stripeProgramComplete k) s fun t => t = s)

/-- No overlay has a block of this die. -/
def noOverlayOn (s : State) (d b : Nat) : Prop :=
  ∀ o ∈ s.atl.overlays, ¬ (o.2.primDie = d ∧ o.2.primBlk = b) ∧ ¬ (o.2.mirDie = d ∧ o.2.mirBlk = b)

/-- BLOCK_ERASE_RELEASE: a closed data block that no word points into, that no sheet or fold has as its base and to which no read and no
program is in flight is queued for erase, once; else nothing happens (R248, R255). -/
def erasesRelease : Prop := ∀ d b s,
  (∀ x, dieGet s d = some x → (blkGet s d b).role = .data → (blkGet s d b).released = false → (blkGet s d b).marked = false →
    (blkGet s d b).uncorr < 2 → blockValid s d b = [] → readInFlight s d b = false → baseNamed s d b = false → stripeInto s d b = false →
    (∀ g, (blkGet s d b).group = some g → ∃ y, tabGet s.atl.groups g = some y ∧ y.closed.isSome = true) →
    ((blkGet s d b).group = none → noOverlayOn s d b) →
    gives (.blockEraseRelease d b) s fun t => dieGet t d = some { x with eraseQ := x.eraseQ ++ [.erase b] } ∧
      blkGet t d b = { blkGet s d b with released := true } ∧ t.out = s.out ∧ memSame s t) ∧
  (blockValid s d b ≠ [] ∨ readInFlight s d b = true ∨ baseNamed s d b = true ∨ stripeInto s d b = true ∨ (blkGet s d b).released = true →
    gives (.blockEraseRelease d b) s fun t => t = s)

/-- SHEET_FOLD_START: a sheet whose overlay has 7/8 of its pages programmed is folded into a data member of a group of its own, whose
first stripe is read; while another fold group is open it waits. A sheet of a PAGE quadrangle has no fold (R254, R271). -/
def foldsStart : Prop := ∀ q sh s,
  (∀ o, qForm (dirGet s q) = formSheet → sOv (sheetGet s q sh) = true →
    tabGet s.atl.overlays (sOverlay (sheetGet s q sh)) = some o → ppb s * 7 ≤ o.prog * 8 → s.atl.folds = [] →
    (∀ ms u, s.atl.foldGroup = none → s.atl.foldWait = [] → pickMembers (foldAsk s q sh) [] (fmtOf s).n = some (ms, u) →
      2 ≤ (fmtOf s).n → gives (.sheetFoldStart q sh) s fun t => t.atl.foldGroup = some s.atl.nextGroup ∧ t.atl.foldWait = [] ∧
        t.atl.sheets = s.atl.sheets ∧ (∃ e ∈ t.atl.stripes, e.2.stream = .fold ∧ e.2.k = 0 ∧ e.2.issued = false) ∧
        ∃ f, foldGet t q sh = some f ∧ f.done = false ∧ f.base = sheetGet s q sh ∧
          (f.die, f.block) = ms.getD (pageMember s.atl.nextGroup (fmtOf s).n 0) (0, 0)) ∧
    (s.atl.foldGroup.isSome = true → (q, sh) ∉ s.atl.foldWait → gives (.sheetFoldStart q sh) s fun t =>
      t = { s with atl := { s.atl with foldWait := s.atl.foldWait ++ [(q, sh)] } })) ∧
  (qForm (dirGet s q) = formPage → gives (.sheetFoldStart q sh) s fun t => t = s)

/-- SHEET_FOLD_END: the sheet's word takes the new base; an overlay every word of which still holds what the fold copied has none
left and is detached and freed (R255). -/
def foldsEnd : Prop := ∀ q sh s f o w, foldGet s q sh = some f → f.done = true → f.viaPage = false →
  f.base = sheetGet s q sh → sOv (sheetGet s q sh) = true →
  sOverlay (sheetGet s q sh) = o → tabGet s.atl.overlays o = some w → w.quad = q → w.sheet = sh → f.copied = w.words →
  tabSorted w.words = true → f.die < 1016 → f.block < 8192 → tabSorted s.atl.overlays = true →
  gives (.sheetFoldEnd q sh) s fun t => sheetGet t q sh = sheetWord f.die f.block none ∧ tabGet t.atl.overlays o = none ∧
    foldGet t q sh = none ∧ ∀ q' sh', q' ≠ q → sheetGet t q' sh' = sheetGet s q' sh'

/-- CONVERSION_WINDOW_END: a window is 16,777,216 frames; with AUTO, as AT_CONVERT stood when it began, a SHEET quadrangle written HOT
times in it starts converting to page form where a table is free; without AUTO none does (R258, R305). -/
def windowsEnd : Prop := ∀ s,
  (frameNo s % 16777216 ≠ 0 → gives .conversionWindowEnd s fun t => t = s) ∧
  (frameNo s ≠ 0 → frameNo s % 16777216 = 0 → s.atl.windowAt ≠ frameNo s → gives .conversionWindowEnd s fun t =>
    t.atl.windowAt = frameNo s ∧ t.atl.wcount = [] ∧ t.atl.convertNow = regNat s AT_CONVERT ∧
    (bitOf s.atl.convertNow 31 = false → t.atl.convs = s.atl.convs) ∧
    (∀ q w, bitOf s.atl.convertNow 31 = true → s.atl.dir = [(q, w)] → qForm w = formSheet → s.atl.convs = [] → tablesFree s > 16 →
      bitsOf s.atl.convertNow 27 14 ≤ tabGetD s.atl.wcount q 0 → ∃ c ∈ t.atl.convs, c.quad = q ∧ c.toPage = true))

/-- TO_PAGE_CONVERSION_END: FORM becomes PAGE over the same table, words already set in it stay, its overlays are freed and its
conversion is over, event 231 (R259). -/
def toPageEnds : Prop := ∀ q s,
  (∀ p, qForm (dirGet s q) = formToPage → tabGet s.atl.tabs (qTable (dirGet s q)) = some p →
    gives (.toPageConversionEnd q) s fun t => qForm (dirGet t q) = formPage ∧ qTable (dirGet t q) = qTable (dirGet s q) ∧
      qNs (dirGet t q) = qNs (dirGet s q) ∧ (∀ i w, tabGet p.words i = some w → wDie w ≠ 0x3FC → pageWord t q i = w) ∧
      (∀ o ∈ t.atl.overlays, o.2.quad ≠ q) ∧ (∀ c ∈ t.atl.convs, c.quad ≠ q) ∧ evPending t 231 = true) ∧
  (qForm (dirGet s q) ≠ formToPage → gives (.toPageConversionEnd q) s fun t => t = s)

/-- TO_SHEET_CONVERSION_END: with every page word 3FCh the quadrangle is SHEET and its table free, event 231; after more than 4,096
written tiles the conversion is abandoned to page form; words left after a first pass begin a second (R260). -/
def toSheetEnds : Prop := ∀ q s c p, (s.atl.convs.find? fun c => c.quad == q && !c.toPage) = some c →
  tabGet s.atl.tabs (qTable (dirGet s q)) = some p → foldsOf s q = false →
  (c.writes ≤ 4096 → p.fill = wElse → (∀ e ∈ p.words, wDie e.2 = 0x3FC) → tabSorted s.atl.tabs = true →
    gives (.toSheetConversionEnd q) s fun t => qForm (dirGet t q) = formSheet ∧ qNs (dirGet t q) = qNs (dirGet s q) ∧
      tabGet t.atl.tabs (qTable (dirGet s q)) = none ∧ (∀ x ∈ t.atl.convs, x.quad ≠ q) ∧ evPending t 231 = true) ∧
  (4096 < c.writes → gives (.toSheetConversionEnd q) s fun t => (∀ x ∈ t.atl.convs, x.quad = q → x.toPage = true) ∧
    t.atl.dir = s.atl.dir ∧ t.atl.tabs = s.atl.tabs) ∧
  (∀ sh, c.writes ≤ 4096 → c.pass = 1 → sh < quadTiles / sheetTiles s → tableClear p (sh * sheetTiles s) (sheetTiles s) = false →
    qForm (dirGet s q) = formToSheet → gives (.toSheetConversionEnd q) s fun t => foldsOf t q = true ∧
      ∀ x ∈ s.atl.convs, x.quad = q → { x with pass := x.pass + 1 } ∈ t.atl.convs)

/-- RESURVEY_START: a failing block's valid tiles are copied first (R282); idle while 12 groups can be formed; a victim without a valid
tile has each of its blocks released for erase, and another has the valid tiles of each copied (R275-R277). -/
def resurveys : Prop := ∀ s,
  (∀ m, failing s = some m → gives .resurveyStart s fun t => t = foldOpen (blockEvacuate s m)) ∧
  (failing s = none → s.atl.fmt = none ∨ 12 ≤ hotGroups s ∨ victim s = none → gives .resurveyStart s fun t => t = s) ∧
  ∀ g x, failing s = none → s.atl.fmt ≠ none → hotGroups s < 12 → victim s = some (g, x) →
    (groupValid s x = 0 → gives .resurveyStart s fun t => t = x.members.foldl (fun s m => eraseRelease s m.1 m.2) s) ∧
    (0 < groupValid s x → gives .resurveyStart s fun t => t = foldOpen (x.members.foldl blockEvacuate s))
/-- The victim is a closed group with the fewest valid tiles, of those with as few the one closed first (R275). -/
def victimLeast : Prop := ∀ s g x, victim s = some (g, x) → (g, x) ∈ s.atl.groups ∧ victimOk x = true ∧
  ∀ e ∈ s.atl.groups, victimOk e.2 = true →
    (e.2.members.any fun m => (blkGet s m.1 m.2).role == .data && !(blkGet s m.1 m.2).released) = true →
    groupValid s x < groupValid s e.2 ∨ groupValid s x = groupValid s e.2 ∧ x.closed.getD 0 ≤ e.2.closed.getD 0

/-- WEAR_LEVEL_MOVE: moves go on from a spread over LIMIT, with event 235, down to LIMIT less an eighth; in static mode the youngest group
moves, at most 2 at once; in dynamic mode, and while no moves are wanted, SPREAD alone is set (R278-R280, R304). -/
def wearMoves : Prop := ∀ s, gives .wearLevelMove s fun t => regFld t AT_WEAR 31 16 = min 0xFFFF (wearSpread s) ∧
  let l := max 64 (regFld s AT_WEAR 15 0)
  (l < wearSpread s → t.atl.wearOn = true ∧ (s.atl.wearOn = false → evPending t 235 = true)) ∧
  (wearSpread s ≤ l - l / 8 → t.atl.wearOn = false) ∧
  (l - l / 8 < wearSpread s → wearSpread s ≤ l → t.atl.wearOn = s.atl.wearOn) ∧
  (t.atl.wearOn = false ∨ dynamicWear s = true → t.fl = s.fl ∧ t.atl.dir = s.atl.dir ∧ t.atl.moves = s.atl.moves) ∧
  ∀ k g, t.atl.wearOn = true → dynamicWear s = false → youngest (wearUpdate s) = some (k, g) →
    (wearUpdate s).atl.wearGroups.length < 2 → t.atl.wearGroups = (wearUpdate s).atl.wearGroups ++ [k]

/-- REBUILD_END: when no tile resolves to the lost dies any more, AT_REBUILD.ACTIVE clears with 100 percent, event 229; with no
rebuild nothing happens (R285). -/
def rebuildsEnd : Prop := ∀ s,
  (s.atl.rebuild = none → gives .rebuildEnd s fun t => t = s) ∧
  (s.atl.rebuild ≠ none → (∀ d ∈ rebuildDies s, dieTiles s d = []) → gives .rebuildEnd s fun t => t.atl.rebuild = none ∧
    regBit t AT_REBUILD 31 = false ∧ regFld t AT_REBUILD 29 23 = 100 ∧ regBit t AT_MEDIA_STATE 29 = false ∧ evPending t 229 = true)

/-- SEALED_ENTRY and SEALED_EXIT (R292, R293). -/
def seals : Prop := ∀ s,
  (sealDue s = true → regBit s AT_MEDIA_STATE 31 = false → gives .sealedEntry s fun t => regBit t AT_MEDIA_STATE 31 = true ∧
    regBit t AT_MEDIA_STATE 30 = true ∧ evPending t 225 = true) ∧
  (sealDue s = false ∨ regBit s AT_MEDIA_STATE 31 = true → gives .sealedEntry s fun t => t = s) ∧
  (regBit s AT_MEDIA_STATE 31 = true → s.atl.reserveUsed = 0 → canForm s 2 = true → gives .sealedExit s fun t =>
    regBit t AT_MEDIA_STATE 31 = false ∧ regBit t AT_MEDIA_STATE 30 = regBit s AT_MEDIA_STATE 30 ∧ evPending t 226 = true) ∧
  (regBit s AT_MEDIA_STATE 31 = false ∨ s.atl.reserveUsed ≠ 0 ∨ canForm s 2 = false → gives .sealedExit s fun t => t = s)

/-- TABLES_BUDGET_WRITE: the budget is kept, at most 262,144; where it falls below the tables in use, and conversions are
enabled, a cold quadrangle starts converting to sheet form (R258, R299). -/
def budgetsWritten : Prop := ∀ v s, gives (.tablesBudgetWrite v) s fun t =>
  regFld t AT_TABLES_BUDGET 18 0 = min 262144 (bitsOf v 18 0) ∧ t.atl.budgetKept = some (min 262144 (bitsOf v 18 0)) ∧
  (s.atl.tabs.length ≤ max (min 262144 (bitsOf v 18 0)) (tablesReserved s + 16) ∨ bitOf s.atl.convertNow 31 = false → t.atl.dir = s.atl.dir ∧ t.atl.convs = s.atl.convs) ∧
  (∀ q, max (min 262144 (bitsOf v 18 0)) (tablesReserved s + 16) < s.atl.tabs.length → bitOf s.atl.convertNow 31 = true →
    coldCandidates s = [q] → s.atl.convs = [] →
    qForm (dirGet t q) = formToSheet ∧ ∃ c ∈ t.atl.convs, c.quad = q ∧ c.toPage = false)
/-- CAPACITY_LO_READ latches the high word of the same count (R308). -/
def capacityReads : Prop := ∀ s, gives .capacityLoRead s fun t =>
  t.out = s.out ++ [.regRead AT_CAPACITY_LO (regRaw s AT_CAPACITY_LO)] ∧ regsSameBut s t [AT_CAPACITY_HI] ∧
    regNat t AT_CAPACITY_HI = (if regBit s AT_MEDIA_STATE 0 then capacity s / 2 ^ 32 else 0) % 2 ^ 32
/-- MAP_LINE_REBUILD_END: the line is whole and what waited goes on; while a journal record it needs can be read from neither copy it
waits; of a line that is whole, nothing (R640, R655). -/
def mapLinesEnd : Prop := ∀ l s,
  (l ∈ s.atl.mapLines → journalKept s ≠ s.atl.journal → gives (.mapLineRebuildEnd l) s fun t => t = s) ∧
  (l ∈ s.atl.mapLines → journalKept s = s.atl.journal → (∀ e ∈ s.cq.tickets, e.2.busy = false) → gives (.mapLineRebuildEnd l) s fun t =>
    t = { s with atl := { s.atl with mapLines := t.atl.mapLines } } ∧ t.atl.mapLines = s.atl.mapLines.filter (· != l)) ∧
  (l ∉ s.atl.mapLines → gives (.mapLineRebuildEnd l) s fun t => t = s)

/-! ## Chapter 06: the flash channels -/

/-- A die runs nothing and has nothing queued. -/
def idleDie (x : Die) : Prop :=
  x.run = none ∧ x.more = [] ∧ x.suspMore = [] ∧ x.part = false ∧ x.susp = none ∧ x.suspending = false ∧ x.soft = false ∧ x.retry = 0 ∧ x.readQ = [] ∧ x.moveQ = [] ∧ x.progQ = [] ∧
    x.eraseQ = []
def idleChan (s : State) (ch : Nat) : Prop := s.atl.foldGroup = none ∧ tabSorted s.fl.dies = true ∧ ∀ e ∈ s.fl.dies, e.2.ch = ch → idleDie e.2

/-- A channel is RETIRED for a cause, with ATTN and its event, FLcc_WP_N low and FLcc_CE_N all high (R318, R320, R321, R341, R346). -/
def isRetired (t : State) (ch cause : Nat) : Prop :=
  chState t ch = chRetired ∧ regFld t (FC_STATUS ch) 24 23 = cause ∧ regBit t (FC_STATUS ch) 22 = true ∧ evPending t (272 + 2 * ch) = true ∧
    ch ∈ t.fl.retired ∧ (chanGet t ch).wp = false ∧ (chanGet t ch).ceHeld = true

/-- CHANNEL_TRAINING_END: no package answers, ABSENT; a common mode and a live die, ACTIVE with the mode's rate; else RETIRED (R317,
R318, R320). Of a channel that is not training it is nothing. -/
def trainingsEnd : Prop := ∀ ch r s, ch < 32 →
  (chState s ch = chTraining →
    (r.answered = false → gives (.channelTrainingEnd ch r) s fun t => chState t ch = chAbsent ∧ regsSameBut s t [FC_STATUS ch]) ∧
    (r.answered = true → r.ok = true → r.dies ≠ [] → (∀ d ∈ r.dies, d.1 < 32) → (chanGet s ch).retireReq = none → r.rate < 8 →
      gives (.channelTrainingEnd ch r) s fun t => chState t ch = chActive ∧ regBit t (FC_STATUS ch) 28 = r.toggle ∧
        regFld t (FC_STATUS ch) 27 25 = min r.rate (min 5 (regFld s (FC_CONFIG ch) 29 27)) ∧ tabGet t.fl.found ch = some r.dies ∧
        chanGet t ch = { chanGet s ch with temp := composite s, retries := 0, retrainReq := false, wp := true, ceHeld := false } ∧
        ((chanGet s ch).wp = false → .pin (16 + ch) true ∈ t.out) ∧
        ∀ d ∈ r.dies, regFld s (FC_DIE ch d.1) 31 30 = 0 → regFld t (FC_DIE ch d.1) 31 30 = 1) ∧
    (r.answered = true → r.ok = false ∨ r.dies = [] → idleChan s ch → gives (.channelTrainingEnd ch r) s fun t => isRetired t ch 2)) ∧
  (chState s ch ≠ chTraining → gives (.channelTrainingEnd ch r) s fun t => t = s)

/-- RETRAIN_WRITE asks for a retrain (R342); CHANNEL_RETRAIN starts it where one is due: asked for, 64 retries in a row, or 20 °C from the
last training (R319); CHANNEL_RETRAIN_END makes the channel ACTIVE, or RETIRED where it fails (R320). -/
def retrains : Prop := ∀ ch s, ch < 32 →
  (gives (.retrainWrite ch) s fun t => chanGet t ch = { chanGet s ch with retrainReq := true } ∧ t.regs = s.regs ∧
    ∀ j, j ≠ ch → chanGet t j = chanGet s j) ∧
  (chState s ch = chActive → ((chanGet s ch).retrainReq = true ∨ 64 ≤ (chanGet s ch).retries ∨
      (chanGet s ch).temp + 20 ≤ composite s ∨ composite s + 20 ≤ (chanGet s ch).temp) →
    gives (.channelRetrain ch) s fun t => chState t ch = chRetraining ∧
      regNat t (FC_RETRAIN_COUNT ch) = (regNat s (FC_RETRAIN_COUNT ch) + 1) % 2 ^ 32 ∧
      regsSameBut s t [FC_STATUS ch, FC_RETRAIN_COUNT ch] ∧ chanGet t ch = { chanGet s ch with retrainReq := false, retries := 0 }) ∧
  (chState s ch ≠ chActive ∨ retrainDue s ch = false → gives (.channelRetrain ch) s fun t => t = s) ∧
  (chState s ch = chRetraining →
    ((chanGet s ch).retireReq = none → gives (.channelRetrainEnd ch true) s fun t => chState t ch = chActive ∧
      chanGet t ch = { chanGet s ch with temp := composite s } ∧ regsSameBut s t [FC_STATUS ch]) ∧
    (idleChan s ch → gives (.channelRetrainEnd ch false) s fun t => isRetired t ch 2)) ∧
  (chState s ch ≠ chRetraining → ∀ ok, gives (.channelRetrainEnd ch ok) s fun t => t = s)
/-- ZQ_CALIBRATION_SHORT: its frame is kept, and nothing else changes (R319). -/
def calibrates : Prop := ∀ s, gives .zqCalibrationShort s fun t => t = { s with fl := { s.fl with zqAt := frameNo s } }

/-- SUSPEND_ENTERED: the operation is suspended and the oldest queued read is issued, with those of other planes and the same page
number that join it (R329-R331). -/
def suspends : Prop := ∀ d s,
  (∀ x o r q, dieGet s d = some x → x.lost = false → x.suspending = true → x.run = some o → x.served = 0 → x.readQ = r :: q → x.moveQ = [] →
    gives (.suspendEntered d) s fun t => ∃ y, dieGet t d = some y ∧ y.susp = some o ∧ y.suspMore = x.more ∧ y.run = some r ∧
      (y.more, y.readQ) = planesOf s x r q ∧ y.suspending = false ∧ y.progQ = x.progQ ∧ y.eraseQ = x.eraseQ ∧
      let n := max 1 (min 4 (profileOf s x).planes)
      ∀ z ∈ y.more, (opPlace s n z).2 = (opPlace s n r).2 ∧ (opPlace s n z).1 ≠ (opPlace s n r).1) ∧
  (∀ x, dieGet s d = some x → x.suspending = false → gives (.suspendEntered d) s fun t => t = s)

/-- FLASH_READ_READY that does not decode: the next retry entry, and after the last the soft decode (R333). -/
def readsRetry : Prop := ∀ d r s x, dieGet s d = some x → x.soft = false → r.ok = false →
  ((∃ mv page, x.run = some (.move mv page)) ∨ ∃ tk e i page k, x.run = some (.read tk e i page k)) →
  (x.retry < (profileOf s x).retry → gives (.flashReadReady d r) s fun t => dieGet t d = some { x with retry := x.retry + 1 } ∧
    t.atl = s.atl ∧ t.regs = s.regs ∧ t.cq = s.cq) ∧
  ((profileOf s x).retry ≤ x.retry → gives (.flashReadReady d r) s fun t => dieGet t d = some { x with soft := true } ∧
    t.atl = s.atl ∧ t.regs = s.regs ∧ t.cq = s.cq)
/-- FLASH_READ_READY of a move that decodes at once: the die is idle, the corrected bits count, saturating, and the tile's image is in hand
(R247, R272, R344). -/
def movesRead : Prop := ∀ d r s x mv m page raw im, dieGet s d = some x → x.soft = false → x.retry = 0 → r.ok = true → r.refresh = false →
  x.more = [] → x.ch < 32 → x.run = some (.move mv page) → tabGet s.atl.moves mv = some m → storedTile s d page (wSlot m.word) m.tile = some (raw, im) →
  gives (.flashReadReady d r) s fun t => (∃ y, dieGet t d = some y ∧ y.run = none ∧ y.retry = 0 ∧ y.soft = false) ∧
    tabGet t.atl.moves mv = some { m with image := some im, raw := raw } ∧
    regNat t (FC_CORR_BITS x.ch) = min (regNat s (FC_CORR_BITS x.ch) + r.bits) (2 ^ 32 - 1) ∧ regsSameBut s t [FC_CORR_BITS x.ch]
/-- FLASH_READ_READY of the one tile a READ waits for: its blocks go to the host and the command ends with success (R162, R242, R266). -/
def readsEnd : Prop := ∀ d r s x tk e p n rd page k raw im c sp, dieGet s d = some x → x.soft = false → r.ok = true → r.refresh = false →
  x.run = some (.read tk e rd.idx page k) → readStale s tk e = false → runs s tk p n 2 → (tkGet s tk).reads = [rd] → rd.idx = 0 →
  quadNs s rd.quad = some n → storedTile s d page k rd.tile = some (raw, im) → tileDecode s n rd.tile raw im = some c →
  tilesOf s tk n = [sp] → (transforms n = 0 ∨ (tkGet s tk).xdec ≠ .idle) → gives (.flashReadReady d r) s fun t =>
    ends t tk .success ∧ t.out = s.out ++ dataOuts s tk (slice c sp.off sp.len)
/-- SOFT_DECODE_COMPLETE of a move's page: decoded, it is counted; uncorrectable, it is counted with ERR_HIGH and its event, the page is
bad and its block has one more against it (R273, R334, R344). -/
def softDecodes : Prop := ∀ d r s x mv page, dieGet s d = some x → x.ch < 32 → x.run = some (.move mv page) →
  (x.soft = true → r.ok = true → r.refresh = false → gives (.softDecodeComplete d r) s fun t =>
    regNat t (FC_SOFT_COUNT x.ch) = (regNat s (FC_SOFT_COUNT x.ch) + 1) % 2 ^ 32 ∧ ∃ y, dieGet t d = some y ∧ y.soft = false ∧ (x.more = [] → y.run = none)) ∧
  (x.soft = true → r.ok = false → gives (.softDecodeComplete d r) s fun t =>
    regNat t (FC_UNCORR_COUNT x.ch) = (regNat s (FC_UNCORR_COUNT x.ch) + 1) % 2 ^ 32 ∧ regBit t (FC_STATUS x.ch) 21 = true ∧
    evPending t (273 + 2 * x.ch) = true ∧ (∀ pg, flashGet s d page = some pg → flashGet t d page = some { pg with bad := true }) ∧
    (blkGet t d (page / ppb s)).uncorr = (blkGet s d (page / ppb s)).uncorr + 1) ∧
  (x.soft = false → gives (.softDecodeComplete d r) s fun t => t = s)

/-- FLASH_PROGRAM_DONE: the page stands in the flash as its five codewords, scrambled and with parity, and the stripe counts it; of a failed
program the block is marked, the stripe is abandoned, and its tiles go into a fresh one (R269, R282, R322, R323, R338). -/
def programsEnd : Prop := ∀ d s x k m page st, dieGet s d = some x → x.run = some (.prog k m page) → tabGet s.atl.stripes k = some st →
  (∀ pg, (stripePages s st (st.group.getD (st.overlay.getD 0)) st.mem)[m]? = some (d, page, pg) →
    gives (.flashProgramDone d true) s fun t => flashGet t d page = some { pg with data := [], cells := pageCells d page pg } ∧ tabGet t.atl.stripes k = some { st with okM := st.okM ++ [m] } ∧
      dieGet t d = some (runNext x) ∧ t.atl.tabs = s.atl.tabs ∧ t.regs = s.regs) ∧
  (k < s.atl.nextStripe → st.stream ≠ .fold → tabSorted s.atl.stripes = true → gives (.flashProgramDone d false) s fun t =>
    (blkGet t d (page / ppb s)).marked = true ∧ tabGet t.atl.stripes k = none ∧ t.atl.tabs = s.atl.tabs ∧
    ∃ y, tabGet t.atl.stripes s.atl.nextStripe = some y ∧ y.frags = st.frags)
/-- FLASH_ERASE_DONE: the block is free, with one more erase and no page; of a failed erase it is retired, event 227 (R283, R338). -/
def erasesEnd : Prop := ∀ d s x b, dieGet s d = some x → x.run = some (.erase b) →
  (gives (.flashEraseDone d true) s fun t => (∃ y, dieGet t d = some y ∧ y.run = (runNext x).run ∧ y.freed = x.freed ++ [b]) ∧
    (∀ pg, pg < 2 ^ 24 → pg / ppb s = b → flashGet t d pg = none) ∧ t.regs = s.regs ∧
    blkGet t d b = { blkGet s d b with role := .free, erases := (blkGet s d b).erases + 1, group := none, released := false, uncorr := 0 }) ∧
  (gives (.flashEraseDone d false) s fun t => (blkGet t d b).role = .retired ∧ evPending t 227 = true ∧
    ∀ pg, pg < 2 ^ 24 → pg / ppb s = b → flashGet t d pg = none)

/-- DIE_TIMEOUT: a die that does not report ready is reset (R336); of one that runs nothing it is nothing. -/
def timeouts : Prop := ∀ d s x, dieGet s d = some x →
  (x.run ≠ none → gives (.dieTimeout d) s fun t => dieGet t d = some { x with resetting := true } ∧ t.atl = s.atl ∧ t.regs = s.regs) ∧
  (x.run = none → gives (.dieTimeout d) s fun t => t = s)
/-- DIE_LOST of an idle channel's die: LOST, one live die fewer and one lost more, ATTN with its event, its tiles rebuilt, event 228; the fourth
loss retires the channel (R285, R320, R336, R337, R341). -/
def diesLost : Prop := ∀ d s x, dieGet s d = some x → x.ch < 32 → x.pos < 32 → d < 1024 → idleChan s x.ch →
  (x.lost = false → regFld s (FC_STATUS x.ch) 11 6 + 1 < 4 → gives (.dieLost d) s fun t => dieGet t d = some { x with lost := true } ∧
    regFld t (FC_DIE x.ch x.pos) 31 30 = 2 ∧ regFld t (FC_STATUS x.ch) 11 6 = regFld s (FC_STATUS x.ch) 11 6 + 1 ∧
    regFld t (FC_STATUS x.ch) 5 0 = regFld s (FC_STATUS x.ch) 5 0 - 1 ∧ regBit t (FC_STATUS x.ch) 22 = true ∧
    evPending t (272 + 2 * x.ch) = true ∧ evPending t 228 = true ∧ regBit t AT_REBUILD 31 = true ∧ regBit t AT_REBUILD 30 = false ∧
    regFld t AT_REBUILD 9 0 = d ∧ t.atl.rebuild = some (false, d)) ∧
  (x.lost = false → regFld s (FC_STATUS x.ch) 11 6 = 3 → gives (.dieLost d) s fun t => isRetired t x.ch 3 ∧
    ∃ y, dieGet t d = some y ∧ y.lost = true) ∧
  (x.lost = true → gives (.dieLost d) s fun t => t = s)
/-- CORR_BITS_READ: the count is returned and clears (R344). -/
def corrBitsCleared : Prop := ∀ ch s, ch < 32 → gives (.corrBitsRead ch) s fun t =>
  t.out = s.out ++ [.regRead (FC_CORR_BITS ch) (regRaw s (FC_CORR_BITS ch))] ∧ regNat t (FC_CORR_BITS ch) = 0 ∧
    regsSameBut s t [FC_CORR_BITS ch]

/-! ## Chapters 07 and 08: engine jobs -/

/-- `n` octets at `a` are in one region of octets. -/
def inRegion (s : State) (a n : Nat) : Prop := isScratch a = false ∧ ∃ c, spanClass s a n = some c ∧ c ≠ classW

/-- An engine reads the `n` octets at `a` as `d`: no line of them is uncorrectable (R641, R655). -/
def readsAs (s : State) (a n : Nat) (d : Bytes) : Prop :=
  inRegion s a n ∧ (∀ l ∈ spanLines a n, poisoned s l = false) ∧ d = memRead s a n

/-- The octets from `a` on are `d` now, and all others as before. -/
def stored (s t : State) (a : Nat) (d : Bytes) : Prop :=
  memRead t a d.length = d ∧ ∀ x, (x < a ∨ a + d.length ≤ x) → memGet t x = memGet s x

/-- Job `n` of an engine and operation waits, alone at its engine, a lane and what else it needs being free (R347-R350, R353). -/
def waits (s : State) (n : Nat) (j : Job) (g : Eng) (op : Nat) : Prop :=
  jobGet s n = some j ∧ tabSorted s.en.jobs = true ∧ j.eng = g ∧ dOp j = op ∧ j.phase = .waiting ∧ j.ranAt ≠ some (frameNo s) ∧
    (∀ p, j.parcel = some p → tokenOk s p 2 = true) ∧ (∀ e ∈ s.en.jobs, e.1 ≠ n → e.2.eng = g → e.2.phase = .ended) ∧
    freeLane s j ≠ none ∧ (g = .cp → s.ks.grace = false ∧ (cpIvGen j = true → drbgError s = false)) ∧ j.pos = 0 ∧ j.written = 0 ∧
    j.input = [] ∧ Memory.wf s.dr.mem = true

/-- It starts without a fault (R360), with its granules (R429). -/
def startsWell (s : State) (n : Nat) (j : Job) (g : Eng) (op : Nat) : Prop :=
  waits s n j g op ∧ jobCheck s j = esOk ∧ j.gran = granNeed j

/-- Job `n` is done with a status; its record is due. -/
def jobIs (t : State) (n st : Nat) (P : Job → Prop) : Prop := ∃ x, jobGet t n = some x ∧ x.phase = .done ∧ x.status = st ∧ P x

/-- A job that fails a check when it starts is done with the status of that check and has no effect on memory, contexts or keys
(R360). -/
def jobsRefused : Prop := ∀ n s j, ∀ x : (Nat → Instr) × Eng × Nat,
  x ∈ [(.compress, .cz, 1), (.decompress, .cz, 2), (.czOpenContext, .cz, 3), (.czCloseContext, .cz, 4), (.dgOpenContext, .dg, 1),
    (.dgUpdate, .dg, 2), (.dgCloseContext, .dg, 3), (.encrypt, .cp, 1), (.decrypt, .cp, 2), (.gcmVerify, .cp, 3),
    (.gcmDecryptAfterVerify, .cp, 4), (.aesKwUnwrap, .cp, 5)] →
  waits s n j x.2.1 x.2.2 → jobCheck s j ≠ esOk → gives (x.1 n) s fun t => jobIs t n (jobCheck s j) (fun _ => True) ∧ memSame s t ∧
    t.en.cz = s.en.cz ∧ t.en.dg = s.en.dg ∧ t.ks.slots = s.ks.slots ∧ t.out = s.out
/-- A job of another engine or operation, or one that has ended, is none of these commands' (R347). -/
def jobsOther : Prop := ∀ n s, ∀ x : (Nat → Instr) × Eng × Nat,
  x ∈ [(.compress, .cz, 1), (.decompress, .cz, 2), (.czOpenContext, .cz, 3), (.czCloseContext, .cz, 4), (.dgOpenContext, .dg, 1),
    (.dgUpdate, .dg, 2), (.dgCloseContext, .dg, 3), (.encrypt, .cp, 1), (.decrypt, .cp, 2), (.gcmVerify, .cp, 3),
    (.gcmDecryptAfterVerify, .cp, 4), (.aesKwUnwrap, .cp, 5)] →
  (∀ j, jobGet s n = some j → j.eng ≠ x.2.1 ∨ dOp j ≠ x.2.2 ∨ (j.phase ≠ .waiting ∧ j.phase ≠ .running)) → gives (x.1 n) s fun t => t = s

/-- COMPRESS of a one-shot job that fits a slice: a tile takes the tile format or stays RAW, a stream the octets of its format and wrapper;
they stand at the destination, with the check values of the source (R357, R367-R370, R375, R376). -/
def compresses : Prop := ∀ n s j d out, startsWell s n j .cz 1 → czStream j = false → dSrcLen j ≤ 8 * periodNs s →
  readsAs s (dSrc j) (dSrcLen j) d → out = (if czWrap j = 3 then (tileFormat (periodNs s == 250) (czEffort j + 1) (czTable j) d).getD d
    else compressOut j [] [] d 0) →
  gives (.compress n) s fun t => out.length ≤ dDstCap j → inRegion s (dDst j) out.length → stored s t (dDst j) out ∧
    jobIs t n esOk fun x => x.consumed = dSrcLen j ∧ x.produced = out.length ∧ x.aux0 = crc32 d ∧ x.aux1 = adler32 d ∧
      (x.flags = 1 ↔ czWrap j = 3 ∧ tileFormat (periodNs s == 250) (czEffort j + 1) (czTable j) d = none)
/-- DECOMPRESS of a one-shot job that fits a slice (R372-R374, R378, R379): the decoded octets stand at the destination; octets that do
not decode end it with their status, write nothing, and are counted where they are malformed. -/
def decompresses : Prop := ∀ n s j d r, startsWell s n j .cz 2 → czStream j = false → readsAs s (dSrc j) (dSrcLen j) d →
  r = (if czWrap j = 3 then tileInflate d else inflateAll j d) → gives (.decompress n) s fun t =>
    (r.2.1 ≠ [] → r.2.1.length ≤ 16 * periodNs s → r.2.1.length ≤ dDstCap j → inRegion s (dDst j) r.2.1.length →
      stored s t (dDst j) r.2.1 ∧
      jobIs t n r.1 fun x => x.consumed = r.2.2 ∧ x.produced = r.2.1.length ∧ x.aux0 = crc32 r.2.1) ∧
    (r.2.1 = [] → memSame s t ∧ jobIs t n r.1 (fun x => x.produced = 0) ∧
      (r.1 = esData → regNat t CZ_DATA_INVALID = (regNat s CZ_DATA_INVALID + 1) % 2 ^ 32))
/-- CZ_OPEN_CONTEXT takes the context asked for, or the lowest free one, for its owner; CZ_CLOSE_CONTEXT frees it (R363, R365). -/
def streams : Prop := ∀ n s j,
  (∀ c, startsWell s n j .cz 3 → (czOpenTarget s j).2 = some c → gives (.czOpenContext n) s fun t =>
    tabGet t.en.cz c = some { parcel := j.parcel, pEdition := j.pEdition } ∧ jobIs t n esOk (fun x => x.ctx = c) ∧
      (∀ k, k ≠ c → tabGet t.en.cz k = tabGet s.en.cz k) ∧ memSame s t) ∧
  (startsWell s n j .cz 4 → tabSorted s.en.cz = true → gives (.czCloseContext n) s fun t =>
    tabGet t.en.cz (dCtx j) = none ∧ jobIs t n esOk (fun _ => True) ∧ (∀ k, k ≠ dCtx j → tabGet t.en.cz k = tabGet s.en.cz k) ∧ memSame s t)

/-- DG_OPEN_CONTEXT and DG_CLOSE_CONTEXT (R363-R365, R383). -/
def digestContexts : Prop := ∀ n s j,
  (∀ c, startsWell s n j .dg 1 → (dgOpenTarget s j).2 = some c → gives (.dgOpenContext n) s fun t =>
    tabGet t.en.dg c = some { parcel := j.parcel, pEdition := j.pEdition, alg := dgAlg j, hmac := dgHmac j, declared := dLen j
                              cap := if dgHmac j then capture s (dKeySlot j) else none } ∧
      jobIs t n esOk (fun x => x.ctx = c) ∧ (∀ k, k ≠ c → tabGet t.en.dg k = tabGet s.en.dg k) ∧ memSame s t) ∧
  (startsWell s n j .dg 3 → tabSorted s.en.dg = true → gives (.dgCloseContext n) s fun t =>
    tabGet t.en.dg (dCtx j) = none ∧ jobIs t n esOk (fun _ => True) ∧ (∀ k, k ≠ dCtx j → tabGet t.en.dg k = tabGet s.en.dg k) ∧ memSame s t)
/-- DG_UPDATE that fits a slice, of a context in use: its octets are fed; a finish gives the digest of all that was fed, into the context
or to memory, or compares the MAC with the expected one (R381, R382, R384). -/
def digests : Prop := ∀ n s j d c, startsWell s n j .dg 2 → tabGet s.en.dg (dCtx j) = some c → c.st = .opened → c.declared = 0 →
  dLen j ≤ 4 * periodNs s → 0 < dLen j → readsAs s (dSrc j) (dLen j) d → (∀ e ∈ s.en.taps, e.2.ctx ≠ dCtx j) →
  (dgFinish j = false → gives (.dgUpdate n) s fun t => tabGet t.en.dg (dCtx j) = some { c with data := c.data ++ d } ∧
    jobIs t n esOk (fun x => x.consumed = dLen j) ∧ memSame s t) ∧
  (dgFinish j = true → c.hmac = false → dgToMem j = false → gives (.dgUpdate n) s fun t =>
    (∃ x, tabGet t.en.dg (dCtx j) = some x ∧ x.st = .finished ∧ x.result = digestOf c.alg (c.data ++ d)) ∧
    jobIs t n esOk (fun x => x.consumed = dLen j) ∧ memSame s t) ∧
  (dgFinish j = true → c.hmac = false → dgToMem j = true → inRegion s (dOut j) (dgSize c.alg) → gives (.dgUpdate n) s fun t =>
    stored s t (dOut j) (digestOf c.alg (c.data ++ d)) ∧ jobIs t n esOk fun x => x.produced = dgSize c.alg) ∧
  (∀ k e, dgFinish j = true → c.hmac = true → c.cap = some k → readsAs s (dOut j) (dByte j 13) e → gives (.dgUpdate n) s fun t =>
    memSame s t ∧ jobIs t n (if e = (hmacOf c.alg k.key (c.data ++ d)).take (dByte j 13) then esOk else esNotEqual) fun _ => True)

/-- ENGINE_JOB_END: the one record is written at RESULT, the job's granules return, and a task that waits for it is woken (R358, R505). -/
def jobsEndOnce : Prop := ∀ n s j, jobGet s n = some j →
  (j.phase = .done → inRegion s (dResult j) (jobRecord j).length → Memory.wf s.dr.mem = true → j.gran ≤ s.fr.eng →
    gives (.engineJobEnd n) s fun t => stored s t (dResult j) (jobRecord j) ∧ t.fr.pool = s.fr.pool + j.gran ∧ t.fr.eng = s.fr.eng - j.gran ∧
      (∃ x, jobGet t n = some x ∧ x.phase = .ended ∧ x.status = j.status ∧ x.cap = none) ∧
      ∀ k x, tabGet s.cs.tasks k = some x → x.st = .blocked → x.wait = some (.job n) → tabGet t.cs.tasks k = some { x with unblock := true }) ∧
  (j.phase ≠ .done → gives (.engineJobEnd n) s fun t => t = s)

/-! ## Chapter 08: the cipher engine -/

/-- The octets that an unauthenticated mode makes of a text (R427). -/
def plainText (j : Job) (key d : Bytes) (enc : Bool) : Bytes :=
  if cpMode j = 3 then xtsUnits enc key (cpUnit j) (cpUnitNo j) (d.length + 1) d
  else if enc then Config.aesEnc (cpMode j) key (cpIv j) d else Config.aesDec (cpMode j) key (cpIv j) d

/-- ENCRYPT and DECRYPT in the modes without a tag, of a job that fits a slice (R424, R427). -/
def ciphers : Prop := ∀ n s j k d, tabGet s.ks.slots (cpKey j) = some k → cpMode j < 4 → cpLen j ≤ 8 * periodNs s →
  readsAs s (dSrc j) (cpLen j) d → ∀ enc, startsWell s n j .cp (if enc then 1 else 2) →
  gives (if enc then .encrypt n else .decrypt n) s fun t => inRegion s (dDst j) (plainText j k.key d enc).length →
    stored s t (dDst j) (plainText j k.key d enc) ∧ jobIs t n esOk fun x => x.produced = cpLen j ∧ x.cap = none

/-- The tag of a GCM job's text (R424, R428). -/
def gcmTagOf (j : Job) (key iv d cipher : Bytes) : Bytes :=
  ((Config.gcmTag key iv (d.take (cpAad j)) cipher) ++ zeros 16).take (cpTag j)

/-- ENCRYPT under GCM with a given IV: text and tag (R428). -/
def gcmEncrypts : Prop := ∀ n s j k d out, startsWell s n j .cp 1 → cpMode j = modeGcm → cpIvGen j = false →
  tabGet s.ks.slots (cpKey j) = some k → cpTotal j ≤ 8 * periodNs s → readsAs s (dSrc j) (cpAad j + cpLen j) d →
  out = Config.aesEnc 5 k.key ((cpIv j).take 12) (slice d (cpAad j) (cpLen j)) →
  gives (.encrypt n) s fun t => inRegion s (dDst j) (out ++ gcmTagOf j k.key ((cpIv j).take 12) d out).length →
    stored s t (dDst j) (out ++ gcmTagOf j k.key ((cpIv j).take 12) d out) ∧ jobIs t n esOk fun x => x.produced = cpLen j + cpTag j

/-- A GCM job of operation `op` reads AAD, text and tag as `d`, of which the tag is right or not. -/
def gcmReads (s : State) (n : Nat) (j : Job) (op : Nat) (k : KSlot) (d : Bytes) : Prop :=
  startsWell s n j .cp op ∧ cpMode j = modeGcm ∧ cpIvGen j = false ∧ tabGet s.ks.slots (cpKey j) = some k ∧ cpTotal j ≤ 8 * periodNs s ∧
    readsAs s (dSrc j) (cpTotal j) d
def gcmRight (j : Job) (k : KSlot) (d : Bytes) : Prop :=
  (d.drop (cpAad j + cpLen j)).take (cpTag j) = gcmTagOf j k.key ((cpIv j).take 12) d (slice d (cpAad j) (cpLen j))
def gcmOpen (j : Job) (k : KSlot) (d : Bytes) : Bytes := Config.aesDec 5 k.key ((cpIv j).take 12) (slice d (cpAad j) (cpLen j))

/-- DECRYPT under GCM: no octet is written before the tag has been found right; a wrong tag ends it NOT_EQUAL with nothing written
(R429). -/
def gcmDecrypts : Prop := ∀ n s j k d, gcmReads s n j 2 k d → gives (.decrypt n) s fun t => memSame s t ∧
  (gcmRight j k d → ∃ x, jobGet t n = some x ∧ x.phase = .writeout ∧ x.output = gcmOpen j k d ∧ x.gran = j.gran) ∧
  (¬ gcmRight j k d → jobIs t n esNotEqual fun x => x.produced = 0 ∧ x.gran = 0)
/-- GCM_PLAINTEXT_WRITEOUT_END: the held plaintext stands at the destination and the job ends VERIFIED; of a job that holds none,
nothing (R429). -/
def gcmWritesOut : Prop := ∀ n s j, jobGet s n = some j →
  (j.phase = .writeout → j.written = 0 → j.output ≠ [] → inRegion s (dDst j) j.output.length → inRegion s (dResult j) 32 → Memory.wf s.dr.mem = true →
    j.eng = .cp → (dDst j + j.output.length ≤ dResult j ∨ dResult j + 32 ≤ dDst j) →
    gives (.gcmPlaintextWriteoutEnd n) s fun t => memRead t (dDst j) j.output.length = j.output ∧
      ∃ x, jobGet t n = some x ∧ x.phase = .ended ∧ x.status = esOk ∧ x.flags = 2 ∧ x.produced = j.output.length ∧ x.gran = 0) ∧
  (j.phase ≠ .writeout → gives (.gcmPlaintextWriteoutEnd n) s fun t => t = s)
/-- GCM_GRANULE_START: a waiting decryption takes all its granules at once, or none (R429). -/
def gcmGranuled : Prop := ∀ n s j, jobGet s n = some j → j.phase = .waiting → j.gran = 0 → 0 < granNeed j → jobCheck s j = esOk →
  (granNeed j ≤ s.fr.pool → gives (.gcmGranuleStart n) s fun t => jobGet t n = some { j with gran := granNeed j } ∧
    t.fr.pool = s.fr.pool - granNeed j ∧ t.fr.eng = s.fr.eng + granNeed j ∧ memSame s t) ∧
  (s.fr.pool < granNeed j → gives (.gcmGranuleStart n) s fun t => t = s)
/-- GCM_VERIFY: a right tag is kept in the verified table, a wrong one is NOT_EQUAL; GCM_DECRYPT_AFTER_VERIFY uses its entry up and writes
the text, VERIFIED if the tag is still right (R430, R431). -/
def gcmVerifies : Prop := ∀ n s j k d,
  (gcmReads s n j 3 k d → gives (.gcmVerify n) s fun t => memSame s t ∧
    (gcmRight j k d → jobIs t n esOk (fun x => x.flags = 2) ∧
      ∃ v ∈ t.en.verified, v.slot = cpKey j ∧ v.edition = k.edition ∧ v.src = dSrc j ∧ v.frame = frameNo s) ∧
    (¬ gcmRight j k d → t.en.verified = s.en.verified ∧ jobIs t n esNotEqual fun _ => True)) ∧
  (∀ v, gcmReads s n j 4 k d → verifiedFor s j = some v → gives (.gcmDecryptAfterVerify n) s fun t => v ∉ t.en.verified ∧
    (inRegion s (dDst j) (gcmOpen j k d).length → stored s t (dDst j) (gcmOpen j k d) ∧
      (gcmRight j k d → jobIs t n esOk fun x => x.flags = 2) ∧ (¬ gcmRight j k d → jobIs t n esNotEqual fun x => x.flags = 1)))
/-- AES_KW_UNWRAP: the unwrapped octets, or NOT_EQUAL with nothing written (R423). -/
def unwraps : Prop := ∀ n s j k d, startsWell s n j .cp 5 → tabGet s.ks.slots (cpKey j) = some k → cpLen j ≤ 8 * periodNs s →
  readsAs s (dSrc j) (cpLen j) d → gives (.aesKwUnwrap n) s fun t =>
  (Config.kwUnwrap k.key d = none → memSame s t ∧ jobIs t n esNotEqual fun _ => True) ∧
  (∀ x, Config.kwUnwrap k.key d = some x → inRegion s (dDst j) x.length →
    stored s t (dDst j) x ∧ jobIs t n esOk fun y => y.produced = x.length)

/-! ## Namespace taps -/

/-- NS_TAP_WRITE: a valid tap takes its value, one that names a context or namespace that cannot be tapped is REFUSED; NS_TAP_ATTACH
attaches it, or clears EN of one that is no longer valid (log 73), or begins to detach one whose register says so; TAP_HOLD_TIMEOUT: 64 frames after a write was held, event 353 (R389, R390,
R396). -/
def tapsWork : Prop := ∀ k s, k < 16 →
  (∀ v, bitOf v 31 = true → tapInvalid s v = true → gives (.nsTapWrite k v) s fun t => regBit t (DG_NS_TAP k) 29 = true ∧
    regBit t (DG_NS_TAP k) 31 = regBit s (DG_NS_TAP k) 31 ∧ regsSameBut s t [DG_NS_TAP k] ∧ t.en = s.en) ∧
  (∀ v, v < 2 ^ 32 → bitOf v 31 = true → tapInvalid s v = false → gives (.nsTapWrite k v) s fun t => regBit t (DG_NS_TAP k) 31 = true ∧
    regFld t (DG_NS_TAP k) 7 0 = bitsOf v 7 0 ∧ regFld t (DG_NS_TAP k) 19 8 = bitsOf v 19 8 ∧ regsSameBut s t [DG_NS_TAP k]) ∧
  (∀ c, tabGet s.en.taps k = none → regBit s (DG_NS_TAP k) 31 = true → tabGet s.en.dg (regFld s (DG_NS_TAP k) 7 0) = some c →
    tapInvalid s (regNat s (DG_NS_TAP k)) = false → gives (.nsTapAttach k) s fun t =>
      tabGet t.en.taps k = some { ns := regFld s (DG_NS_TAP k) 19 8, ctx := regFld s (DG_NS_TAP k) 7 0 } ∧
      tabGet t.en.dg (regFld s (DG_NS_TAP k) 7 0) = some { c with tap := true }) ∧
  (tabGet s.en.taps k = none → regBit s (DG_NS_TAP k) 31 = true → tapInvalid s (regNat s (DG_NS_TAP k)) = true →
    gives (.nsTapAttach k) s fun t => regBit t (DG_NS_TAP k) 31 = false ∧ t.en = s.en) ∧
  (∀ x, tabGet s.en.taps k = some x → regBit s (DG_NS_TAP k) 31 = false → gives (.nsTapAttach k) s fun t =>
    tabGet t.en.taps k = some { x with closing := true } ∧ t.en.dg = s.en.dg) ∧
  (∀ x f, tabGet s.en.taps k = some x → x.heldSince = some f →
    (frameNo s = f + 64 → gives (.tapHoldTimeout k) s fun t => regBit t (DG_NS_TAP k) 30 = true ∧ evPending t 353 = true) ∧
    (frameNo s ≠ f + 64 → gives (.tapHoldTimeout k) s fun t => t = s))

/-! ## Chapter 08: keys and entropy -/

/-- KEY_UNWRAP, KEY_DERIVE and KEY_ERASE wait for step 4; no slot has changed (R411, R704). -/
def keysWait : Prop := ∀ (s : State) (p : Packet), p.bufOk = true → ∀ x : (Packet → Instr) × Nat,
  x ∈ [(.keyUnwrap, 0x201), (.keyDerive, 0x202), (.keyErase, 0x203)] → arrives s x.2 p → gives (x.1 p) s fun t =>
    flies s t x.2 p false ∧ t.ks.reqs = s.ks.reqs ++ [.packet s.mg.next (pAt p 8 2)] ∧ t.ks.slots = s.ks.slots ∧ t.out = s.out

/-- The earliest request of slot `k` is packet `n`, of opcode `op`. -/
def keyDue (s : State) (k n : Nat) (f : Flight) (op : Nat) : Prop :=
  (s.ks.reqs.find? fun r => reqSlot r == k) = some (.packet n k) ∧ flightGet s n = some f ∧ f.op = op ∧ tabSorted s.mg.flights = true ∧
    canReply s f ∧ pAt f.p 8 2 = k ∧ k < 4096

/-- The next edition of a slot (R404). -/
def slotNext (s : State) (k : Nat) : Nat := ((slotGet s k).edition + 1) % 256

/-- KEY_INSTALL_EFFECT of an unwrap into an empty slot: under a permitted key-encryption key that unwraps the buffer, the wrapped key with
its algorithm, uses, owner and persistence; a buffer that does not unwrap is counted, event 371, and changes no slot (R404, R407). -/
def unwrapsInstall : Prop := ∀ k n f s, keyDue s k n f 0x201 → (slotGet s k).valid = false → pAt f.p 10 2 < 4096 →
  (slotGet s (pAt f.p 10 2)).valid = true → bitOf (slotGet s (pAt f.p 10 2)).uses 5 = true →
  ((slotGet s (pAt f.p 10 2)).device = true ∨ destDevice f.p = false ∧ (slotGet s (pAt f.p 10 2)).owner = f.p.parcel) →
  (destDevice f.p = true ∨ tabGet s.pc.saves f.p.parcel = none) → gives (.keyInstallEffect k) s fun t =>
  (Config.kwUnwrap (slotGet s (pAt f.p 10 2)).key f.p.buf = none → t.ks.slots = s.ks.slots ∧
    regNat t KS_UNWRAP_FAIL = (regNat s KS_UNWRAP_FAIL + 1) % 2 ^ 32 ∧ evPending t 371 = true ∧ replied t n 0x201 f.p .notAuthentic []) ∧
  (∀ b, Config.kwUnwrap (slotGet s (pAt f.p 10 2)).key f.p.buf = some b → bitOf (leAt b 3 1) 1 = destDevice f.p →
    keyLenOk (leAt b 0 1) (leAt b 2 1) = true → usesOk (leAt b 0 1) (leAt b 1 1) (destDevice f.p) = true → leAt b 3 1 < 4 → leAt b 6 2 = 0 →
    b.length = 8 + leAt b 2 1 → leAt b 4 2 = (if destDevice f.p then 0 else f.p.parcel) → leAt b 0 1 ≠ 2 → leAt b 0 1 ≠ 3 →
    slotRoom s (destDevice f.p) f.p.parcel k = true →
      slotGet t k = { valid := true, alg := leAt b 0 1, key := slice b 8 (leAt b 2 1), uses := leAt b 1 1, device := destDevice f.p
                      persist := bitOf (leAt b 3 1) 0, owner := (if destDevice f.p then 0 else f.p.parcel), edition := slotNext s k } ∧
      (∀ j, j ≠ k → slotGet t j = slotGet s j) ∧ replied t n 0x201 f.p .ok [BitVec.ofNat 8 (slotNext s k)])
/-- KEY_INSTALL_EFFECT of a derivation from the device root key under the packet's label into an empty slot (R404, R408, R806). -/
def derivesInstall : Prop := ∀ k n f s, keyDue s k n f 0x202 → (slotGet s k).valid = false → pAt f.p 10 1 = 0 → f.p.bufLen = 0 →
  keyLenOk (pAt f.p 11 1) (pAt f.p 13 1) = true → usesOk (pAt f.p 11 1) (pAt f.p 12 1) (destDevice f.p) = true →
  slotRoom s (destDevice f.p) f.p.parcel k = true → gives (.keyInstallEffect k) s fun t =>
    slotGet t k = { valid := true, alg := pAt f.p 11 1, key := kdfCounter vaultRoot (slice f.p.params 8 32) [] (pAt f.p 13 1)
                    uses := pAt f.p 12 1, device := destDevice f.p, persist := bitOf f.p.flags 0
                    owner := (if destDevice f.p then 0 else f.p.parcel), derived := true, edition := slotNext s k } ∧
    (∀ j, j ≠ k → slotGet t j = slotGet s j) ∧ replied t n 0x202 f.p .ok [BitVec.ofNat 8 (slotNext s k)]
/-- KEY_ERASURE_EFFECT: the slot is empty with its next edition, event 369; of an empty slot nothing changes (R404, R413). -/
def erases : Prop := ∀ k n f s, keyDue s k n f 0x203 → s.en.xjobs = [] →
  (slotIs (slotGet s k) f.p = true → (slotGet s k).valid = true → (bitOf (slotGet s k).uses 4 = false ∨ slotBound s k = false) →
    slotSaving s (slotGet s k) = false → gives (.keyErasureEffect k) s fun t => slotGet t k = { edition := slotNext s k } ∧
      (∀ j, j ≠ k → slotGet t j = slotGet s j) ∧ evPending t 369 = true ∧ replied t n 0x203 f.p .ok [BitVec.ofNat 8 (slotNext s k)]) ∧
  ((slotGet s k).valid = false → gives (.keyErasureEffect k) s fun t => t.ks.slots = s.ks.slots ∧
    replied t n 0x203 f.p .ok [BitVec.ofNat 8 (slotGet s k).edition]) ∧
  ((slotGet s k).valid = true → slotIs (slotGet s k) f.p = true → bitOf (slotGet s k).uses 4 = true → slotBound s k = true →
    gives (.keyErasureEffect k) s fun t => t.ks.slots = s.ks.slots ∧ replied t n 0x203 f.p .wrongState [])
/-- The one job that had captured an erased slot ends KEY_REVOKED; a context that had becomes REVOKED, holding nothing (R365, R413); a job
of a parcel whose reset has taken effect only loses its copy (R416). -/
def erasureRevokes : Prop := ∀ k s, (s.ks.reqs.find? fun r => reqSlot r == k) = some (.erase k) → (slotGet s k).valid = true →
  (∀ n j, s.en.jobs = [(n, j)] → j.phase = .running → (j.cap.map (·.slot)) = some k →
    (∀ p, j.parcel = some p → (parGet s p).cancelDue = false) → gives (.keyErasureEffect k) s fun t =>
    (∃ x, jobGet t n = some x ∧ x.phase = .ended ∧ x.status = esRevoked ∧ x.cap = none ∧ x.gran = 0) ∧ (slotGet t k).valid = false) ∧
  (∀ n j p, s.en.jobs = [(n, j)] → j.phase = .running → (j.cap.map (·.slot)) = some k → j.parcel = some p → (parGet s p).cancelDue = true →
    gives (.keyErasureEffect k) s fun t => jobGet t n = some { j with cap := none } ∧ (slotGet t k).valid = false) ∧
  (∀ c x, s.en.jobs = [] → s.en.dg = [(c, x)] → x.st = .opened → (x.cap.map (·.slot)) = some k → gives (.keyErasureEffect k) s fun t =>
    tabGet t.en.dg c = some { x with st := .revoked, cap := none, data := [], result := [] } ∧ (slotGet t k).valid = false)
/-- KEY_QUERY tells of a slot all but its key (R403, R404, R717). -/
def keysQueried : Prop := ∀ s p, acts s 0x204 p → pFlag p 0 = false → pAt p 8 2 < 4096 → gives (.keyQuery p) s fun t =>
  t.ks = s.ks ∧
  ((slotGet s (pAt p 8 2)).valid = true → answered s t 0x204 p .ok (leBytes 1 (slotGet s (pAt p 8 2)).alg
    ++ leBytes 1 (slotGet s (pAt p 8 2)).uses ++ leBytes 1 (slotGet s (pAt p 8 2)).key.length
    ++ leBytes 1 (1 + 2 * b2n (slotGet s (pAt p 8 2)).persist + 4 * b2n (slotGet s (pAt p 8 2)).device
      + 8 * b2n (slotGet s (pAt p 8 2)).derived + 16 * b2n (slotBound s (pAt p 8 2)))
    ++ leBytes 2 (slotGet s (pAt p 8 2)).owner ++ leBytes 1 (slotGet s (pAt p 8 2)).edition
    ++ leBytes 1 (min 255 (slotCaptures s (pAt p 8 2))))) ∧
  ((slotGet s (pAt p 8 2)).valid = false → answered s t 0x204 p .ok [0, 0, 0, 0, 0, 0, BitVec.ofNat 8 (slotGet s (pAt p 8 2)).edition, 0])

/-- HEALTH_TEST_FAILURE: ERROR and event 372 (R451); STARTUP_TEST_RETRY: due each 20,000 frames, three times; a pass makes the DRBG READY
with event 373 (R451); ENTROPY_GRACE_EXPIRY: 1,048,576 frames after the failure no cipher slice starts (R422). -/
def entropyFails : Prop := ∀ s,
  (gives .healthTestFailure s fun t => regFld t KS_ENTROPY 31 30 = 2 ∧ regBit t KS_ENTROPY 29 = true ∧
    regFld t KS_ENTROPY 23 16 = min 255 (regFld s KS_ENTROPY 23 16 + 1) ∧ evPending t 372 = true ∧ t.ks.failedAt = some (frameNo s)) ∧
  (∀ f, s.ks.failedAt = some f → regFld s KS_ENTROPY 31 30 = 2 → s.ks.retries < 3 → f + 20000 * (s.ks.retries + 1) ≤ frameNo s →
    (gives (.startupTestRetry true) s fun t => regFld t KS_ENTROPY 31 30 = 1 ∧ evPending t 373 = true ∧ t.ks.failedAt = none ∧
      t.ks.grace = false) ∧
    (gives (.startupTestRetry false) s fun t => t = { s with ks := { s.ks with retries := s.ks.retries + 1 } })) ∧
  (retryDue s = false → ∀ pass, gives (.startupTestRetry pass) s fun t => t = s) ∧
  (∀ f, s.ks.failedAt = some f → regFld s KS_ENTROPY 31 30 = 2 →
    (f + 1048576 ≤ frameNo s → gives .entropyGraceExpiry s fun t => t = { s with ks := { s.ks with grace := true } }) ∧
    (frameNo s < f + 1048576 → gives .entropyGraceExpiry s fun t => t = s))
/-- DRBG_RESEED each 1,048,576 frames while READY (R450); MASK_GENERATOR_RESEED after 65,536 blocks of a lane (R422); FUSE_BLOW_COMPLETE: the
fuse counter stands at the image's SVN, event 375, and the packet is answered (R445). -/
def entropySteps : Prop := ∀ s,
  (regFld s KS_ENTROPY 31 30 = 1 → s.ks.reseeded + 1048576 ≤ frameNo s → gives .drbgReseed s fun t =>
    t.ks = { s.ks with reseeded := frameNo s } ∧ regFld t KS_ENTROPY 15 0 = (regFld s KS_ENTROPY 15 0 + 1) % 65536 ∧ regsSameBut s t [KS_ENTROPY]) ∧
  (regFld s KS_ENTROPY 31 30 ≠ 1 ∨ frameNo s < s.ks.reseeded + 1048576 → gives .drbgReseed s fun t => t = s) ∧
  (∀ l, l < 16 → regFld s KS_ENTROPY 31 30 = 1 → 65536 ≤ tabGetD s.ks.blocks l 0 → gives (.maskGeneratorReseed l) s fun t =>
    tabGetD t.ks.blocks l 0 = tabGetD s.ks.blocks l 0 - 65536 ∧ t.ks.slots = s.ks.slots ∧ t.regs = s.regs) ∧
  (∀ l, tabGetD s.ks.blocks l 0 < 65536 ∨ regFld s KS_ENTROPY 31 30 ≠ 1 → gives (.maskGeneratorReseed l) s fun t => t = s) ∧
  (∀ v n f, s.ks.blowing = some (v, n) → flightGet s n = some f → v ≤ 64 → s.ks.fuses ≤ 64 → tabSorted s.mg.flights = true →
    canReply s f → gives .fuseBlowComplete s fun t => t.ks.fuses = max s.ks.fuses v ∧ t.ks.blowing = none ∧
      regFld t KS_TRUST 15 8 = max s.ks.fuses v ∧ evPending t 375 = true ∧
      replied t n f.op f.p .ok [BitVec.ofNat 8 (max s.ks.fuses v)])

/-! ## Chapter 11: the Gazetteer -/

/-- Job `n` waits for a Gazetteer operation and may take a slice now, alone on what it works on (R347, R350, R580). -/
def gzWaits (s : State) (n : Nat) (j : Job) (op : Nat) : Prop :=
  jobGet s n = some j ∧ j.eng = .gz ∧ dOp j = op ∧ j.phase = .waiting ∧ j.ranAt ≠ some (frameNo s) ∧
    (∀ p, j.parcel = some p → tokenOk s p 2 = true) ∧ gzBefore s n j = false ∧ gzPlaceFor s j ≠ none ∧ j.pos = 0 ∧ j.written = 0 ∧
    j.input = [] ∧ j.produced = 0 ∧ j.consumed = 0 ∧ j.aux0 = 0 ∧ j.aux1 = 0 ∧ j.status = esOk ∧ j.flags = 0 ∧ j.awaits = [] ∧
    Memory.wf s.dr.mem = true ∧ tabSorted s.gz.entries = true
/-- It starts without a fault (R577). -/
def gzWell (s : State) (n : Nat) (j : Job) (op : Nat) : Prop := gzWaits s n j op ∧ gzCheck s n j = esOk

/-- A Gazetteer job that fails a check when it starts is done with that check's status and changes no table, slot, context or memory
(R360, R577); a refused load raises event 455 and leaves the slot it takes empty (R594). -/
def gzRefused : Prop := ∀ n s j, ∀ x : (Nat → Instr) × Nat,
  x ∈ [(fun n => .search n [], 1), (.insert, 2), (.gzDelete, 3), (.walk, 4), (.openScanContext, 5), (.scan, 6), (.closeScanContext, 7),
    (.unloadAutomaton, 9), (.loadAutomaton, 8)] → gzWaits s n j x.2 → gzCheck s n j ≠ esOk → gives (x.1 n) s fun t =>
  jobIs t n (gzCheck s n j) (fun _ => True) ∧ memSame s t ∧ (x.2 ≠ 8 → t.gz = s.gz) ∧ t.out = s.out ∧
    (x.2 = 8 → evPending t 455 = true ∧ t.gz.entries = s.gz.entries ∧ t.gz.tabs = s.gz.tabs ∧ t.gz.ctxs = s.gz.ctxs ∧
      ∀ k, (gzLoadTarget s j).1 ≠ esOk ∨ k ≠ (gzLoadTarget s j).2 → gzSlot t k = gzSlot s k)

/-- The winner has the highest priority of the matching entries that are not suspect, and of those with that priority the lowest number
(R583). -/
def winnerBest : Prop := ∀ s t k e x, tabSorted s.gz.entries = true → gzWinner s t k = some (e, x) →
  (e, x) ∈ gzValid s t ∧ x.suspect = false ∧ gzFits x.value x.mask k = true ∧
  ∀ y ∈ gzValid s t, y.2.suspect = false → gzFits y.2.value y.2.mask k = true → y.2.prio < x.prio ∨ y.2.prio = x.prio ∧ e ≤ y.1
/-- SEARCH of one key: the answer of the winner its shadow confirms, or of a miss, at the destination; a winner its shadow does not confirm
is made suspect, counted with event 448, and does not answer (R574, R583, R589). -/
def searches : Prop := ∀ n s j t d, gzWell s n j 1 → gzCount j = 1 → gzTab s (gzObj j) = some t → t.casc = 0 → readsAs s (dSrc j) 20 d →
  inRegion s (dDst j) 16 →
  (∀ e x, gzWinner s t (gzKey d) = some (e, x) → x.parityBad = false → gzFits x.sval x.smask (gzKey d) = true →
    gives (.search n []) s fun u => stored s u (dDst j) (gzAnswer (some (e, x.prio, x.result)) false 0) ∧ u.gz = s.gz ∧
      jobIs u n esOk fun y => y.aux0 = 1 ∧ y.produced = 16 ∧ y.consumed = 20) ∧
  (gzWinner s t (gzKey d) = none → gives (.search n []) s fun u => stored s u (dDst j) (gzAnswer none false 0) ∧ u.gz = s.gz ∧
    jobIs u n esOk fun y => y.aux0 = 0 ∧ y.produced = 16) ∧
  (∀ e x, gzWinner s t (gzKey d) = some (e, x) → x.parityBad = false → gzFits x.sval x.smask (gzKey d) = false →
    (∀ y ∈ gzValid s t, y.1 ≠ e → y.2.suspect = true ∨ gzFits y.2.value y.2.mask (gzKey d) = false) →
    gives (.search n []) s fun u => stored s u (dDst j) (gzAnswer none false 0) ∧ gzEntry u e = some { x with suspect := true } ∧
      evPending u 448 = true ∧ regNat u GZ_FALSE_HITS = (regNat s GZ_FALSE_HITS + 1) % 2 ^ 32 ∧ jobIs u n esOk fun _ => True)
/-- INSERT of one image: an entry of its value and mask is replaced, a new one takes its hole; a full table ends the job FULL with event 454
(R585). -/
def inserts : Prop := ∀ n s j t d, gzWell s n j 2 → gzCount j = 1 → gzTab s (gzObj j) = some t → readsAs s (dSrc j) 48 d →
  (∀ e y, gzSame s t (gzImage d).value (gzImage d).mask = some e → gzEntry s e = some y → gives (.insert n) s fun u =>
    gzEntry u e = some (gzImage d) ∧ (∀ i, i ≠ e → gzEntry u i = gzEntry s i) ∧ memSame s u ∧
      jobIs u n esOk fun x => x.aux0 = 1 ∧ x.aux1 = e ∧ x.consumed = 48) ∧
  (∀ e, gzSame s t (gzImage d).value (gzImage d).mask = none → gzPlace s t (gzImage d) = some (e, 0, 0, true) → gives (.insert n) s fun u =>
    gzEntry u e = some (gzImage d) ∧ (∀ i, i ≠ e → gzEntry u i = gzEntry s i) ∧ memSame s u ∧
      jobIs u n esOk fun x => x.aux0 = 1 ∧ x.aux1 = e) ∧
  (gzSame s t (gzImage d).value (gzImage d).mask = none → gzPlace s t (gzImage d) = none → gives (.insert n) s fun u =>
    u.gz = s.gz ∧ evPending u 454 = true ∧ jobIs u n esFull fun x => x.aux0 = 0)
/-- GZ_DELETE of one value and mask (R586), and WALK from the start of a table that fits a slice (R588). -/
def deletesWalks : Prop := ∀ n s j t d, gzTab s (gzObj j) = some t →
  (gzWell s n j 3 → gzCount j = 1 → readsAs s (dSrc j) 40 d →
    (∀ e, gzSame s t (gzKey (d.take 20)) (gzKey (slice d 20 20)) = some e → gives (.gzDelete n) s fun u => gzEntry u e = none ∧
      (∀ i, i ≠ e → gzEntry u i = gzEntry s i) ∧ jobIs u n esOk fun x => x.aux0 = 1) ∧
    (gzSame s t (gzKey (d.take 20)) (gzKey (slice d 20 20)) = none → gives (.gzDelete n) s fun u => u.gz = s.gz ∧
      jobIs u n esOk fun x => x.aux0 = 0)) ∧
  (∀ l, gzWell s n j 4 → dSrcLen j = 0 → l = (gzValid s t).take (dDstCap j / 48) → l ≠ [] → l.length ≤ gzRate s 125 →
    inRegion s (dDst j) (l.flatMap fun e => gzOut e.2).length → gives (.walk n) s fun u =>
      stored s u (dDst j) (l.flatMap fun e => gzOut e.2) ∧ u.gz = s.gz ∧
        jobIs u n esOk fun x => x.aux0 = l.length ∧ x.produced = 48 * l.length)
/-- OPEN_SCAN_CONTEXT, CLOSE_SCAN_CONTEXT and UNLOAD_AUTOMATON (R592, R598). -/
def scanContexts : Prop := ∀ n s j,
  (gzWell s n j 5 → gives (.openScanContext n) s fun u =>
    tabGet u.gz.ctxs (gzOpenTarget s j).2 = some { parcel := j.parcel, pEdition := j.pEdition, slot := gzObj j } ∧
      (∀ k, k ≠ (gzOpenTarget s j).2 → tabGet u.gz.ctxs k = tabGet s.gz.ctxs k) ∧ jobIs u n esOk fun x => x.ctx = (gzOpenTarget s j).2) ∧
  (gzWell s n j 7 → tabSorted s.gz.ctxs = true → gives (.closeScanContext n) s fun u => tabGet u.gz.ctxs (dCtx j) = none ∧
    (∀ k, k ≠ dCtx j → tabGet u.gz.ctxs k = tabGet s.gz.ctxs k) ∧ jobIs u n esOk fun _ => True) ∧
  (gzWell s n j 9 → gives (.unloadAutomaton n) s fun u => gzSlot u (gzObj j) = { edition := (gzSlot s (gzObj j)).edition } ∧
    (∀ k, k ≠ gzObj j → gzSlot u k = gzSlot s k) ∧ jobIs u n esOk fun _ => True)
/-- LOAD_AUTOMATON that fits a slice: an image that passes its checks is held under the slot's next edition; one that does not leaves the
slot empty, event 455 (R592-R594). -/
def loads : Prop := ∀ n s j d k, gzWell s n j 8 → dSrcLen j ≤ gzRate s 16384 → readsAs s (dSrc j) (dSrcLen j) d → k = (gzLoadTarget s j).2 →
  (auCheck d = esOk → gives (.loadAutomaton n) s fun u =>
    gzSlot u k = { loaded := true, owner := j.parcel, image := d, edition := ((gzSlot s k).edition + 1) % 256 } ∧
      (∀ i, i ≠ k → gzSlot u i = gzSlot s i) ∧ jobIs u n esOk fun x => x.consumed = dSrcLen j) ∧
  (auCheck d ≠ esOk → gives (.loadAutomaton n) s fun u => gzSlot u k = { edition := (gzSlot s k).edition } ∧ evPending u 455 = true ∧
    jobIs u n (auCheck d) fun _ => True)
/-- SCAN of a one-shot job whose lane holds its automaton: the match records of its octets, in order, at the destination; a lane that holds
another automaton loads this one first (R595-R597). -/
def scans : Prop := ∀ n s j l, gzWell s n j 6 → gzOneShot j = true → gzPlaceFor s j = some l →
  (∀ d a, gzHolds s l (gzObj j) = true → gzFinish j = false → dSrcLen j ≤ gzRate s 1000 → readsAs s (dSrc j) (dSrcLen j) d →
    a = d.foldl (fun a x => scanStep (gzSlot s (gzObj j)).image (dDstCap j / 8) a (auClass (gzSlot s (gzObj j)).image x.toNat) 1)
      { st := 0, off := 0 } → a.full = false → (a.recs ≠ [] → inRegion s (dDst j) (a.recs.flatMap gzMatch).length) →
    gives (.scan n) s fun u => stored s u (dDst j) (a.recs.flatMap gzMatch) ∧ u.gz = s.gz ∧
      jobIs u n esOk fun x => x.consumed = a.used ∧ x.aux0 = a.recs.length ∧ x.aux1 = a.st ∧ x.produced = 8 * a.recs.length) ∧
  (gzHolds s l (gzObj j) = false → (gzSlot s (gzObj j)).loaded = true → (gzSlot s (gzObj j)).image.length ≤ gzRate s 16384 →
    gives (.scan n) s fun u => tabGet u.gz.lanes l = some (gzObj j, (gzSlot s (gzObj j)).edition) ∧ memSame s u ∧
      ∃ x, jobGet u n = some x ∧ x.phase = .running ∧ x.lane = some l)
/-- SUSPECT_REPAIR and SHADOW_COMPARISON (R590, R591). -/
def shadows : Prop := ∀ e s x, gzEntry s e = some x →
  (x.suspect = true → x.parityBad = false → gives (.suspectRepair e) s fun u =>
    gzEntry u e = some { x with value := x.sval, mask := x.smask, suspect := false } ∧ ∀ i, i ≠ e → gzEntry u i = gzEntry s i) ∧
  (x.suspect = false ∨ x.parityBad = true → gives (.suspectRepair e) s fun u => u = s) ∧
  (x.value = x.sval → x.mask = x.smask → gives (.shadowComparison e []) s fun u => u.gz.entries = s.gz.entries ∧ u.ev = s.ev) ∧
  (x.value ≠ x.sval ∨ x.mask ≠ x.smask → x.parityBad = false → gives (.shadowComparison e []) s fun u =>
    gzEntry u e = some { x with value := x.sval, mask := x.smask, suspect := false } ∧ evPending u 450 = true) ∧
  (x.value ≠ x.sval ∨ x.mask ≠ x.smask → x.parityBad = true → gives (.shadowComparison e []) s fun u =>
    gzEntry u e = some { x with suspect := true } ∧ evPending u 449 = true)

/-! ## Chapter 11: the cascade -/

/-- CASCADE_LINK_TRAINED (R602, R614). -/
def ringTrains : Prop := ∀ pos present s, pos < 8 → present < 256 →
  (s.gz.casc.role ≠ 0 → gives (.cascadeLinkTrained pos present) s fun u => regBit u GZ_CASCADE 31 = true ∧
    regBit u GZ_CASCADE 30 = cascHead s ∧ regFld u GZ_CASCADE 26 24 = (if cascHead s then 0 else pos) ∧
    regFld u GZ_CASCADE 23 16 = present ∧ regsSameBut s u [GZ_CASCADE]) ∧
  (s.gz.casc.role = 0 → gives (.cascadeLinkTrained pos present) s fun u => u = s)
/-- The ring is at fault: its link down, FAULT and event 452 (R609). -/
def ringFault (u : State) : Prop := regBit u GZ_CASCADE 31 = false ∧ regBit u GZ_CASCADE 28 = true ∧ evPending u 452 = true
/-- CASCADE_MARK_RECEIVED: a member opens the mark's batch and sends the mark on with its own rate level where slower, the head takes the
level; a mark with a CRC error or of another period is a fault. CASCADE_MARK_MISSING is one, and a search that waits is answered INCOMPLETE
(R603, R608, R609). -/
def marksTravel : Prop := ∀ d c s m, m = markOf d →
  (s.gz.casc.role = 0 → gives (.cascadeMarkReceived d c) s fun u => u = s) ∧
  (d.length = 16 → crc32 d = c → s.gz.casc.role = 1 → m.period = regFld s FR_FRAME_PERIOD 1 0 → m.change = none → s.gz.casc.change = none →
    ∀ o, o = markOctets { m with level := max m.level (regFld s GZ_THROTTLE 31 30) } → gives (.cascadeMarkReceived d c) s fun u =>
      u.out = s.out ++ [.mark o (crc32 o)] ∧ u.gz.casc.open_ = some m ∧ u.gz.casc.searched = false ∧ u.regs = s.regs) ∧
  (d.length = 16 → crc32 d = c → s.gz.casc.role = 2 → m.period = regFld s FR_FRAME_PERIOD 1 0 → gives (.cascadeMarkReceived d c) s fun u =>
    u.gz.casc.level = m.level ∧ u.out = s.out ∧ u.regs = s.regs) ∧
  (d.length = 16 → crc32 d = c → s.gz.casc.role ≠ 0 → m.period ≠ regFld s FR_FRAME_PERIOD 1 0 →
    gives (.cascadeMarkReceived d c) s fun u => ringFault u) ∧
  (d.length ≠ 16 ∨ crc32 d ≠ c → s.gz.casc.role ≠ 0 → gzLinkUp s = true → gives (.cascadeMarkReceived d c) s fun u => ringFault u) ∧
  (gzLinkUp s = true → gives .cascadeMarkMissing s fun u => ringFault u ∧ u.gz.casc.retrain = true ∧
    regNat u GZ_CASCADE_ERR = (regNat s GZ_CASCADE_ERR + 1) % 2 ^ 32 ∧
    ∀ n j i, s.en.jobs = [(n, j)] → j.eng = .gz → j.awaits = [i] → j.phase = .running → gzCount j ≤ j.pos → j.status = esOk →
      Memory.wf s.dr.mem = true → inRegion s (dDst j + 16 * i) 16 → stored s u (dDst j + 16 * i) (gzAnswer none true 0) ∧
        jobIs u n esOk fun x => x.flags = 1 ∧ x.awaits = []) ∧
  (gzLinkUp s = false → gives .cascadeMarkMissing s fun u => u = s)
/-- CASCADE_BATCH_SEARCH of one key: a member with a table of the cascade number holds its local winner, a device that is none has no hit
(R604, R605, R607). -/
def batches : Prop := ∀ k m s, gzLinkUp s = true → s.gz.casc.searched = false → s.gz.casc.open_ = some m → 1 ≤ m.batch →
  (∀ t e x, bitOf m.members (cascPos s) = true → cascTable s k.casc = some t → gzWinner s t k.key = some (e, x) → x.parityBad = false →
    gzFits x.sval x.smask k.key = true → gives (.cascadeBatchSearch [k]) s fun u =>
      u.gz.casc.batches = s.gz.casc.batches ++ [[(k, some (e, x.prio, x.result))]] ∧ u.gz.casc.searched = true) ∧
  (bitOf m.members (cascPos s) = false → gives (.cascadeBatchSearch [k]) s fun u =>
    u.gz.casc.batches = s.gz.casc.batches ++ [[(k, none)]] ∧ u.gz.casc.searched = true)
/-- MATCH_CHAIN_DRIVE of a batch of one search of another device: GZ_MO is the OR of the own hit and GZ_MI; the first hit answers, and the
last position answers a miss (R602, R605). -/
def chains : Prop := ∀ k s mi rest, k.origin ≠ cascPos s → cascPos s ≠ 0 →
  (∀ e p r, s.gz.casc.batches = [(k, some (e, p, r))] :: rest → gives (.matchChainDrive [mi]) s fun u => u.gz.casc.batches = rest ∧
    u.out = s.out ++ [.pin 2 true] ++ (if mi then [] else [.casc ⟨k.origin, k.job, k.idx, cascPos s, some e, p, r⟩])) ∧
  (s.gz.casc.batches = [(k, none)] :: rest → gives (.matchChainDrive [mi]) s fun u => u.gz.casc.batches = rest ∧
    u.out = s.out ++ [.pin 2 mi] ++ (if mi = false ∧ cascPos s = cascLast s then [.casc ⟨k.origin, k.job, k.idx, 0, none, 0, 0⟩] else []))
/-- CASCADE_ANSWER_RECEIVED: sent on where this device is not its origin, else written for the search it answers (R605, R606). -/
def answersArrive : Prop := ∀ a s,
  (a.origin ≠ cascPos s → gives (.cascadeAnswerReceived a) s fun u => u = { s with out := s.out ++ [.casc a] }) ∧
  (∀ j, a.origin = cascPos s → jobGet s a.job = some j → j.awaits = [a.idx] → Memory.wf s.dr.mem = true →
    inRegion s (dDst j + 16 * a.idx) 16 → gives (.cascadeAnswerReceived a) s fun u =>
      stored s u (dDst j + 16 * a.idx) (gzAnswer (a.entry.map fun e => (e, a.prio, a.result)) false a.position) ∧
        ∃ x, jobGet u a.job = some x ∧ x.awaits = [] ∧ x.aux0 = j.aux0 + b2n a.entry.isSome)
/-- CASCADE_MEMBERSHIP_EFFECT: at its boundary the announced membership and epoch hold, event 453; before it nothing changes (R607). -/
def membership : Prop := ∀ s mask ep h, s.gz.casc.change = some (mask, ep, h) → s.gz.casc.role = 2 → mask < 256 → ep < 256 →
  ((frameNo s + 2 ^ 32 - h) % 2 ^ 32 < 2 ^ 31 → s.gz.casc.changePacket = none → gives .cascadeMembershipEffect s fun u =>
    regFld u GZ_CASCADE 15 8 = mask ∧ regFld u GZ_CASCADE 7 0 = ep ∧ regBit u GZ_CASCADE 29 = bitOf mask (cascPos s) ∧
      evPending u 453 = true ∧ u.gz.casc.change = none) ∧
  (2 ^ 31 ≤ (frameNo s + 2 ^ 32 - h) % 2 ^ 32 → gives .cascadeMembershipEffect s fun u => u = s)
/-- GZ_THROTTLE_READ clears LIMITED (R611). -/
def throttleRead : Prop := ∀ s, gives .gzThrottleRead s fun u => u.out = s.out ++ [.regRead GZ_THROTTLE (regRaw s GZ_THROTTLE)] ∧
  regFld u GZ_THROTTLE 15 0 = 0 ∧ regFld u GZ_THROTTLE 31 16 = regFld s GZ_THROTTLE 31 16 ∧ regsSameBut s u [GZ_THROTTLE]

/-- GZ_TABLE_CREATE: an empty table in the free span found, under the lowest free number (R568). -/
def tablesCreated : Prop := ∀ s p t b base h, acts s 0x501 p → ownerThere s p = true → pAt p 8 4 % 64 = 0 → 64 ≤ pAt p 8 4 →
  pAt p 8 4 ≤ 65536 → h = (if pAt p 12 1 = 0 then 6 else pAt p 12 1) → 3 ≤ h → h ≤ 10 → pAt p 13 1 ≤ 15 →
  (pAt p 13 1 = 0 ∨ p.parcel = 0xFFFF) →
  (p.parcel = 0xFFFF ∨ tabCount s.gz.tabs (fun t => t.owner == some p.parcel) < (gzQuota s p.parcel).2.2) →
  tabFree s.gz.tabs 0 1024 = some t → gzSpan s (pAt p 8 4) = some (b, base) → gives (.gzTableCreate p) s fun u =>
    gzTab u t = some { owner := packetOwner p, bank := b, base := base, cap := pAt p 8 4, hole := 2 ^ h, casc := pAt p 13 1 } ∧
      (∀ k, k ≠ t → gzTab u k = gzTab s k) ∧
      answered s u 0x501 p .ok (leBytes 2 t ++ leBytes 1 b ++ zeros 1 ++ leBytes 4 (b * 65536 + base))
/-- GZ_TABLE_DELETE waits for the last record of its table's jobs; of a table not its owner's it is BAD_PARAMETER (R570). GZ_LIMITS sets its
parcel's quotas (R592). GZ_CASCADE_SET at the head announces a change at least 16 frames ahead (R607). -/
def gzPackets : Prop := ∀ s p,
  (acts s 0x502 p → ∀ x, gzTab s (pAt p 8 2) = some x →
    (x.owner = packetOwner p → x.deleting = none → gives (.gzTableDelete p) s fun u => flies s u 0x502 p true ∧
      gzTab u (pAt p 8 2) = some { x with deleting := some s.mg.next }) ∧
    (x.owner ≠ packetOwner p → gives (.gzTableDelete p) s fun u => u.gz = s.gz ∧ answered s u 0x502 p .badParameter [])) ∧
  (acts s 0x503 p → ownerThere s p = true → pAt p 10 2 ≤ 1024 → gives (.gzLimits p) s fun u => answered s u 0x503 p .ok [] ∧
    gzQuota u p.parcel = (pAt p 8 1, pAt p 9 1, pAt p 10 2) ∧ ∀ k, k ≠ p.parcel → gzQuota u k = gzQuota s k) ∧
  (acts s 0x504 p → cascHead s = true → frameNo s + 16 ≤ pAt p 16 8 → pAt p 8 1 &&& regFld s GZ_CASCADE 23 16 = pAt p 8 1 →
    s.gz.casc.change = none → gives (.gzCascadeSet p) s fun u => flies s u 0x504 p true ∧ u.gz.casc.changePacket = some s.mg.next ∧
      u.gz.casc.change = some (pAt p 8 1, (regFld s GZ_CASCADE 7 0 + 1) % 256, pAt p 16 8 % 2 ^ 32)) ∧
  (acts s 0x504 p → cascHead s = false → gives (.gzCascadeSet p) s fun u => u.gz = s.gz ∧ answered s u 0x504 p .wrongState [])

/-! ## Chapter 12: DRAM -/

/-- CA_PARITY_ALERT of an RDIMM channel: the commands are reissued, counted, with event 468; there is none without RDIMMs (R621). -/
def caAlerts : Prop := ∀ ch s,
  (ch < 4 → regBit s DM_CONFIG 27 = true → gives (.caParityAlert ch) s fun t => regBit t DM_STATUS 30 = true ∧
    regNat t DM_CA_RETRY_COUNT = (regNat s DM_CA_RETRY_COUNT + 1) % 2 ^ 32 ∧ evPending t 468 = true ∧ memSame s t) ∧
  (4 ≤ ch ∨ regBit s DM_CONFIG 27 = false → gives (.caParityAlert ch) s fun t => t = s)
/-- The sum of the ports' MIN_PCT. -/
def minSum (s : State) : Nat := ((List.range 12).map fun k => regFld s (DM_PORT_QOS k) 23 16).sum
/-- PORT_QOS_WRITE: a write that would take the sum of MIN_PCT above 80 is ignored and sets REFUSED; another is written (R629, R657). -/
def portsShared : Prop := ∀ p v s, p < 12 → v < 2 ^ 32 →
  (80 < minSum s - regFld s (DM_PORT_QOS p) 23 16 + bitsOf v 23 16 → regFld s (DM_PORT_QOS p) 23 16 < bitsOf v 23 16 →
    gives (.portQosWrite p v) s fun t => regBit t DM_STATUS 31 = true ∧ regsSameBut s t [DM_STATUS]) ∧
  (minSum s - regFld s (DM_PORT_QOS p) 23 16 + bitsOf v 23 16 ≤ 80 → bitsOf v 23 16 ≤ 100 → gives (.portQosWrite p v) s fun t =>
    regFld t (DM_PORT_QOS p) 23 16 = bitsOf v 23 16 ∧ regsSameBut s t [DM_PORT_QOS p])

def bankGet (s : State) (k : Nat) : Bank := tabGetD s.dr.banks k {}
/-- ROW_IDLE_CLOSE closes the bank's open row (R630); RFM_ISSUE takes the threshold from its rolling count
where the devices require refresh management and the count has reached it (R632; the amount log 79). -/
def banksStep : Prop := ∀ k s,
  (gives (.rowIdleClose k) s fun t => (bankGet t k).row = none ∧ (bankGet t k).acts = (bankGet s k).acts ∧
    (∀ j, j ≠ k → bankGet t j = bankGet s j) ∧ memSame s t ∧ t.regs = s.regs) ∧
  (regBit s DM_DISTURB 31 = true → (tabGet s.dr.banks k).isSome = true → s.dr.rfmAt ≤ (bankGet s k).acts → gives (.rfmIssue k) s fun t =>
    bankGet t k = { bankGet s k with acts := (bankGet s k).acts - s.dr.rfmAt } ∧ (∀ j, j ≠ k → bankGet t j = bankGet s j) ∧ memSame s t) ∧
  (regBit s DM_DISTURB 31 = false ∨ (bankGet s k).acts < s.dr.rfmAt → gives (.rfmIssue k) s fun t => t = s)
/-- The rows of a rank are closed. -/
def rankClosed (t : State) (ch sub rank : Nat) : Prop := ∀ b, b < 32 → (bankGet t (((2 * ch + sub) * 2 + rank) * 32 + b)).row = none
/-- May a refresh be postponed (R635, R636)? -/
def postpones (s : State) (ch sub rank : Nat) : Bool :=
  urgentSub s ch sub 2 && regBit s (DM_REFRESH ch) 28 && !regBit s (DM_REFRESH ch) 29 && decide (owedGet s ch sub rank < 4)
/-- REFRESH_DUE closes the rank's rows; while POSTPONE_EN is set, no pay-down runs, an urgent request is queued for the subchannel and OWED
is below 4 the controller may postpone it, OWED one more; else it is issued. OWED_REFRESH_ISSUE where no urgent request is queued for the rank, in a pay-down
none of urgency 3: OWED one less; a pay-down is over at 0 (R633, R635, R636). -/
def refreshes : Prop := ∀ ch sub rank m s, ch < 4 → sub < 2 → rank < (if regBit s DM_CONFIG 26 then 2 else 1) →
  (m = true ∧ postpones s ch sub rank = true → gives (.refreshDue ch sub rank m) s fun t => owedGet t ch sub rank = owedGet s ch sub rank + 1 ∧
    rankClosed t ch sub rank ∧ memSame s t ∧ regsSameBut s t [DM_REFRESH ch]) ∧
  (m = false ∨ postpones s ch sub rank = false → gives (.refreshDue ch sub rank m) s fun t => t.regs = s.regs ∧ memSame s t ∧ rankClosed t ch sub rank) ∧
  (∀ u, u = urgentRank s ch sub rank (if regBit s (DM_REFRESH ch) 29 then 3 else 2) →
    (owedGet s ch sub rank ≠ 0 → u = false → gives (.owedRefreshIssue ch sub rank) s fun t =>
      owedGet t ch sub rank = owedGet s ch sub rank - 1 ∧ rankClosed t ch sub rank ∧
      (regFld t (DM_REFRESH ch) 15 0 = 0 → regBit t (DM_REFRESH ch) 29 = false) ∧ memSame s t) ∧
    (owedGet s ch sub rank = 0 ∨ u = true → gives (.owedRefreshIssue ch sub rank) s fun t => t = s))
/-- Of the requests queued for a subchannel the chosen one has the highest urgency; among those a port below its share goes before others;
then, but for urgency 3, a row hit before others (R628). -/
def requestsChosen : Prop := ∀ s sub r, chooseReq s sub = some r → r ∈ subReqs s sub ∧ ∀ q ∈ subReqs s sub,
  urgency s q ≤ urgency s r ∧ (urgency s q = urgency s r → (belowShare s q.port = true → belowShare s r.port = true) ∧
    (urgency s r ≠ 3 → belowShare s q.port = belowShare s r.port → rowHit s q.line = true → rowHit s r.line = true))
/-- Whatever a failed device corrupts is corrected in a class S line, and in a class W line once the device is marked; without a marked
device a class W line corrects any 4 symbols (R624, R638, R648). -/
def codesCorrect : Prop := ∀ s l e,
  (∀ d, (∀ x ∈ e.errs, x.1 ∈ deviceSymbols d) → (erasureOf s l = none ∨ erasureOf s l = some d → coded s l 1 e ≠ .uncorrectable) ∧
    (erasureOf s l = some d → coded s l 0 e ≠ .uncorrectable)) ∧
  (erasureOf s l = none → (errSymbols e).length ≤ 4 → coded s l 0 e ≠ .uncorrectable)
/-- MR4_READ at its boundary: a hot reading takes the channel to the doubled rate, events 464 and 466; two normal ones in a row take it
back, event 465; a reading over the operating range sets EXCESS, event 467; at another boundary nothing is read (R634, R636). -/
def temperatures : Prop := ∀ ch codes s, ch < 4 →
  (frameNo s % 256 = 64 * ch →
    ((∃ c ∈ codes, c = 1) → (∀ c ∈ codes, c ≤ 1) → regBit s (DM_REFRESH ch) 31 = false → gives (.mr4Read ch codes) s fun t =>
      regBit t (DM_REFRESH ch) 31 = true ∧ evPending t 464 = true ∧ evPending t 466 = true) ∧
    ((∀ c ∈ codes, c = 0) → regBit s (DM_REFRESH ch) 31 = true → 1 ≤ tabGetD s.dr.mr4 ch 0 → gives (.mr4Read ch codes) s fun t =>
      regBit t (DM_REFRESH ch) 31 = false ∧ evPending t 465 = true) ∧
    ((∀ c ∈ codes, c = 0) → regBit s (DM_REFRESH ch) 31 = true → tabGetD s.dr.mr4 ch 0 = 0 → gives (.mr4Read ch codes) s fun t =>
      t.regs = s.regs ∧ tabGetD t.dr.mr4 ch 0 = 1) ∧
    ((∀ c ∈ codes, c = 0) → regBit s (DM_REFRESH ch) 31 = false → gives (.mr4Read ch codes) s fun t => t = s) ∧
    ((∃ c ∈ codes, 2 ≤ c) → gives (.mr4Read ch codes) s fun t => regBit t (DM_REFRESH ch) 30 = true ∧ evPending t 467 = true)) ∧
  (frameNo s % 256 ≠ 64 * ch → gives (.mr4Read ch codes) s fun t => t = s)
/-- ROW_REPAIR_SWITCH of a row whose repair waits: it is switched and recorded in the firmware flash, event 482 (R647). -/
def rowsSwitch : Prop := ∀ ch row s,
  (∀ r, s.dr.rows.find? (fun r => r.ch == ch && r.row == row) = some r → gives (.rowRepairSwitch ch row) s fun t =>
    t.dr.rows = s.dr.rows.erase r ∧ t.dr.repaired = s.dr.repaired ++ [r] ∧ t.pw.repairs = t.dr.repaired ∧ evPending t 482 = true ∧ memSame s t) ∧
  ((∀ r ∈ s.dr.rows, ¬ (r.ch = ch ∧ r.row = row)) → gives (.rowRepairSwitch ch row) s fun t => t = s)

/-- The surveyor may read and stands at line `l`, with no request queued for its subchannel (R650, R654). -/
def surveyAt (s : State) (l : Nat) : Prop :=
  regBit s EC_SURVEY 31 = true ∧ s.ev.powerFail = false ∧ surveyNext s s.dr.surveyAt = some l ∧ subReqs s (lineSub l) = []
/-- SURVEYOR_READ of a DRAM line: a corrected error is counted and recorded with the surveyor as its source, and one that recurs raises
event 480; an uncorrectable one makes the line poisoned, events 481 and 492 (R646, R650, R651, R659, R660). -/
def surveys : Prop := ∀ l s e, surveyAt s l → poisoned s l = false → ∀ c, c = coded s l ((spanClass s (64 * l) 1).getD 1) e →
  (c = .clean → gives (.surveyorRead (.dram e .memory)) s fun t => t.dr.surveyAt = l + 1 ∧ memSame s t ∧
    t.dr.poison = s.dr.poison ∧ regNat t EC_CE_COUNT = regNat s EC_CE_COUNT ∧ regNat t EC_UE_COUNT = regNat s EC_UE_COUNT) ∧
  (∀ sy dv, c = .corrected sy dv → gives (.surveyorRead (.dram e .memory)) s fun t =>
    t.dr.surveyAt = l + 1 ∧ regNat t EC_CE_COUNT = (regNat s EC_CE_COUNT + 1) % 2 ^ 32 ∧ t.dr.lastErr = 64 * l % 2 ^ 44 ∧
      regFld t EC_LAST_ERR_INFO 7 0 = 12 ∧ regBit t EC_LAST_ERR_INFO 31 = false ∧ regFld t EC_LAST_ERR_INFO 23 20 = dv.getD 15 % 16 ∧
      (e.recurs = true → evPending t 480 = true)) ∧
  (c = .uncorrectable → gives (.surveyorRead (.dram e .memory)) s fun t => poisoned t l = true ∧
    regNat t EC_UE_COUNT = (regNat s EC_UE_COUNT + 1) % 2 ^ 32 ∧ regBit t EC_LAST_ERR_INFO 31 = true ∧ evPending t 481 = true ∧
    evPending t 492 = true)
/-- SURVEYOR_READ of an SRAM word: a correction that recurs takes a spare word, event 485, and with none left event 487; an uncorrectable
word of the accounting memory stops the device (R645, R649, R656). -/
def surveysSram : Prop := ∀ g n s, regBit s EC_SURVEY 31 = true → s.ev.powerFail = false → g < 14 → 0 < n →
  (n ≤ sramCorrects s g → regFld s (EC_SRAM_REMAP g) 4 0 < 16 → gives (.surveyorRead (.sram g n true .memory)) s fun t =>
    regFld t (EC_SRAM_REMAP g) 4 0 = regFld s (EC_SRAM_REMAP g) 4 0 + 1 ∧ evPending t 485 = true) ∧
  (n ≤ sramCorrects s g → 16 ≤ regFld s (EC_SRAM_REMAP g) 4 0 → gives (.surveyorRead (.sram g n true .memory)) s fun t =>
    evPending t 487 = true ∧ regsSameBut s t [EV_PENDING 15]) ∧
  (n ≤ sramCorrects s g → gives (.surveyorRead (.sram g n false .memory)) s fun t => t = s) ∧
  (sramCorrects s 0 < n → gives (.surveyorRead (.sram 0 n false .memory)) s fun t => t.fr.fatal = true)
/-- SURVEYOR_LAP_END: the lap's frames and event 490; a lap longer than the limit sets SLOW, event 491 (R653). -/
def lapsEnd : Prop := ∀ s, regBit s EC_SURVEY 31 = true → s.ev.powerFail = false →
  (surveyNext s s.dr.surveyAt = none → gives .surveyorLapEnd s fun t => t.dr.surveyAt = 0 ∧ t.dr.lapStart = frameNo s ∧
    regNat t EC_SURVEY_LAP = min (frameNo s - s.dr.lapStart) (2 ^ 32 - 1) ∧ evPending t 490 = true ∧
    (max 1 (regFld s EC_SURVEY 15 0) * 2 ^ 20 < frameNo s - s.dr.lapStart → regBit t EC_SURVEY 30 = true ∧ evPending t 491 = true)) ∧
  (surveyNext s s.dr.surveyAt ≠ none → gives .surveyorLapEnd s fun t => t = s)
/-- LAST_ERR_LO_READ returns the low half and shadows the upper (R25, R659). -/
def lastErrReads : Prop := ∀ s, gives .lastErrLoRead s fun t => t.out = s.out ++ [.regRead EC_LAST_ERR_LO (BitVec.ofNat 32 s.dr.lastErr)] ∧
  regNat t EC_LAST_ERR_HI = s.dr.lastErr / 2 ^ 32 % 2 ^ 32 ∧ regsSameBut s t [EC_LAST_ERR_HI]

/-! ## Chapter 13: DMA channels -/

/-- A channel of the manager's, neither BUSY nor waiting (R662, R674). -/
def mgrChan (c : Nat) : Prop := 32 ≤ c ∧ c < 64
/-- Its completion queue is in host memory, which it reaches, and valid (R681). -/
def hostQueue (s : State) (c : Nat) : Prop := cqHost s c = true ∧ (fnGet s 0).bme = true

/-- DMA_GO: refused while the channel runs, without a valid queue, or with nothing to do; else the channel is BUSY with its register
descriptor or its chain next, or waits for its full queue, event 499; after PWR_FAIL_N the write only sets its RW fields (R14, R668, R672, R674, R678). -/
def dmaGoes : Prop := ∀ c v s, mgrChan c →
  (s.ev.powerFail = true → dmaRunning s c = false → v < 2 ^ 32 → gives (.dmaGo c v) s fun t => regsSameBut s t [DX_CTRL c] ∧
    regFld t (DX_CTRL c) 29 27 = bitsOf v 29 27 ∧ t.ev = s.ev) ∧
  (dmaRunning s c = true → gives (.dmaGo c v) s fun t => regBit t (DX_STATUS c) 4 = true ∧
    regsSameBut s t [DX_STATUS c] ∧ t.ev = s.ev) ∧
  (s.ev.powerFail = false → dmaRunning s c = false → cqOk s c = false → gives (.dmaGo c v) s fun t => regBit t (DX_STATUS c) 4 = true ∧
    dmaState t c = dmaState s c ∧ t.ev = s.ev) ∧
  (s.ev.powerFail = false → dmaRunning s c = false → cqOk s c = true → regFld s (DX_COUNT c) 24 0 ≠ 0 → dmaFull s c = false →
    gives (.dmaGo c v) s fun t => dmaState t c = dmaBusy ∧ (dmaGet t c).next = some .register) ∧
  (s.ev.powerFail = false → dmaRunning s c = false → cqOk s c = true → regFld s (DX_COUNT c) 24 0 = 0 → bitOf v 29 = true → v < 2 ^ 32 →
    dmaFull s c = false → gives (.dmaGo c v) s fun t => dmaState t c = dmaBusy ∧
      (dmaGet t c).next = some (.memory (dxPair s (DX_NEXT_LO c) (DX_NEXT_HI c)))) ∧
  (s.ev.powerFail = false → dmaRunning s c = false → cqOk s c = true → regFld s (DX_COUNT c) 24 0 ≠ 0 → dmaFull s c = true →
    gives (.dmaGo c v) s fun t => dmaState t c = dmaWait ∧ regBit t (DX_STATUS c) 3 = true ∧ evPending t 499 = true)
/-- DMA_STOP: a waiting start is cancelled, event 498; a descriptor in progress runs to its end (R670, R674). -/
def dmaStops : Prop := ∀ c s, mgrChan c →
  (dmaRunning s c = true → (dmaGet s c).cur = none → gives (.dmaStop c) s fun t => dmaState t c = dmaIdle ∧ (dmaGet t c).next = none ∧
    regBit t (DX_STATUS c) 2 = true ∧ evPending t 498 = true) ∧
  (dmaRunning s c = true → (dmaGet s c).cur ≠ none → gives (.dmaStop c) s fun t => regBit t (DX_STATUS c) 29 = true ∧
    dmaState t c = dmaState s c ∧ t.ev = s.ev) ∧
  (dmaRunning s c = false → gives (.dmaStop c) s fun t => t = s)
/-- DX_CQ_HEAD_WRITE and DX_CQ_CONFIG_WRITE (R674, R677, R681). -/
def dmaQueues : Prop := ∀ c s, mgrChan c →
  (∀ v, cqRing s c ≤ v % 65536 → gives (.dxCqHeadWrite c v) s fun t => regBit t (DX_STATUS c) 4 = true ∧ regsSameBut s t [DX_STATUS c]) ∧
  (∀ v, v < cqRing s c → v < 65536 → gives (.dxCqHeadWrite c v) s fun t => regFld t (DX_CQ_HEAD c) 15 0 = v ∧
    (dmaState s c = dmaWait → dmaFull t c = false → dmaState t c = dmaBusy)) ∧
  (∀ off v, off ∈ [0x28, 0x2C, 0x30] → dmaRunning s c = true → gives (.dxCqConfigWrite c off v) s fun t =>
    regBit t (DX_STATUS c) 4 = true ∧ regsSameBut s t [DX_STATUS c]) ∧
  (∀ off v, off ∈ [0x28, 0x2C, 0x30] → dmaRunning s c = false → gives (.dxCqConfigWrite c off v) s fun t =>
    regNat t (DX_CQ_TAIL c) = 0x10000 ∧ regsSameBut s t [DX_CTRL c + off, DX_CQ_TAIL c])

/-- The channel may start a descriptor in this frame (R668). -/
def dmaMayStart (s : State) (c : Nat) : Prop :=
  dmaState s c = dmaBusy ∧ (dmaGet s c).cur = none ∧ (dmaGet s c).ended = none ∧ (dmaGet s c).since < frameNo s
/-- The descriptor in progress is `d`, whose parcel's edition is recorded with it (R667). -/
def dmaHas (t : State) (c : Nat) (d : Desc) : Prop :=
  ∃ x, (dmaGet t c).cur = some x ∧ x = { d with edition := x.edition } ∧ regFld t (DX_DONE c) 24 0 = 0 ∧ (dmaGet t c).next = none ∧
    (dmaGet t c).room = 0
/-- A record of a status and reason has gone to the channel's queue in host memory (R675, R676). -/
def recorded (s t : State) (c st why : Nat) : Prop :=
  ∃ r, .host 0 (cqBase s c + 32 * cqTail s c) r ∈ t.out ∧ r.take 2 = [BitVec.ofNat 8 st, BitVec.ofNat 8 why]
/-- The channel is HALTED for a reason, event 497 (R671). -/
def isHalted (t : State) (c why : Nat) : Prop :=
  dmaState t c = dmaHalted ∧ regFld t (DX_STATUS c) 23 16 = why ∧ regBit t (DX_STATUS c) 1 = true ∧ evPending t 497 = true

/-- DMA_DESCRIPTOR_START: the register descriptor, or the one in memory, is in progress where its checks pass; one that fails a check is
recorded as halted for that check's reason (R664-R668, R671). -/
def dmaStarts : Prop := ∀ c s, mgrChan c → dmaMayStart s c →
  ((dmaGet s c).next = some .register → dmaWhy s (dmaRegDesc s c) true = 0 → gives (.dmaDescriptorStart c) s fun t =>
    dmaHas t c (dmaRegDesc s c) ∧ dmaState t c = dmaBusy ∧ memSame s t) ∧
  ((dmaGet s c).next = some .register → ∀ w, dmaWhy s (dmaRegDesc s c) true = w → w ≠ 0 → hostQueue s c →
    gives (.dmaDescriptorStart c) s fun t => recorded s t c 2 w ∧ isHalted t c w ∧ (dmaGet t c).cur = none ∧ memSame s t) ∧
  (∀ a o, (dmaGet s c).next = some (.memory a) → a % 64 = 0 → octetRegion s a 64 = true → readsAs s a 64 o →
    bitsOf (leAt o 26 1) 7 2 = 0 → leAt o 27 5 = 0 → leAt o 48 16 = 0 → dmaWhy s (dmaMemDesc a o) true = 0 →
    gives (.dmaDescriptorStart c) s fun t => dmaHas t c (dmaMemDesc a o) ∧ memSame s t) ∧
  (∀ a, (dmaGet s c).next = some (.memory a) → octetRegion s a 64 = false → hostQueue s c → gives (.dmaDescriptorStart c) s fun t =>
    recorded s t c 2 2 ∧ isHalted t c 2 ∧ memSame s t) ∧
  ((dmaGet s c).next = none → gives (.dmaDescriptorStart c) s fun t => t = s)
/-- DMA_DESCRIPTOR_END of octets between device spans: they stand at the destination, the record follows, and the channel goes on to its
chain or is IDLE (R669, R674-R676). -/
def dmaEnds : Prop := ∀ c s d o, mgrChan c → (dmaGet s c).cur = some d → (dmaGet s c).ended = none → regFld s (DX_DONE c) 24 0 = 0 →
  attrSrcHost d.attr = false → attrDstHost d.attr = false → attrWords d.attr = false → attrSnoop d.attr = false → 1 ≤ d.count →
  d.count ≤ 16777216 → d.count ≤ (dmaGet s c).room → readsAs s d.src d.count o → inRegion s d.dst d.count → Memory.wf s.dr.mem = true →
  hostQueue s c → regBit s (DX_STATUS c) 29 = false → gives (.dmaDescriptorEnd c []) s fun t => stored s t d.dst o ∧ recorded s t c 0 0 ∧
    (dmaGet t c).cur = none ∧ regFld t (DX_DONE c) 24 0 = d.count ∧
    (d.nextValid = false → dmaState t c = dmaIdle ∧ evPending t 498 = true) ∧
    (d.nextValid = true → (dmaGet t c).next = some (.memory d.next)) ∧ (d.event = true → evPending t 496 = true)
/-- From a host source the octets that the host answered stand at the destination (R669, R676). -/
def dmaEndsHost : Prop := ∀ c s d h, mgrChan c → (dmaGet s c).cur = some d → (dmaGet s c).ended = none → regFld s (DX_DONE c) 24 0 = 0 →
  attrSrcHost d.attr = true → attrDstHost d.attr = false → attrWords d.attr = false → attrSnoop d.attr = false → 1 ≤ d.count →
  d.count ≤ 16777216 → d.count ≤ (dmaGet s c).room → d.count ≤ h.length → inRegion s d.dst d.count → Memory.wf s.dr.mem = true →
  hostQueue s c → gives (.dmaDescriptorEnd c h) s fun t => stored s t d.dst (h.take d.count) ∧ recorded s t c 0 0 ∧ (dmaGet t c).cur = none
/-- It is not due before the frames its units take have passed, while host requests hold, or before all of a host source has come
(R68, R669, R673). -/
def dmaNotYet : Prop := ∀ c s d h, (dmaGet s c).cur = some d → (dmaGet s c).ended = none →
  ((dmaGet s c).room < d.count ∨ (attrSrcHost d.attr || attrDstHost d.attr) = true ∧ (fnGet s 0).bme = false ∨
    attrSrcHost d.attr = true ∧ h.length < d.count) →
  gives (.dmaDescriptorEnd c h) s fun t => t = s
/-- DMA_DESCRIPTOR_HALT before a unit is written: recorded with its reason, HALTED, no octet written (R671). -/
def dmaHalts : Prop := ∀ c s d why, mgrChan c → (dmaGet s c).cur = some d → (dmaGet s c).ended = none → hostQueue s c →
  gives (.dmaDescriptorHalt c why 0) s fun t => recorded s t c 2 (haltCode why) ∧ isHalted t c (haltCode why) ∧ (dmaGet t c).cur = none ∧
    memSame s t

/-! ## Chapter 13: events -/

/-- An event raised sets both its latches, once, and where it is deliverable its message waits to be sent; a reserved event is never
raised (R686, R687, R689). -/
def raises : Prop := ∀ s n, n < 512 →
  (eventInUse n = true → raised s (raise s n) n ∧ (evPending s n = false → regBit s (EV_MASK (n / 32)) (n % 32) = false →
    regBit s (EV_ROUTE n) 31 = true → n ∈ (raise s n).ev.send)) ∧
  (eventInUse n = false → raise s n = s)
/-- EVENT_MSIX_DELIVERY: the routed vector's message goes out, or its pending bit is set where the vector is not open (R687, R793). -/
def eventsDeliver : Prop := ∀ n s,
  (n ∈ s.ev.send → msixOpen s (evRouted s n).1 (evRouted s n).2 = true → gives (.eventMsixDelivery n) s fun t =>
    t.out = s.out ++ [.msix (evRouted s n).1 (evRouted s n).2] ∧ n ∉ t.ev.send) ∧
  (n ∈ s.ev.send → msixOpen s (evRouted s n).1 (evRouted s n).2 = false → gives (.eventMsixDelivery n) s fun t =>
    t.out = s.out ∧ n ∉ t.ev.send ∧ (evRouted s n).2 ∈ (fnGet t (evRouted s n).1).pba) ∧
  (n ∉ s.ev.send → gives (.eventMsixDelivery n) s fun t => t = s)
/-- EV_PENDING_CLEAR clears the manager bits written 1, and the firmware latch not (R686, R688). -/
def eventsClear : Prop := ∀ k v s,
  (k < 16 → v < 2 ^ 32 → gives (.evPendingClear k v) s fun t => (∀ i, i < 32 → evPending t (32 * k + i) = (evPending s (32 * k + i) && !bitOf v i)) ∧
    regsSameBut s t [EV_PENDING k] ∧ t.ev.fwLatch = s.ev.fwLatch) ∧
  (16 ≤ k → gives (.evPendingClear k v) s fun t => t = s)
/-- EV_TEST_RAISE sets the manager latch of an event in use and not the firmware's (R691). -/
def eventsTested : Prop := ∀ v s,
  (bitOf v 31 = true → eventInUse (bitsOf v 8 0) = true → gives (.evTestRaise v) s fun t => evPending t (bitsOf v 8 0) = true ∧
    t.ev.fwLatch = s.ev.fwLatch ∧ regsSameBut s t [EV_PENDING (bitsOf v 8 0 / 32)]) ∧
  (bitOf v 31 = false ∨ eventInUse (bitsOf v 8 0) = false → gives (.evTestRaise v) s fun t => t = s)
/-- EV_ROUTE_WRITE: a route to a function or vector that cannot take events sets REFUSED alone; another is taken, and an event that it
makes deliverable waits to be sent (R687, R692). -/
def routesWritten : Prop := ∀ n v s, n < 512 → v < 2 ^ 32 →
  (routeInvalid s v = true → gives (.evRouteWrite n v) s fun t => regBit t (EV_ROUTE n) 29 = true ∧
    regBit t (EV_ROUTE n) 31 = regBit s (EV_ROUTE n) 31 ∧ regFld t (EV_ROUTE n) 10 0 = regFld s (EV_ROUTE n) 10 0 ∧ t.ev = s.ev ∧
    regsSameBut s t [EV_ROUTE n]) ∧
  (routeInvalid s v = false → gives (.evRouteWrite n v) s fun t => regFld t (EV_ROUTE n) 10 0 = bitsOf v 10 0 ∧
    regBit t (EV_ROUTE n) 31 = bitOf v 31 ∧ regBit t (EV_ROUTE n) 30 = bitOf v 30 ∧ regsSameBut s t [EV_ROUTE n] ∧
    (evPending s n = true → regBit s (EV_MASK (n / 32)) (n % 32) = false → bitOf v 31 = true → n ∈ t.ev.send))


/-! ## Chapter 14: what packets do at once -/

/-- A packet that acts at once and fails a check of R705 is answered with its code, and a buffer that cannot be read with HOST_ERROR
(R697, R705, R708). -/
def packetsFail : Prop := ∀ s p,
  (∀ x : (Packet → Instr) × Nat, x ∈ [(.parcelQuery, 0x10E), (.keyQuery, 0x204), (.channelRetire, 0x303), (.mediaQuery, 0x304), (.nsTransform, 0x305),
      (.computeLimits, 0x402), (.computeQuery, 0x406), (.fwCommit, 0x702), (.fwSvnAdvance, 0x703), (.bootcfgSet, 0x704),
      (.eventRead, 0x706), (.deviceQuery, 0x707)] → ∀ st, p.mctp = true → s.mg.flights = [] →
    (∀ c ∈ tabGetD s.mg.caches (carrier p) [], c.op = x.2 → samePacket c.p p = false) → s.ev.powerFail = false → s.pw.halted = false →
    packetCheck s x.2 p = some st → gives (x.1 p) s fun t => answered s t x.2 p st [] ∧ t.pc = s.pc ∧ t.ks = s.ks ∧ t.cs = s.cs ∧
      t.atl = s.atl ∧ t.fl = s.fl ∧ t.pw = s.pw) ∧
  (∀ x : (Packet → Instr) × Nat, x ∈ [(.operatorLoad, 0x403), (.operatorInvoke, 0x404), (.meterRead, 0x601), (.fwDownload, 0x701), (.diagDump, 0x705)] →
    arrives s x.2 p → (∀ e ∈ s.mg.flights, e.2.p.parcel = p.parcel → e.2.applied = true) → p.bufOk = false →
    (p.mctp = true ∨ (fnGet s 0).bme = true) → gives (x.1 p) s fun t => answered s t x.2 p .hostError [] ∧ t.pc = s.pc ∧ t.cs = s.cs ∧
      t.pw = s.pw)
/-- The query packets (R714, R720, R722, R724). -/
def queries : Prop := ∀ s p,
  (acts s 0x10E p → ∀ x, x = parGet s p.parcel → gives (.parcelQuery p) s fun t => t.pc = s.pc ∧ answered s t 0x10E p .ok
    (leBytes 1 (pstateCode x.st) ++ leBytes 1 (b2n x.drained + 2 * b2n x.queued.isSome + 4 * b2n x.vf.isSome + 8 * b2n (!x.pairs.isEmpty))
      ++ leBytes 2 x.edition ++ leBytes 1 (parcelNss s p.parcel).length ++ leBytes 1 (pairsUsed s p.parcel)
      ++ leBytes 1 (ownedSlots s p.parcel 4096) ++ leBytes 1 (parcelProgs s p.parcel).length ++ leBytes 1 (parcelRanges s p.parcel).length
      ++ leBytes 1 (parcelCtrls s p.parcel).length ++ leBytes 2 (parcelConns s p.parcel).length
      ++ leBytes 8 (imageLength (parcelImage (inHand s 0x10E p) p.parcel 0xFF [])))) ∧
  (acts s 0x304 p → gives (.mediaQuery p) s fun t => t.atl = s.atl ∧ answered s t 0x304 p .ok
    (leBytes 1 (b2n (regBit s AT_MEDIA_STATE 0) + 2 * b2n (regBit s AT_MEDIA_STATE 31) + 4 * b2n (regBit s AT_MEDIA_STATE 29)
        + 8 * b2n (regBit s AT_MEDIA_STATE 28) + 16 * b2n (armed s) + 32 * b2n (regBit s HQ_DURABILITY 30))
      ++ leBytes 1 (spareNow s).1 ++ leBytes 2 (liveDies s).length ++ leBytes 8 (if s.atl.fmt.isSome then capacity s else 0)
      ++ leBytes 4 (freeBlocks s) ++ leBytes 4 s.atl.tabs.length ++ leBytes 1 (percentUsed s) ++ leBytes 1 (regFld s AT_GEOMETRY 31 30)
      ++ leBytes 1 (regFld s AT_GEOMETRY 29 28))) ∧
  (acts s 0x406 p → gives (.computeQuery p) s fun t => t.cs = s.cs ∧ answered s t 0x406 p .ok
    (leBytes 4 (parcelTasks s p.parcel).length ++ leBytes 2 (parcelFlows s p.parcel).length
      ++ leBytes 2 (tabCount s.cs.invs fun i => i.parcel == p.parcel) ++ leBytes 1 (parcelRanges s p.parcel).length
      ++ leBytes 1 (b2n (s.cs.stalled.contains p.parcel)))) ∧
  (acts s 0x707 p → gives (.deviceQuery p) s fun t => t.pw = s.pw ∧ answered s t 0x707 p .ok
    (leBytes 1 (deviceState s) ++ leBytes 1 s.pw.running ++ leBytes 1 (inHand s 0x707 p).mg.flights.length
      ++ leBytes 1 (b2n (regBit s PW_STATUS 28)) ++ leBytes 8 (frameNo s) ++ fwVersion (fwSlot s s.pw.running)))

/-! Media packets -/

/-- MEDIA_FORMAT of a device without namespaces: while a channel trains it waits; then the media holds the format the packet asks for, and
the reply tells the live dies and the capacity; with fewer live dies than a stripe needs, or geometries that differ, it is
BAD_PARAMETER (R289, R315, R719). -/
def formatsMedia : Prop := ∀ s p w spare, acts s 0x301 p → stripeN (pAt p 8 1) = some w → spare = (if pAt p 9 1 = 0 then 4 else pAt p 9 1) →
  spare ≤ 25 → 1 ≤ pAt p 12 4 →
  (s.atl.nss = [] → (∃ ch, ch < 32 ∧ (chState s ch = chTraining ∨ chState s ch = chRetired)) → gives (.mediaFormat p) s fun t =>
    flies s t 0x301 p false ∧ t.atl = s.atl ∧ ∀ ch, ch < 32 → chState s ch = chRetired → chState t ch = chTraining ∧ ch ∉ t.fl.retired) ∧
  (s.atl.nss = [] → (∀ ch, ch < 32 → chState s ch ≠ chTraining ∧ chState s ch ≠ chRetired) →
    (∀ u, mediaFormat (inHand s 0x301 p) w spare (pAt p 12 4) = some u → gives (.mediaFormat p) s fun t =>
      t.fl = u.fl ∧ (∃ f, t.atl.fmt = some f ∧ f.n = w ∧ f.cycles = pAt p 12 4) ∧ t.atl.dir = [] ∧ t.atl.tabs = [] ∧ t.atl.journal = [] ∧
        regBit t AT_MEDIA_STATE 31 = false ∧
        answered s t 0x301 p .ok (leBytes 2 (liveDies t).length ++ zeros 2 ++ leBytes 8 (capacity t))) ∧
    (mediaFormat (inHand s 0x301 p) w spare (pAt p 12 4) = none → gives (.mediaFormat p) s fun t => t.atl = s.atl ∧ t.fl = s.fl ∧
      answered s t 0x301 p .badParameter [])) ∧
  (s.atl.nss ≠ [] → gives (.mediaFormat p) s fun t => t.atl = s.atl ∧ t.fl = s.fl ∧ answered s t 0x301 p .wrongState [])
/-- QUADRANGLE_PIN and QUADRANGLE_UNPIN: PINNED follows; a SHEET quadrangle converts to page form first, with a table free (R259, R261). -/
def pins : Prop := ∀ s p, acts s 0x302 p → pAt p 8 4 < 262144 →
  (pFlag p 0 = false → qForm (dirGet s (pAt p 8 4)) ∉ [formFree, formSheet, formToSheet] → gives (.quadranglePin p) s fun t =>
    dirGet t (pAt p 8 4) = quadWord (qForm (dirGet s (pAt p 8 4))) true (qNs (dirGet s (pAt p 8 4))) (qTable (dirGet s (pAt p 8 4))) ∧
      answered s t 0x302 p .ok []) ∧
  (pFlag p 0 = true → qForm (dirGet s (pAt p 8 4)) ≠ formFree → gives (.quadrangleUnpin p) s fun t =>
    dirGet t (pAt p 8 4) = quadWord (qForm (dirGet s (pAt p 8 4))) false (qNs (dirGet s (pAt p 8 4))) (qTable (dirGet s (pAt p 8 4))) ∧
      answered s t 0x302 p .ok []) ∧
  (pFlag p 0 = false → qForm (dirGet s (pAt p 8 4)) = formSheet → tablesFree s = 0 → gives (.quadranglePin p) s fun t => t.atl = s.atl ∧
    answered s t 0x302 p .noResource []) ∧
  (pFlag p 0 = false → qForm (dirGet s (pAt p 8 4)) = formSheet → 0 < tablesFree s → s.atl.convs = [] → gives (.quadranglePin p) s fun t =>
    flies s t 0x302 p true ∧ ∃ c, t.atl.convs = [c] ∧ c.quad = pAt p 8 4 ∧ c.toPage = true)
/-- CHANNEL_RETIRE of an ACTIVE channel: RETIRED by the manager; BUSY while a rebuild runs; held while the channel trains; WRONG_STATE
where it is absent or retired (R320). -/
def retiresChannels : Prop := ∀ s p, acts s 0x303 p → pAt p 8 1 < 32 →
  (chState s (pAt p 8 1) = chActive → regBit s AT_REBUILD 31 = false → gives (.channelRetire p) s fun t =>
    chState t (pAt p 8 1) = chRetired ∧ regFld t (FC_STATUS (pAt p 8 1)) 24 23 = 1 ∧ pAt p 8 1 ∈ t.fl.retired ∧
      answered s t 0x303 p .ok []) ∧
  (chState s (pAt p 8 1) = chActive → regBit s AT_REBUILD 31 = true → gives (.channelRetire p) s fun t => t.fl = s.fl ∧
    answered s t 0x303 p .busy []) ∧
  (chState s (pAt p 8 1) = chTraining ∨ chState s (pAt p 8 1) = chRetraining → gives (.channelRetire p) s fun t =>
    flies s t 0x303 p true ∧ chanGet t (pAt p 8 1) = { chanGet s (pAt p 8 1) with retireReq := some 1 }) ∧
  (chState s (pAt p 8 1) = chAbsent ∨ chState s (pAt p 8 1) = chRetired → gives (.channelRetire p) s fun t => t.fl = s.fl ∧
    answered s t 0x303 p .wrongState [])
/-- Nothing of namespace `v` has been written, and tables are free where its COMPRESS turns on (R413, R721). -/
def canTransform (s : State) (v : Ns) (p : Packet) : Prop :=
  (∀ q ∈ v.quads, qForm (dirGet s q) = formEmpty) ∧ (bitOf (pAt p 12 1) 0 = true → v.compress = true ∨ v.quads.length ≤ tablesFree s)
/-- Namespace `v` as an NS_TRANSFORM leaves it but for its encryption; its table and effort hold from its next tile on (R721). -/
def transformed (v : Ns) (p : Packet) : Ns := { v with compress := bitOf (pAt p 12 1) 0, nextTab := some (pAt p 13 1, pAt p 14 1) }
/-- NS_TRANSFORM: the table and the effort change at any time, COMPRESS while every quadrangle is EMPTY; a change of ENCRYPT waits for step 4
(R411, R413, R432, R721). -/
def transforms : Prop := ∀ s p v, acts s 0x305 p → nsGet s (pAt p 8 4) = some v → pAt p 13 1 ≤ 1 → 1 ≤ pAt p 14 1 → pAt p 14 1 ≤ 4 →
  (bitOf (pAt p 12 1) 1 = v.encrypt → (bitOf (pAt p 12 1) 0 = v.compress ∨ canTransform s v p) → gives (.nsTransform p) s fun t =>
    nsGet t (pAt p 8 4) = some (transformed v p) ∧ t.ks = s.ks ∧ answered s t 0x305 p .ok (leBytes 2 (v.media.getD 0xFFFF))) ∧
  (bitOf (pAt p 12 1) 1 = v.encrypt → bitOf (pAt p 12 1) 0 ≠ v.compress → (∃ q ∈ v.quads, qForm (dirGet s q) ≠ formEmpty) →
    gives (.nsTransform p) s fun t => t.atl = s.atl ∧ t.ks = s.ks ∧ answered s t 0x305 p .wrongState []) ∧
  (bitOf (pAt p 12 1) 1 ≠ v.encrypt → gives (.nsTransform p) s fun t => flies s t 0x305 p false ∧
    t.ks.reqs = s.ks.reqs ++ [.packet s.mg.next (v.media.getD 4096)] ∧ t.ks.slots = s.ks.slots ∧ t.atl = s.atl ∧ t.out = s.out)
/-- In step 4 a media key is made or erased with ENCRYPT, while every quadrangle is EMPTY; without entropy none is made (R411, R413, R432,
R451). -/
def encryptionTurns : Prop := ∀ k n f s v, (s.ks.reqs.find? fun r => reqSlot r == k) = some (.packet n k) → flightGet s n = some f → f.op = 0x305 →
  tabSorted s.mg.flights = true → canReply s f → s.en.xjobs = [] → nsGet s (pAt f.p 8 4) = some v → pAt f.p 13 1 ≤ 1 → 1 ≤ pAt f.p 14 1 →
  pAt f.p 14 1 ≤ 4 → canTransform s v f.p →
  (bitOf (pAt f.p 12 1) 1 = true → v.encrypt = false → drbgError s = false → (∃ j, j < 4096 ∧ (slotGet s j).valid = false) →
    gives (.keyInstallEffect k) s fun t => ∃ j, j < 4096 ∧ (slotGet s j).valid = false ∧ (slotGet t j).valid = true ∧
      bitOf (slotGet t j).uses 4 = true ∧ (∀ i, i ≠ j → slotGet t i = slotGet s i) ∧
      nsGet t (pAt f.p 8 4) = some { transformed v f.p with encrypt := true, media := some j } ∧ replied t n 0x305 f.p .ok (leBytes 2 j)) ∧
  (∀ j, bitOf (pAt f.p 12 1) 1 = false → v.encrypt = true → v.media = some j → gives (.keyErasureEffect k) s fun t =>
    (slotGet t j).valid = false ∧ nsGet t (pAt f.p 8 4) = some { transformed v f.p with encrypt := false, media := none } ∧
      replied t n 0x305 f.p .ok (leBytes 2 0xFFFF)) ∧
  (bitOf (pAt f.p 12 1) 1 = true → v.encrypt = false → drbgError s = true → gives (.keyInstallEffect k) s fun t => t.atl = s.atl ∧
    t.ks.slots = s.ks.slots ∧ replied t n 0x305 f.p .entropyFailed [])
/-- HOLDUP_CONTROL: a disarm asks for a budget of 0 from the next boundary; a test starts, or joins the one that runs; the last choice is
recorded (R746, R805). -/
def holdupControls : Prop := ∀ s p, acts s 0x306 p →
  (pAt p 8 1 = 0 → gives (.holdupDisarm p) s fun t => t.cq.armReq = some false ∧ t.cq.budgetReq = some 0 ∧ t.pw.choice = false ∧
    t.pw.test = s.pw.test ∧ answered s t 0x306 p .ok (leBytes 2 0 ++ zeros 2 ++ leBytes 4 (regFld s PW_HOLDUP_ENERGY 19 0))) ∧
  (∀ x : (Packet → Instr) × Nat × Bool, x ∈ [(.holdupTestAndArm, 1, true), (.holdupTestOnly, 2, false)] → pAt p 8 1 = x.2.1 →
    gives (x.1 p) s fun t => flies s t 0x306 p true ∧ t.cq = s.cq ∧ t.pw.choice = (s.pw.choice || x.2.2) ∧
      (s.pw.test = none → t.pw.test = some { asks := [(s.mg.next, x.2.2)], start := frameNo s }) ∧
      ∀ y, s.pw.test = some y → t.pw.test = some { y with asks := y.asks ++ [(s.mg.next, x.2.2)] }) ∧
  (3 ≤ pAt p 8 1 → gives (.holdupTestOnly p) s fun t => t.pw = s.pw ∧ answered s t 0x306 p .badParameter [])

/-! Compute packets -/

/-- COMPUTE_RANGE creates a zeroed range of the size and class asked for, within the parcel's limit, and replies its base; deletes one that
no set names and no invocation uses (R722, R723). -/
def ranges : Prop := ∀ s p r, acts s 0x401 p → r = pAt p 8 1 → r < 32 → parcelThere s p.parcel = true →
  (∀ a, pFlag p 0 = false → pAt p 16 8 % 4096 = 0 → 4096 ≤ pAt p 16 8 → pAt p 16 8 ≤ 2 ^ 31 → rangeGet s p.parcel r = none →
    (parcelRanges s p.parcel).length < (parGet s p.parcel).lim.ranges → placeSpan s (rangeClass (pFlag p 1)) (pAt p 16 8) = some a →
    gives (.computeRangeCreate p) s fun t => rangeGet t p.parcel r = some ⟨a, pAt p 16 8, pFlag p 1⟩ ∧
      (∀ i, i < pAt p 16 8 → memGet t (a + i) = 0) ∧ (∀ b, b < a ∨ a + pAt p 16 8 ≤ b → memGet t b = memGet s b) ∧
      answered s t 0x401 p .ok (leBytes 8 a)) ∧
  (pFlag p 0 = false → (pAt p 16 8 % 4096 ≠ 0 ∨ pAt p 16 8 < 4096 ∨ 2 ^ 31 < pAt p 16 8) → gives (.computeRangeCreate p) s fun t =>
    t.cs = s.cs ∧ memSame s t ∧ answered s t 0x401 p .badParameter []) ∧
  (∀ x, pFlag p 0 = true → rangeGet s p.parcel r = some x →
    (rangeUsed s p.parcel r = false → tabSorted s.cs.ranges = true → gives (.computeRangeDelete p) s fun t =>
      rangeGet t p.parcel r = none ∧ (∀ i, i < x.len → memGet t (x.phys + i) = 0) ∧ answered s t 0x401 p .ok []) ∧
    (rangeUsed s p.parcel r = true → gives (.computeRangeDelete p) s fun t => t.cs = s.cs ∧ memSame s t ∧
      answered s t 0x401 p .wrongState []))
/-- COMPUTE_LIMITS (R491, R722). -/
def limitsSet : Prop := ∀ s p, acts s 0x402 p → parcelThere s p.parcel = true →
  (1 ≤ pAt p 8 4 → pAt p 8 4 ≤ 65536 → 1 ≤ pAt p 12 2 → pAt p 12 2 ≤ 16384 → 1 ≤ pAt p 16 4 → pAt p 16 4 ≤ 16777216 → pAt p 20 1 ≤ 7 →
    gives (.computeLimits p) s fun t => parGet t p.parcel = { parGet s p.parcel with lim := { (parGet s p.parcel).lim with
      tasks := pAt p 8 4, flows := pAt p 12 2, budget := pAt p 16 4, prio := pAt p 20 1 } } ∧
      otherParcels s t p.parcel ∧ answered s t 0x402 p .ok []) ∧
  (pAt p 8 4 = 0 ∨ 65536 < pAt p 8 4 ∨ 7 < pAt p 20 1 → gives (.computeLimits p) s fun t => t.pc = s.pc ∧
    answered s t 0x402 p .badParameter [])
/-- OPERATOR_LOAD of an image that keeps R496 and R497, an operator's or not, into an index not active: the program stands there; an active
index is WRONG_STATE, another image BAD_PARAMETER (R508, R723). -/
def operatorsLoad : Prop := ∀ s p, acts s 0x403 p → parcelThere s p.parcel = true → pAt p 8 1 ≤ 63 →
  (∀ v, imgLength p.buf = true → imgHeader p.buf = true → progActive s p.parcel (pAt p 8 1) = false →
    progsFull s p.parcel (pAt p 8 1) = false → progInstall (inHand s 0x403 p) p.parcel (pAt p 8 1) p.buf = some v →
    gives (.operatorLoad p) s fun t => answered s t 0x403 p .ok [] ∧ ∃ g, tabGet t.cs.progs (progKey p.parcel (pAt p 8 1)) = some g ∧
      g.active = false ∧ g.operatorOnly = imgOperator p.buf ∧ g.entry = imgEntry p.buf ∧ g.budget = imgBudget p.buf ∧
      g.data = (List.range (imgData p.buf)).map fun k => imgWord p.buf (imgCode p.buf + k)) ∧
  (imgLength p.buf = true → imgHeader p.buf = true → progActive s p.parcel (pAt p 8 1) = true → gives (.operatorLoad p) s fun t =>
    t.cs = s.cs ∧ memSame s t ∧ answered s t 0x403 p .wrongState []) ∧
  (imgLength p.buf = false ∨ imgHeader p.buf = false → gives (.operatorLoad p) s fun t => t.cs = s.cs ∧ memSame s t ∧
    answered s t 0x403 p .badParameter [])
/-- OPERATOR_INVOKE in an ACTIVE parcel: an invocation of the packet on a reserved ticket, its root task READY at the program's entry; in
any other parcel WRONG_STATE (R111, R508, R723). -/
def operatorsInvoke : Prop := ∀ s p, acts s 0x404 p →
  (∀ g rs tk u v, (parGet s p.parcel).st = .active → pAt p 8 1 ≤ 63 → tabGet s.cs.progs (progKey p.parcel (pAt p 8 1)) = some g →
    setRanges s p.parcel (pAt p 10 2) = some rs → p.buf.length ≤ 4096 → tkAlloc (flightAdd s 0x404 p) true = (some tk, u) →
    invStart (tkMod u tk fun x => { x with busy := true, admin := true, parcel := some p.parcel
                                           pEdition := (parGet s p.parcel).edition, phase := .started, begun := true })
      (.packet s.mg.next) p.parcel tk (pAt p 8 1) g true rs p.buf = some v →
    gives (.operatorInvoke p) s fun t => flies s t 0x404 p true ∧ (tkGet t tk).busy = true ∧
      (∃ i, invGet t s.cs.nextInv = some i ∧ i.owner = .packet s.mg.next ∧ i.parcel = p.parcel ∧ i.prog = pAt p 8 1 ∧ i.oper = true ∧
        i.ranges = rs ∧ i.ticket = tk ∧ i.accepted = frameNo s ∧ i.budget = min g.budget (parGet s p.parcel).lim.budget ∧ i.ended = none) ∧
      ∃ y, taskGet t s.cs.nextTask = some y ∧ y.root = true ∧ y.inv = s.cs.nextInv ∧ y.st = .ready ∧
        y.ctx.pc = codePtr g.compact g.entry) ∧
  ((parGet s p.parcel).st ≠ .active → gives (.operatorInvoke p) s fun t => t.cs = s.cs ∧ answered s t 0x404 p .wrongState [])
/-- WAY_ASSIGN: the owner, then the mode, whose change the reply waits for; BUSY while the way is CHANGING, BAD_PARAMETER where R481
refuses (R480, R481, R723). -/
def waysAssigned : Prop := ∀ s p cl w m o v, acts s 0x405 p → cl = pAt p 8 1 → w = pAt p 9 1 → m = pAt p 10 1 → 2 ≤ cl → cl ≤ 7 → w ≤ 15 →
  m ≤ 3 → o = (if 2 ≤ m then 2 ^ 31 + p.parcel else 0) → v = putBits (regNat s (TC_WAY_MODE cl)) (2 * w + 1) (2 * w) m →
  (wayChanging s cl w = true → gives (.wayAssign p) s fun t => t.cs = s.cs ∧ answered s t 0x405 p .busy []) ∧
  (wayChanging s cl w = false → wayMode s cl w < 2 → wayRefused (regPut s (TC_WAY_OWNER cl w) o) cl v = true →
    gives (.wayAssign p) s fun t => t.cs = s.cs ∧ regRaw t (TC_WAY_OWNER cl w) = regRaw s (TC_WAY_OWNER cl w) ∧
      answered s t 0x405 p .badParameter []) ∧
  (wayChanging s cl w = false → wayMode s cl w < 2 → wayRefused (regPut s (TC_WAY_OWNER cl w) o) cl v = false → wayMode s cl w ≠ m →
    gives (.wayAssign p) s fun t => flies s t 0x405 p true ∧ regNat t (TC_WAY_OWNER cl w) = o ∧ regNat t (TC_WAY_MODE cl) = v ∧
      ∃ c ∈ (clusterGet t cl).changes, c.way = w ∧ c.new = m ∧ c.start = none) ∧
  (wayChanging s cl w = false → wayMode s cl w < 2 → wayRefused (regPut s (TC_WAY_OWNER cl w) o) cl v = false → wayMode s cl w = m →
    gives (.wayAssign p) s fun t => t.cs = s.cs ∧ answered s t 0x405 p .ok [])

/-! Meters, firmware and diagnostics -/

/-- METER_READ tells whole records, oldest first, and takes none; METER_FREE drops the oldest (R193, R194, R725). -/
def metersPackets : Prop := ∀ s p,
  (acts s 0x601 p → gives (.meterRead p) s fun t => t.pc = s.pc ∧
    answered s t 0x601 p .ok (leBytes 4 (min (p.bufLen / 128) s.pc.ring.length) ++ leBytes 4 s.pc.ring.length
      ++ leBytes 4 (regFld s PC_SNAP_STATUS 15 0)) ∧
    (s.pc.ring ≠ [] → 128 ≤ p.bufLen → .packetData p.mctp p.id ((s.pc.ring.take (p.bufLen / 128)).map recBytes).flatten ∈ t.out)) ∧
  (acts s 0x602 p → s.pc.held = [] → pAt p 8 4 ≤ s.pc.ring.length → gives (.meterFree p) s fun t =>
    t.pc.ring = s.pc.ring.drop (pAt p 8 4) ∧ answered s t 0x602 p .ok (leBytes 4 (s.pc.ring.length - pAt p 8 4))) ∧
  (acts s 0x602 p → s.pc.ring.length < pAt p 8 4 → gives (.meterFree p) s fun t => t.pc = s.pc ∧ answered s t 0x602 p .badParameter [])
/-- FW_DOWNLOAD writes the slot that is not running and no other; FW_COMMIT points the boot record at a slot that verifies (R441, R444,
R726). -/
def firmwarePackets : Prop := ∀ s p k, k = pAt p 8 1 → 1 ≤ k → k ≤ 2 →
  (∀ o, acts s 0x701 p → o = pAt p 12 4 → o % 4 = 0 → p.buf.length % 4 = 0 → o + p.buf.length ≤ 33554432 → k ≠ s.pw.running →
    gives (.fwDownload p) s fun t => (∀ i, i < p.buf.length → (fwSlot t k).getD (o + i) 0 = p.buf.getD i 0) ∧
      (∀ i, i < o ∨ o + p.buf.length ≤ i → (fwSlot t k).getD i 0 = (fwSlot s k).getD i 0) ∧
      (∀ j, j ≠ k → fwSlot t j = fwSlot s j) ∧ t.pw.next = s.pw.next ∧ answered s t 0x701 p .ok []) ∧
  (acts s 0x701 p → pAt p 12 4 % 4 = 0 → p.buf.length % 4 = 0 → pAt p 12 4 + p.buf.length ≤ 33554432 → k = s.pw.running →
    gives (.fwDownload p) s fun t => t.pw = s.pw ∧ answered s t 0x701 p .wrongState []) ∧
  (acts s 0x702 p → gives (.fwCommit p) s fun t => if slotValid s k then t.pw = { s.pw with next := some k } ∧
      answered s t 0x702 p .ok (leBytes 2 (fwSvn (fwSlot s k)) ++ leBytes 1 (fwKeygen (fwSlot s k)))
    else t.pw = s.pw ∧ answered s t 0x702 p .notAuthentic [])
/-- FW_SVN_ADVANCE begins a blow up to the running image's SVN, whose end answers it; WRONG_STATE while PWR_FAIL_N is asserted (R445). -/
def svnAdvances : Prop := ∀ s p, acts s 0x703 p →
  (regBit s PW_STATUS 28 = true → gives (.fwSvnAdvance p) s fun t => t.ks = s.ks ∧ answered s t 0x703 p .wrongState []) ∧
  (regBit s PW_STATUS 28 = false → s.ks.blowing = none → s.ks.fuses < min 64 (fwSvn (fwSlot s s.pw.running)) →
    gives (.fwSvnAdvance p) s fun t => flies s t 0x703 p true ∧ t.ks.fuses = s.ks.fuses ∧
      t.ks.blowing = some (min 64 (fwSvn (fwSlot s s.pw.running)), s.mg.next)) ∧
  (regBit s PW_STATUS 28 = false → s.ks.blowing = none → min 64 (fwSvn (fwSlot s s.pw.running)) ≤ s.ks.fuses →
    gives (.fwSvnAdvance p) s fun t => t.ks = s.ks ∧ answered s t 0x703 p .ok (leBytes 1 s.ks.fuses))
/-- BOOTCFG_SET writes the override or, with REMOVE, erases it; nothing in use changes before a reset (R727). -/
def overridesSet : Prop := ∀ s p, acts s 0x704 p →
  (bitOf (pAt p 14 1) 0 = true → gives (.bootcfgSet p) s fun t => t.pw = { s.pw with overrd := none } ∧ answered s t 0x704 p .ok []) ∧
  (bitOf (pAt p 14 1) 0 = false → pAt p 8 1 ≤ 2 → pAt p 9 1 ≤ 1 → pAt p 10 1 ≤ 2 → pAt p 11 1 ≤ 2 → gives (.bootcfgSet p) s fun t =>
    t.pw = { s.pw with overrd := some [pAt p 8 1, pAt p 9 1, pAt p 10 1, pAt p 11 1, pAt p 12 2] } ∧ answered s t 0x704 p .ok []) ∧
  (bitOf (pAt p 14 1) 0 = false → (2 < pAt p 8 1 ∨ 1 < pAt p 9 1 ∨ 2 < pAt p 10 1 ∨ 2 < pAt p 11 1) → gives (.bootcfgSet p) s fun t =>
    t.pw = s.pw ∧ answered s t 0x704 p .badParameter [])
/-- DIAG_DUMP takes a fresh snapshot at offset 0 and reads it from there on; an offset beyond it is BAD_PARAMETER (R728). What the snapshot
holds is a free value (log 3). -/
def diagDumps : Prop := ∀ s p d, acts s 0x705 p → d = (if pAt p 8 8 = 0 then Config.diag s.fresh else s.pw.diag) →
  gives (.diagDump p) s fun t => if pAt p 8 8 < d.length then t.pw = { s.pw with diag := d } ∧
      answered s t 0x705 p .ok (leBytes 8 d.length ++ leBytes 4 (slice d (pAt p 8 8) (min p.bufLen (d.length - pAt p 8 8))).length) ∧
      (1 ≤ p.bufLen → .packetData p.mctp p.id (slice d (pAt p 8 8) (min p.bufLen (d.length - pAt p 8 8))) ∈ t.out)
    else answered s t 0x705 p .badParameter []
/-- EVENT_READ tells six words of the manager latch as they stand, then with CLEAR clears the bits of its masks; the reply's own event 500
apart (R729). -/
def eventsRead : Prop := ∀ s p, acts s 0x706 p → pAt p 8 1 ≤ 10 → gives (.eventRead p) s fun t =>
  answered s t 0x706 p .ok (leBytes 4 (evSummary s) ++ ((List.range 6).map fun i => leBytes 4 (regNat s (EV_PENDING (pAt p 8 1 + i)))).flatten) ∧
    (∀ n, n ≠ 500 → t.ev.fwLatch.getLsbD n = s.ev.fwLatch.getLsbD n) ∧ (∀ k, k < 16 → regRaw t (EV_MASK k) = regRaw s (EV_MASK k)) ∧
    (∀ n, n < 512 → regRaw t (EV_ROUTE n) = regRaw s (EV_ROUTE n)) ∧
    (pFlag p 0 = false → ∀ n, n < 512 → n ≠ 500 → evPending t n = evPending s n) ∧
    (pFlag p 0 = true → ∀ i b, i < 6 → b < 32 → 32 * (pAt p 8 1 + i) + b ≠ 500 → evPending t (32 * (pAt p 8 1 + i) + b) =
      (evPending s (32 * (pAt p 8 1 + i) + b) && !bitOf (pAt p (12 + 4 * i) 4) b))


/-! ## Chapter 15: resets of the chip -/

/-- The chip has restarted with a cause: everything is as at reset but fuses, firmware flash, media and what the system pairs keep; a
recorded retirement of a channel, the repair record, AFTER_FATAL with the cause, and THERM_TRIP_N below power-on reset stay; the pins fall to
their levels in reset (R735, R736, R760, R784). -/
def restarted (s t : State) (cause : Nat) : Prop :=
  t.pending = s.pending ∧ t.fr.count = 0 ∧ t.fr.released = false ∧ t.fr.fatal = false ∧ t.cq = State.reset.cq ∧ t.cs = State.reset.cs ∧
    t.dr = State.reset.dr ∧ t.en = State.reset.en ∧ t.gz = State.reset.gz ∧ t.pc = State.reset.pc ∧ t.atl = State.reset.atl ∧
    t.mg = State.reset.mg ∧ t.ev = State.reset.ev ∧ t.ks.slots = [] ∧ t.ks.kept = s.ks.kept ∧ t.ks.fuses = s.ks.fuses ∧
    (s.pw.dumping = false → t.fl.pages = s.fl.pages) ∧ t.fl.profiles = s.fl.profiles ∧ t.fl.retired = s.fl.retired ∧ t.pw.fw = s.pw.fw ∧ t.pw.next = s.pw.next ∧
    t.pw.overrd = s.pw.overrd ∧ t.pw.life = s.pw.life ∧ t.pw.choice = s.pw.choice ∧ t.pw.kept = keptNow s ∧ t.pw.test = none ∧
    t.pw.dumping = false ∧ t.pw.halted = false ∧ t.pw.rom = .waiting ∧ t.pw.running = 0 ∧ t.pw.repairs = s.pw.repairs ∧
    (∃ l, t.out = s.out ++ l ∧ .pin 0 false ∈ l ∧ .pin 3 false ∈ l) ∧ (∀ ch, ch < 32 → (chanGet t ch).wp = false ∧ (chanGet t ch).ceHeld = true) ∧
    t.host = { State.reset.host with vpd := s.host.vpd, sbI3c := t.host.sbI3c } ∧
    regNat t PW_RESET_CAUSE = 8 * b2n s.fr.fatal + cause ∧
    ((∀ d ∈ s.fl.dies, d.2.ch < 32 ∧ d.2.pos < 32) → ∀ ch, ch < 32 → ch ∈ s.fl.retired → chState t ch = chRetired) ∧
    (regBit t FR_TEMP 31 = (if cause = 0 then false else regBit s FR_TEMP 31)) ∧
    ∀ a, a ≠ PW_RESET_CAUSE → a ≠ FR_TEMP → (∀ ch, a ≠ FC_STATUS ch) → (∀ ch pos, a ≠ FC_DIE ch pos) → regRaw t a = regRaw State.reset a
/-- POWER_ON_RESET, at which SB_MODE selects the sideband bus, and SYS_RESET; after PWR_FAIL_N a SYS_RESET_N waits for the end of the dump, but not in FATAL (R97, R733, R736, R737). -/
def chipResets : Prop := ∀ s,
  gives .powerOnReset s (fun t => restarted s t 0 ∧ t.pw.dump = s.pw.dump ∧ t.host.sbI3c = Config.sbMode s.fresh) ∧
  (stage s = 5 ∨ s.pw.stop = false ∧ s.pw.dumping = false → gives .sysReset s fun t => restarted s t 1 ∧ t.pw.dump = s.pw.dump ∧
    t.host.sbI3c = s.host.sbI3c) ∧
  (stage s ≠ 5 → s.pw.stop = true ∨ s.pw.dumping = true → gives .sysReset s fun t => t = { s with pw := { s.pw with sysReset := true } })
/-- DUMP_RESTART after the dump, and BOOT_RESTART_AFTER_POWER_FAIL of a boot that PWR_FAIL_N halted: as SYS_RESET_N with cause 2; else
nothing (R754, R755). -/
def restartsAfterFail : Prop := ∀ s,
  (stage s = 4 → s.pw.dumping = false → gives .dumpRestart s fun t => restarted s t 2 ∧ t.pw.dump = s.pw.dump) ∧
  (stage s ≠ 4 ∨ s.pw.dumping = true → gives .dumpRestart s fun t => t = s) ∧
  (s.pw.halted = true → gives .bootRestartAfterPowerFail s fun t => restarted s t 2) ∧
  (s.pw.halted = false → gives .bootRestartAfterPowerFail s fun t => t = s)

/-! ## Chapter 15: boot -/

/-- TEMPERATURE_MINIMUM_REACHED (R783). -/
def warms : Prop := ∀ s, gives .temperatureMinimumReached s fun t => t = { s with pw := { s.pw with warm := true } }
/-- The ROM stage may run: power is up, it has not run, nothing halted boot, and the die is warm (R741, R755, R783). -/
def romMay (s : State) (r : RomResult) : Prop :=
  stage s = 1 ∧ s.pw.rom = .waiting ∧ s.pw.halted = false ∧ (r.cold = false ∨ s.pw.warm = true)
/-- ROM_STAGE: failed DRAM training stays in the stage; no valid slot is recovery; else the slot boots, the Graticule and clusters 0 and 1
are released, KS_TRUST, the frame period and the DRAM registers are loaded, and digest contexts 0 and 1 measure the image (R20, R26, R387, R442, R443,
R446, R619, R741). -/
def romStages : Prop := ∀ r s,
  (¬ romMay s r → gives (.romStage r) s fun t => t = s) ∧
  (romMay s r → r.failedCh % 16 ≠ 0 → gives (.romStage r) s fun t => t.pw.rom = .failed ∧ t.fr.released = s.fr.released ∧
    stage t = 1 ∧ regNat t DM_CONFIG = 2 ^ 30 + r.failedCh % 16) ∧
  (romMay s r → r.failedCh % 16 = 0 → gives (.romStage r) s fun t =>
    (bootSlot s = none → t.pw.rom = .recovery ∧ t.fr.released = s.fr.released ∧ stage t = 1) ∧
    ∀ k fb, bootSlot s = some (k, fb) → t.pw.rom = .done ∧ t.pw.running = k ∧ t.fr.released = true ∧ stage t = 1 ∧ regBit t (TC_STATUS 0) 31 = false ∧ regBit t (TC_STATUS 1) 31 = false ∧
    (∀ cl, 2 ≤ cl → cl < 8 → regBit t (TC_STATUS cl) 31 = regBit s (TC_STATUS cl) 31) ∧ regBit t KS_TRUST 31 = fb ∧
    regFld t KS_TRUST 15 8 = s.ks.fuses % 256 ∧ regFld t KS_TRUST 7 0 = fwSvn (fwSlot s k) % 256 ∧
    regFld t FR_FRAME_PERIOD 1 0 = (bootValue { s with pw := { s.pw with running := k } } r.overrideOk 0 3).getD 0 ∧
    regBit t FR_FRAME_PERIOD 2 = (bootValue { s with pw := { s.pw with running := k } } r.overrideOk 0 3).isNone ∧
    regBit t DM_CONFIG 31 = true ∧ regNat t DM_CAPACITY = (r.dmUnits - 1) % 65536 ∧ (r.late = true → regBit t PW_STATUS 24 = true) ∧
    regFld t KS_ENTROPY 31 30 = (if r.entropyOk then 1 else 2) ∧ .pin 3 true ∈ t.out ∧
    (s.en.dg = [] → bootDigest t 0 = digestOf 1 ((fwSlot s k).take (fwLength (fwSlot s k))) ∧
      bootDigest t 1 = digestOf 2 ((fwSlot s k).take (fwLength (fwSlot s k)))))
/-- ADMIN_READY after the ROM stage: stage 2, event 21, event 374 for a fallback slot, the life record shown, and physical function 0
ready where its host has enabled it (R442, R741, R742, R789). -/
def adminReadies : Prop := ∀ s,
  (stage s ≠ 1 ∨ s.pw.rom ≠ .done ∨ s.pw.halted = true → gives .adminReady s fun t => t = s) ∧
  (stage s = 1 → s.pw.rom = .done → s.pw.halted = false → gives .adminReady s fun t => stage t = 2 ∧ evPending t 21 = true ∧
    (regBit s KS_TRUST 31 = true → evPending t 374 = true) ∧ regNat t FR_LIFE_USED = min (2 ^ 32 - 1) (s.pw.life / 10) ∧
    (ctrlGet t 0).rdy = (decide ((ctrlGet s 0).cc % 2 = 1) || (ctrlGet s 0).rdy))
/-- MEDIA_READY after admin-ready: READY, stage 3 and event 22; persistent keys stand in their slots, clusters 2 to 7 are released; a
complete dump is replayed, event 23, an incomplete one is lost, event 24, the dump blocks erased either way; the parcels of the system pairs return (R409, R738, R741,
R742, R756, R757). -/
def mediaReadies : Prop := ∀ r s,
  (stage s ≠ 2 ∨ s.pw.halted = true → gives (.mediaReady r) s fun t => t = s) ∧
  (stage s = 2 → s.pw.halted = false → gives (.mediaReady r) s fun t => stage t = 3 ∧ regBit t AT_MEDIA_STATE 0 = true ∧
    evPending t 22 = true ∧ t.ks.slots = s.ks.kept ∧ (∀ cl, 2 ≤ cl → cl < 8 → regBit t (TC_STATUS cl) 31 = false) ∧
    regBit t GZ_STATUS 31 = true ∧ regFld t PW_STATUS 15 0 = min 65535 r.bootMs ∧ t.pw.dump = none ∧
    (∀ d, s.pw.dump = some d → d.closed = true → r.closing = true → regBit t PW_STATUS 27 = true ∧ evPending t 23 = true) ∧
    (∀ d, s.pw.dump = some d → d.closed = false ∨ r.closing = false → regBit t PW_STATUS 26 = true ∧ evPending t 24 = true) ∧
    (s.pw.dump ≠ none → ∀ e ∈ t.fl.pages, 2 ≤ e.1 % 2 ^ 24 / ppb t) ∧
    (s.pw.dump = none → ∀ k x, tabGet s.pw.kept.pc.parcels k = some x → x.st = .active ∨ x.st = .frozen ∨ x.st = .provisioned →
      (parGet t k).st = x.st ∧ (parGet t k).edition = x.edition ∧ (parGet t k).lim = x.lim ∧ (parGet t k).vf = x.vf ∧
        (parGet t k).pairs = x.pairs ∧ (parGet t k).mask = x.mask ∧ (parGet t k).bal = x.bal))
/-- LIFE_RECORD_UPDATE: once an hour the record grows by the weight of the hottest reading (R788, R789). -/
def livesCounted : Prop := ∀ s,
  (s.pw.lifeAt + hourFrames s ≤ frameNo s → 2 ≤ stage s → gives .lifeRecordUpdate s fun t => t.pw.life = s.pw.life + s.pw.hot ∧
    t.pw.lifeAt = frameNo s ∧ t.pw.hot = 10 ∧ regNat t FR_LIFE_USED = min (2 ^ 32 - 1) ((s.pw.life + s.pw.hot) / 10) ∧
    regsSameBut s t [FR_LIFE_USED]) ∧
  (frameNo s < s.pw.lifeAt + hourFrames s ∨ stage s < 2 → gives .lifeRecordUpdate s fun t => t = s)

/-! ## Chapter 15: PWR_FAIL_N and the dump -/

/-- PWR_FAIL_SEEN and RAIL_UNDERVOLTAGE: PF_SEEN and event 16; a test ends with HU_TEST low and its packets are ABORTED; after media-ready
step 2 of the next boundary will stop the device, before it boot halts (R749, R750, R755, R777). -/
def powerFails : Prop := ∀ s, ∀ i : Instr, i = .pwrFailSeen ∨ i = .railUndervoltage →
  (regBit s PW_STATUS 28 = true → gives i s fun t => t = s) ∧
  (regBit s PW_STATUS 28 = false → gives i s fun t => regBit t PW_STATUS 28 = true ∧ evPending t 16 = true ∧ t.pw.test = none ∧
    t.cq.budgetReq = s.cq.budgetReq ∧ stage t = stage s ∧ (stage s = 3 → t.pw.stop = true ∧ t.pw.halted = s.pw.halted) ∧
    (stage s = 5 → t.pw.stop = s.pw.stop ∧ t.pw.halted = s.pw.halted) ∧ (stage s ≠ 3 → stage s ≠ 5 → t.pw.halted = true) ∧
    (∀ x v f, s.pw.test = some x → x.phase = .running v f → .pin 0 false ∈ t.out) ∧
    ∀ x n arm f, s.pw.test = some x → (n, arm) ∈ x.asks → flightGet s n = some f → tabSorted s.mg.flights = true → canReply s f →
      (f.p.mctp = true ∨ x.asks = [(n, arm)]) → replied t n f.op f.p .aborted [])
/-- POWER_FAIL_STOP at step 2: no ticket is in use, no job is left, no slice of clusters 2 to 7 runs, nothing queued on a die starts,
packets that had not taken effect are gone, and the dump begins at this boundary under the next serial (R50, R339, R707, R750, R751). -/
def powerStops : Prop := ∀ s,
  (s.pw.stop = false → gives .powerFailStop s fun t => t = s) ∧
  (s.pw.stop = true → s.pw.dumping = false → ordered s → gives .powerFailStop s fun t => stage t = 4 ∧ t.pw.stop = false ∧
    t.ev.powerFail = true ∧ t.en.jobs = [] ∧ (∀ i, (tkGet t i).busy = false) ∧ (∀ c, 16 ≤ c → (coreGet t c).task = none) ∧
    (∀ d x, dieGet t d = some x → x.readQ = [] ∧ x.moveQ = [] ∧ x.progQ = [] ∧ x.eraseQ = []) ∧
    (∀ n f, flightGet s n = some f → f.applied = false → flightGet t n = none) ∧ t.pw.dumping = true ∧
    ∃ d, t.pw.dump = some d ∧ d.serial = s.pw.serial + 1 ∧ d.boundary = frameNo s ∧ d.closed = false ∧ d.atl = t.atl ∧ d.pc = t.pc)
/-- DUMP_END: the dump's pages stand in the dump blocks of the dies that take them (R340), the closing record among them, PW_DUMP shows the frames and the serial, HU_TEST is low; a SYS_RESET_N that waited takes effect
(R737, R750-R752). -/
def dumpsEnd : Prop := ∀ s d, s.pw.dump = some d →
  (s.pw.dumping = true → s.pw.sysReset = false → gives .dumpEnd s fun t => t.pw.dumping = false ∧
    t.pw.dump = some { d with closed := dumpSets s != [], frames := min 65535 (frameNo s - d.boundary) } ∧
    t.fl.pages = (dumpWrite s d (dumpPlan s d).length).fl.pages ∧
    regNat t PW_DUMP = min 65535 (frameNo s - d.boundary) * 65536 + d.serial % 65536 ∧ .pin 0 false ∈ t.out ∧
    regsSameBut s t [PW_DUMP]) ∧
  (s.pw.dumping = true → s.pw.sysReset = true → gives .dumpEnd s fun t => restarted s t 1 ∧
    t.fl.pages = (dumpWrite s d (dumpPlan s d).length).fl.pages ∧
    t.pw.dump = some { d with closed := dumpSets s != [], frames := min 65535 (frameNo s - d.boundary) }) ∧
  (s.pw.dumping = false → gives .dumpEnd s fun t => t = s)

/-! ## Chapter 15: the energy test -/

/-- The budget in MiB of a bank (R744), in exact fractions: `c` and `e` are the test's results and 0 is a failed test. -/
def energyRule : Prop := ∀ (s : State) (v1 v2 p : Nat), vMin s ≤ v2 → v2 < v1 →
  let t : Rat := 500 * periodNs s / 1000000000
  let c : Rat := 2 * p * t / (v1 ^ 2 - v2 ^ 2)
  let e : Rat := c * (v1 ^ 2 - vMin s ^ 2) / 2
  let fill : Rat := if (liveDies s).length < 1000 then (liveDies s).length / 1000 else 1
  let b : Int := min 1024 (min ((8 / 10 * e - 800) / (14 / 10)).floor ((858 / 10 * 15 * fill).floor - 64))
  ((testResult s v1 v2 p).1 : Int) = (if 64 ≤ b then b else 0) ∧ ((testResult s v1 v2 p).2.1 : Int) = e.floor
/-- V2 that has not fallen fails (R745). -/
def energyFails : Prop := ∀ s v1 v2 p, v1 ≤ v2 → (testResult s v1 v2 p).1 = 0
/-- A test `x` has ended with budget, energy and capacitance: its registers, event 18 or 19, and what it arms or disarms; the packet that
asked for it is answered; a retest that passes arms nothing again (R131, R744-R746, R748). -/
def testTold (s t : State) (x : ETest) (r : Nat × Nat × Nat) : Prop :=
  t.pw.test = none ∧ t.pw.lastTest = frameNo s ∧ regFld t PW_HOLDUP_ENERGY 19 0 = min 1048575 r.2.1 ∧
    (r.1 ≠ 0 → regFld t PW_HOLDUP_CAP 19 0 = min 1048575 r.2.2 ∧ evPending t 18 = true) ∧
    (r.1 = 0 → regBit t PW_STATUS 25 = true ∧ evPending t 19 = true) ∧
    (r.1 ≠ 0 → x.asks.any (·.2) = true → t.cq.armReq = some true ∧ t.cq.budgetReq = some r.1) ∧
    (r.1 ≠ 0 → x.asks.any (·.2) = false → x.boot = false → x.retest = true → armed s = true → t.cq.armReq = s.cq.armReq ∧
      t.cq.budgetReq = some r.1) ∧
    (r.1 = 0 → (x.asks.any (·.2) = true ∨ x.retest = true) → armed s = true → t.cq.armReq = some false ∧ t.cq.budgetReq = some 0) ∧
    (x.asks.any (·.2) = false → x.retest = false → x.boot = false → t.cq.armReq = s.cq.armReq ∧ t.cq.budgetReq = s.cq.budgetReq) ∧
    (x.boot = true → x.asks = [] → x.retest = false → r.1 ≠ 0 → s.pw.choice = true → (∀ d ∈ liveDies s, dumpErased s d = true) →
      t.cq.armReq = some true ∧ t.cq.budgetReq = some r.1) ∧
    ∀ n arm f, (n, arm) ∈ x.asks → flightGet s n = some f → tabSorted s.mg.flights = true → canReply s f →
      (f.p.mctp = true ∨ x.asks = [(n, arm)]) → replied t n f.op f.p .ok (leBytes 2 r.1 ++ zeros 2 ++ leBytes 4 r.2.1)
/-- BANK_SETTLED, ENERGY_TEST_END 500 frames later, ENERGY_TEST_SETTLE_TIMEOUT after 10 s, and HOLDUP_RETEST every 2^RETEST_EXP frames
while armed (R744, R745, R748, R760). -/
def energyTests : Prop := ∀ s,
  (∀ x v1, s.pw.test = some x → x.phase = .settling → gives (.bankSettled v1) s fun t =>
    t.pw.test = some { x with phase := .running v1 (frameNo s) } ∧ t.out = s.out ++ [.pin 0 true] ∧ t.regs = s.regs) ∧
  (∀ v1, (s.pw.test = none ∨ ∃ x v f, s.pw.test = some x ∧ x.phase = .running v f) → gives (.bankSettled v1) s fun t => t = s) ∧
  (∀ x v1 v2 p f, s.pw.test = some x → x.phase = .running v1 f → f + 500 ≤ frameNo s → gives (.energyTestEnd v2 p) s fun t =>
    testTold s t x (testResult s v1 v2 p) ∧ .pin 0 false ∈ t.out) ∧
  (∀ x v1 v2 p f, s.pw.test = some x → x.phase = .running v1 f → frameNo s < f + 500 → gives (.energyTestEnd v2 p) s fun t => t = s) ∧
  (∀ x, s.pw.test = some x → x.phase = .settling → x.start + framesOf s 10000000000 ≤ frameNo s → gives .energyTestSettleTimeout s fun t =>
    testTold s t x (0, Config.freeNat s.fresh, 0)) ∧
  (∀ x, s.pw.test = some x → (x.phase ≠ .settling ∨ frameNo s < x.start + framesOf s 10000000000) →
    gives .energyTestSettleTimeout s fun t => t = s) ∧
  (armed s = true → s.pw.test = none → s.pw.lastTest + 2 ^ retestExp s ≤ frameNo s → gives .holdupRetest s fun t =>
    t.pw.test = some { retest := true, start := frameNo s } ∧ t.cq = s.cq ∧ t.regs = s.regs) ∧
  (armed s = false ∨ s.pw.test ≠ none ∨ frameNo s < s.pw.lastTest + 2 ^ retestExp s → gives .holdupRetest s fun t => t = s)

/-! ## Chapter 15: cluster resets -/

/-- CLUSTER_RESET_WRITE asks for resets of clusters 2 to 7; bits 0 and 1 are ignored (R739, R740). -/
def clusterResetsAsked : Prop := ∀ v s, gives (.clusterResetWrite v) s fun t => t.regs = s.regs ∧ t.cs.cores = s.cs.cores ∧
  ∀ cl, clusterGet t cl = (if 2 ≤ cl ∧ cl < 8 ∧ bitOf v cl = true then { clusterGet s cl with resetReq := true } else clusterGet s cl)
/-- CLUSTER_RESET of a cluster asked for: it is out of the pool, its cores are as at reset, its SERVICE ways hold no line, and the task of
each core is READY with no last core; ways and the pool asked for stay. Without a request nothing happens (R492, R739). -/
def clusterResets : Prop := ∀ cl s,
  ((clusterGet s cl).resetReq = true → 2 ≤ cl → cl < 8 → tabSorted (clusterGet s cl).lines = true → gives (.clusterReset cl) s fun t =>
    (clusterGet t cl).pool = 0 ∧ (clusterGet t cl).resetReq = false ∧ (clusterGet t cl).resetAt = some (frameNo s) ∧
    (∀ c, c / 8 = cl → coreGet t c = {}) ∧ (∀ e ∈ (clusterGet t cl).lines, e.2.locked.isSome = true) ∧
    regRaw t (TC_WAY_MODE cl) = regRaw s (TC_WAY_MODE cl) ∧ regFld t (TC_POOL cl) 7 0 = regFld s (TC_POOL cl) 7 0 ∧
    ∀ c n d, c / 8 = cl → (coreGet s c).task = some n → taskGet s n = some d → (∀ b, b ≠ c → (coreGet s b).task ≠ some n) →
      ∃ y, taskGet t n = some y ∧ y.st = .ready ∧ y.last = none ∧ y.since = d.since) ∧
  ((clusterGet s cl).resetReq = false ∨ cl < 2 ∨ 8 ≤ cl → gives (.clusterReset cl) s fun t => t = s)
/-- CLUSTER_RESET_COMPLETE at a later boundary: the cluster is in the pool again, event 25 (R739). -/
def clusterResetsEnd : Prop := ∀ cl s,
  (∀ f, (clusterGet s cl).resetAt = some f → f < frameNo s → gives (.clusterResetComplete cl) s fun t =>
    (clusterGet t cl).resetAt = none ∧ (clusterGet t cl).pool = regFld s (TC_POOL cl) 7 0 ∧ raised s t 25) ∧
  (((clusterGet s cl).resetAt = none ∨ ∃ f, (clusterGet s cl).resetAt = some f ∧ frameNo s ≤ f) →
    gives (.clusterResetComplete cl) s fun t => t = s)


/-! ## What commands leave alone -/

/-- An instruction of a core, which may end in a trap and with it a task. -/
def coreOp : Instr → Bool
  | .clean .. | .inval .. | .cleanInval .. | .zero .. | .lock .. | .unlock .. | .cleanRange .. | .invalRange .. |
    .cleanInvalRange .. | .invalI .. | .sync .. | .exit_ .. | .yield_ .. | .delay .. | .spawn .. | .flowOpen .. | .flowClose .. |
    .flowRelease .. | .engineSubmit .. | .engineWait .. | .gzSubmit .. | .frame .. | .unknownSupervisorCall .. | .add .. | .adc .. |
    .sub .. | .sbc .. | .cmp .. | .and_ .. | .or_ .. | .xor .. | .andn .. | .tst .. | .mov .. | .neg .. | .not_ .. | .shl .. |
    .shr .. | .sar .. | .ror .. | .mulu .. | .muls .. | .divu .. | .divs .. | .clz .. | .popc .. | .sel .. | .mff .. | .mtf .. |
    .addi .. | .addq .. | .subq .. | .cmpi .. | .cmpq .. | .andi .. | .ori .. | .xori .. | .shli .. | .shri .. | .sari .. |
    .rori .. | .shlq .. | .shrq .. | .sarq .. | .ext .. | .exts .. | .ins .. | .movhi .. | .mfsr .. | .mtsr .. | .movi .. |
    .movq .. | .ldw .. | .stw .. | .ldo8u .. | .ldo8s .. | .ldo16u .. | .ldo16s .. | .ldo32u .. | .ldo32s .. | .ldo64 .. |
    .sto8 .. | .sto16 .. | .sto32 .. | .sto64 .. | .b .. | .call .. | .jmpr .. | .callr .. | .ret .. | .rett .. | .nop .. |
    .illegalInstruction .. => true
  | _ => false

/-- A packet, which may act on any unit. -/
def chipOp : Instr → Bool
  | .parcelCreate .. | .parcelConfigure .. | .parcelBindVf .. | .parcelUnbindVf .. | .parcelHostPair .. | .parcelAssignNs .. |
    .parcelEnable .. | .parcelReset .. | .parcelFreeze .. | .parcelThaw .. | .parcelSave .. | .parcelRestore .. | .parcelRetire .. |
    .parcelQuery .. | .parcelShare .. | .parcelRequestEffect .. | .retirementEffect .. | .keyUnwrap .. | .keyDerive .. |
    .keyErase .. | .keyQuery .. | .gzTableCreate .. | .gzTableDelete .. | .gzLimits .. | .gzCascadeSet .. | .mediaFormat .. |
    .quadranglePin .. | .quadrangleUnpin .. | .channelRetire .. | .mediaQuery .. | .nsTransform .. | .holdupDisarm .. |
    .holdupTestAndArm .. | .holdupTestOnly .. | .computeRangeCreate .. | .computeRangeDelete .. | .computeLimits .. |
    .operatorLoad .. | .operatorInvoke .. | .wayAssign .. | .computeQuery .. | .meterRead .. | .meterFree .. | .fwDownload .. |
    .fwCommit .. | .fwSvnAdvance .. | .bootcfgSet .. | .diagDump .. | .eventRead .. | .deviceQuery .. | .unknownManagerPacket .. => true
  | _ => false

/-- A Gazetteer job, the boundary, or a reset of the device. -/
def tableOp : Instr → Bool
  | .frameBoundary .. | .search .. | .insert .. | .gzDelete .. | .walk .. | .openScanContext .. | .scan .. | .closeScanContext .. |
    .loadAutomaton .. | .unloadAutomaton .. | .powerOnReset .. | .sysReset .. | .dumpEnd .. | .dumpRestart .. |
    .bootRestartAfterPowerFail .. => true
  | _ => false

/-- Commands that may change DRAM and the scratchpad. -/
def memoryOp (i : Instr) : Bool :=
  coreOp i || chipOp i || tableOp i || match i with
    | .linkLossEffect .. | .parcelSaveComplete .. | .restoreInstallComplete .. | .parcelResetEffect .. | .queuedResetEffect .. |
      .compress .. | .decompress .. | .czOpenContext .. | .czCloseContext .. | .dgOpenContext .. | .dgUpdate .. | .dgCloseContext .. |
      .engineJobEnd .. | .encrypt .. | .decrypt .. | .gcmPlaintextWriteoutEnd .. | .gcmVerify .. | .gcmDecryptAfterVerify .. |
      .aesKwUnwrap .. | .keyInstallEffect .. | .keyErasureEffect .. | .wayModeChangeStart .. | .loadProgram .. | .executeProgram .. |
      .slmRead .. | .slmWrite .. | .memoryCopy .. | .cascadeMarkReceived .. | .matchChainDrive .. | .cascadeAnswerReceived .. |
      .cascadeMarkMissing .. | .dmaDescriptorStart .. | .dmaDescriptorEnd .. | .dmaDescriptorHalt .. | .powerFailStop .. |
      .clusterReset .. => true
    | _ => false

/-- Commands that may change DRAM, its controllers and repairs. -/
def dramOp (i : Instr) : Bool :=
  coreOp i || chipOp i || tableOp i || match i with
    | .staleMessageDiscard .. | .linkLossEffect .. | .parcelSaveComplete .. | .restoreInstallComplete .. | .parcelResetEffect .. |
      .queuedResetEffect .. | .compress .. | .decompress .. | .czOpenContext .. | .czCloseContext .. | .dgOpenContext .. |
      .dgUpdate .. | .dgCloseContext .. | .engineJobEnd .. | .encrypt .. | .decrypt .. | .gcmPlaintextWriteoutEnd .. | .gcmVerify .. |
      .gcmDecryptAfterVerify .. | .aesKwUnwrap .. | .keyInstallEffect .. | .keyErasureEffect .. | .wayModeChangeStart .. |
      .loadProgram .. | .executeProgram .. | .slmRead .. | .slmWrite .. | .memoryCopy .. | .invocationCompletionPost .. |
      .cascadeMarkReceived .. | .matchChainDrive .. | .cascadeAnswerReceived .. | .cascadeMarkMissing .. | .rowIdleClose .. |
      .rfmIssue .. | .refreshDue .. | .owedRefreshIssue .. | .mr4Read .. | .rowRepairSwitch .. | .surveyorRead .. |
      .surveyorLapEnd .. | .dmaDescriptorStart .. | .dmaDescriptorEnd .. | .dmaDescriptorHalt .. | .romStage .. | .mediaReady .. |
      .powerFailStop .. | .clusterReset .. => true
    | _ => false

/-- Commands that may change the cores. -/
def coresOp (i : Instr) : Bool :=
  coreOp i || chipOp i || tableOp i || match i with
    | .fatalEntry .. | .slicePreemption .. | .linkLossEffect .. | .restoreInstallComplete .. | .parcelResetEffect .. |
      .queuedResetEffect .. | .poolChangeEffect .. | .loadProgram .. | .executeProgram .. | .invocationBudgetEnd .. |
      .invocationCompletionPost .. | .surveyorRead .. | .powerFailStop .. | .clusterReset .. => true
    | _ => false

/-- Commands that may change key slots and entropy. -/
def keysOp (i : Instr) : Bool :=
  chipOp i || tableOp i || match i with
    | .namespaceDelete .. | .formatNvmNoErase .. | .formatNvmCryptoErase .. | .restoreInstallComplete .. | .compress .. |
      .decompress .. | .czOpenContext .. | .czCloseContext .. | .dgOpenContext .. | .dgUpdate .. | .dgCloseContext .. | .encrypt .. |
      .decrypt .. | .gcmVerify .. | .gcmDecryptAfterVerify .. | .aesKwUnwrap .. | .maskGeneratorReseed .. | .entropyGraceExpiry .. |
      .keyInstallEffect .. | .keyErasureEffect .. | .fuseBlowComplete .. | .healthTestFailure .. | .startupTestRetry .. |
      .drbgReseed .. | .romStage .. | .mediaReady .. => true
    | _ => false

/-- Commands that may change the Gazetteer. -/
def gazOp (i : Instr) : Bool :=
  chipOp i || tableOp i || match i with
    | .linkLossEffect .. | .parcelResetEffect .. | .teardownEnd .. | .queuedResetEffect .. | .suspectRepair .. |
      .shadowComparison .. | .cascadeLinkTrained .. | .cascadeMarkReceived .. | .cascadeBatchSearch .. | .matchChainDrive .. |
      .cascadeMarkMissing .. | .cascadeMembershipEffect .. | .surveyorRead .. | .romStage .. => true
    | _ => false

/-- Commands that may change what flash pages hold. -/
def pagesOp (i : Instr) : Bool :=
  chipOp i || tableOp i || match i with
    | .channelTrainingEnd .. | .channelRetrainEnd .. | .flashReadReady .. | .softDecodeComplete .. | .flashProgramDone .. |
      .flashEraseDone .. | .dieLost .. | .mediaReady .. => true
    | _ => false

/-- Commands that may change dies and channels. -/
def flashOp (i : Instr) : Bool :=
  chipOp i || tableOp i || match i with
    | .registerWrite .. | .heldWriteBufferEntry .. | .read .. | .write .. | .flush .. | .compare .. | .fusedCompareAndWrite .. |
      .writeZeroes .. | .datasetManagement .. | .verify .. | .copy .. | .stripePadTimeout .. | .stripeProgramComplete .. |
      .blockEraseRelease .. | .sheetFoldStart .. | .sheetFoldEnd .. | .conversionWindowEnd .. | .toSheetConversionEnd .. |
      .resurveyStart .. | .wearLevelMove .. | .tablesBudgetWrite .. | .channelTrainingEnd .. | .retrainWrite .. | .channelRetrain .. |
      .channelRetrainEnd .. | .zqCalibrationShort .. | .suspendEntered .. | .flashReadReady .. | .softDecodeComplete .. |
      .flashProgramDone .. | .flashEraseDone .. | .dieTimeout .. | .dieLost .. | .memoryCopy .. | .surveyorRead .. | .mediaReady .. |
      .powerFailStop .. | .mapLineRebuildEnd .. => true
    | _ => false

/-- Commands that may change the map. -/
def atlasOp (i : Instr) : Bool :=
  chipOp i || tableOp i || match i with
    | .registerWrite .. | .heldWriteBufferEntry .. | .read .. | .write .. | .flush .. | .compare .. | .fusedCompareAndWrite .. |
      .writeZeroes .. | .datasetManagement .. | .verify .. | .copy .. | .namespaceCreate .. | .namespaceDelete .. |
      .namespaceDeleteEffect .. | .namespaceAttach .. | .namespaceDetach .. | .formatNvmNoErase .. | .formatNvmCryptoErase .. |
      .restoreInstallComplete .. | .stripePadTimeout .. | .stripeProgramComplete .. | .blockEraseRelease .. | .sheetFoldStart .. |
      .sheetFoldEnd .. | .conversionWindowEnd .. | .toPageConversionEnd .. | .toSheetConversionEnd .. | .resurveyStart .. |
      .wearLevelMove .. | .rebuildEnd .. | .tablesBudgetWrite .. | .channelTrainingEnd .. | .channelRetrainEnd .. |
      .flashReadReady .. | .softDecodeComplete .. | .flashProgramDone .. | .flashEraseDone .. | .dieLost .. | .keyInstallEffect .. |
      .keyErasureEffect .. | .memoryCopy .. | .surveyorRead .. | .mediaReady .. | .mapLineRebuildEnd .. => true
    | _ => false

/-- Commands that may change tickets and queues. -/
def queuesOp (i : Instr) : Bool :=
  coreOp i || chipOp i || tableOp i || match i with
    | .registerWrite .. | .staleMessageDiscard .. | .fatalEntry .. | .perstAssert .. | .linkLossEffect .. | .pfFunctionLevelReset .. |
      .pfCcEnClear .. | .ccEnSet .. | .heldTicketResume .. | .propertyGet .. | .propertySet .. | .keepAlive .. | .capsuleReceived .. |
      .rdmaReadResponse .. | .h2cDataPdu .. | .connectionClosed .. | .discoveryLogChange .. | .tunnelledAdminCommand .. |
      .sqTailDoorbell .. | .cqHeadDoorbell .. | .heldCompletionPost .. | .hazardReleaseStart .. | .orderedCommandStart .. |
      .heldWriteBufferEntry .. | .commandCompletion .. | .durabilityModeChange .. | .budgetLowered .. | .read .. | .write .. |
      .flush .. | .compare .. | .fusedCompareAndWrite .. | .writeZeroes .. | .datasetManagement .. | .verify .. | .copy .. |
      .createIoSubmissionQueue .. | .createIoCompletionQueue .. | .deleteIoSubmissionQueue .. | .sqDeleteCompletion .. |
      .deleteIoCompletionQueue .. | .getLogPageErrorInformation .. | .getLogPageSmartHealth .. | .getLogPageFirmwareSlot .. |
      .getLogPageCommandsSupported .. | .getLogPageDeviceSelfTest .. | .identify .. | .abort .. | .getFeatures .. |
      .setFeaturesArbitration .. | .setFeaturesPowerManagement .. | .setFeaturesTemperatureThreshold .. |
      .setFeaturesErrorRecovery .. | .setFeaturesVolatileWriteCache .. | .setFeaturesNumberOfQueues .. |
      .setFeaturesInterruptCoalescing .. | .setFeaturesInterruptVectorConfig .. | .setFeaturesAsyncEventConfig .. |
      .setFeaturesKeepAliveTimer .. | .setFeaturesOrderMark .. | .setFeaturesRequireHoldup .. | .asynchronousEventRequest .. |
      .namespaceCreate .. | .namespaceDelete .. | .namespaceDeleteEffect .. | .namespaceAttach .. | .namespaceDetach .. |
      .firmwareImageDownload .. | .firmwareCommit .. | .deviceSelfTest .. | .virtualizationManagement .. | .formatNvmNoErase .. |
      .formatNvmCryptoErase .. | .parcelSaveComplete .. | .restoreInstallComplete .. | .parcelResetEffect .. | .teardownEnd .. |
      .queuedResetEffect .. | .parcelFreezeEffect .. | .parcelDrained .. | .retirementTeardownEnd .. | .sealedEntry .. |
      .channelTrainingEnd .. | .channelRetrainEnd .. | .flashReadReady .. | .softDecodeComplete .. | .dieLost .. |
      .keyInstallEffect .. | .keyErasureEffect .. | .fuseBlowComplete .. | .loadProgram .. | .programActivate .. |
      .programDeactivate .. | .executeProgram .. | .memoryRangeSetCreate .. | .memoryRangeSetDelete .. | .slmRead .. | .slmWrite .. |
      .memoryCopy .. | .invocationCompletionPost .. | .cascadeMarkReceived .. | .cascadeMembershipEffect .. | .surveyorRead .. |
      .adminReady .. | .mediaReady .. | .pwrFailSeen .. | .railUndervoltage .. | .powerFailStop .. | .energyTestEnd .. |
      .energyTestSettleTimeout .. | .pfCcEnSet .. | .getLogPageDiscovery .. | .keepAliveTimeout .. | .mapLineRebuildEnd .. => true
    | _ => false

/-- Commands that may change parcels and meters. -/
def parcelsOp (i : Instr) : Bool :=
  coreOp i || chipOp i || tableOp i || match i with
    | .registerWrite .. | .fatalEntry .. | .slicePreemption .. | .perstAssert .. | .linkLossEffect .. | .vfFunctionLevelReset .. |
      .pfFunctionLevelReset .. | .pfCcEnClear .. | .vfCcEnClear .. | .ccEnSet .. | .heldTicketResume .. | .capsuleReceived .. |
      .h2cDataPdu .. | .connectionClosed .. | .tunnelledAdminCommand .. | .heldCompletionPost .. | .heldWriteBufferEntry .. |
      .commandCompletion .. | .read .. | .write .. | .flush .. | .compare .. | .fusedCompareAndWrite .. | .writeZeroes .. |
      .datasetManagement .. | .verify .. | .copy .. | .deleteIoSubmissionQueue .. | .abort .. | .parcelSaveComplete .. |
      .restoreInstallComplete .. | .parcelResetEffect .. | .teardownEnd .. | .queuedResetEffect .. | .parcelFreezeEffect .. |
      .parcelDrained .. | .retirementTeardownEnd .. | .mailboxInPost .. | .mailboxOutPost .. | .mailboxPostVisible .. |
      .shareWrite .. | .shareChangeEffect .. | .coreMaskWrite .. | .coreMaskEffect .. | .meterIntervalEnd .. |
      .snapshotRecordsWritten .. | .heldFinalRecordWrite .. | .stripeProgramComplete .. | .channelTrainingEnd .. |
      .channelRetrainEnd .. | .flashReadReady .. | .softDecodeComplete .. | .dieLost .. | .compress .. | .decompress .. |
      .czOpenContext .. | .czCloseContext .. | .dgOpenContext .. | .dgUpdate .. | .dgCloseContext .. | .encrypt .. | .decrypt .. |
      .gcmVerify .. | .gcmDecryptAfterVerify .. | .aesKwUnwrap .. | .poolChangeEffect .. | .slmRead .. | .memoryCopy .. |
      .surveyorRead .. | .mediaReady .. | .powerFailStop .. | .clusterReset .. | .keepAliveTimeout .. | .mapLineRebuildEnd .. => true
    | _ => false

/-- Commands that may change engines and jobs. -/
def jobsOp (i : Instr) : Bool :=
  coreOp i || chipOp i || tableOp i || match i with
    | .registerWrite .. | .fatalEntry .. | .perstAssert .. | .linkLossEffect .. | .pfFunctionLevelReset .. | .pfCcEnClear .. |
      .heldTicketResume .. | .capsuleReceived .. | .h2cDataPdu .. | .connectionClosed .. | .heldCompletionPost .. |
      .heldWriteBufferEntry .. | .commandCompletion .. | .read .. | .write .. | .flush .. | .compare .. | .fusedCompareAndWrite .. |
      .writeZeroes .. | .datasetManagement .. | .verify .. | .copy .. | .deleteIoSubmissionQueue .. | .abort .. |
      .restoreInstallComplete .. | .parcelResetEffect .. | .teardownEnd .. | .queuedResetEffect .. | .channelTrainingEnd .. |
      .channelRetrainEnd .. | .flashReadReady .. | .softDecodeComplete .. | .dieLost .. | .compress .. | .decompress .. |
      .czOpenContext .. | .czCloseContext .. | .dgOpenContext .. | .dgUpdate .. | .dgCloseContext .. | .engineJobEnd .. |
      .nsTapAttach .. | .encrypt .. | .decrypt .. | .gcmGranuleStart .. | .gcmPlaintextWriteoutEnd .. | .gcmVerify .. |
      .gcmDecryptAfterVerify .. | .aesKwUnwrap .. | .keyInstallEffect .. | .keyErasureEffect .. | .memoryCopy .. |
      .invocationCompletionPost .. | .cascadeMarkReceived .. | .matchChainDrive .. | .cascadeAnswerReceived .. |
      .cascadeMarkMissing .. | .surveyorRead .. | .dmaDescriptorEnd .. | .dmaDescriptorHalt .. | .romStage .. | .mediaReady .. |
      .powerFailStop .. | .keepAliveTimeout .. | .mapLineRebuildEnd .. => true
    | _ => false

/-- Commands that may change packets and the reply cache. -/
def packetsOp (i : Instr) : Bool :=
  coreOp i || chipOp i || tableOp i || match i with
    | .fatalEntry .. | .linkLossEffect .. | .parcelSaveComplete .. | .restoreInstallComplete .. | .parcelResetEffect .. |
      .teardownEnd .. | .queuedResetEffect .. | .parcelFreezeEffect .. | .parcelDrained .. | .retirementTeardownEnd .. |
      .keyInstallEffect .. | .keyErasureEffect .. | .fuseBlowComplete .. | .invocationCompletionPost .. | .cascadeMarkReceived .. |
      .cascadeMembershipEffect .. | .surveyorRead .. | .romStage .. | .mediaReady .. | .pwrFailSeen .. | .railUndervoltage .. |
      .powerFailStop .. | .energyTestEnd .. | .energyTestSettleTimeout .. => true
    | _ => false

/-- Commands that may change ports and connections. -/
def portsOp (i : Instr) : Bool :=
  coreOp i || chipOp i || tableOp i || match i with
    | .registerWrite .. | .fatalEntry .. | .perstAssert .. | .perstDeassert .. | .dlDown .. | .linkLossEffect .. |
      .vfFunctionLevelReset .. | .pfFunctionLevelReset .. | .pfCcEnClear .. | .vfCcEnClear .. | .ccEnSet .. | .busMasterEnableSet .. |
      .heldTicketResume .. | .pmcsrD3hotWrite .. | .msixPendingDelivery .. | .getVersion .. | .getCapabilities .. |
      .negotiateAlgorithms .. | .getDigests .. | .getCertificate .. | .challenge .. | .getMeasurements .. | .ecnMarkedPacket .. |
      .cnpReceived .. | .connect .. | .propertySet .. | .keepAlive .. | .capsuleReceived .. | .receiveBufferRepost .. |
      .rdmaReadResponse .. | .icreq .. | .h2cDataPdu .. | .connectionClosed .. | .discoveryLogChange .. | .mctpControlMessage .. |
      .subsystemHealthStatusPoll .. | .controllerHealthStatusPoll .. | .configurationSet .. | .vpdWrite .. | .sqTailDoorbell .. |
      .cqHeadDoorbell .. | .heldCompletionPost .. | .hazardReleaseStart .. | .orderedCommandStart .. | .commandCompletion .. |
      .deleteIoSubmissionQueue .. | .getLogPageErrorInformation .. | .getLogPageSmartHealth .. | .getLogPageFirmwareSlot .. |
      .getLogPageCommandsSupported .. | .getLogPageDeviceSelfTest .. | .abort .. | .setFeaturesArbitration .. |
      .setFeaturesTemperatureThreshold .. | .setFeaturesErrorRecovery .. | .setFeaturesVolatileWriteCache .. |
      .setFeaturesInterruptCoalescing .. | .setFeaturesInterruptVectorConfig .. | .setFeaturesAsyncEventConfig .. |
      .setFeaturesKeepAliveTimer .. | .asynchronousEventRequest .. | .namespaceAttach .. | .namespaceDetach .. |
      .virtualizationManagement .. | .parcelResetEffect .. | .teardownEnd .. | .queuedResetEffect .. | .parcelFreezeEffect .. |
      .mailboxOutPost .. | .sealedEntry .. | .surveyorRead .. | .eventMsixDelivery .. | .romStage .. | .adminReady .. |
      .mediaReady .. | .powerFailStop .. | .busMasterEnableClear .. | .pfCcEnSet .. | .pcieLinkUp .. | .getLogPageDiscovery .. |
      .keepAliveTimeout .. | .mapLineRebuildEnd .. => true
    | _ => false

/-- Commands that may change programs, tasks and clusters. -/
def clustersOp (i : Instr) : Bool :=
  coreOp i || chipOp i || tableOp i || match i with
    | .registerWrite .. | .fatalEntry .. | .slicePreemption .. | .linkLossEffect .. | .parcelSaveComplete .. |
      .restoreInstallComplete .. | .parcelResetEffect .. | .queuedResetEffect .. | .coreMaskEffect .. | .engineJobEnd .. |
      .gcmPlaintextWriteoutEnd .. | .keyInstallEffect .. | .keyErasureEffect .. | .wayModeWrite .. | .wayModeChangeStart .. |
      .wayModeChangeComplete .. | .poolChangeEffect .. | .taskWake .. | .taskUnblock .. | .flowHandoff .. | .taskClusterMove .. |
      .loadProgram .. | .programActivate .. | .programDeactivate .. | .executeProgram .. | .memoryRangeSetCreate .. |
      .memoryRangeSetDelete .. | .slmRead .. | .slmWrite .. | .memoryCopy .. | .invocationBudgetEnd .. |
      .invocationCompletionPost .. | .surveyorRead .. | .powerFailStop .. | .clusterResetWrite .. | .clusterReset .. |
      .clusterResetComplete .. => true
    | _ => false

/-- Commands that may change power and firmware. -/
def powerOp (i : Instr) : Bool :=
  coreOp i || chipOp i || tableOp i || match i with
    | .fatalEntry .. | .durabilityModeChange .. | .firmwareImageDownload .. | .firmwareCommit .. | .rowRepairSwitch .. |
      .surveyorRead .. | .temperatureMinimumReached .. | .romStage .. | .adminReady .. | .mediaReady .. | .pwrFailSeen .. |
      .railUndervoltage .. | .powerFailStop .. | .bankSettled .. | .energyTestEnd .. | .energyTestSettleTimeout .. |
      .holdupRetest .. | .lifeRecordUpdate .. => true
    | _ => false

/-- Commands that may change events. -/
def eventsOp (i : Instr) : Bool :=
  coreOp i || chipOp i || tableOp i || match i with
    | .registerWrite .. | .frameMark .. | .syntheticOverrunRecord .. | .auditComparison .. | .staleMessageDiscard .. |
      .fatalEntry .. | .slicePreemption .. | .linkLossEffect .. | .ethLinkLost .. | .connect .. | .capsuleReceived .. |
      .rdmaReadResponse .. | .h2cDataPdu .. | .discoveryLogChange .. | .heldWriteBufferEntry .. | .durabilityModeChange .. |
      .budgetLowered .. | .read .. | .write .. | .flush .. | .compare .. | .fusedCompareAndWrite .. | .writeZeroes .. |
      .datasetManagement .. | .verify .. | .copy .. | .parcelSaveComplete .. | .restoreInstallComplete .. | .parcelResetEffect .. |
      .teardownEnd .. | .queuedResetEffect .. | .parcelFreezeEffect .. | .parcelDrained .. | .retirementTeardownEnd .. |
      .mailboxPostVisible .. | .snapshotRecordsWritten .. | .blockEraseRelease .. | .toPageConversionEnd .. |
      .toSheetConversionEnd .. | .resurveyStart .. | .wearLevelMove .. | .rebuildEnd .. | .sealedEntry .. | .sealedExit .. |
      .channelTrainingEnd .. | .channelRetrainEnd .. | .flashReadReady .. | .softDecodeComplete .. | .flashEraseDone .. |
      .dieLost .. | .compress .. | .decompress .. | .czOpenContext .. | .czCloseContext .. | .dgOpenContext .. | .dgUpdate .. |
      .dgCloseContext .. | .engineJobEnd .. | .tapHoldTimeout .. | .encrypt .. | .decrypt .. | .gcmPlaintextWriteoutEnd .. |
      .gcmVerify .. | .gcmDecryptAfterVerify .. | .aesKwUnwrap .. | .keyInstallEffect .. | .keyErasureEffect .. |
      .fuseBlowComplete .. | .healthTestFailure .. | .startupTestRetry .. | .wayModeChangeComplete .. | .poolChangeEffect .. |
      .executeProgram .. | .slmRead .. | .slmWrite .. | .memoryCopy .. | .invocationBudgetEnd .. | .invocationCompletionPost .. |
      .shadowComparison .. | .cascadeMarkReceived .. | .cascadeBatchSearch .. | .matchChainDrive .. | .cascadeAnswerReceived .. |
      .cascadeMarkMissing .. | .cascadeMembershipEffect .. | .caParityAlert .. | .mr4Read .. | .rowRepairSwitch .. |
      .surveyorRead .. | .surveyorLapEnd .. | .dmaGo .. | .dmaStop .. | .dmaDescriptorStart .. | .dmaDescriptorEnd .. |
      .dmaDescriptorHalt .. | .dxCqHeadWrite .. | .eventMsixDelivery .. | .evTestRaise .. | .evRouteWrite .. | .romStage .. |
      .adminReady .. | .mediaReady .. | .pwrFailSeen .. | .railUndervoltage .. | .powerFailStop .. | .energyTestEnd .. |
      .energyTestSettleTimeout .. | .clusterReset .. | .clusterResetComplete .. | .mapLineRebuildEnd .. => true
    | _ => false

/-- Commands that may change the frame and the ledgers. -/
def framesOp (i : Instr) : Bool :=
  coreOp i || chipOp i || tableOp i || match i with
    | .registerWrite .. | .diagOverrunFire .. | .syntheticOverrunRecord .. | .auditSnapshot .. | .auditComparison .. |
      .discardedGranuleReturn .. | .staleMessageDiscard .. | .fatalEntry .. | .perstAssert .. | .linkLossEffect .. |
      .pfFunctionLevelReset .. | .pfCcEnClear .. | .heldTicketResume .. | .capsuleReceived .. | .rdmaReadResponse .. |
      .h2cDataPdu .. | .connectionClosed .. | .heldCompletionPost .. | .heldWriteBufferEntry .. | .commandCompletion .. | .read .. |
      .write .. | .flush .. | .compare .. | .fusedCompareAndWrite .. | .writeZeroes .. | .datasetManagement .. | .verify .. |
      .copy .. | .deleteIoSubmissionQueue .. | .abort .. | .parcelSaveComplete .. | .restoreInstallComplete .. |
      .parcelResetEffect .. | .queuedResetEffect .. | .retirementTeardownEnd .. | .channelTrainingEnd .. | .channelRetrainEnd .. |
      .flashReadReady .. | .softDecodeComplete .. | .dieLost .. | .compress .. | .decompress .. | .czOpenContext .. |
      .czCloseContext .. | .dgOpenContext .. | .dgUpdate .. | .dgCloseContext .. | .engineJobEnd .. | .encrypt .. | .decrypt .. |
      .gcmGranuleStart .. | .gcmPlaintextWriteoutEnd .. | .gcmVerify .. | .gcmDecryptAfterVerify .. | .aesKwUnwrap .. |
      .keyInstallEffect .. | .keyErasureEffect .. | .memoryCopy .. | .surveyorRead .. | .romStage .. | .mediaReady .. |
      .powerFailStop .. | .keepAliveTimeout .. | .mapLineRebuildEnd .. => true
    | _ => false

/-- Commands that may change the registers of the window. -/
def regsOp (i : Instr) : Bool :=
  coreOp i || chipOp i || tableOp i || match i with
    | .registerWrite .. | .frameMark .. | .frameCountLoRead .. | .syntheticOverrunRecord .. | .auditComparison .. |
      .staleMessageDiscard .. | .fatalEntry .. | .slicePreemption .. | .perstAssert .. | .linkLossEffect .. |
      .pfFunctionLevelReset .. | .pfCcEnClear .. | .heldTicketResume .. | .challenge .. | .getMeasurements .. | .ethLinkUp .. |
      .ethLinkLost .. | .connect .. | .capsuleReceived .. | .rdmaReadResponse .. | .h2cDataPdu .. | .connectionClosed .. |
      .discoveryLogChange .. | .tunnelledAdminCommand .. | .heldCompletionPost .. | .heldWriteBufferEntry .. | .commandCompletion .. |
      .durabilityModeChange .. | .budgetLowered .. | .read .. | .write .. | .flush .. | .compare .. | .fusedCompareAndWrite .. |
      .writeZeroes .. | .datasetManagement .. | .verify .. | .copy .. | .deleteIoSubmissionQueue .. | .abort .. |
      .parcelSaveComplete .. | .restoreInstallComplete .. | .parcelResetEffect .. | .teardownEnd .. | .queuedResetEffect .. |
      .parcelFreezeEffect .. | .parcelDrained .. | .retirementTeardownEnd .. | .mailboxSlotWrite .. | .mailboxInPost .. |
      .mailboxOutPost .. | .mailboxPostVisible .. | .mailboxInConsume .. | .shareWrite .. | .coreMaskWrite .. |
      .snapIntervalWrite .. | .meterLoRead .. | .snapLastLoRead .. | .snapshotRecordsWritten .. | .stripePadTimeout .. |
      .stripeProgramComplete .. | .blockEraseRelease .. | .sheetFoldStart .. | .sheetFoldEnd .. | .conversionWindowEnd .. |
      .toPageConversionEnd .. | .toSheetConversionEnd .. | .resurveyStart .. | .wearLevelMove .. | .rebuildEnd .. | .sealedEntry .. |
      .sealedExit .. | .tablesBudgetWrite .. | .capacityLoRead .. | .channelTrainingEnd .. | .channelRetrain .. |
      .channelRetrainEnd .. | .suspendEntered .. | .flashReadReady .. | .softDecodeComplete .. | .flashProgramDone .. |
      .flashEraseDone .. | .dieLost .. | .corrBitsRead .. | .compress .. | .decompress .. | .czOpenContext .. | .czCloseContext .. |
      .dgOpenContext .. | .dgUpdate .. | .dgCloseContext .. | .engineJobEnd .. | .nsTapWrite .. | .nsTapAttach .. |
      .tapHoldTimeout .. | .encrypt .. | .decrypt .. | .gcmPlaintextWriteoutEnd .. | .gcmVerify .. | .gcmDecryptAfterVerify .. |
      .aesKwUnwrap .. | .keyInstallEffect .. | .keyErasureEffect .. | .fuseBlowComplete .. | .healthTestFailure .. |
      .startupTestRetry .. | .drbgReseed .. | .wayModeWrite .. | .wayModeChangeStart .. | .wayModeChangeComplete .. |
      .wayOwnerWrite .. | .poolWrite .. | .poolChangeEffect .. | .executeProgram .. | .slmRead .. | .slmWrite .. | .memoryCopy .. |
      .invocationBudgetEnd .. | .invocationCompletionPost .. | .shadowComparison .. | .cascadeLinkTrained .. |
      .cascadeMarkReceived .. | .cascadeBatchSearch .. | .matchChainDrive .. | .cascadeAnswerReceived .. | .cascadeMarkMissing .. |
      .cascadeMembershipEffect .. | .gzThrottleRead .. | .caParityAlert .. | .portQosWrite .. | .refreshDue .. |
      .owedRefreshIssue .. | .mr4Read .. | .rowRepairSwitch .. | .surveyorRead .. | .surveyorLapEnd .. | .lastErrLoRead .. |
      .dmaGo .. | .dmaStop .. | .dmaDescriptorStart .. | .dmaDescriptorEnd .. | .dmaDescriptorHalt .. | .dxCqHeadWrite .. |
      .dxCqConfigWrite .. | .evPendingClear .. | .evTestRaise .. | .evRouteWrite .. | .mgInflightRead .. | .fecUncorrRead .. |
      .romStage .. | .adminReady .. | .mediaReady .. | .pwrFailSeen .. | .railUndervoltage .. | .powerFailStop .. |
      .energyTestEnd .. | .energyTestSettleTimeout .. | .clusterReset .. | .clusterResetComplete .. | .lifeRecordUpdate .. |
      .keepAliveTimeout .. | .mapLineRebuildEnd .. => true
    | _ => false

def memoryKept : Prop := ∀ i s t, exec i s = .next t → memoryOp i = false → t.dr.mem = s.dr.mem ∧ t.dr.words = s.dr.words
def dramKept : Prop := ∀ i s t, exec i s = .next t → dramOp i = false → t.dr = s.dr
def coresKept : Prop := ∀ i s t, exec i s = .next t → coresOp i = false → t.cs.cores = s.cs.cores
def keysKept : Prop := ∀ i s t, exec i s = .next t → keysOp i = false → t.ks = s.ks
def gazKept : Prop := ∀ i s t, exec i s = .next t → gazOp i = false → t.gz = s.gz
def pagesKept : Prop := ∀ i s t, exec i s = .next t → pagesOp i = false → t.fl.pages = s.fl.pages
def flashKept : Prop := ∀ i s t, exec i s = .next t → flashOp i = false → t.fl = s.fl
def atlasKept : Prop := ∀ i s t, exec i s = .next t → atlasOp i = false → t.atl = s.atl
def queuesKept : Prop := ∀ i s t, exec i s = .next t → queuesOp i = false → t.cq = s.cq
def parcelsKept : Prop := ∀ i s t, exec i s = .next t → parcelsOp i = false → t.pc = s.pc
def jobsKept : Prop := ∀ i s t, exec i s = .next t → jobsOp i = false → t.en = s.en
def packetsKept : Prop := ∀ i s t, exec i s = .next t → packetsOp i = false → t.mg = s.mg
def portsKept : Prop := ∀ i s t, exec i s = .next t → portsOp i = false → t.host = s.host
def clustersKept : Prop := ∀ i s t, exec i s = .next t → clustersOp i = false → t.cs = s.cs
def powerKept : Prop := ∀ i s t, exec i s = .next t → powerOp i = false → t.pw = s.pw
def eventsKept : Prop := ∀ i s t, exec i s = .next t → eventsOp i = false → t.ev = s.ev
def framesKept : Prop := ∀ i s t, exec i s = .next t → framesOp i = false → t.fr = s.fr
def regsKept : Prop := ∀ i s t, exec i s = .next t → regsOp i = false → t.regs = s.regs

/-! ## The whole machine -/

/-- A step takes the front command and runs it with the rest of the queue. -/
def runsFront : Prop := ∀ c s, step { s with pending := c :: s.pending } = exec c s
/-- With nothing waiting the device idles (the model's choice, log 2). -/
def idles : Prop := ∀ s, s.pending = [] → step s = .next s
/-- A command answers a next state, whatever the state (R9, R11, log 1). -/
def answersAlways : Prop := ∀ i s, ∃ t, exec i s = .next t
/-- No command changes what waits behind it. -/
def queueKept : Prop := ∀ i s t, exec i s = .next t → t.pending = s.pending

/-- What the registers of the window read after power-on reset, from the Reset columns (R12): one register of each block. -/
def resetColumns : Prop := ∀ x ∈ [(FR_ID, 0x9640B110), (FR_FRAME_PERIOD, 0x03E80000), (FR_FRAME_MARK, 0x80000014),
    (FR_OVERRUN_EVENT_EN, 7), (FR_AUDIT_GRANULES, 0x4000), (PW_STATUS, 0x20000000), (PW_HOLDUP_CFG, 0x00210000),
    (EV_PENDING 3, 0), (EV_MASK 5, 0xFFFFFFFF), (HQ_TICKETS_FREE, 0x4000), (PC_DEPTH 17 2, 0x40), (PC_SNAP_INTERVAL, 0x07270E00),
    (AT_MEDIA_STATE, 0x04000000), (AT_SPARE, 0x64000000), (AT_WEAR, 0x1F4), (AT_CONVERT, 0x84000040), (FC_STATUS 31, 0x20000000),
    (FC_CONFIG 0, 0xE800F408), (FC_ERR_THRESHOLD 7, 0x400), (CZ_ARB, 0x208), (DG_ARB, 0x108), (CP_ARB, 0x208), (CP_STATES, 0x80),
    (KS_TRUST, 0x10000000), (TC_BEARING 2, 0x80000004), (TS_TASKS, 0x10000), (TS_FLOWS, 0x4000), (TS_AFFINITY, 0x40004),
    (GZ_ARB, 0x208), (DM_PAGE, 0xFA), (DM_DISTURB, 0xA), (EC_SURVEY, 0x80000200)], regNat State.reset x.1 = x.2
/-- The ROM has not begun, no function is enabled, no parcel, ticket, packet, job, task or projection stands, nothing is loaded and no
command waits (R12, R733, R735). -/
def resetEmpty : Prop := State.reset.pending = [] ∧ State.reset.out = [] ∧ stage State.reset = 1 ∧ State.reset.pw.rom = .waiting ∧
  State.reset.fr.released = false ∧ State.reset.fr.count = 0 ∧ State.reset.pc.parcels = [] ∧ State.reset.cq.tickets = [] ∧
  State.reset.mg.flights = [] ∧ State.reset.en.jobs = [] ∧ State.reset.cs.tasks = [] ∧ State.reset.host.conns = [] ∧
  State.reset.dr.mem = [] ∧ State.reset.dr.words = [] ∧ State.reset.ks.slots = [] ∧ State.reset.gz.entries = [] ∧
  State.reset.fl.dies = [] ∧ State.reset.atl.dir = [] ∧ State.reset.cs.cores = [] ∧
  ∀ a, regRaw State.reset a = regReset a

/-! Invariants -/

/-- Staging granules: what the four holders hold makes 16,384, and so did the snapshot of an audit (R43, R52). -/
def granulesStand (s : State) : Prop := granulesWhole s ∧ ∀ x, s.fr.snap = some x → x.sum = 16384 ∧ x.tokens.length = 4
/-- Credits: of every connection, granted = consumed + returned + outstanding (R43, R83). -/
def creditsStand (s : State) : Prop :=
  ∀ e ∈ s.host.conns, e.2.granted = e.2.consumed + e.2.returned + e.2.outstanding
/-- Memory is listed in its canonical form, octets and words: rising, without a zero. -/
def memoryCanonical (s : State) : Prop := Memory.wf s.dr.mem = true ∧ tabSorted s.dr.words = true ∧ ∀ e ∈ s.dr.words, e.2 ≠ 0
/-- The tables of the map are in order. -/
def mapOrdered (a : AtlasSt) : Prop :=
  tabSorted a.nss = true ∧ tabSorted a.dir = true ∧ tabSorted a.tabs = true ∧ tabSorted a.overlays = true ∧ tabSorted a.wbuf = true ∧
    tabSorted a.stripes = true
/-- The cadastre is in order, with a balance of each class for every parcel. -/
def cadastreOrdered (p : ParSt) : Prop :=
  tabSorted p.parcels = true ∧ tabSorted p.saves = true ∧ ∀ e ∈ p.parcels, e.2.bal.length = 4
/-- Maps and cadastres, those that a dump or the system pairs hold too. -/
def recordsOrdered (s : State) : Prop :=
  mapOrdered s.atl ∧ cadastreOrdered s.pc ∧ mapOrdered s.pw.kept.atl ∧ cadastreOrdered s.pw.kept.pc ∧
    (∀ d, s.pw.dump = some d → mapOrdered d.atl ∧ cadastreOrdered d.pc) ∧ s.fr.grants.length = 4
/-- Tables of queues, tickets, connections, packets, jobs and tasks. -/
def workOrdered (s : State) : Prop :=
  tabSorted s.cq.tickets = true ∧ tabSorted s.cq.sqs = true ∧ tabSorted s.cq.cqs = true ∧ tabSorted s.host.conns = true ∧
    tabSorted s.mg.flights = true ∧ tabSorted s.en.jobs = true ∧ tabSorted s.en.cz = true ∧ tabSorted s.en.dg = true ∧
    tabSorted s.cs.tasks = true ∧ tabSorted s.cs.flows = true ∧ tabSorted s.cs.invs = true ∧ tabSorted s.cs.ranges = true ∧
    tabSorted s.cs.sets = true ∧ tabSorted s.cs.progs = true ∧ tabSorted s.gz.entries = true ∧ tabSorted s.gz.ctxs = true ∧
    tabSorted s.fl.dies = true
/-- A line's data is whole: 64 octets, or 16 words. -/
def dataWhole : LineData → Prop
  | .octets o => o.length = 64
  | .words w => w.length = 16
/-- Caches: lines and fills in order and whole. -/
def cachesOrdered (s : State) : Prop :=
  (∀ k ∈ s.cs.clusters, tabSorted k.2.lines = true ∧ tabSorted k.2.fills = true ∧
    (∀ e ∈ k.2.lines, ∀ d, e.2.data = some d → dataWhole d) ∧ ∀ e ∈ k.2.fills, dataWhole e.2.data) ∧
  ∀ k ∈ s.cs.cores, tabSorted k.2.icache = true
/-- A step from a state of which `P` holds ends in one. -/
def kept (P : State → Prop) : Prop := ∀ s t, P s → step s = .next t → P t

end Sys2Proof.Says

/-- O1. A step runs the front command with the rest of the queue. -/
def Obligations.StepRunsFront : Prop :=
  Says.runsFront ∧ Says.idles

/-- O2. Every command answers a next state. -/
def Obligations.NoCommandStops : Prop :=
  Says.answersAlways

/-- O3. What power-on reset leaves. -/
def Obligations.ResetState : Prop :=
  Says.resetColumns ∧ Says.resetEmpty

/-- O4. The invariants hold at reset. -/
def Obligations.InvariantsAtReset : Prop :=
  Says.granulesStand State.reset ∧ Says.creditsStand State.reset ∧ Says.memoryCanonical State.reset ∧
    Says.recordsOrdered State.reset ∧ Says.workOrdered State.reset ∧ Says.cachesOrdered State.reset

/-- O5. Words of the worked examples decode, and conditions hold by their codes. -/
def Obligations.WordsDecode : Prop :=
  decodePaired 0x400000000 = .ops [.movi 0 0] ∧ decodePaired 0x4E2050004 = .ops [.ldo32u 4 1 (.post 4)] ∧
    decodePaired 0x581FFFFFE = .ops [.b 1 (-2)] ∧ decodePaired 0x5C0000000 = .ops [.ret] ∧
    decodePaired 0x2C2820000 = .ops [.movhi 5 0x20000] ∧ decodePaired 0x232940800 = .ops [.ori 5 5 0x800] ∧
    decodePaired 0x5B0140000 = .ops [.callr 5] ∧ decodePaired 0 = .trap 1 0 ∧ Says.conditions

/-- O6. Decoding an encoded long operation gives it back. -/
def Obligations.EncodeDecode : Prop :=
  ∀ i, Says.encodable i → Says.encodes i

/-- O7. Staging granules are conserved by every step. -/
def Obligations.GranulesKept : Prop :=
  Says.kept Says.granulesStand

/-- O8. Flow credits are conserved by every step. -/
def Obligations.CreditsKept : Prop :=
  Says.kept Says.creditsStand

/-- O9. Memory keeps its canonical form. -/
def Obligations.MemoryCanonicalKept : Prop :=
  Says.kept Says.memoryCanonical

/-- O10. The map and the cadastre stay in order. -/
def Obligations.RecordsOrderedKept : Prop :=
  Says.kept Says.recordsOrdered

/-- O11. Tables of work stay in order. -/
def Obligations.WorkOrderedKept : Prop :=
  Says.kept Says.workOrdered

/-- O12. Caches stay in order and their lines whole. -/
def Obligations.CachesOrderedKept : Prop :=
  Says.kept Says.cachesOrdered

/-- O13. No command changes what waits behind it. -/
def Obligations.QueueUntouched : Prop :=
  Says.queueKept

/-- O14. Which commands leave DRAM, scratchpad, cores and clusters alone. -/
def Obligations.FrameMemory : Prop :=
  Says.memoryKept ∧ Says.dramKept ∧ Says.coresKept ∧ Says.clustersKept

/-- O15. Which commands leave the media, keys, jobs, the Gazetteer and parcels alone. -/
def Obligations.FrameUnits : Prop :=
  Says.pagesKept ∧ Says.flashKept ∧ Says.atlasKept ∧ Says.keysKept ∧ Says.jobsKept ∧ Says.gazKept ∧
    Says.parcelsKept

/-- O16. Which commands leave queues, ports, packets, power, events, the frame and registers alone. -/
def Obligations.FrameFront : Prop :=
  Says.queuesKept ∧ Says.portsKept ∧ Says.packetsKept ∧ Says.powerKept ∧ Says.eventsKept ∧ Says.framesKept ∧
    Says.regsKept

/-- O17. Additions, subtractions and comparisons. -/
def Obligations.Sums : Prop :=
  Says.add ∧ Says.adc ∧ Says.addi ∧ Says.addq ∧ Says.sub ∧ Says.sbc ∧ Says.subq ∧ Says.neg ∧ Says.cmp ∧
    Says.cmpi ∧ Says.cmpq

/-- O18. Logical operations, CLZ and POPC. -/
def Obligations.Logic : Prop :=
  Says.and3 ∧ Says.or3 ∧ Says.xor3 ∧ Says.andn ∧ Says.not2 ∧ Says.tst ∧ Says.andi ∧ Says.ori ∧ Says.xori ∧
    Says.clz ∧ Says.popc

/-- O19. EXT, EXTS and INS. -/
def Obligations.BitFields : Prop :=
  Says.ext ∧ Says.exts ∧ Says.ins ∧ Says.fieldsOut

/-- O20. Shifts and rotations. -/
def Obligations.Shifts : Prop :=
  Says.shl ∧ Says.shr ∧ Says.sar ∧ Says.ror ∧ Says.shli ∧ Says.shri ∧ Says.sari ∧ Says.rori ∧ Says.shlq ∧
    Says.shrq ∧ Says.sarq

/-- O21. Multiplication and division. -/
def Obligations.MultiplyDivide : Prop :=
  Says.mulu ∧ Says.muls ∧ Says.divu ∧ Says.divs ∧ Says.oddPairs

/-- O22. Moves, selection and flags in a register, NOP and SYNC. -/
def Obligations.Moves : Prop :=
  Says.mov ∧ Says.movq ∧ Says.movi ∧ Says.movhi ∧ Says.sel ∧ Says.mff ∧ Says.mtf ∧ Says.nop ∧ Says.sync

/-- O23. System registers, branches, calls and returns. -/
def Obligations.ControlFlow : Prop :=
  Says.mfsr ∧ Says.mtsr ∧ Says.branch ∧ Says.call ∧ Says.jmpr ∧ Says.callr ∧ Says.ret ∧ Says.rett

/-- O24. Loads and what they read. -/
def Obligations.Loads : Prop :=
  Says.ldw ∧ Says.ldo8u ∧ Says.ldo8s ∧ Says.ldo16u ∧ Says.ldo16s ∧ Says.ldo32u ∧ Says.ldo32s ∧ Says.ldo64 ∧
    Says.loadsSee

/-- O25. Stores and where they write. -/
def Obligations.Stores : Prop :=
  Says.stw ∧ Says.sto8 ∧ Says.sto16 ∧ Says.sto32 ∧ Says.sto64 ∧ Says.storesReach ∧ Says.scratchReached

/-- O26. Where a data access traps. -/
def Obligations.Accesses : Prop :=
  Says.accessTraps ∧ Says.machineChecks ∧ Says.baseConflicts

/-- O27. Illegal instructions, privilege and stopped cores. -/
def Obligations.DecodeTraps : Prop :=
  Says.illegalInstruction ∧ Says.privileged ∧ Says.laneTraps ∧ Says.nestedStops

/-- O28. Projections translate addresses. -/
def Obligations.Translation : Prop :=
  Says.translates

/-- O29. Cache maintenance. -/
def Obligations.CacheOperations : Prop :=
  Says.clean ∧ Says.inval ∧ Says.cleanInval ∧ Says.unlock ∧ Says.zero ∧ Says.lock ∧ Says.cleanRange ∧
    Says.invalRange ∧ Says.cleanInvalRange ∧ Says.invalI

/-- O30. Supervisor calls of tasks and flows. -/
def Obligations.TaskCalls : Prop :=
  Says.frameCall ∧ Says.unknownCall ∧ Says.exit ∧ Says.yield ∧ Says.delay ∧ Says.spawn ∧ Says.flowOpen ∧
    Says.flowClose ∧ Says.flowReleaseCall ∧ Says.taskUnblocks ∧ Says.taskWakes

/-- O31. Supervisor calls to engines, and hand-offs. -/
def Obligations.EngineCalls : Prop :=
  Says.engineSubmit ∧ Says.gzSubmit ∧ Says.engineWait ∧ Says.handsOff ∧ Says.clusterMove ∧ Says.slicePreempted

/-- O32. Scratchpad ways and pools. -/
def Obligations.CacheWays : Prop :=
  Says.wayModeWrite ∧ Says.wayChangeStart ∧ Says.wayChangeComplete ∧ Says.wayOwnerWrite ∧ Says.poolWritten ∧
    Says.poolChange ∧ Says.waysAssigned

/-- O33. Programs and their execution. -/
def Obligations.Programs : Prop :=
  Says.programLoaded ∧ Says.programRefused ∧ Says.programActivate ∧ Says.programDeactivate ∧
    Says.executeStarts ∧ Says.executeRefused ∧ Says.budgetEnds ∧ Says.invocationPosts

/-- O34. Memory ranges and range sets. -/
def Obligations.MemoryRanges : Prop :=
  Says.rangeSetCreated ∧ Says.rangeSetDeleted ∧ Says.slmReads ∧ Says.slmWrites ∧ Says.rangeErrors ∧
    Says.memoryCopies ∧ Says.ranges ∧ Says.limitsSet

/-- O35. Register writes by the manager. -/
def Obligations.RegisterWrites : Prop :=
  Says.wordWritten ∧ Says.pairWritten ∧ Says.oddRefused ∧ Says.countRead

/-- O36. The frame counter, its mark and overruns. -/
def Obligations.FrameClock : Prop :=
  Says.boundaryCounts ∧ Says.marks ∧ Says.diagFires ∧ Says.synthetic

/-- O37. Grants, audits, discards and FATAL. -/
def Obligations.Ledgers : Prop :=
  Says.grantsTokens ∧ Says.snapshots ∧ Says.compares ∧ Says.discardsReturn ∧ Says.staleGoes ∧ Says.lateGoes ∧
    Says.tagsChecked ∧ Says.fatalEnters

/-- O38. Functions, links and ports. -/
def Obligations.HostLinks : Prop :=
  Says.busMaster ∧ Says.pendingSent ∧ Says.heldResumes ∧ Says.pfResets ∧ Says.controllersEnable ∧
    Says.vfResets ∧ Says.links ∧ Says.linkLost ∧ Says.ports ∧ Says.congestion ∧ Says.properties

/-- O39. Fabric connections. -/
def Obligations.Connections : Prop :=
  Says.icreqs ∧ Says.connects ∧ Says.connectsRefused ∧ Says.capsules ∧ Says.reposts ∧ Says.readResponses ∧
    Says.dataPdus ∧ Says.closes ∧ Says.discoveryChanges ∧ Says.keepAliveEnds

/-- O40. Management over MCTP: answers, VPD, tunnels and SPDM. -/
def Obligations.Sideband : Prop :=
  Says.controlMessages ∧ Says.sideband ∧ Says.vpd ∧ Says.tunnels ∧ Says.spdmOrder ∧ Says.spdmChain ∧
    Says.spdmSigned

/-- O41. Doorbells, completions and durability. -/
def Obligations.Rings : Prop :=
  Says.sqRings ∧ Says.cqRings ∧ Says.posts ∧ Says.internalEnds ∧ Says.waitersStart ∧ Says.durabilityChanges ∧
    Says.budgetLowers

/-- O42. I/O commands. -/
def Obligations.IoCommands : Prop :=
  Says.readsZero ∧ Says.readsDelivered ∧ Says.writes ∧ Says.zeroes ∧ Says.copies ∧ Says.flushes ∧ Says.fuses

/-- O43. Admin commands on queues, logs and features. -/
def Obligations.AdminCommands : Prop :=
  Says.createsSq ∧ Says.createsCq ∧ Says.deletesSq ∧ Says.deletesCq ∧ Says.logs ∧ Says.identifies ∧
    Says.abortsMissed ∧ Says.abortsCaught ∧ Says.features ∧ Says.featuresRead ∧ Says.eventRequests

/-- O44. Namespaces, formats, self-tests and firmware commands. -/
def Obligations.Namespaces : Prop :=
  Says.creates ∧ Says.deletes ∧ Says.deletesEffect ∧ Says.attaches ∧ Says.selfTests ∧ Says.virtualizes ∧
    Says.formats ∧ Says.firmware

/-- O45. Packets: intake, checks and queries. -/
def Obligations.PacketIntake : Prop :=
  Says.waitsForStep ∧ Says.requestsMade ∧ Says.checksFail ∧ Says.inflightRead ∧ Says.packetsFail ∧ Says.queries

/-- O46. Packets that take effect on a parcel. -/
def Obligations.ParcelPackets : Prop :=
  Says.created ∧ Says.configured ∧ Says.bound ∧ Says.unbound ∧ Says.paired ∧ Says.pairTaken ∧ Says.assigned ∧
    Says.enabled ∧ Says.thawed ∧ Says.saving ∧ Says.shared

/-- O47. Retirement, reset, freeze, save and restore of a parcel. -/
def Obligations.ParcelEnds : Prop :=
  Says.retires ∧ Says.retirementEnds ∧ Says.resets ∧ Says.resetsJoin ∧ Says.teardowns ∧ Says.freezes ∧
    Says.saveCompletes ∧ Says.restoreCompletes

/-- O48. Mailboxes, shares, masks and meters. -/
def Obligations.MailAndMeters : Prop :=
  Says.slotWrites ∧ Says.postsMade ∧ Says.postsVisible ∧ Says.consumes ∧ Says.sharesAndMasks ∧ Says.metersRead ∧
    Says.intervals ∧ Says.snapshotsWritten ∧ Says.heldWritten

/-- O49. Stripes, conversions and folds of the map. -/
def Obligations.MapUpkeep : Prop :=
  Says.stripePads ∧ Says.stripesComplete ∧ Says.erasesRelease ∧ Says.foldsStart ∧ Says.foldsEnd ∧
    Says.windowsEnd ∧ Says.toPageEnds ∧ Says.toSheetEnds

/-- O50. Reclaiming, rebuilding and the media registers. -/
def Obligations.MediaUpkeep : Prop :=
  Says.resurveys ∧ Says.victimLeast ∧ Says.wearMoves ∧ Says.rebuildsEnd ∧ Says.seals ∧ Says.budgetsWritten ∧
    Says.capacityReads ∧ Says.mapLinesEnd

/-- O51. Dies and channels. -/
def Obligations.FlashChannels : Prop :=
  Says.trainingsEnd ∧ Says.retrains ∧ Says.calibrates ∧ Says.suspends ∧ Says.readsRetry ∧ Says.movesRead ∧
    Says.readsEnd ∧ Says.softDecodes ∧ Says.programsEnd ∧ Says.erasesEnd ∧ Says.timeouts ∧ Says.diesLost ∧
    Says.corrBitsCleared

/-- O52. Engine jobs: compression and digests. -/
def Obligations.CompressionAndDigest : Prop :=
  Says.jobsRefused ∧ Says.jobsOther ∧ Says.compresses ∧ Says.decompresses ∧ Says.streams ∧ Says.digestContexts ∧
    Says.digests ∧ Says.jobsEndOnce

/-- O53. Cipher jobs, keys and entropy. -/
def Obligations.Ciphers : Prop :=
  Says.ciphers ∧ Says.gcmEncrypts ∧ Says.gcmDecrypts ∧ Says.gcmWritesOut ∧ Says.gcmGranuled ∧ Says.gcmVerifies ∧
    Says.unwraps ∧ Says.tapsWork ∧ Says.keysWait ∧ Says.unwrapsInstall ∧ Says.derivesInstall ∧ Says.erases ∧
    Says.erasureRevokes ∧ Says.keysQueried ∧ Says.entropyFails ∧ Says.entropySteps

/-- O54. Search, scan and the Cascade. -/
def Obligations.Gazetteer : Prop :=
  Says.gzRefused ∧ Says.winnerBest ∧ Says.searches ∧ Says.inserts ∧ Says.deletesWalks ∧ Says.scanContexts ∧
    Says.loads ∧ Says.scans ∧ Says.shadows ∧ Says.ringTrains ∧ Says.marksTravel ∧ Says.batches ∧ Says.chains ∧
    Says.answersArrive ∧ Says.membership ∧ Says.throttleRead ∧ Says.tablesCreated ∧ Says.gzPackets

/-- O55. DRAM, its protection and its survey. -/
def Obligations.DramUpkeep : Prop :=
  Says.caAlerts ∧ Says.portsShared ∧ Says.banksStep ∧ Says.refreshes ∧ Says.requestsChosen ∧ Says.codesCorrect ∧
    Says.temperatures ∧ Says.rowsSwitch ∧ Says.surveys ∧ Says.surveysSram ∧ Says.lapsEnd ∧ Says.lastErrReads

/-- O56. DMA descriptors and events. -/
def Obligations.DmaAndEvents : Prop :=
  Says.dmaGoes ∧ Says.dmaStops ∧ Says.dmaQueues ∧ Says.dmaStarts ∧ Says.dmaEnds ∧ Says.dmaEndsHost ∧
    Says.dmaNotYet ∧ Says.dmaHalts ∧ Says.raises ∧ Says.eventsDeliver ∧ Says.eventsClear ∧ Says.eventsTested ∧
    Says.routesWritten

/-- O57. Media packets and operators. -/
def Obligations.MediaPackets : Prop :=
  Says.formatsMedia ∧ Says.pins ∧ Says.retiresChannels ∧ Says.transforms ∧ Says.encryptionTurns ∧
    Says.holdupControls ∧ Says.operatorsLoad ∧ Says.operatorsInvoke ∧ Says.metersPackets

/-- O58. Firmware, configuration, diagnostics and events by packet. -/
def Obligations.FirmwarePackets : Prop :=
  Says.firmwarePackets ∧ Says.svnAdvances ∧ Says.overridesSet ∧ Says.diagDumps ∧ Says.eventsRead

/-- O59. Resets, the stages of boot and cluster resets. -/
def Obligations.BootAndResets : Prop :=
  Says.chipResets ∧ Says.restartsAfterFail ∧ Says.warms ∧ Says.romStages ∧ Says.adminReadies ∧
    Says.mediaReadies ∧ Says.livesCounted ∧ Says.clusterResetsAsked ∧ Says.clusterResets ∧ Says.clusterResetsEnd

/-- O60. Power failure, the dump and the energy test. -/
def Obligations.PowerFailure : Prop :=
  Says.powerFails ∧ Says.powerStops ∧ Says.dumpsEnd ∧ Says.energyRule ∧ Says.energyFails ∧ Says.energyTests
end

