-- ==== Sys2Proof/Laws/Table.lean ====
section
/-! SUPPORT. Sparse tables: what an operation leaves at a key, and that every operation keeps the keys strictly rising. -/
namespace Sys2Proof.Laws
open Sys2Proof.Machine

variable {α : Type}

/-! ## What is found -/

@[simp] theorem tabGet_nil (k : Nat) : tabGet ([] : Table α) k = none := rfl

@[simp] theorem tabGet_tabSet (t : Table α) (k : Nat) (a : α) : tabGet (tabSet t k a) k = some a := by
  induction t with
  | nil => simp [tabSet, tabGet]
  | cons e t ih =>
    obtain ⟨i, b⟩ := e
    simp only [tabSet]
    split
    · simp [tabGet]
    · split
      · simp [tabGet]
      · simp [tabGet, *]

theorem tabGet_tabSet_ne (t : Table α) {k j : Nat} (a : α) (h : j ≠ k) : tabGet (tabSet t k a) j = tabGet t j := by
  induction t with
  | nil => simp [tabSet, tabGet, Ne.symm h]
  | cons e t ih =>
    obtain ⟨i, b⟩ := e
    simp only [tabSet]
    split
    · subst_vars; simp [tabGet, Ne.symm h]
    · split
      · simp only [tabGet]
        repeat' split
        all_goals first | rfl | omega
      · simp only [tabGet, ih]

@[simp] theorem tabGetD_tabSet (t : Table α) (k : Nat) (a d : α) : tabGetD (tabSet t k a) k d = a := by simp [tabGetD]

theorem tabGetD_tabSet_ne (t : Table α) {k j : Nat} (a d : α) (h : j ≠ k) : tabGetD (tabSet t k a) j d = tabGetD t j d := by
  simp [tabGetD, tabGet_tabSet_ne t a h]

@[simp] theorem tabGetD_tabModD (t : Table α) (k : Nat) (d : α) (f : α → α) :
    tabGetD (tabModD t k d f) k d = f (tabGetD t k d) := by simp [tabModD]

theorem tabGetD_tabModD_ne (t : Table α) {k j : Nat} (d e : α) (f : α → α) (h : j ≠ k) :
    tabGetD (tabModD t k d f) j e = tabGetD t j e := tabGetD_tabSet_ne t _ e h

theorem tabGet_tabErase_ne (t : Table α) {k j : Nat} (h : j ≠ k) (hs : tabSorted t = true) :
    tabGet (tabErase t k) j = tabGet t j := by
  induction t with
  | nil => rfl
  | cons e t ih =>
    obtain ⟨i, b⟩ := e
    have ht : tabSorted t = true := by
      cases t with
      | nil => rfl
      | cons e2 t2 => obtain ⟨i2, b2⟩ := e2; simp [tabSorted] at hs; exact hs.2
    simp only [tabErase]
    split
    · rename_i hik
      subst hik
      simp only [tabGet]
      split
      · omega
      · split
        · rename_i hlt
          cases t with
          | nil => rfl
          | cons e2 t2 =>
            obtain ⟨i2, b2⟩ := e2
            simp [tabSorted] at hs
            have h2 : i2 ≠ j := by omega
            have h3 : j < i2 := by omega
            simp [tabGet, h2, h3]
        · rfl
    · split
      · rfl
      · simp only [tabGet, ih ht]

@[simp] theorem tabGet_tabMod (t : Table α) (k : Nat) (f : α → α) : tabGet (tabMod t k f) k = (tabGet t k).map f := by
  induction t with
  | nil => rfl
  | cons e t ih =>
    obtain ⟨i, b⟩ := e
    simp only [tabMod]
    split
    · simp [tabGet, *]
    · split
      · simp [tabGet, *]
      · simp [tabGet, *]

theorem tabGet_tabMod_ne (t : Table α) {k j : Nat} (f : α → α) (h : j ≠ k) : tabGet (tabMod t k f) j = tabGet t j := by
  induction t with
  | nil => rfl
  | cons e t ih =>
    obtain ⟨i, b⟩ := e
    simp only [tabMod]
    split
    · subst_vars; simp [tabGet, Ne.symm h]
    · split
      · rfl
      · simp only [tabGet, ih]

@[simp] theorem tabGet_tabMap (t : Table α) (f : Nat → α → α) (k : Nat) :
    tabGet (tabMap t f) k = (tabGet t k).map (f k) := by
  induction t with
  | nil => rfl
  | cons e t ih =>
    obtain ⟨i, b⟩ := e
    simp only [tabMap, List.map_cons, tabGet] at ih ⊢
    split
    · subst_vars; rfl
    · split
      · rfl
      · exact ih

/-! ## The canonical form -/

/-- Every key is at least `k`. -/
theorem tabSorted_tail {e : Nat × α} {t : Table α} (h : tabSorted (e :: t) = true) : tabSorted t = true := by
  cases t with
  | nil => rfl
  | cons e2 t2 => obtain ⟨i, b⟩ := e; obtain ⟨j, c⟩ := e2; simp [tabSorted] at h; exact h.2

/-- A table is sorted exactly where its keys rise pairwise. -/
theorem tabSorted_iff (t : Table α) : tabSorted t = true ↔ t.Pairwise fun x y => x.1 < y.1 := by
  induction t with
  | nil => simp [tabSorted]
  | cons e t ih =>
    cases t with
    | nil => simp [tabSorted]
    | cons e2 t2 =>
      obtain ⟨i, b⟩ := e
      obtain ⟨j, c⟩ := e2
      rw [List.pairwise_cons, ← ih]
      simp only [tabSorted, Bool.and_eq_true, decide_eq_true_eq]
      constructor
      · rintro ⟨h1, h2⟩
        refine ⟨?_, h2⟩
        intro x hx
        rcases List.mem_cons.1 hx with rfl | hx
        · exact h1
        · exact Nat.lt_trans h1 ((List.pairwise_cons.1 (ih.1 h2)).1 x hx)
      · rintro ⟨h1, h2⟩
        exact ⟨h1 (j, c) (List.mem_cons_self), h2⟩

theorem mem_tabSet {t : Table α} {k : Nat} {a : α} {e : Nat × α} (h : e ∈ tabSet t k a) : e = (k, a) ∨ e ∈ t := by
  induction t with
  | nil => simp [tabSet] at h; exact Or.inl h
  | cons x t ih =>
    obtain ⟨i, b⟩ := x
    simp only [tabSet] at h
    split at h
    · rcases List.mem_cons.1 h with h | h
      · exact Or.inl h
      · exact Or.inr (List.mem_cons_of_mem _ h)
    · split at h
      · rcases List.mem_cons.1 h with h | h
        · exact Or.inl h
        · exact Or.inr h
      · rcases List.mem_cons.1 h with h | h
        · exact Or.inr (h ▸ List.mem_cons_self)
        · exact (ih h).imp_right (List.mem_cons_of_mem _)

theorem mem_tabErase {t : Table α} {k : Nat} {e : Nat × α} (h : e ∈ tabErase t k) : e ∈ t := by
  induction t with
  | nil => simp [tabErase] at h
  | cons x t ih =>
    obtain ⟨i, b⟩ := x
    simp only [tabErase] at h
    split at h
    · exact List.mem_cons_of_mem _ h
    · split at h
      · exact h
      · rcases List.mem_cons.1 h with h | h
        · exact h ▸ List.mem_cons_self
        · exact List.mem_cons_of_mem _ (ih h)

theorem tabSorted_tabSet (t : Table α) (k : Nat) (a : α) (h : tabSorted t = true) : tabSorted (tabSet t k a) = true := by
  rw [tabSorted_iff] at h ⊢
  induction t with
  | nil => simp [tabSet]
  | cons e t ih =>
    obtain ⟨i, b⟩ := e
    rw [List.pairwise_cons] at h
    simp only [tabSet]
    split
    · subst_vars
      exact List.pairwise_cons.2 h
    · split
      · refine List.pairwise_cons.2 ⟨?_, List.pairwise_cons.2 h⟩
        intro x hx
        rcases List.mem_cons.1 hx with rfl | hx
        · assumption
        · have := h.1 x hx; simp only at this ⊢; omega
      · refine List.pairwise_cons.2 ⟨?_, ih h.2⟩
        intro x hx
        rcases mem_tabSet hx with rfl | hx
        · simp only; omega
        · exact h.1 x hx

theorem tabSorted_tabErase (t : Table α) (k : Nat) (h : tabSorted t = true) : tabSorted (tabErase t k) = true := by
  rw [tabSorted_iff] at h ⊢
  induction t with
  | nil => simp [tabErase]
  | cons e t ih =>
    obtain ⟨i, b⟩ := e
    rw [List.pairwise_cons] at h
    simp only [tabErase]
    split
    · exact h.2
    · split
      · exact List.pairwise_cons.2 h
      · exact List.pairwise_cons.2 ⟨fun x hx => h.1 x (mem_tabErase hx), ih h.2⟩

theorem tabSorted_filter (t : Table α) (p : Nat × α → Bool) (h : tabSorted t = true) : tabSorted (t.filter p) = true := by
  rw [tabSorted_iff] at h ⊢
  exact h.filter p

@[simp] theorem tabSorted_tabMap (t : Table α) (f : Nat → α → α) : tabSorted (tabMap t f) = tabSorted t := by
  induction t with
  | nil => rfl
  | cons e t ih =>
    cases t with
    | nil => rfl
    | cons e2 t2 => simp only [tabMap, List.map_cons, tabSorted] at ih ⊢; rw [ih]

/-- Erased, a key is not found: in a sorted table it stood once. -/
theorem tabGet_tabErase (t : Table α) (k : Nat) (hs : tabSorted t = true) : tabGet (tabErase t k) k = none := by
  rw [tabSorted_iff] at hs
  induction t with
  | nil => rfl
  | cons e t ih =>
    obtain ⟨i, b⟩ := e
    rw [List.pairwise_cons] at hs
    simp only [tabErase]
    split
    · subst_vars
      cases t with
      | nil => rfl
      | cons e2 t2 =>
        obtain ⟨i2, b2⟩ := e2
        have := hs.1 _ List.mem_cons_self
        simp only at this
        simp [tabGet, this, Nat.ne_of_gt this]
    · split
      · simp [tabGet, *]
      · simp [tabGet, *]

/-- What a table answers is its default or one of its entries. -/
theorem tabGetD_cases (t : Table α) (k : Nat) (d : α) : tabGetD t k d = d ∨ ∃ e ∈ t, tabGetD t k d = e.2 := by
  induction t with
  | nil => exact .inl rfl
  | cons e t ih =>
    have split : tabGetD (e :: t) k d = e.2 ∨ tabGetD (e :: t) k d = d ∨ tabGetD (e :: t) k d = tabGetD t k d := by
      obtain ⟨i, a⟩ := e
      simp only [tabGetD, tabGet]
      split
      · simp
      · split <;> simp
    rcases split with h | h | h
    · exact .inr ⟨e, by simp, h⟩
    · exact .inl h
    · rw [h]
      exact ih.imp id fun ⟨e, m, r⟩ => ⟨e, by simp [m], r⟩

/-- What a table answers is one of its entries. -/
theorem tabGet_mem {t : Table α} {k : Nat} {a : α} (h : tabGet t k = some a) : (k, a) ∈ t := by
  induction t with
  | nil => simp at h
  | cons e t ih =>
    obtain ⟨i, b⟩ := e
    simp only [tabGet] at h
    split at h
    · simp_all
    · split at h
      · simp at h
      · exact List.mem_cons_of_mem _ (ih h)

end Sys2Proof.Laws
end

