-- ==== Sys2Proof/Laws/Core.lean ====
section
/-! SUPPORT. A core's registers, flags and code pointer under the shared operations, and the course of an instruction. -/
namespace Sys2Proof.Laws
open Sys2Proof Sys2Proof.Machine

@[simp] theorem coreGet_coreMod (s : State) (c : Nat) (f : Core → Core) : coreGet (coreMod s c f) c = f (coreGet s c) := by
  simp [coreGet, coreMod]

theorem coreGet_coreMod_ne (s : State) {c d : Nat} (f : Core → Core) (h : d ≠ c) :
    coreGet (coreMod s c f) d = coreGet s d := by
  simp only [coreGet, coreMod]
  exact tabGetD_tabModD_ne _ _ _ _ h

/-- A core's change changes the table of cores alone. -/
theorem coreMod_only (s : State) (c : Nat) (f : Core → Core) :
    coreMod s c f = { s with cs := { s.cs with cores := (coreMod s c f).cs.cores } } := rfl

@[simp] theorem reg_coreMod (s : State) (c r : Nat) (f : Core → Core) :
    reg (coreMod s c f) c r = tabGetD (f (coreGet s c)).w (r % 32) 0 := by simp [reg]

@[simp] theorem flagsOf_coreMod (s : State) (c : Nat) (f : Core → Core) :
    flagsOf (coreMod s c f) c = (f (coreGet s c)).fl := by simp [flagsOf]

theorem coreGet_regSet (s : State) (c r : Nat) (v : Word) :
    coreGet (regSet s c r v) c = { coreGet s c with w := tabSet (coreGet s c).w (r % 32) v } := by simp [regSet]

@[simp] theorem reg_regSet (s : State) (c r : Nat) (v : Word) : reg (regSet s c r v) c r = v := by simp [regSet]

theorem reg_regSet_ne (s : State) (c : Nat) {r q : Nat} (v : Word) (h : q % 32 ≠ r % 32) :
    reg (regSet s c r v) c q = reg s c q := by
  simp only [regSet, reg, coreGet_coreMod]
  exact tabGetD_tabSet_ne _ _ _ h

theorem reg_mod (s : State) (c r : Nat) : reg s c (r % 32) = reg s c r := by simp [reg]

@[simp] theorem flagsOf_regSet (s : State) (c r : Nat) (v : Word) : flagsOf (regSet s c r v) c = flagsOf s c := by
  simp [regSet, flagsOf]

@[simp] theorem flagsOf_flagsSet (s : State) (c : Nat) (f : Flags) : flagsOf (flagsSet s c f) c = f := by simp [flagsSet]

@[simp] theorem reg_flagsSet (s : State) (c r : Nat) (f : Flags) : reg (flagsSet s c f) c r = reg s c r := by
  simp [flagsSet, reg]

@[simp] theorem reg_advance (s : State) (c r : Nat) (x : Pfx) : reg (advance s c x) c r = reg s c r := by
  simp [advance, reg]

@[simp] theorem flagsOf_advance (s : State) (c : Nat) (x : Pfx) : flagsOf (advance s c x) c = flagsOf s c := by
  simp [advance, flagsOf]

@[simp] theorem pc_advance (s : State) (c : Nat) (x : Pfx) : (coreGet (advance s c x) c).pc = nextPc s c x.enc := by
  simp [advance]

theorem nextPc_of_pc {s t : State} {c : Nat} (h : (coreGet t c).pc = (coreGet s c).pc) (e : Enc) :
    nextPc t c e = nextPc s c e := by simp [nextPc, h]

/-- An instruction that starts, whose operands are legal and whose PRED condition holds, has its effect (R544). -/
theorem instr_runs {s f : State} {c : Nat} {x : Pfx} {w : Word} (eff : State → State) (h1 : coreRuns s c = true)
    (h2 : encFits s c x = true) (h3 : atFetch s c x = (f, .word w))
    (h4 : (x.pred.all fun p => condHolds p (flagsOf f c)) = true) :
    instr s c x .ok eff = eff (pairKeep f c x) := by
  simp [instr, h1, h2, h3, h4]

/-- An instruction that starts but is illegal takes the illegal-instruction trap (R557). -/
theorem instr_traps {s f : State} {c d : Nat} {x : Pfx} {w : Word} (eff : State → State) (h1 : coreRuns s c = true)
    (h2 : encFits s c x = true) (h3 : atFetch s c x = (f, .word w)) :
    instr s c x (.bad d) eff = errorTrap f c 1 d (coreGet f c).pc := by
  simp [instr, h1, h2, h3]

/-- An instruction whose PRED condition fails only goes on (R544). -/
theorem instr_skips {s f : State} {c : Nat} {x : Pfx} {w : Word} (eff : State → State) (h1 : coreRuns s c = true)
    (h2 : encFits s c x = true) (h3 : atFetch s c x = (f, .word w))
    (h4 : (x.pred.all fun p => condHolds p (flagsOf f c)) = false) :
    instr s c x .ok eff = advance f c x := by
  simp [instr, h1, h2, h3, h4]

/-- An instruction whose fetch traps takes that trap (R529). -/
theorem instr_fetch_traps {s f : State} {c v d : Nat} {x : Pfx} {a : Word} (lg : Legal) (eff : State → State)
    (h1 : coreRuns s c = true) (h2 : encFits s c x = true) (h3 : atFetch s c x = (f, .trap v d a)) :
    instr s c x lg eff = errorTrap f c v d a := by
  simp [instr, h1, h2, h3]

end Sys2Proof.Laws
end

