-- ==== Sys2Proof/Laws/State.lean ====
section
/-! SUPPORT. What each update of the state leaves alone: one lemma a field and update, true by unfolding the record. -/
namespace Sys2Proof.Laws
open Sys2Proof Sys2Proof.Machine

/-! regPutFld changes `regs` alone. -/
@[simp] theorem regPutFld_pending (s : State) (a hi lo n : Nat) : (regPutFld s a hi lo n).pending = s.pending := rfl
@[simp] theorem regPutFld_out (s : State) (a hi lo n : Nat) : (regPutFld s a hi lo n).out = s.out := rfl
@[simp] theorem regPutFld_fresh (s : State) (a hi lo n : Nat) : (regPutFld s a hi lo n).fresh = s.fresh := rfl
@[simp] theorem regPutFld_fr (s : State) (a hi lo n : Nat) : (regPutFld s a hi lo n).fr = s.fr := rfl
@[simp] theorem regPutFld_host (s : State) (a hi lo n : Nat) : (regPutFld s a hi lo n).host = s.host := rfl
@[simp] theorem regPutFld_cq (s : State) (a hi lo n : Nat) : (regPutFld s a hi lo n).cq = s.cq := rfl
@[simp] theorem regPutFld_pc (s : State) (a hi lo n : Nat) : (regPutFld s a hi lo n).pc = s.pc := rfl
@[simp] theorem regPutFld_ev (s : State) (a hi lo n : Nat) : (regPutFld s a hi lo n).ev = s.ev := rfl
@[simp] theorem regPutFld_atl (s : State) (a hi lo n : Nat) : (regPutFld s a hi lo n).atl = s.atl := rfl
@[simp] theorem regPutFld_fl (s : State) (a hi lo n : Nat) : (regPutFld s a hi lo n).fl = s.fl := rfl
@[simp] theorem regPutFld_dr (s : State) (a hi lo n : Nat) : (regPutFld s a hi lo n).dr = s.dr := rfl
@[simp] theorem regPutFld_cs (s : State) (a hi lo n : Nat) : (regPutFld s a hi lo n).cs = s.cs := rfl
@[simp] theorem regPutFld_en (s : State) (a hi lo n : Nat) : (regPutFld s a hi lo n).en = s.en := rfl
@[simp] theorem regPutFld_ks (s : State) (a hi lo n : Nat) : (regPutFld s a hi lo n).ks = s.ks := rfl
@[simp] theorem regPutFld_mg (s : State) (a hi lo n : Nat) : (regPutFld s a hi lo n).mg = s.mg := rfl
@[simp] theorem regPutFld_pw (s : State) (a hi lo n : Nat) : (regPutFld s a hi lo n).pw = s.pw := rfl
@[simp] theorem regPutFld_gz (s : State) (a hi lo n : Nat) : (regPutFld s a hi lo n).gz = s.gz := rfl

/-! regPutBit changes `regs` alone. -/
@[simp] theorem regPutBit_pending (s : State) (a i : Nat) (b : Bool) : (regPutBit s a i b).pending = s.pending := rfl
@[simp] theorem regPutBit_out (s : State) (a i : Nat) (b : Bool) : (regPutBit s a i b).out = s.out := rfl
@[simp] theorem regPutBit_fresh (s : State) (a i : Nat) (b : Bool) : (regPutBit s a i b).fresh = s.fresh := rfl
@[simp] theorem regPutBit_fr (s : State) (a i : Nat) (b : Bool) : (regPutBit s a i b).fr = s.fr := rfl
@[simp] theorem regPutBit_host (s : State) (a i : Nat) (b : Bool) : (regPutBit s a i b).host = s.host := rfl
@[simp] theorem regPutBit_cq (s : State) (a i : Nat) (b : Bool) : (regPutBit s a i b).cq = s.cq := rfl
@[simp] theorem regPutBit_pc (s : State) (a i : Nat) (b : Bool) : (regPutBit s a i b).pc = s.pc := rfl
@[simp] theorem regPutBit_ev (s : State) (a i : Nat) (b : Bool) : (regPutBit s a i b).ev = s.ev := rfl
@[simp] theorem regPutBit_atl (s : State) (a i : Nat) (b : Bool) : (regPutBit s a i b).atl = s.atl := rfl
@[simp] theorem regPutBit_fl (s : State) (a i : Nat) (b : Bool) : (regPutBit s a i b).fl = s.fl := rfl
@[simp] theorem regPutBit_dr (s : State) (a i : Nat) (b : Bool) : (regPutBit s a i b).dr = s.dr := rfl
@[simp] theorem regPutBit_cs (s : State) (a i : Nat) (b : Bool) : (regPutBit s a i b).cs = s.cs := rfl
@[simp] theorem regPutBit_en (s : State) (a i : Nat) (b : Bool) : (regPutBit s a i b).en = s.en := rfl
@[simp] theorem regPutBit_ks (s : State) (a i : Nat) (b : Bool) : (regPutBit s a i b).ks = s.ks := rfl
@[simp] theorem regPutBit_mg (s : State) (a i : Nat) (b : Bool) : (regPutBit s a i b).mg = s.mg := rfl
@[simp] theorem regPutBit_pw (s : State) (a i : Nat) (b : Bool) : (regPutBit s a i b).pw = s.pw := rfl
@[simp] theorem regPutBit_gz (s : State) (a i : Nat) (b : Bool) : (regPutBit s a i b).gz = s.gz := rfl

/-! regInc changes `regs` alone. -/
@[simp] theorem regInc_pending (s : State) (a : Nat) : (regInc s a).pending = s.pending := rfl
@[simp] theorem regInc_out (s : State) (a : Nat) : (regInc s a).out = s.out := rfl
@[simp] theorem regInc_fresh (s : State) (a : Nat) : (regInc s a).fresh = s.fresh := rfl
@[simp] theorem regInc_fr (s : State) (a : Nat) : (regInc s a).fr = s.fr := rfl
@[simp] theorem regInc_host (s : State) (a : Nat) : (regInc s a).host = s.host := rfl
@[simp] theorem regInc_cq (s : State) (a : Nat) : (regInc s a).cq = s.cq := rfl
@[simp] theorem regInc_pc (s : State) (a : Nat) : (regInc s a).pc = s.pc := rfl
@[simp] theorem regInc_ev (s : State) (a : Nat) : (regInc s a).ev = s.ev := rfl
@[simp] theorem regInc_atl (s : State) (a : Nat) : (regInc s a).atl = s.atl := rfl
@[simp] theorem regInc_fl (s : State) (a : Nat) : (regInc s a).fl = s.fl := rfl
@[simp] theorem regInc_dr (s : State) (a : Nat) : (regInc s a).dr = s.dr := rfl
@[simp] theorem regInc_cs (s : State) (a : Nat) : (regInc s a).cs = s.cs := rfl
@[simp] theorem regInc_en (s : State) (a : Nat) : (regInc s a).en = s.en := rfl
@[simp] theorem regInc_ks (s : State) (a : Nat) : (regInc s a).ks = s.ks := rfl
@[simp] theorem regInc_mg (s : State) (a : Nat) : (regInc s a).mg = s.mg := rfl
@[simp] theorem regInc_pw (s : State) (a : Nat) : (regInc s a).pw = s.pw := rfl
@[simp] theorem regInc_gz (s : State) (a : Nat) : (regInc s a).gz = s.gz := rfl

/-! regAdd changes `regs` alone. -/
@[simp] theorem regAdd_pending (s : State) (a n : Nat) : (regAdd s a n).pending = s.pending := rfl
@[simp] theorem regAdd_out (s : State) (a n : Nat) : (regAdd s a n).out = s.out := rfl
@[simp] theorem regAdd_fresh (s : State) (a n : Nat) : (regAdd s a n).fresh = s.fresh := rfl
@[simp] theorem regAdd_fr (s : State) (a n : Nat) : (regAdd s a n).fr = s.fr := rfl
@[simp] theorem regAdd_host (s : State) (a n : Nat) : (regAdd s a n).host = s.host := rfl
@[simp] theorem regAdd_cq (s : State) (a n : Nat) : (regAdd s a n).cq = s.cq := rfl
@[simp] theorem regAdd_pc (s : State) (a n : Nat) : (regAdd s a n).pc = s.pc := rfl
@[simp] theorem regAdd_ev (s : State) (a n : Nat) : (regAdd s a n).ev = s.ev := rfl
@[simp] theorem regAdd_atl (s : State) (a n : Nat) : (regAdd s a n).atl = s.atl := rfl
@[simp] theorem regAdd_fl (s : State) (a n : Nat) : (regAdd s a n).fl = s.fl := rfl
@[simp] theorem regAdd_dr (s : State) (a n : Nat) : (regAdd s a n).dr = s.dr := rfl
@[simp] theorem regAdd_cs (s : State) (a n : Nat) : (regAdd s a n).cs = s.cs := rfl
@[simp] theorem regAdd_en (s : State) (a n : Nat) : (regAdd s a n).en = s.en := rfl
@[simp] theorem regAdd_ks (s : State) (a n : Nat) : (regAdd s a n).ks = s.ks := rfl
@[simp] theorem regAdd_mg (s : State) (a n : Nat) : (regAdd s a n).mg = s.mg := rfl
@[simp] theorem regAdd_pw (s : State) (a n : Nat) : (regAdd s a n).pw = s.pw := rfl
@[simp] theorem regAdd_gz (s : State) (a n : Nat) : (regAdd s a n).gz = s.gz := rfl

/-! granToTick changes `fr` alone. -/
@[simp] theorem granToTick_pending (s : State) (i n : Nat) : (granToTick s i n).pending = s.pending := rfl
@[simp] theorem granToTick_out (s : State) (i n : Nat) : (granToTick s i n).out = s.out := rfl
@[simp] theorem granToTick_fresh (s : State) (i n : Nat) : (granToTick s i n).fresh = s.fresh := rfl
@[simp] theorem granToTick_regs (s : State) (i n : Nat) : (granToTick s i n).regs = s.regs := rfl
@[simp] theorem granToTick_host (s : State) (i n : Nat) : (granToTick s i n).host = s.host := rfl
@[simp] theorem granToTick_cq (s : State) (i n : Nat) : (granToTick s i n).cq = s.cq := rfl
@[simp] theorem granToTick_pc (s : State) (i n : Nat) : (granToTick s i n).pc = s.pc := rfl
@[simp] theorem granToTick_ev (s : State) (i n : Nat) : (granToTick s i n).ev = s.ev := rfl
@[simp] theorem granToTick_atl (s : State) (i n : Nat) : (granToTick s i n).atl = s.atl := rfl
@[simp] theorem granToTick_fl (s : State) (i n : Nat) : (granToTick s i n).fl = s.fl := rfl
@[simp] theorem granToTick_dr (s : State) (i n : Nat) : (granToTick s i n).dr = s.dr := rfl
@[simp] theorem granToTick_cs (s : State) (i n : Nat) : (granToTick s i n).cs = s.cs := rfl
@[simp] theorem granToTick_en (s : State) (i n : Nat) : (granToTick s i n).en = s.en := rfl
@[simp] theorem granToTick_ks (s : State) (i n : Nat) : (granToTick s i n).ks = s.ks := rfl
@[simp] theorem granToTick_mg (s : State) (i n : Nat) : (granToTick s i n).mg = s.mg := rfl
@[simp] theorem granToTick_pw (s : State) (i n : Nat) : (granToTick s i n).pw = s.pw := rfl
@[simp] theorem granToTick_gz (s : State) (i n : Nat) : (granToTick s i n).gz = s.gz := rfl

/-! granFromTick changes `fr` alone. -/
@[simp] theorem granFromTick_pending (s : State) (i n : Nat) : (granFromTick s i n).pending = s.pending := rfl
@[simp] theorem granFromTick_out (s : State) (i n : Nat) : (granFromTick s i n).out = s.out := rfl
@[simp] theorem granFromTick_fresh (s : State) (i n : Nat) : (granFromTick s i n).fresh = s.fresh := rfl
@[simp] theorem granFromTick_regs (s : State) (i n : Nat) : (granFromTick s i n).regs = s.regs := rfl
@[simp] theorem granFromTick_host (s : State) (i n : Nat) : (granFromTick s i n).host = s.host := rfl
@[simp] theorem granFromTick_cq (s : State) (i n : Nat) : (granFromTick s i n).cq = s.cq := rfl
@[simp] theorem granFromTick_pc (s : State) (i n : Nat) : (granFromTick s i n).pc = s.pc := rfl
@[simp] theorem granFromTick_ev (s : State) (i n : Nat) : (granFromTick s i n).ev = s.ev := rfl
@[simp] theorem granFromTick_atl (s : State) (i n : Nat) : (granFromTick s i n).atl = s.atl := rfl
@[simp] theorem granFromTick_fl (s : State) (i n : Nat) : (granFromTick s i n).fl = s.fl := rfl
@[simp] theorem granFromTick_dr (s : State) (i n : Nat) : (granFromTick s i n).dr = s.dr := rfl
@[simp] theorem granFromTick_cs (s : State) (i n : Nat) : (granFromTick s i n).cs = s.cs := rfl
@[simp] theorem granFromTick_en (s : State) (i n : Nat) : (granFromTick s i n).en = s.en := rfl
@[simp] theorem granFromTick_ks (s : State) (i n : Nat) : (granFromTick s i n).ks = s.ks := rfl
@[simp] theorem granFromTick_mg (s : State) (i n : Nat) : (granFromTick s i n).mg = s.mg := rfl
@[simp] theorem granFromTick_pw (s : State) (i n : Nat) : (granFromTick s i n).pw = s.pw := rfl
@[simp] theorem granFromTick_gz (s : State) (i n : Nat) : (granFromTick s i n).gz = s.gz := rfl

/-! granToEng changes `fr` alone. -/
@[simp] theorem granToEng_pending (s : State) (j n : Nat) : (granToEng s j n).pending = s.pending := rfl
@[simp] theorem granToEng_out (s : State) (j n : Nat) : (granToEng s j n).out = s.out := rfl
@[simp] theorem granToEng_fresh (s : State) (j n : Nat) : (granToEng s j n).fresh = s.fresh := rfl
@[simp] theorem granToEng_regs (s : State) (j n : Nat) : (granToEng s j n).regs = s.regs := rfl
@[simp] theorem granToEng_host (s : State) (j n : Nat) : (granToEng s j n).host = s.host := rfl
@[simp] theorem granToEng_cq (s : State) (j n : Nat) : (granToEng s j n).cq = s.cq := rfl
@[simp] theorem granToEng_pc (s : State) (j n : Nat) : (granToEng s j n).pc = s.pc := rfl
@[simp] theorem granToEng_ev (s : State) (j n : Nat) : (granToEng s j n).ev = s.ev := rfl
@[simp] theorem granToEng_atl (s : State) (j n : Nat) : (granToEng s j n).atl = s.atl := rfl
@[simp] theorem granToEng_fl (s : State) (j n : Nat) : (granToEng s j n).fl = s.fl := rfl
@[simp] theorem granToEng_dr (s : State) (j n : Nat) : (granToEng s j n).dr = s.dr := rfl
@[simp] theorem granToEng_cs (s : State) (j n : Nat) : (granToEng s j n).cs = s.cs := rfl
@[simp] theorem granToEng_en (s : State) (j n : Nat) : (granToEng s j n).en = s.en := rfl
@[simp] theorem granToEng_ks (s : State) (j n : Nat) : (granToEng s j n).ks = s.ks := rfl
@[simp] theorem granToEng_mg (s : State) (j n : Nat) : (granToEng s j n).mg = s.mg := rfl
@[simp] theorem granToEng_pw (s : State) (j n : Nat) : (granToEng s j n).pw = s.pw := rfl
@[simp] theorem granToEng_gz (s : State) (j n : Nat) : (granToEng s j n).gz = s.gz := rfl

/-! granFromEng changes `fr` alone. -/
@[simp] theorem granFromEng_pending (s : State) (j n : Nat) : (granFromEng s j n).pending = s.pending := rfl
@[simp] theorem granFromEng_out (s : State) (j n : Nat) : (granFromEng s j n).out = s.out := rfl
@[simp] theorem granFromEng_fresh (s : State) (j n : Nat) : (granFromEng s j n).fresh = s.fresh := rfl
@[simp] theorem granFromEng_regs (s : State) (j n : Nat) : (granFromEng s j n).regs = s.regs := rfl
@[simp] theorem granFromEng_host (s : State) (j n : Nat) : (granFromEng s j n).host = s.host := rfl
@[simp] theorem granFromEng_cq (s : State) (j n : Nat) : (granFromEng s j n).cq = s.cq := rfl
@[simp] theorem granFromEng_pc (s : State) (j n : Nat) : (granFromEng s j n).pc = s.pc := rfl
@[simp] theorem granFromEng_ev (s : State) (j n : Nat) : (granFromEng s j n).ev = s.ev := rfl
@[simp] theorem granFromEng_atl (s : State) (j n : Nat) : (granFromEng s j n).atl = s.atl := rfl
@[simp] theorem granFromEng_fl (s : State) (j n : Nat) : (granFromEng s j n).fl = s.fl := rfl
@[simp] theorem granFromEng_dr (s : State) (j n : Nat) : (granFromEng s j n).dr = s.dr := rfl
@[simp] theorem granFromEng_cs (s : State) (j n : Nat) : (granFromEng s j n).cs = s.cs := rfl
@[simp] theorem granFromEng_en (s : State) (j n : Nat) : (granFromEng s j n).en = s.en := rfl
@[simp] theorem granFromEng_ks (s : State) (j n : Nat) : (granFromEng s j n).ks = s.ks := rfl
@[simp] theorem granFromEng_mg (s : State) (j n : Nat) : (granFromEng s j n).mg = s.mg := rfl
@[simp] theorem granFromEng_pw (s : State) (j n : Nat) : (granFromEng s j n).pw = s.pw := rfl
@[simp] theorem granFromEng_gz (s : State) (j n : Nat) : (granFromEng s j n).gz = s.gz := rfl

/-! granReturn changes `fr` alone. -/
@[simp] theorem granReturn_pending (s : State) (n : Nat) : (granReturn s n).pending = s.pending := rfl
@[simp] theorem granReturn_out (s : State) (n : Nat) : (granReturn s n).out = s.out := rfl
@[simp] theorem granReturn_fresh (s : State) (n : Nat) : (granReturn s n).fresh = s.fresh := rfl
@[simp] theorem granReturn_regs (s : State) (n : Nat) : (granReturn s n).regs = s.regs := rfl
@[simp] theorem granReturn_host (s : State) (n : Nat) : (granReturn s n).host = s.host := rfl
@[simp] theorem granReturn_cq (s : State) (n : Nat) : (granReturn s n).cq = s.cq := rfl
@[simp] theorem granReturn_pc (s : State) (n : Nat) : (granReturn s n).pc = s.pc := rfl
@[simp] theorem granReturn_ev (s : State) (n : Nat) : (granReturn s n).ev = s.ev := rfl
@[simp] theorem granReturn_atl (s : State) (n : Nat) : (granReturn s n).atl = s.atl := rfl
@[simp] theorem granReturn_fl (s : State) (n : Nat) : (granReturn s n).fl = s.fl := rfl
@[simp] theorem granReturn_dr (s : State) (n : Nat) : (granReturn s n).dr = s.dr := rfl
@[simp] theorem granReturn_cs (s : State) (n : Nat) : (granReturn s n).cs = s.cs := rfl
@[simp] theorem granReturn_en (s : State) (n : Nat) : (granReturn s n).en = s.en := rfl
@[simp] theorem granReturn_ks (s : State) (n : Nat) : (granReturn s n).ks = s.ks := rfl
@[simp] theorem granReturn_mg (s : State) (n : Nat) : (granReturn s n).mg = s.mg := rfl
@[simp] theorem granReturn_pw (s : State) (n : Nat) : (granReturn s n).pw = s.pw := rfl
@[simp] theorem granReturn_gz (s : State) (n : Nat) : (granReturn s n).gz = s.gz := rfl

/-! jobMod changes `en` alone. -/
@[simp] theorem jobMod_pending (s : State) (j : Nat) (f : Job → Job) : (jobMod s j f).pending = s.pending := rfl
@[simp] theorem jobMod_out (s : State) (j : Nat) (f : Job → Job) : (jobMod s j f).out = s.out := rfl
@[simp] theorem jobMod_fresh (s : State) (j : Nat) (f : Job → Job) : (jobMod s j f).fresh = s.fresh := rfl
@[simp] theorem jobMod_regs (s : State) (j : Nat) (f : Job → Job) : (jobMod s j f).regs = s.regs := rfl
@[simp] theorem jobMod_fr (s : State) (j : Nat) (f : Job → Job) : (jobMod s j f).fr = s.fr := rfl
@[simp] theorem jobMod_host (s : State) (j : Nat) (f : Job → Job) : (jobMod s j f).host = s.host := rfl
@[simp] theorem jobMod_cq (s : State) (j : Nat) (f : Job → Job) : (jobMod s j f).cq = s.cq := rfl
@[simp] theorem jobMod_pc (s : State) (j : Nat) (f : Job → Job) : (jobMod s j f).pc = s.pc := rfl
@[simp] theorem jobMod_ev (s : State) (j : Nat) (f : Job → Job) : (jobMod s j f).ev = s.ev := rfl
@[simp] theorem jobMod_atl (s : State) (j : Nat) (f : Job → Job) : (jobMod s j f).atl = s.atl := rfl
@[simp] theorem jobMod_fl (s : State) (j : Nat) (f : Job → Job) : (jobMod s j f).fl = s.fl := rfl
@[simp] theorem jobMod_dr (s : State) (j : Nat) (f : Job → Job) : (jobMod s j f).dr = s.dr := rfl
@[simp] theorem jobMod_cs (s : State) (j : Nat) (f : Job → Job) : (jobMod s j f).cs = s.cs := rfl
@[simp] theorem jobMod_ks (s : State) (j : Nat) (f : Job → Job) : (jobMod s j f).ks = s.ks := rfl
@[simp] theorem jobMod_mg (s : State) (j : Nat) (f : Job → Job) : (jobMod s j f).mg = s.mg := rfl
@[simp] theorem jobMod_pw (s : State) (j : Nat) (f : Job → Job) : (jobMod s j f).pw = s.pw := rfl
@[simp] theorem jobMod_gz (s : State) (j : Nat) (f : Job → Job) : (jobMod s j f).gz = s.gz := rfl

/-! taskMod changes `cs` alone. -/
@[simp] theorem taskMod_pending (s : State) (t : Nat) (f : Task → Task) : (taskMod s t f).pending = s.pending := rfl
@[simp] theorem taskMod_out (s : State) (t : Nat) (f : Task → Task) : (taskMod s t f).out = s.out := rfl
@[simp] theorem taskMod_fresh (s : State) (t : Nat) (f : Task → Task) : (taskMod s t f).fresh = s.fresh := rfl
@[simp] theorem taskMod_regs (s : State) (t : Nat) (f : Task → Task) : (taskMod s t f).regs = s.regs := rfl
@[simp] theorem taskMod_fr (s : State) (t : Nat) (f : Task → Task) : (taskMod s t f).fr = s.fr := rfl
@[simp] theorem taskMod_host (s : State) (t : Nat) (f : Task → Task) : (taskMod s t f).host = s.host := rfl
@[simp] theorem taskMod_cq (s : State) (t : Nat) (f : Task → Task) : (taskMod s t f).cq = s.cq := rfl
@[simp] theorem taskMod_pc (s : State) (t : Nat) (f : Task → Task) : (taskMod s t f).pc = s.pc := rfl
@[simp] theorem taskMod_ev (s : State) (t : Nat) (f : Task → Task) : (taskMod s t f).ev = s.ev := rfl
@[simp] theorem taskMod_atl (s : State) (t : Nat) (f : Task → Task) : (taskMod s t f).atl = s.atl := rfl
@[simp] theorem taskMod_fl (s : State) (t : Nat) (f : Task → Task) : (taskMod s t f).fl = s.fl := rfl
@[simp] theorem taskMod_dr (s : State) (t : Nat) (f : Task → Task) : (taskMod s t f).dr = s.dr := rfl
@[simp] theorem taskMod_en (s : State) (t : Nat) (f : Task → Task) : (taskMod s t f).en = s.en := rfl
@[simp] theorem taskMod_ks (s : State) (t : Nat) (f : Task → Task) : (taskMod s t f).ks = s.ks := rfl
@[simp] theorem taskMod_mg (s : State) (t : Nat) (f : Task → Task) : (taskMod s t f).mg = s.mg := rfl
@[simp] theorem taskMod_pw (s : State) (t : Nat) (f : Task → Task) : (taskMod s t f).pw = s.pw := rfl
@[simp] theorem taskMod_gz (s : State) (t : Nat) (f : Task → Task) : (taskMod s t f).gz = s.gz := rfl

/-! dieMod changes `fl` alone. -/
@[simp] theorem dieMod_pending (s : State) (d : Nat) (f : Die → Die) : (dieMod s d f).pending = s.pending := rfl
@[simp] theorem dieMod_out (s : State) (d : Nat) (f : Die → Die) : (dieMod s d f).out = s.out := rfl
@[simp] theorem dieMod_fresh (s : State) (d : Nat) (f : Die → Die) : (dieMod s d f).fresh = s.fresh := rfl
@[simp] theorem dieMod_regs (s : State) (d : Nat) (f : Die → Die) : (dieMod s d f).regs = s.regs := rfl
@[simp] theorem dieMod_fr (s : State) (d : Nat) (f : Die → Die) : (dieMod s d f).fr = s.fr := rfl
@[simp] theorem dieMod_host (s : State) (d : Nat) (f : Die → Die) : (dieMod s d f).host = s.host := rfl
@[simp] theorem dieMod_cq (s : State) (d : Nat) (f : Die → Die) : (dieMod s d f).cq = s.cq := rfl
@[simp] theorem dieMod_pc (s : State) (d : Nat) (f : Die → Die) : (dieMod s d f).pc = s.pc := rfl
@[simp] theorem dieMod_ev (s : State) (d : Nat) (f : Die → Die) : (dieMod s d f).ev = s.ev := rfl
@[simp] theorem dieMod_atl (s : State) (d : Nat) (f : Die → Die) : (dieMod s d f).atl = s.atl := rfl
@[simp] theorem dieMod_dr (s : State) (d : Nat) (f : Die → Die) : (dieMod s d f).dr = s.dr := rfl
@[simp] theorem dieMod_cs (s : State) (d : Nat) (f : Die → Die) : (dieMod s d f).cs = s.cs := rfl
@[simp] theorem dieMod_en (s : State) (d : Nat) (f : Die → Die) : (dieMod s d f).en = s.en := rfl
@[simp] theorem dieMod_ks (s : State) (d : Nat) (f : Die → Die) : (dieMod s d f).ks = s.ks := rfl
@[simp] theorem dieMod_mg (s : State) (d : Nat) (f : Die → Die) : (dieMod s d f).mg = s.mg := rfl
@[simp] theorem dieMod_pw (s : State) (d : Nat) (f : Die → Die) : (dieMod s d f).pw = s.pw := rfl
@[simp] theorem dieMod_gz (s : State) (d : Nat) (f : Die → Die) : (dieMod s d f).gz = s.gz := rfl

/-! bankMod changes `dr` alone. -/
@[simp] theorem bankMod_pending (s : State) (k : Nat) (f : Bank → Bank) : (bankMod s k f).pending = s.pending := rfl
@[simp] theorem bankMod_out (s : State) (k : Nat) (f : Bank → Bank) : (bankMod s k f).out = s.out := rfl
@[simp] theorem bankMod_fresh (s : State) (k : Nat) (f : Bank → Bank) : (bankMod s k f).fresh = s.fresh := rfl
@[simp] theorem bankMod_regs (s : State) (k : Nat) (f : Bank → Bank) : (bankMod s k f).regs = s.regs := rfl
@[simp] theorem bankMod_fr (s : State) (k : Nat) (f : Bank → Bank) : (bankMod s k f).fr = s.fr := rfl
@[simp] theorem bankMod_host (s : State) (k : Nat) (f : Bank → Bank) : (bankMod s k f).host = s.host := rfl
@[simp] theorem bankMod_cq (s : State) (k : Nat) (f : Bank → Bank) : (bankMod s k f).cq = s.cq := rfl
@[simp] theorem bankMod_pc (s : State) (k : Nat) (f : Bank → Bank) : (bankMod s k f).pc = s.pc := rfl
@[simp] theorem bankMod_ev (s : State) (k : Nat) (f : Bank → Bank) : (bankMod s k f).ev = s.ev := rfl
@[simp] theorem bankMod_atl (s : State) (k : Nat) (f : Bank → Bank) : (bankMod s k f).atl = s.atl := rfl
@[simp] theorem bankMod_fl (s : State) (k : Nat) (f : Bank → Bank) : (bankMod s k f).fl = s.fl := rfl
@[simp] theorem bankMod_cs (s : State) (k : Nat) (f : Bank → Bank) : (bankMod s k f).cs = s.cs := rfl
@[simp] theorem bankMod_en (s : State) (k : Nat) (f : Bank → Bank) : (bankMod s k f).en = s.en := rfl
@[simp] theorem bankMod_ks (s : State) (k : Nat) (f : Bank → Bank) : (bankMod s k f).ks = s.ks := rfl
@[simp] theorem bankMod_mg (s : State) (k : Nat) (f : Bank → Bank) : (bankMod s k f).mg = s.mg := rfl
@[simp] theorem bankMod_pw (s : State) (k : Nat) (f : Bank → Bank) : (bankMod s k f).pw = s.pw := rfl
@[simp] theorem bankMod_gz (s : State) (k : Nat) (f : Bank → Bank) : (bankMod s k f).gz = s.gz := rfl

/-! nsMod changes `atl` alone. -/
@[simp] theorem nsMod_pending (s : State) (nsid : Nat) (f : Ns → Ns) : (nsMod s nsid f).pending = s.pending := rfl
@[simp] theorem nsMod_out (s : State) (nsid : Nat) (f : Ns → Ns) : (nsMod s nsid f).out = s.out := rfl
@[simp] theorem nsMod_fresh (s : State) (nsid : Nat) (f : Ns → Ns) : (nsMod s nsid f).fresh = s.fresh := rfl
@[simp] theorem nsMod_regs (s : State) (nsid : Nat) (f : Ns → Ns) : (nsMod s nsid f).regs = s.regs := rfl
@[simp] theorem nsMod_fr (s : State) (nsid : Nat) (f : Ns → Ns) : (nsMod s nsid f).fr = s.fr := rfl
@[simp] theorem nsMod_host (s : State) (nsid : Nat) (f : Ns → Ns) : (nsMod s nsid f).host = s.host := rfl
@[simp] theorem nsMod_cq (s : State) (nsid : Nat) (f : Ns → Ns) : (nsMod s nsid f).cq = s.cq := rfl
@[simp] theorem nsMod_pc (s : State) (nsid : Nat) (f : Ns → Ns) : (nsMod s nsid f).pc = s.pc := rfl
@[simp] theorem nsMod_ev (s : State) (nsid : Nat) (f : Ns → Ns) : (nsMod s nsid f).ev = s.ev := rfl
@[simp] theorem nsMod_fl (s : State) (nsid : Nat) (f : Ns → Ns) : (nsMod s nsid f).fl = s.fl := rfl
@[simp] theorem nsMod_dr (s : State) (nsid : Nat) (f : Ns → Ns) : (nsMod s nsid f).dr = s.dr := rfl
@[simp] theorem nsMod_cs (s : State) (nsid : Nat) (f : Ns → Ns) : (nsMod s nsid f).cs = s.cs := rfl
@[simp] theorem nsMod_en (s : State) (nsid : Nat) (f : Ns → Ns) : (nsMod s nsid f).en = s.en := rfl
@[simp] theorem nsMod_ks (s : State) (nsid : Nat) (f : Ns → Ns) : (nsMod s nsid f).ks = s.ks := rfl
@[simp] theorem nsMod_mg (s : State) (nsid : Nat) (f : Ns → Ns) : (nsMod s nsid f).mg = s.mg := rfl
@[simp] theorem nsMod_pw (s : State) (nsid : Nat) (f : Ns → Ns) : (nsMod s nsid f).pw = s.pw := rfl
@[simp] theorem nsMod_gz (s : State) (nsid : Nat) (f : Ns → Ns) : (nsMod s nsid f).gz = s.gz := rfl

/-! invMod changes `cs` alone. -/
@[simp] theorem invMod_pending (s : State) (i : Nat) (f : Invoc → Invoc) : (invMod s i f).pending = s.pending := rfl
@[simp] theorem invMod_out (s : State) (i : Nat) (f : Invoc → Invoc) : (invMod s i f).out = s.out := rfl
@[simp] theorem invMod_fresh (s : State) (i : Nat) (f : Invoc → Invoc) : (invMod s i f).fresh = s.fresh := rfl
@[simp] theorem invMod_regs (s : State) (i : Nat) (f : Invoc → Invoc) : (invMod s i f).regs = s.regs := rfl
@[simp] theorem invMod_fr (s : State) (i : Nat) (f : Invoc → Invoc) : (invMod s i f).fr = s.fr := rfl
@[simp] theorem invMod_host (s : State) (i : Nat) (f : Invoc → Invoc) : (invMod s i f).host = s.host := rfl
@[simp] theorem invMod_cq (s : State) (i : Nat) (f : Invoc → Invoc) : (invMod s i f).cq = s.cq := rfl
@[simp] theorem invMod_pc (s : State) (i : Nat) (f : Invoc → Invoc) : (invMod s i f).pc = s.pc := rfl
@[simp] theorem invMod_ev (s : State) (i : Nat) (f : Invoc → Invoc) : (invMod s i f).ev = s.ev := rfl
@[simp] theorem invMod_atl (s : State) (i : Nat) (f : Invoc → Invoc) : (invMod s i f).atl = s.atl := rfl
@[simp] theorem invMod_fl (s : State) (i : Nat) (f : Invoc → Invoc) : (invMod s i f).fl = s.fl := rfl
@[simp] theorem invMod_dr (s : State) (i : Nat) (f : Invoc → Invoc) : (invMod s i f).dr = s.dr := rfl
@[simp] theorem invMod_en (s : State) (i : Nat) (f : Invoc → Invoc) : (invMod s i f).en = s.en := rfl
@[simp] theorem invMod_ks (s : State) (i : Nat) (f : Invoc → Invoc) : (invMod s i f).ks = s.ks := rfl
@[simp] theorem invMod_mg (s : State) (i : Nat) (f : Invoc → Invoc) : (invMod s i f).mg = s.mg := rfl
@[simp] theorem invMod_pw (s : State) (i : Nat) (f : Invoc → Invoc) : (invMod s i f).pw = s.pw := rfl
@[simp] theorem invMod_gz (s : State) (i : Nat) (f : Invoc → Invoc) : (invMod s i f).gz = s.gz := rfl

/-! regSet changes `cs` alone. -/
@[simp] theorem regSet_pending (s : State) (c r : Nat) (v : Word) : (regSet s c r v).pending = s.pending := rfl
@[simp] theorem regSet_out (s : State) (c r : Nat) (v : Word) : (regSet s c r v).out = s.out := rfl
@[simp] theorem regSet_fresh (s : State) (c r : Nat) (v : Word) : (regSet s c r v).fresh = s.fresh := rfl
@[simp] theorem regSet_regs (s : State) (c r : Nat) (v : Word) : (regSet s c r v).regs = s.regs := rfl
@[simp] theorem regSet_fr (s : State) (c r : Nat) (v : Word) : (regSet s c r v).fr = s.fr := rfl
@[simp] theorem regSet_host (s : State) (c r : Nat) (v : Word) : (regSet s c r v).host = s.host := rfl
@[simp] theorem regSet_cq (s : State) (c r : Nat) (v : Word) : (regSet s c r v).cq = s.cq := rfl
@[simp] theorem regSet_pc (s : State) (c r : Nat) (v : Word) : (regSet s c r v).pc = s.pc := rfl
@[simp] theorem regSet_ev (s : State) (c r : Nat) (v : Word) : (regSet s c r v).ev = s.ev := rfl
@[simp] theorem regSet_atl (s : State) (c r : Nat) (v : Word) : (regSet s c r v).atl = s.atl := rfl
@[simp] theorem regSet_fl (s : State) (c r : Nat) (v : Word) : (regSet s c r v).fl = s.fl := rfl
@[simp] theorem regSet_dr (s : State) (c r : Nat) (v : Word) : (regSet s c r v).dr = s.dr := rfl
@[simp] theorem regSet_en (s : State) (c r : Nat) (v : Word) : (regSet s c r v).en = s.en := rfl
@[simp] theorem regSet_ks (s : State) (c r : Nat) (v : Word) : (regSet s c r v).ks = s.ks := rfl
@[simp] theorem regSet_mg (s : State) (c r : Nat) (v : Word) : (regSet s c r v).mg = s.mg := rfl
@[simp] theorem regSet_pw (s : State) (c r : Nat) (v : Word) : (regSet s c r v).pw = s.pw := rfl
@[simp] theorem regSet_gz (s : State) (c r : Nat) (v : Word) : (regSet s c r v).gz = s.gz := rfl

/-! flagsSet changes `cs` alone. -/
@[simp] theorem flagsSet_pending (s : State) (c : Nat) (f : Flags) : (flagsSet s c f).pending = s.pending := rfl
@[simp] theorem flagsSet_out (s : State) (c : Nat) (f : Flags) : (flagsSet s c f).out = s.out := rfl
@[simp] theorem flagsSet_fresh (s : State) (c : Nat) (f : Flags) : (flagsSet s c f).fresh = s.fresh := rfl
@[simp] theorem flagsSet_regs (s : State) (c : Nat) (f : Flags) : (flagsSet s c f).regs = s.regs := rfl
@[simp] theorem flagsSet_fr (s : State) (c : Nat) (f : Flags) : (flagsSet s c f).fr = s.fr := rfl
@[simp] theorem flagsSet_host (s : State) (c : Nat) (f : Flags) : (flagsSet s c f).host = s.host := rfl
@[simp] theorem flagsSet_cq (s : State) (c : Nat) (f : Flags) : (flagsSet s c f).cq = s.cq := rfl
@[simp] theorem flagsSet_pc (s : State) (c : Nat) (f : Flags) : (flagsSet s c f).pc = s.pc := rfl
@[simp] theorem flagsSet_ev (s : State) (c : Nat) (f : Flags) : (flagsSet s c f).ev = s.ev := rfl
@[simp] theorem flagsSet_atl (s : State) (c : Nat) (f : Flags) : (flagsSet s c f).atl = s.atl := rfl
@[simp] theorem flagsSet_fl (s : State) (c : Nat) (f : Flags) : (flagsSet s c f).fl = s.fl := rfl
@[simp] theorem flagsSet_dr (s : State) (c : Nat) (f : Flags) : (flagsSet s c f).dr = s.dr := rfl
@[simp] theorem flagsSet_en (s : State) (c : Nat) (f : Flags) : (flagsSet s c f).en = s.en := rfl
@[simp] theorem flagsSet_ks (s : State) (c : Nat) (f : Flags) : (flagsSet s c f).ks = s.ks := rfl
@[simp] theorem flagsSet_mg (s : State) (c : Nat) (f : Flags) : (flagsSet s c f).mg = s.mg := rfl
@[simp] theorem flagsSet_pw (s : State) (c : Nat) (f : Flags) : (flagsSet s c f).pw = s.pw := rfl
@[simp] theorem flagsSet_gz (s : State) (c : Nat) (f : Flags) : (flagsSet s c f).gz = s.gz := rfl

/-! creditGrant changes `host` alone. -/
@[simp] theorem creditGrant_pending (s : State) (c n : Nat) : (creditGrant s c n).pending = s.pending := rfl
@[simp] theorem creditGrant_out (s : State) (c n : Nat) : (creditGrant s c n).out = s.out := rfl
@[simp] theorem creditGrant_fresh (s : State) (c n : Nat) : (creditGrant s c n).fresh = s.fresh := rfl
@[simp] theorem creditGrant_regs (s : State) (c n : Nat) : (creditGrant s c n).regs = s.regs := rfl
@[simp] theorem creditGrant_fr (s : State) (c n : Nat) : (creditGrant s c n).fr = s.fr := rfl
@[simp] theorem creditGrant_cq (s : State) (c n : Nat) : (creditGrant s c n).cq = s.cq := rfl
@[simp] theorem creditGrant_pc (s : State) (c n : Nat) : (creditGrant s c n).pc = s.pc := rfl
@[simp] theorem creditGrant_ev (s : State) (c n : Nat) : (creditGrant s c n).ev = s.ev := rfl
@[simp] theorem creditGrant_atl (s : State) (c n : Nat) : (creditGrant s c n).atl = s.atl := rfl
@[simp] theorem creditGrant_fl (s : State) (c n : Nat) : (creditGrant s c n).fl = s.fl := rfl
@[simp] theorem creditGrant_dr (s : State) (c n : Nat) : (creditGrant s c n).dr = s.dr := rfl
@[simp] theorem creditGrant_cs (s : State) (c n : Nat) : (creditGrant s c n).cs = s.cs := rfl
@[simp] theorem creditGrant_en (s : State) (c n : Nat) : (creditGrant s c n).en = s.en := rfl
@[simp] theorem creditGrant_ks (s : State) (c n : Nat) : (creditGrant s c n).ks = s.ks := rfl
@[simp] theorem creditGrant_mg (s : State) (c n : Nat) : (creditGrant s c n).mg = s.mg := rfl
@[simp] theorem creditGrant_pw (s : State) (c n : Nat) : (creditGrant s c n).pw = s.pw := rfl
@[simp] theorem creditGrant_gz (s : State) (c n : Nat) : (creditGrant s c n).gz = s.gz := rfl

/-! creditConsume changes `host` alone. -/
@[simp] theorem creditConsume_pending (s : State) (c : Nat) : (creditConsume s c).pending = s.pending := rfl
@[simp] theorem creditConsume_out (s : State) (c : Nat) : (creditConsume s c).out = s.out := rfl
@[simp] theorem creditConsume_fresh (s : State) (c : Nat) : (creditConsume s c).fresh = s.fresh := rfl
@[simp] theorem creditConsume_regs (s : State) (c : Nat) : (creditConsume s c).regs = s.regs := rfl
@[simp] theorem creditConsume_fr (s : State) (c : Nat) : (creditConsume s c).fr = s.fr := rfl
@[simp] theorem creditConsume_cq (s : State) (c : Nat) : (creditConsume s c).cq = s.cq := rfl
@[simp] theorem creditConsume_pc (s : State) (c : Nat) : (creditConsume s c).pc = s.pc := rfl
@[simp] theorem creditConsume_ev (s : State) (c : Nat) : (creditConsume s c).ev = s.ev := rfl
@[simp] theorem creditConsume_atl (s : State) (c : Nat) : (creditConsume s c).atl = s.atl := rfl
@[simp] theorem creditConsume_fl (s : State) (c : Nat) : (creditConsume s c).fl = s.fl := rfl
@[simp] theorem creditConsume_dr (s : State) (c : Nat) : (creditConsume s c).dr = s.dr := rfl
@[simp] theorem creditConsume_cs (s : State) (c : Nat) : (creditConsume s c).cs = s.cs := rfl
@[simp] theorem creditConsume_en (s : State) (c : Nat) : (creditConsume s c).en = s.en := rfl
@[simp] theorem creditConsume_ks (s : State) (c : Nat) : (creditConsume s c).ks = s.ks := rfl
@[simp] theorem creditConsume_mg (s : State) (c : Nat) : (creditConsume s c).mg = s.mg := rfl
@[simp] theorem creditConsume_pw (s : State) (c : Nat) : (creditConsume s c).pw = s.pw := rfl
@[simp] theorem creditConsume_gz (s : State) (c : Nat) : (creditConsume s c).gz = s.gz := rfl

/-! creditReturn changes `host` alone. -/
@[simp] theorem creditReturn_pending (s : State) (c n : Nat) : (creditReturn s c n).pending = s.pending := rfl
@[simp] theorem creditReturn_out (s : State) (c n : Nat) : (creditReturn s c n).out = s.out := rfl
@[simp] theorem creditReturn_fresh (s : State) (c n : Nat) : (creditReturn s c n).fresh = s.fresh := rfl
@[simp] theorem creditReturn_regs (s : State) (c n : Nat) : (creditReturn s c n).regs = s.regs := rfl
@[simp] theorem creditReturn_fr (s : State) (c n : Nat) : (creditReturn s c n).fr = s.fr := rfl
@[simp] theorem creditReturn_cq (s : State) (c n : Nat) : (creditReturn s c n).cq = s.cq := rfl
@[simp] theorem creditReturn_pc (s : State) (c n : Nat) : (creditReturn s c n).pc = s.pc := rfl
@[simp] theorem creditReturn_ev (s : State) (c n : Nat) : (creditReturn s c n).ev = s.ev := rfl
@[simp] theorem creditReturn_atl (s : State) (c n : Nat) : (creditReturn s c n).atl = s.atl := rfl
@[simp] theorem creditReturn_fl (s : State) (c n : Nat) : (creditReturn s c n).fl = s.fl := rfl
@[simp] theorem creditReturn_dr (s : State) (c n : Nat) : (creditReturn s c n).dr = s.dr := rfl
@[simp] theorem creditReturn_cs (s : State) (c n : Nat) : (creditReturn s c n).cs = s.cs := rfl
@[simp] theorem creditReturn_en (s : State) (c n : Nat) : (creditReturn s c n).en = s.en := rfl
@[simp] theorem creditReturn_ks (s : State) (c n : Nat) : (creditReturn s c n).ks = s.ks := rfl
@[simp] theorem creditReturn_mg (s : State) (c n : Nat) : (creditReturn s c n).mg = s.mg := rfl
@[simp] theorem creditReturn_pw (s : State) (c n : Nat) : (creditReturn s c n).pw = s.pw := rfl
@[simp] theorem creditReturn_gz (s : State) (c n : Nat) : (creditReturn s c n).gz = s.gz := rfl

/-! wordStore changes `dr` alone. -/
@[simp] theorem wordStore_pending (s : State) (a : Nat) (w : Word) : (wordStore s a w).pending = s.pending := rfl
@[simp] theorem wordStore_out (s : State) (a : Nat) (w : Word) : (wordStore s a w).out = s.out := rfl
@[simp] theorem wordStore_fresh (s : State) (a : Nat) (w : Word) : (wordStore s a w).fresh = s.fresh := rfl
@[simp] theorem wordStore_regs (s : State) (a : Nat) (w : Word) : (wordStore s a w).regs = s.regs := rfl
@[simp] theorem wordStore_fr (s : State) (a : Nat) (w : Word) : (wordStore s a w).fr = s.fr := rfl
@[simp] theorem wordStore_host (s : State) (a : Nat) (w : Word) : (wordStore s a w).host = s.host := rfl
@[simp] theorem wordStore_cq (s : State) (a : Nat) (w : Word) : (wordStore s a w).cq = s.cq := rfl
@[simp] theorem wordStore_pc (s : State) (a : Nat) (w : Word) : (wordStore s a w).pc = s.pc := rfl
@[simp] theorem wordStore_ev (s : State) (a : Nat) (w : Word) : (wordStore s a w).ev = s.ev := rfl
@[simp] theorem wordStore_atl (s : State) (a : Nat) (w : Word) : (wordStore s a w).atl = s.atl := rfl
@[simp] theorem wordStore_fl (s : State) (a : Nat) (w : Word) : (wordStore s a w).fl = s.fl := rfl
@[simp] theorem wordStore_cs (s : State) (a : Nat) (w : Word) : (wordStore s a w).cs = s.cs := rfl
@[simp] theorem wordStore_en (s : State) (a : Nat) (w : Word) : (wordStore s a w).en = s.en := rfl
@[simp] theorem wordStore_ks (s : State) (a : Nat) (w : Word) : (wordStore s a w).ks = s.ks := rfl
@[simp] theorem wordStore_mg (s : State) (a : Nat) (w : Word) : (wordStore s a w).mg = s.mg := rfl
@[simp] theorem wordStore_pw (s : State) (a : Nat) (w : Word) : (wordStore s a w).pw = s.pw := rfl
@[simp] theorem wordStore_gz (s : State) (a : Nat) (w : Word) : (wordStore s a w).gz = s.gz := rfl

/-! memZero changes `dr` alone. -/
@[simp] theorem memZero_pending (s : State) (a n : Nat) : (memZero s a n).pending = s.pending := rfl
@[simp] theorem memZero_out (s : State) (a n : Nat) : (memZero s a n).out = s.out := rfl
@[simp] theorem memZero_fresh (s : State) (a n : Nat) : (memZero s a n).fresh = s.fresh := rfl
@[simp] theorem memZero_regs (s : State) (a n : Nat) : (memZero s a n).regs = s.regs := rfl
@[simp] theorem memZero_fr (s : State) (a n : Nat) : (memZero s a n).fr = s.fr := rfl
@[simp] theorem memZero_host (s : State) (a n : Nat) : (memZero s a n).host = s.host := rfl
@[simp] theorem memZero_cq (s : State) (a n : Nat) : (memZero s a n).cq = s.cq := rfl
@[simp] theorem memZero_pc (s : State) (a n : Nat) : (memZero s a n).pc = s.pc := rfl
@[simp] theorem memZero_ev (s : State) (a n : Nat) : (memZero s a n).ev = s.ev := rfl
@[simp] theorem memZero_atl (s : State) (a n : Nat) : (memZero s a n).atl = s.atl := rfl
@[simp] theorem memZero_fl (s : State) (a n : Nat) : (memZero s a n).fl = s.fl := rfl
@[simp] theorem memZero_cs (s : State) (a n : Nat) : (memZero s a n).cs = s.cs := rfl
@[simp] theorem memZero_en (s : State) (a n : Nat) : (memZero s a n).en = s.en := rfl
@[simp] theorem memZero_ks (s : State) (a n : Nat) : (memZero s a n).ks = s.ks := rfl
@[simp] theorem memZero_mg (s : State) (a n : Nat) : (memZero s a n).mg = s.mg := rfl
@[simp] theorem memZero_pw (s : State) (a n : Nat) : (memZero s a n).pw = s.pw := rfl
@[simp] theorem memZero_gz (s : State) (a n : Nat) : (memZero s a n).gz = s.gz := rfl

/-! wordsZero changes `dr` alone. -/
@[simp] theorem wordsZero_pending (s : State) (a n : Nat) : (wordsZero s a n).pending = s.pending := rfl
@[simp] theorem wordsZero_out (s : State) (a n : Nat) : (wordsZero s a n).out = s.out := rfl
@[simp] theorem wordsZero_fresh (s : State) (a n : Nat) : (wordsZero s a n).fresh = s.fresh := rfl
@[simp] theorem wordsZero_regs (s : State) (a n : Nat) : (wordsZero s a n).regs = s.regs := rfl
@[simp] theorem wordsZero_fr (s : State) (a n : Nat) : (wordsZero s a n).fr = s.fr := rfl
@[simp] theorem wordsZero_host (s : State) (a n : Nat) : (wordsZero s a n).host = s.host := rfl
@[simp] theorem wordsZero_cq (s : State) (a n : Nat) : (wordsZero s a n).cq = s.cq := rfl
@[simp] theorem wordsZero_pc (s : State) (a n : Nat) : (wordsZero s a n).pc = s.pc := rfl
@[simp] theorem wordsZero_ev (s : State) (a n : Nat) : (wordsZero s a n).ev = s.ev := rfl
@[simp] theorem wordsZero_atl (s : State) (a n : Nat) : (wordsZero s a n).atl = s.atl := rfl
@[simp] theorem wordsZero_fl (s : State) (a n : Nat) : (wordsZero s a n).fl = s.fl := rfl
@[simp] theorem wordsZero_cs (s : State) (a n : Nat) : (wordsZero s a n).cs = s.cs := rfl
@[simp] theorem wordsZero_en (s : State) (a n : Nat) : (wordsZero s a n).en = s.en := rfl
@[simp] theorem wordsZero_ks (s : State) (a n : Nat) : (wordsZero s a n).ks = s.ks := rfl
@[simp] theorem wordsZero_mg (s : State) (a n : Nat) : (wordsZero s a n).mg = s.mg := rfl
@[simp] theorem wordsZero_pw (s : State) (a n : Nat) : (wordsZero s a n).pw = s.pw := rfl
@[simp] theorem wordsZero_gz (s : State) (a n : Nat) : (wordsZero s a n).gz = s.gz := rfl

/-! poisonWrite changes `dr` alone. -/
@[simp] theorem poisonWrite_pending (s : State) (a n : Nat) : (poisonWrite s a n).pending = s.pending := rfl
@[simp] theorem poisonWrite_out (s : State) (a n : Nat) : (poisonWrite s a n).out = s.out := rfl
@[simp] theorem poisonWrite_fresh (s : State) (a n : Nat) : (poisonWrite s a n).fresh = s.fresh := rfl
@[simp] theorem poisonWrite_regs (s : State) (a n : Nat) : (poisonWrite s a n).regs = s.regs := rfl
@[simp] theorem poisonWrite_fr (s : State) (a n : Nat) : (poisonWrite s a n).fr = s.fr := rfl
@[simp] theorem poisonWrite_host (s : State) (a n : Nat) : (poisonWrite s a n).host = s.host := rfl
@[simp] theorem poisonWrite_cq (s : State) (a n : Nat) : (poisonWrite s a n).cq = s.cq := rfl
@[simp] theorem poisonWrite_pc (s : State) (a n : Nat) : (poisonWrite s a n).pc = s.pc := rfl
@[simp] theorem poisonWrite_ev (s : State) (a n : Nat) : (poisonWrite s a n).ev = s.ev := rfl
@[simp] theorem poisonWrite_atl (s : State) (a n : Nat) : (poisonWrite s a n).atl = s.atl := rfl
@[simp] theorem poisonWrite_fl (s : State) (a n : Nat) : (poisonWrite s a n).fl = s.fl := rfl
@[simp] theorem poisonWrite_cs (s : State) (a n : Nat) : (poisonWrite s a n).cs = s.cs := rfl
@[simp] theorem poisonWrite_en (s : State) (a n : Nat) : (poisonWrite s a n).en = s.en := rfl
@[simp] theorem poisonWrite_ks (s : State) (a n : Nat) : (poisonWrite s a n).ks = s.ks := rfl
@[simp] theorem poisonWrite_mg (s : State) (a n : Nat) : (poisonWrite s a n).mg = s.mg := rfl
@[simp] theorem poisonWrite_pw (s : State) (a n : Nat) : (poisonWrite s a n).pw = s.pw := rfl
@[simp] theorem poisonWrite_gz (s : State) (a n : Nat) : (poisonWrite s a n).gz = s.gz := rfl

/-! laneBlocks changes `ks` alone. -/
@[simp] theorem laneBlocks_pending (s : State) (lane n : Nat) : (laneBlocks s lane n).pending = s.pending := rfl
@[simp] theorem laneBlocks_out (s : State) (lane n : Nat) : (laneBlocks s lane n).out = s.out := rfl
@[simp] theorem laneBlocks_fresh (s : State) (lane n : Nat) : (laneBlocks s lane n).fresh = s.fresh := rfl
@[simp] theorem laneBlocks_regs (s : State) (lane n : Nat) : (laneBlocks s lane n).regs = s.regs := rfl
@[simp] theorem laneBlocks_fr (s : State) (lane n : Nat) : (laneBlocks s lane n).fr = s.fr := rfl
@[simp] theorem laneBlocks_host (s : State) (lane n : Nat) : (laneBlocks s lane n).host = s.host := rfl
@[simp] theorem laneBlocks_cq (s : State) (lane n : Nat) : (laneBlocks s lane n).cq = s.cq := rfl
@[simp] theorem laneBlocks_pc (s : State) (lane n : Nat) : (laneBlocks s lane n).pc = s.pc := rfl
@[simp] theorem laneBlocks_ev (s : State) (lane n : Nat) : (laneBlocks s lane n).ev = s.ev := rfl
@[simp] theorem laneBlocks_atl (s : State) (lane n : Nat) : (laneBlocks s lane n).atl = s.atl := rfl
@[simp] theorem laneBlocks_fl (s : State) (lane n : Nat) : (laneBlocks s lane n).fl = s.fl := rfl
@[simp] theorem laneBlocks_dr (s : State) (lane n : Nat) : (laneBlocks s lane n).dr = s.dr := rfl
@[simp] theorem laneBlocks_cs (s : State) (lane n : Nat) : (laneBlocks s lane n).cs = s.cs := rfl
@[simp] theorem laneBlocks_en (s : State) (lane n : Nat) : (laneBlocks s lane n).en = s.en := rfl
@[simp] theorem laneBlocks_mg (s : State) (lane n : Nat) : (laneBlocks s lane n).mg = s.mg := rfl
@[simp] theorem laneBlocks_pw (s : State) (lane n : Nat) : (laneBlocks s lane n).pw = s.pw := rfl
@[simp] theorem laneBlocks_gz (s : State) (lane n : Nat) : (laneBlocks s lane n).gz = s.gz := rfl

/-! dmaMod changes `ev` alone. -/
@[simp] theorem dmaMod_pending (s : State) (c : Nat) (f : DmaCh → DmaCh) : (dmaMod s c f).pending = s.pending := rfl
@[simp] theorem dmaMod_out (s : State) (c : Nat) (f : DmaCh → DmaCh) : (dmaMod s c f).out = s.out := rfl
@[simp] theorem dmaMod_fresh (s : State) (c : Nat) (f : DmaCh → DmaCh) : (dmaMod s c f).fresh = s.fresh := rfl
@[simp] theorem dmaMod_regs (s : State) (c : Nat) (f : DmaCh → DmaCh) : (dmaMod s c f).regs = s.regs := rfl
@[simp] theorem dmaMod_fr (s : State) (c : Nat) (f : DmaCh → DmaCh) : (dmaMod s c f).fr = s.fr := rfl
@[simp] theorem dmaMod_host (s : State) (c : Nat) (f : DmaCh → DmaCh) : (dmaMod s c f).host = s.host := rfl
@[simp] theorem dmaMod_cq (s : State) (c : Nat) (f : DmaCh → DmaCh) : (dmaMod s c f).cq = s.cq := rfl
@[simp] theorem dmaMod_pc (s : State) (c : Nat) (f : DmaCh → DmaCh) : (dmaMod s c f).pc = s.pc := rfl
@[simp] theorem dmaMod_atl (s : State) (c : Nat) (f : DmaCh → DmaCh) : (dmaMod s c f).atl = s.atl := rfl
@[simp] theorem dmaMod_fl (s : State) (c : Nat) (f : DmaCh → DmaCh) : (dmaMod s c f).fl = s.fl := rfl
@[simp] theorem dmaMod_dr (s : State) (c : Nat) (f : DmaCh → DmaCh) : (dmaMod s c f).dr = s.dr := rfl
@[simp] theorem dmaMod_cs (s : State) (c : Nat) (f : DmaCh → DmaCh) : (dmaMod s c f).cs = s.cs := rfl
@[simp] theorem dmaMod_en (s : State) (c : Nat) (f : DmaCh → DmaCh) : (dmaMod s c f).en = s.en := rfl
@[simp] theorem dmaMod_ks (s : State) (c : Nat) (f : DmaCh → DmaCh) : (dmaMod s c f).ks = s.ks := rfl
@[simp] theorem dmaMod_mg (s : State) (c : Nat) (f : DmaCh → DmaCh) : (dmaMod s c f).mg = s.mg := rfl
@[simp] theorem dmaMod_pw (s : State) (c : Nat) (f : DmaCh → DmaCh) : (dmaMod s c f).pw = s.pw := rfl
@[simp] theorem dmaMod_gz (s : State) (c : Nat) (f : DmaCh → DmaCh) : (dmaMod s c f).gz = s.gz := rfl

/-! drMod changes `dr` alone. -/
@[simp] theorem drMod_pending (s : State) (f : DramSt → DramSt) : (drMod s f).pending = s.pending := rfl
@[simp] theorem drMod_out (s : State) (f : DramSt → DramSt) : (drMod s f).out = s.out := rfl
@[simp] theorem drMod_fresh (s : State) (f : DramSt → DramSt) : (drMod s f).fresh = s.fresh := rfl
@[simp] theorem drMod_regs (s : State) (f : DramSt → DramSt) : (drMod s f).regs = s.regs := rfl
@[simp] theorem drMod_fr (s : State) (f : DramSt → DramSt) : (drMod s f).fr = s.fr := rfl
@[simp] theorem drMod_host (s : State) (f : DramSt → DramSt) : (drMod s f).host = s.host := rfl
@[simp] theorem drMod_cq (s : State) (f : DramSt → DramSt) : (drMod s f).cq = s.cq := rfl
@[simp] theorem drMod_pc (s : State) (f : DramSt → DramSt) : (drMod s f).pc = s.pc := rfl
@[simp] theorem drMod_ev (s : State) (f : DramSt → DramSt) : (drMod s f).ev = s.ev := rfl
@[simp] theorem drMod_atl (s : State) (f : DramSt → DramSt) : (drMod s f).atl = s.atl := rfl
@[simp] theorem drMod_fl (s : State) (f : DramSt → DramSt) : (drMod s f).fl = s.fl := rfl
@[simp] theorem drMod_cs (s : State) (f : DramSt → DramSt) : (drMod s f).cs = s.cs := rfl
@[simp] theorem drMod_en (s : State) (f : DramSt → DramSt) : (drMod s f).en = s.en := rfl
@[simp] theorem drMod_ks (s : State) (f : DramSt → DramSt) : (drMod s f).ks = s.ks := rfl
@[simp] theorem drMod_mg (s : State) (f : DramSt → DramSt) : (drMod s f).mg = s.mg := rfl
@[simp] theorem drMod_pw (s : State) (f : DramSt → DramSt) : (drMod s f).pw = s.pw := rfl
@[simp] theorem drMod_gz (s : State) (f : DramSt → DramSt) : (drMod s f).gz = s.gz := rfl

/-! clusterMod changes `cs` alone. -/
@[simp] theorem clusterMod_pending (s : State) (cl : Nat) (f : Cluster → Cluster) : (clusterMod s cl f).pending = s.pending := rfl
@[simp] theorem clusterMod_out (s : State) (cl : Nat) (f : Cluster → Cluster) : (clusterMod s cl f).out = s.out := rfl
@[simp] theorem clusterMod_fresh (s : State) (cl : Nat) (f : Cluster → Cluster) : (clusterMod s cl f).fresh = s.fresh := rfl
@[simp] theorem clusterMod_regs (s : State) (cl : Nat) (f : Cluster → Cluster) : (clusterMod s cl f).regs = s.regs := rfl
@[simp] theorem clusterMod_fr (s : State) (cl : Nat) (f : Cluster → Cluster) : (clusterMod s cl f).fr = s.fr := rfl
@[simp] theorem clusterMod_host (s : State) (cl : Nat) (f : Cluster → Cluster) : (clusterMod s cl f).host = s.host := rfl
@[simp] theorem clusterMod_cq (s : State) (cl : Nat) (f : Cluster → Cluster) : (clusterMod s cl f).cq = s.cq := rfl
@[simp] theorem clusterMod_pc (s : State) (cl : Nat) (f : Cluster → Cluster) : (clusterMod s cl f).pc = s.pc := rfl
@[simp] theorem clusterMod_ev (s : State) (cl : Nat) (f : Cluster → Cluster) : (clusterMod s cl f).ev = s.ev := rfl
@[simp] theorem clusterMod_atl (s : State) (cl : Nat) (f : Cluster → Cluster) : (clusterMod s cl f).atl = s.atl := rfl
@[simp] theorem clusterMod_fl (s : State) (cl : Nat) (f : Cluster → Cluster) : (clusterMod s cl f).fl = s.fl := rfl
@[simp] theorem clusterMod_dr (s : State) (cl : Nat) (f : Cluster → Cluster) : (clusterMod s cl f).dr = s.dr := rfl
@[simp] theorem clusterMod_en (s : State) (cl : Nat) (f : Cluster → Cluster) : (clusterMod s cl f).en = s.en := rfl
@[simp] theorem clusterMod_ks (s : State) (cl : Nat) (f : Cluster → Cluster) : (clusterMod s cl f).ks = s.ks := rfl
@[simp] theorem clusterMod_mg (s : State) (cl : Nat) (f : Cluster → Cluster) : (clusterMod s cl f).mg = s.mg := rfl
@[simp] theorem clusterMod_pw (s : State) (cl : Nat) (f : Cluster → Cluster) : (clusterMod s cl f).pw = s.pw := rfl
@[simp] theorem clusterMod_gz (s : State) (cl : Nat) (f : Cluster → Cluster) : (clusterMod s cl f).gz = s.gz := rfl

/-! enMod changes `en` alone. -/
@[simp] theorem enMod_pending (s : State) (f : EngSt → EngSt) : (enMod s f).pending = s.pending := rfl
@[simp] theorem enMod_out (s : State) (f : EngSt → EngSt) : (enMod s f).out = s.out := rfl
@[simp] theorem enMod_fresh (s : State) (f : EngSt → EngSt) : (enMod s f).fresh = s.fresh := rfl
@[simp] theorem enMod_regs (s : State) (f : EngSt → EngSt) : (enMod s f).regs = s.regs := rfl
@[simp] theorem enMod_fr (s : State) (f : EngSt → EngSt) : (enMod s f).fr = s.fr := rfl
@[simp] theorem enMod_host (s : State) (f : EngSt → EngSt) : (enMod s f).host = s.host := rfl
@[simp] theorem enMod_cq (s : State) (f : EngSt → EngSt) : (enMod s f).cq = s.cq := rfl
@[simp] theorem enMod_pc (s : State) (f : EngSt → EngSt) : (enMod s f).pc = s.pc := rfl
@[simp] theorem enMod_ev (s : State) (f : EngSt → EngSt) : (enMod s f).ev = s.ev := rfl
@[simp] theorem enMod_atl (s : State) (f : EngSt → EngSt) : (enMod s f).atl = s.atl := rfl
@[simp] theorem enMod_fl (s : State) (f : EngSt → EngSt) : (enMod s f).fl = s.fl := rfl
@[simp] theorem enMod_dr (s : State) (f : EngSt → EngSt) : (enMod s f).dr = s.dr := rfl
@[simp] theorem enMod_cs (s : State) (f : EngSt → EngSt) : (enMod s f).cs = s.cs := rfl
@[simp] theorem enMod_ks (s : State) (f : EngSt → EngSt) : (enMod s f).ks = s.ks := rfl
@[simp] theorem enMod_mg (s : State) (f : EngSt → EngSt) : (enMod s f).mg = s.mg := rfl
@[simp] theorem enMod_pw (s : State) (f : EngSt → EngSt) : (enMod s f).pw = s.pw := rfl
@[simp] theorem enMod_gz (s : State) (f : EngSt → EngSt) : (enMod s f).gz = s.gz := rfl

/-! powMod changes `pw` alone. -/
@[simp] theorem powMod_pending (s : State) (f : PowSt → PowSt) : (powMod s f).pending = s.pending := rfl
@[simp] theorem powMod_out (s : State) (f : PowSt → PowSt) : (powMod s f).out = s.out := rfl
@[simp] theorem powMod_fresh (s : State) (f : PowSt → PowSt) : (powMod s f).fresh = s.fresh := rfl
@[simp] theorem powMod_regs (s : State) (f : PowSt → PowSt) : (powMod s f).regs = s.regs := rfl
@[simp] theorem powMod_fr (s : State) (f : PowSt → PowSt) : (powMod s f).fr = s.fr := rfl
@[simp] theorem powMod_host (s : State) (f : PowSt → PowSt) : (powMod s f).host = s.host := rfl
@[simp] theorem powMod_cq (s : State) (f : PowSt → PowSt) : (powMod s f).cq = s.cq := rfl
@[simp] theorem powMod_pc (s : State) (f : PowSt → PowSt) : (powMod s f).pc = s.pc := rfl
@[simp] theorem powMod_ev (s : State) (f : PowSt → PowSt) : (powMod s f).ev = s.ev := rfl
@[simp] theorem powMod_atl (s : State) (f : PowSt → PowSt) : (powMod s f).atl = s.atl := rfl
@[simp] theorem powMod_fl (s : State) (f : PowSt → PowSt) : (powMod s f).fl = s.fl := rfl
@[simp] theorem powMod_dr (s : State) (f : PowSt → PowSt) : (powMod s f).dr = s.dr := rfl
@[simp] theorem powMod_cs (s : State) (f : PowSt → PowSt) : (powMod s f).cs = s.cs := rfl
@[simp] theorem powMod_en (s : State) (f : PowSt → PowSt) : (powMod s f).en = s.en := rfl
@[simp] theorem powMod_ks (s : State) (f : PowSt → PowSt) : (powMod s f).ks = s.ks := rfl
@[simp] theorem powMod_mg (s : State) (f : PowSt → PowSt) : (powMod s f).mg = s.mg := rfl
@[simp] theorem powMod_gz (s : State) (f : PowSt → PowSt) : (powMod s f).gz = s.gz := rfl

/-! gzMod changes `gz` alone. -/
@[simp] theorem gzMod_pending (s : State) (f : GzSt → GzSt) : (gzMod s f).pending = s.pending := rfl
@[simp] theorem gzMod_out (s : State) (f : GzSt → GzSt) : (gzMod s f).out = s.out := rfl
@[simp] theorem gzMod_fresh (s : State) (f : GzSt → GzSt) : (gzMod s f).fresh = s.fresh := rfl
@[simp] theorem gzMod_regs (s : State) (f : GzSt → GzSt) : (gzMod s f).regs = s.regs := rfl
@[simp] theorem gzMod_fr (s : State) (f : GzSt → GzSt) : (gzMod s f).fr = s.fr := rfl
@[simp] theorem gzMod_host (s : State) (f : GzSt → GzSt) : (gzMod s f).host = s.host := rfl
@[simp] theorem gzMod_cq (s : State) (f : GzSt → GzSt) : (gzMod s f).cq = s.cq := rfl
@[simp] theorem gzMod_pc (s : State) (f : GzSt → GzSt) : (gzMod s f).pc = s.pc := rfl
@[simp] theorem gzMod_ev (s : State) (f : GzSt → GzSt) : (gzMod s f).ev = s.ev := rfl
@[simp] theorem gzMod_atl (s : State) (f : GzSt → GzSt) : (gzMod s f).atl = s.atl := rfl
@[simp] theorem gzMod_fl (s : State) (f : GzSt → GzSt) : (gzMod s f).fl = s.fl := rfl
@[simp] theorem gzMod_dr (s : State) (f : GzSt → GzSt) : (gzMod s f).dr = s.dr := rfl
@[simp] theorem gzMod_cs (s : State) (f : GzSt → GzSt) : (gzMod s f).cs = s.cs := rfl
@[simp] theorem gzMod_en (s : State) (f : GzSt → GzSt) : (gzMod s f).en = s.en := rfl
@[simp] theorem gzMod_ks (s : State) (f : GzSt → GzSt) : (gzMod s f).ks = s.ks := rfl
@[simp] theorem gzMod_mg (s : State) (f : GzSt → GzSt) : (gzMod s f).mg = s.mg := rfl
@[simp] theorem gzMod_pw (s : State) (f : GzSt → GzSt) : (gzMod s f).pw = s.pw := rfl

/-! ksMod changes `ks` alone. -/
@[simp] theorem ksMod_pending (s : State) (f : KeySt → KeySt) : (ksMod s f).pending = s.pending := rfl
@[simp] theorem ksMod_out (s : State) (f : KeySt → KeySt) : (ksMod s f).out = s.out := rfl
@[simp] theorem ksMod_fresh (s : State) (f : KeySt → KeySt) : (ksMod s f).fresh = s.fresh := rfl
@[simp] theorem ksMod_regs (s : State) (f : KeySt → KeySt) : (ksMod s f).regs = s.regs := rfl
@[simp] theorem ksMod_fr (s : State) (f : KeySt → KeySt) : (ksMod s f).fr = s.fr := rfl
@[simp] theorem ksMod_host (s : State) (f : KeySt → KeySt) : (ksMod s f).host = s.host := rfl
@[simp] theorem ksMod_cq (s : State) (f : KeySt → KeySt) : (ksMod s f).cq = s.cq := rfl
@[simp] theorem ksMod_pc (s : State) (f : KeySt → KeySt) : (ksMod s f).pc = s.pc := rfl
@[simp] theorem ksMod_ev (s : State) (f : KeySt → KeySt) : (ksMod s f).ev = s.ev := rfl
@[simp] theorem ksMod_atl (s : State) (f : KeySt → KeySt) : (ksMod s f).atl = s.atl := rfl
@[simp] theorem ksMod_fl (s : State) (f : KeySt → KeySt) : (ksMod s f).fl = s.fl := rfl
@[simp] theorem ksMod_dr (s : State) (f : KeySt → KeySt) : (ksMod s f).dr = s.dr := rfl
@[simp] theorem ksMod_cs (s : State) (f : KeySt → KeySt) : (ksMod s f).cs = s.cs := rfl
@[simp] theorem ksMod_en (s : State) (f : KeySt → KeySt) : (ksMod s f).en = s.en := rfl
@[simp] theorem ksMod_mg (s : State) (f : KeySt → KeySt) : (ksMod s f).mg = s.mg := rfl
@[simp] theorem ksMod_pw (s : State) (f : KeySt → KeySt) : (ksMod s f).pw = s.pw := rfl
@[simp] theorem ksMod_gz (s : State) (f : KeySt → KeySt) : (ksMod s f).gz = s.gz := rfl

/-! atlSet changes `atl` alone. -/
@[simp] theorem atlSet_pending (s : State) (f : AtlasSt → AtlasSt) : (atlSet s f).pending = s.pending := rfl
@[simp] theorem atlSet_out (s : State) (f : AtlasSt → AtlasSt) : (atlSet s f).out = s.out := rfl
@[simp] theorem atlSet_fresh (s : State) (f : AtlasSt → AtlasSt) : (atlSet s f).fresh = s.fresh := rfl
@[simp] theorem atlSet_regs (s : State) (f : AtlasSt → AtlasSt) : (atlSet s f).regs = s.regs := rfl
@[simp] theorem atlSet_fr (s : State) (f : AtlasSt → AtlasSt) : (atlSet s f).fr = s.fr := rfl
@[simp] theorem atlSet_host (s : State) (f : AtlasSt → AtlasSt) : (atlSet s f).host = s.host := rfl
@[simp] theorem atlSet_cq (s : State) (f : AtlasSt → AtlasSt) : (atlSet s f).cq = s.cq := rfl
@[simp] theorem atlSet_pc (s : State) (f : AtlasSt → AtlasSt) : (atlSet s f).pc = s.pc := rfl
@[simp] theorem atlSet_ev (s : State) (f : AtlasSt → AtlasSt) : (atlSet s f).ev = s.ev := rfl
@[simp] theorem atlSet_fl (s : State) (f : AtlasSt → AtlasSt) : (atlSet s f).fl = s.fl := rfl
@[simp] theorem atlSet_dr (s : State) (f : AtlasSt → AtlasSt) : (atlSet s f).dr = s.dr := rfl
@[simp] theorem atlSet_cs (s : State) (f : AtlasSt → AtlasSt) : (atlSet s f).cs = s.cs := rfl
@[simp] theorem atlSet_en (s : State) (f : AtlasSt → AtlasSt) : (atlSet s f).en = s.en := rfl
@[simp] theorem atlSet_ks (s : State) (f : AtlasSt → AtlasSt) : (atlSet s f).ks = s.ks := rfl
@[simp] theorem atlSet_mg (s : State) (f : AtlasSt → AtlasSt) : (atlSet s f).mg = s.mg := rfl
@[simp] theorem atlSet_pw (s : State) (f : AtlasSt → AtlasSt) : (atlSet s f).pw = s.pw := rfl
@[simp] theorem atlSet_gz (s : State) (f : AtlasSt → AtlasSt) : (atlSet s f).gz = s.gz := rfl

/-! flSet changes `fl` alone. -/
@[simp] theorem flSet_pending (s : State) (f : FlashSt → FlashSt) : (flSet s f).pending = s.pending := rfl
@[simp] theorem flSet_out (s : State) (f : FlashSt → FlashSt) : (flSet s f).out = s.out := rfl
@[simp] theorem flSet_fresh (s : State) (f : FlashSt → FlashSt) : (flSet s f).fresh = s.fresh := rfl
@[simp] theorem flSet_regs (s : State) (f : FlashSt → FlashSt) : (flSet s f).regs = s.regs := rfl
@[simp] theorem flSet_fr (s : State) (f : FlashSt → FlashSt) : (flSet s f).fr = s.fr := rfl
@[simp] theorem flSet_host (s : State) (f : FlashSt → FlashSt) : (flSet s f).host = s.host := rfl
@[simp] theorem flSet_cq (s : State) (f : FlashSt → FlashSt) : (flSet s f).cq = s.cq := rfl
@[simp] theorem flSet_pc (s : State) (f : FlashSt → FlashSt) : (flSet s f).pc = s.pc := rfl
@[simp] theorem flSet_ev (s : State) (f : FlashSt → FlashSt) : (flSet s f).ev = s.ev := rfl
@[simp] theorem flSet_atl (s : State) (f : FlashSt → FlashSt) : (flSet s f).atl = s.atl := rfl
@[simp] theorem flSet_dr (s : State) (f : FlashSt → FlashSt) : (flSet s f).dr = s.dr := rfl
@[simp] theorem flSet_cs (s : State) (f : FlashSt → FlashSt) : (flSet s f).cs = s.cs := rfl
@[simp] theorem flSet_en (s : State) (f : FlashSt → FlashSt) : (flSet s f).en = s.en := rfl
@[simp] theorem flSet_ks (s : State) (f : FlashSt → FlashSt) : (flSet s f).ks = s.ks := rfl
@[simp] theorem flSet_mg (s : State) (f : FlashSt → FlashSt) : (flSet s f).mg = s.mg := rfl
@[simp] theorem flSet_pw (s : State) (f : FlashSt → FlashSt) : (flSet s f).pw = s.pw := rfl
@[simp] theorem flSet_gz (s : State) (f : FlashSt → FlashSt) : (flSet s f).gz = s.gz := rfl

/-! coreMod changes `cs` alone. -/
@[simp] theorem coreMod_pending (s : State) (c : Nat) (f : Core → Core) : (coreMod s c f).pending = s.pending := rfl
@[simp] theorem coreMod_out (s : State) (c : Nat) (f : Core → Core) : (coreMod s c f).out = s.out := rfl
@[simp] theorem coreMod_fresh (s : State) (c : Nat) (f : Core → Core) : (coreMod s c f).fresh = s.fresh := rfl
@[simp] theorem coreMod_regs (s : State) (c : Nat) (f : Core → Core) : (coreMod s c f).regs = s.regs := rfl
@[simp] theorem coreMod_fr (s : State) (c : Nat) (f : Core → Core) : (coreMod s c f).fr = s.fr := rfl
@[simp] theorem coreMod_host (s : State) (c : Nat) (f : Core → Core) : (coreMod s c f).host = s.host := rfl
@[simp] theorem coreMod_cq (s : State) (c : Nat) (f : Core → Core) : (coreMod s c f).cq = s.cq := rfl
@[simp] theorem coreMod_pc (s : State) (c : Nat) (f : Core → Core) : (coreMod s c f).pc = s.pc := rfl
@[simp] theorem coreMod_ev (s : State) (c : Nat) (f : Core → Core) : (coreMod s c f).ev = s.ev := rfl
@[simp] theorem coreMod_atl (s : State) (c : Nat) (f : Core → Core) : (coreMod s c f).atl = s.atl := rfl
@[simp] theorem coreMod_fl (s : State) (c : Nat) (f : Core → Core) : (coreMod s c f).fl = s.fl := rfl
@[simp] theorem coreMod_dr (s : State) (c : Nat) (f : Core → Core) : (coreMod s c f).dr = s.dr := rfl
@[simp] theorem coreMod_en (s : State) (c : Nat) (f : Core → Core) : (coreMod s c f).en = s.en := rfl
@[simp] theorem coreMod_ks (s : State) (c : Nat) (f : Core → Core) : (coreMod s c f).ks = s.ks := rfl
@[simp] theorem coreMod_mg (s : State) (c : Nat) (f : Core → Core) : (coreMod s c f).mg = s.mg := rfl
@[simp] theorem coreMod_pw (s : State) (c : Nat) (f : Core → Core) : (coreMod s c f).pw = s.pw := rfl
@[simp] theorem coreMod_gz (s : State) (c : Nat) (f : Core → Core) : (coreMod s c f).gz = s.gz := rfl

/-! regPut changes `regs` alone. -/
@[simp] theorem regPut_pending (s : State) (a v : Nat) : (regPut s a v).pending = s.pending := rfl
@[simp] theorem regPut_out (s : State) (a v : Nat) : (regPut s a v).out = s.out := rfl
@[simp] theorem regPut_fresh (s : State) (a v : Nat) : (regPut s a v).fresh = s.fresh := rfl
@[simp] theorem regPut_fr (s : State) (a v : Nat) : (regPut s a v).fr = s.fr := rfl
@[simp] theorem regPut_host (s : State) (a v : Nat) : (regPut s a v).host = s.host := rfl
@[simp] theorem regPut_cq (s : State) (a v : Nat) : (regPut s a v).cq = s.cq := rfl
@[simp] theorem regPut_pc (s : State) (a v : Nat) : (regPut s a v).pc = s.pc := rfl
@[simp] theorem regPut_ev (s : State) (a v : Nat) : (regPut s a v).ev = s.ev := rfl
@[simp] theorem regPut_atl (s : State) (a v : Nat) : (regPut s a v).atl = s.atl := rfl
@[simp] theorem regPut_fl (s : State) (a v : Nat) : (regPut s a v).fl = s.fl := rfl
@[simp] theorem regPut_dr (s : State) (a v : Nat) : (regPut s a v).dr = s.dr := rfl
@[simp] theorem regPut_cs (s : State) (a v : Nat) : (regPut s a v).cs = s.cs := rfl
@[simp] theorem regPut_en (s : State) (a v : Nat) : (regPut s a v).en = s.en := rfl
@[simp] theorem regPut_ks (s : State) (a v : Nat) : (regPut s a v).ks = s.ks := rfl
@[simp] theorem regPut_mg (s : State) (a v : Nat) : (regPut s a v).mg = s.mg := rfl
@[simp] theorem regPut_pw (s : State) (a v : Nat) : (regPut s a v).pw = s.pw := rfl
@[simp] theorem regPut_gz (s : State) (a v : Nat) : (regPut s a v).gz = s.gz := rfl

/-! emit changes `out` alone. -/
@[simp] theorem emit_pending (s : State) (o : Out) : (emit s o).pending = s.pending := rfl
@[simp] theorem emit_fresh (s : State) (o : Out) : (emit s o).fresh = s.fresh := rfl
@[simp] theorem emit_regs (s : State) (o : Out) : (emit s o).regs = s.regs := rfl
@[simp] theorem emit_fr (s : State) (o : Out) : (emit s o).fr = s.fr := rfl
@[simp] theorem emit_host (s : State) (o : Out) : (emit s o).host = s.host := rfl
@[simp] theorem emit_cq (s : State) (o : Out) : (emit s o).cq = s.cq := rfl
@[simp] theorem emit_pc (s : State) (o : Out) : (emit s o).pc = s.pc := rfl
@[simp] theorem emit_ev (s : State) (o : Out) : (emit s o).ev = s.ev := rfl
@[simp] theorem emit_atl (s : State) (o : Out) : (emit s o).atl = s.atl := rfl
@[simp] theorem emit_fl (s : State) (o : Out) : (emit s o).fl = s.fl := rfl
@[simp] theorem emit_dr (s : State) (o : Out) : (emit s o).dr = s.dr := rfl
@[simp] theorem emit_cs (s : State) (o : Out) : (emit s o).cs = s.cs := rfl
@[simp] theorem emit_en (s : State) (o : Out) : (emit s o).en = s.en := rfl
@[simp] theorem emit_ks (s : State) (o : Out) : (emit s o).ks = s.ks := rfl
@[simp] theorem emit_mg (s : State) (o : Out) : (emit s o).mg = s.mg := rfl
@[simp] theorem emit_pw (s : State) (o : Out) : (emit s o).pw = s.pw := rfl
@[simp] theorem emit_gz (s : State) (o : Out) : (emit s o).gz = s.gz := rfl

/-! emits changes `out` alone. -/
@[simp] theorem emits_pending (s : State) (os : List Out) : (emits s os).pending = s.pending := rfl
@[simp] theorem emits_fresh (s : State) (os : List Out) : (emits s os).fresh = s.fresh := rfl
@[simp] theorem emits_regs (s : State) (os : List Out) : (emits s os).regs = s.regs := rfl
@[simp] theorem emits_fr (s : State) (os : List Out) : (emits s os).fr = s.fr := rfl
@[simp] theorem emits_host (s : State) (os : List Out) : (emits s os).host = s.host := rfl
@[simp] theorem emits_cq (s : State) (os : List Out) : (emits s os).cq = s.cq := rfl
@[simp] theorem emits_pc (s : State) (os : List Out) : (emits s os).pc = s.pc := rfl
@[simp] theorem emits_ev (s : State) (os : List Out) : (emits s os).ev = s.ev := rfl
@[simp] theorem emits_atl (s : State) (os : List Out) : (emits s os).atl = s.atl := rfl
@[simp] theorem emits_fl (s : State) (os : List Out) : (emits s os).fl = s.fl := rfl
@[simp] theorem emits_dr (s : State) (os : List Out) : (emits s os).dr = s.dr := rfl
@[simp] theorem emits_cs (s : State) (os : List Out) : (emits s os).cs = s.cs := rfl
@[simp] theorem emits_en (s : State) (os : List Out) : (emits s os).en = s.en := rfl
@[simp] theorem emits_ks (s : State) (os : List Out) : (emits s os).ks = s.ks := rfl
@[simp] theorem emits_mg (s : State) (os : List Out) : (emits s os).mg = s.mg := rfl
@[simp] theorem emits_pw (s : State) (os : List Out) : (emits s os).pw = s.pw := rfl
@[simp] theorem emits_gz (s : State) (os : List Out) : (emits s os).gz = s.gz := rfl

/-! fnMod changes `host` alone. -/
@[simp] theorem fnMod_pending (s : State) (f : Nat) (g : Fn → Fn) : (fnMod s f g).pending = s.pending := rfl
@[simp] theorem fnMod_out (s : State) (f : Nat) (g : Fn → Fn) : (fnMod s f g).out = s.out := rfl
@[simp] theorem fnMod_fresh (s : State) (f : Nat) (g : Fn → Fn) : (fnMod s f g).fresh = s.fresh := rfl
@[simp] theorem fnMod_regs (s : State) (f : Nat) (g : Fn → Fn) : (fnMod s f g).regs = s.regs := rfl
@[simp] theorem fnMod_fr (s : State) (f : Nat) (g : Fn → Fn) : (fnMod s f g).fr = s.fr := rfl
@[simp] theorem fnMod_cq (s : State) (f : Nat) (g : Fn → Fn) : (fnMod s f g).cq = s.cq := rfl
@[simp] theorem fnMod_pc (s : State) (f : Nat) (g : Fn → Fn) : (fnMod s f g).pc = s.pc := rfl
@[simp] theorem fnMod_ev (s : State) (f : Nat) (g : Fn → Fn) : (fnMod s f g).ev = s.ev := rfl
@[simp] theorem fnMod_atl (s : State) (f : Nat) (g : Fn → Fn) : (fnMod s f g).atl = s.atl := rfl
@[simp] theorem fnMod_fl (s : State) (f : Nat) (g : Fn → Fn) : (fnMod s f g).fl = s.fl := rfl
@[simp] theorem fnMod_dr (s : State) (f : Nat) (g : Fn → Fn) : (fnMod s f g).dr = s.dr := rfl
@[simp] theorem fnMod_cs (s : State) (f : Nat) (g : Fn → Fn) : (fnMod s f g).cs = s.cs := rfl
@[simp] theorem fnMod_en (s : State) (f : Nat) (g : Fn → Fn) : (fnMod s f g).en = s.en := rfl
@[simp] theorem fnMod_ks (s : State) (f : Nat) (g : Fn → Fn) : (fnMod s f g).ks = s.ks := rfl
@[simp] theorem fnMod_mg (s : State) (f : Nat) (g : Fn → Fn) : (fnMod s f g).mg = s.mg := rfl
@[simp] theorem fnMod_pw (s : State) (f : Nat) (g : Fn → Fn) : (fnMod s f g).pw = s.pw := rfl
@[simp] theorem fnMod_gz (s : State) (f : Nat) (g : Fn → Fn) : (fnMod s f g).gz = s.gz := rfl

/-! ctrlMod changes `host` alone. -/
@[simp] theorem ctrlMod_pending (s : State) (c : Nat) (g : Ctrl → Ctrl) : (ctrlMod s c g).pending = s.pending := rfl
@[simp] theorem ctrlMod_out (s : State) (c : Nat) (g : Ctrl → Ctrl) : (ctrlMod s c g).out = s.out := rfl
@[simp] theorem ctrlMod_fresh (s : State) (c : Nat) (g : Ctrl → Ctrl) : (ctrlMod s c g).fresh = s.fresh := rfl
@[simp] theorem ctrlMod_regs (s : State) (c : Nat) (g : Ctrl → Ctrl) : (ctrlMod s c g).regs = s.regs := rfl
@[simp] theorem ctrlMod_fr (s : State) (c : Nat) (g : Ctrl → Ctrl) : (ctrlMod s c g).fr = s.fr := rfl
@[simp] theorem ctrlMod_cq (s : State) (c : Nat) (g : Ctrl → Ctrl) : (ctrlMod s c g).cq = s.cq := rfl
@[simp] theorem ctrlMod_pc (s : State) (c : Nat) (g : Ctrl → Ctrl) : (ctrlMod s c g).pc = s.pc := rfl
@[simp] theorem ctrlMod_ev (s : State) (c : Nat) (g : Ctrl → Ctrl) : (ctrlMod s c g).ev = s.ev := rfl
@[simp] theorem ctrlMod_atl (s : State) (c : Nat) (g : Ctrl → Ctrl) : (ctrlMod s c g).atl = s.atl := rfl
@[simp] theorem ctrlMod_fl (s : State) (c : Nat) (g : Ctrl → Ctrl) : (ctrlMod s c g).fl = s.fl := rfl
@[simp] theorem ctrlMod_dr (s : State) (c : Nat) (g : Ctrl → Ctrl) : (ctrlMod s c g).dr = s.dr := rfl
@[simp] theorem ctrlMod_cs (s : State) (c : Nat) (g : Ctrl → Ctrl) : (ctrlMod s c g).cs = s.cs := rfl
@[simp] theorem ctrlMod_en (s : State) (c : Nat) (g : Ctrl → Ctrl) : (ctrlMod s c g).en = s.en := rfl
@[simp] theorem ctrlMod_ks (s : State) (c : Nat) (g : Ctrl → Ctrl) : (ctrlMod s c g).ks = s.ks := rfl
@[simp] theorem ctrlMod_mg (s : State) (c : Nat) (g : Ctrl → Ctrl) : (ctrlMod s c g).mg = s.mg := rfl
@[simp] theorem ctrlMod_pw (s : State) (c : Nat) (g : Ctrl → Ctrl) : (ctrlMod s c g).pw = s.pw := rfl
@[simp] theorem ctrlMod_gz (s : State) (c : Nat) (g : Ctrl → Ctrl) : (ctrlMod s c g).gz = s.gz := rfl

/-! connMod changes `host` alone. -/
@[simp] theorem connMod_pending (s : State) (c : Nat) (g : Conn → Conn) : (connMod s c g).pending = s.pending := rfl
@[simp] theorem connMod_out (s : State) (c : Nat) (g : Conn → Conn) : (connMod s c g).out = s.out := rfl
@[simp] theorem connMod_fresh (s : State) (c : Nat) (g : Conn → Conn) : (connMod s c g).fresh = s.fresh := rfl
@[simp] theorem connMod_regs (s : State) (c : Nat) (g : Conn → Conn) : (connMod s c g).regs = s.regs := rfl
@[simp] theorem connMod_fr (s : State) (c : Nat) (g : Conn → Conn) : (connMod s c g).fr = s.fr := rfl
@[simp] theorem connMod_cq (s : State) (c : Nat) (g : Conn → Conn) : (connMod s c g).cq = s.cq := rfl
@[simp] theorem connMod_pc (s : State) (c : Nat) (g : Conn → Conn) : (connMod s c g).pc = s.pc := rfl
@[simp] theorem connMod_ev (s : State) (c : Nat) (g : Conn → Conn) : (connMod s c g).ev = s.ev := rfl
@[simp] theorem connMod_atl (s : State) (c : Nat) (g : Conn → Conn) : (connMod s c g).atl = s.atl := rfl
@[simp] theorem connMod_fl (s : State) (c : Nat) (g : Conn → Conn) : (connMod s c g).fl = s.fl := rfl
@[simp] theorem connMod_dr (s : State) (c : Nat) (g : Conn → Conn) : (connMod s c g).dr = s.dr := rfl
@[simp] theorem connMod_cs (s : State) (c : Nat) (g : Conn → Conn) : (connMod s c g).cs = s.cs := rfl
@[simp] theorem connMod_en (s : State) (c : Nat) (g : Conn → Conn) : (connMod s c g).en = s.en := rfl
@[simp] theorem connMod_ks (s : State) (c : Nat) (g : Conn → Conn) : (connMod s c g).ks = s.ks := rfl
@[simp] theorem connMod_mg (s : State) (c : Nat) (g : Conn → Conn) : (connMod s c g).mg = s.mg := rfl
@[simp] theorem connMod_pw (s : State) (c : Nat) (g : Conn → Conn) : (connMod s c g).pw = s.pw := rfl
@[simp] theorem connMod_gz (s : State) (c : Nat) (g : Conn → Conn) : (connMod s c g).gz = s.gz := rfl

/-! parMod changes `pc` alone. -/
@[simp] theorem parMod_pending (s : State) (p : Nat) (g : Parcel → Parcel) : (parMod s p g).pending = s.pending := rfl
@[simp] theorem parMod_out (s : State) (p : Nat) (g : Parcel → Parcel) : (parMod s p g).out = s.out := rfl
@[simp] theorem parMod_fresh (s : State) (p : Nat) (g : Parcel → Parcel) : (parMod s p g).fresh = s.fresh := rfl
@[simp] theorem parMod_regs (s : State) (p : Nat) (g : Parcel → Parcel) : (parMod s p g).regs = s.regs := rfl
@[simp] theorem parMod_fr (s : State) (p : Nat) (g : Parcel → Parcel) : (parMod s p g).fr = s.fr := rfl
@[simp] theorem parMod_host (s : State) (p : Nat) (g : Parcel → Parcel) : (parMod s p g).host = s.host := rfl
@[simp] theorem parMod_cq (s : State) (p : Nat) (g : Parcel → Parcel) : (parMod s p g).cq = s.cq := rfl
@[simp] theorem parMod_ev (s : State) (p : Nat) (g : Parcel → Parcel) : (parMod s p g).ev = s.ev := rfl
@[simp] theorem parMod_atl (s : State) (p : Nat) (g : Parcel → Parcel) : (parMod s p g).atl = s.atl := rfl
@[simp] theorem parMod_fl (s : State) (p : Nat) (g : Parcel → Parcel) : (parMod s p g).fl = s.fl := rfl
@[simp] theorem parMod_dr (s : State) (p : Nat) (g : Parcel → Parcel) : (parMod s p g).dr = s.dr := rfl
@[simp] theorem parMod_cs (s : State) (p : Nat) (g : Parcel → Parcel) : (parMod s p g).cs = s.cs := rfl
@[simp] theorem parMod_en (s : State) (p : Nat) (g : Parcel → Parcel) : (parMod s p g).en = s.en := rfl
@[simp] theorem parMod_ks (s : State) (p : Nat) (g : Parcel → Parcel) : (parMod s p g).ks = s.ks := rfl
@[simp] theorem parMod_mg (s : State) (p : Nat) (g : Parcel → Parcel) : (parMod s p g).mg = s.mg := rfl
@[simp] theorem parMod_pw (s : State) (p : Nat) (g : Parcel → Parcel) : (parMod s p g).pw = s.pw := rfl
@[simp] theorem parMod_gz (s : State) (p : Nat) (g : Parcel → Parcel) : (parMod s p g).gz = s.gz := rfl

/-! tkMod changes `cq` alone. -/
@[simp] theorem tkMod_pending (s : State) (i : Nat) (g : Ticket → Ticket) : (tkMod s i g).pending = s.pending := rfl
@[simp] theorem tkMod_out (s : State) (i : Nat) (g : Ticket → Ticket) : (tkMod s i g).out = s.out := rfl
@[simp] theorem tkMod_fresh (s : State) (i : Nat) (g : Ticket → Ticket) : (tkMod s i g).fresh = s.fresh := rfl
@[simp] theorem tkMod_regs (s : State) (i : Nat) (g : Ticket → Ticket) : (tkMod s i g).regs = s.regs := rfl
@[simp] theorem tkMod_fr (s : State) (i : Nat) (g : Ticket → Ticket) : (tkMod s i g).fr = s.fr := rfl
@[simp] theorem tkMod_host (s : State) (i : Nat) (g : Ticket → Ticket) : (tkMod s i g).host = s.host := rfl
@[simp] theorem tkMod_pc (s : State) (i : Nat) (g : Ticket → Ticket) : (tkMod s i g).pc = s.pc := rfl
@[simp] theorem tkMod_ev (s : State) (i : Nat) (g : Ticket → Ticket) : (tkMod s i g).ev = s.ev := rfl
@[simp] theorem tkMod_atl (s : State) (i : Nat) (g : Ticket → Ticket) : (tkMod s i g).atl = s.atl := rfl
@[simp] theorem tkMod_fl (s : State) (i : Nat) (g : Ticket → Ticket) : (tkMod s i g).fl = s.fl := rfl
@[simp] theorem tkMod_dr (s : State) (i : Nat) (g : Ticket → Ticket) : (tkMod s i g).dr = s.dr := rfl
@[simp] theorem tkMod_cs (s : State) (i : Nat) (g : Ticket → Ticket) : (tkMod s i g).cs = s.cs := rfl
@[simp] theorem tkMod_en (s : State) (i : Nat) (g : Ticket → Ticket) : (tkMod s i g).en = s.en := rfl
@[simp] theorem tkMod_ks (s : State) (i : Nat) (g : Ticket → Ticket) : (tkMod s i g).ks = s.ks := rfl
@[simp] theorem tkMod_mg (s : State) (i : Nat) (g : Ticket → Ticket) : (tkMod s i g).mg = s.mg := rfl
@[simp] theorem tkMod_pw (s : State) (i : Nat) (g : Ticket → Ticket) : (tkMod s i g).pw = s.pw := rfl
@[simp] theorem tkMod_gz (s : State) (i : Nat) (g : Ticket → Ticket) : (tkMod s i g).gz = s.gz := rfl

/-! mgMod changes `mg` alone. -/
@[simp] theorem mgMod_pending (s : State) (f : MgSt → MgSt) : (mgMod s f).pending = s.pending := rfl
@[simp] theorem mgMod_out (s : State) (f : MgSt → MgSt) : (mgMod s f).out = s.out := rfl
@[simp] theorem mgMod_fresh (s : State) (f : MgSt → MgSt) : (mgMod s f).fresh = s.fresh := rfl
@[simp] theorem mgMod_regs (s : State) (f : MgSt → MgSt) : (mgMod s f).regs = s.regs := rfl
@[simp] theorem mgMod_fr (s : State) (f : MgSt → MgSt) : (mgMod s f).fr = s.fr := rfl
@[simp] theorem mgMod_host (s : State) (f : MgSt → MgSt) : (mgMod s f).host = s.host := rfl
@[simp] theorem mgMod_cq (s : State) (f : MgSt → MgSt) : (mgMod s f).cq = s.cq := rfl
@[simp] theorem mgMod_pc (s : State) (f : MgSt → MgSt) : (mgMod s f).pc = s.pc := rfl
@[simp] theorem mgMod_ev (s : State) (f : MgSt → MgSt) : (mgMod s f).ev = s.ev := rfl
@[simp] theorem mgMod_atl (s : State) (f : MgSt → MgSt) : (mgMod s f).atl = s.atl := rfl
@[simp] theorem mgMod_fl (s : State) (f : MgSt → MgSt) : (mgMod s f).fl = s.fl := rfl
@[simp] theorem mgMod_dr (s : State) (f : MgSt → MgSt) : (mgMod s f).dr = s.dr := rfl
@[simp] theorem mgMod_cs (s : State) (f : MgSt → MgSt) : (mgMod s f).cs = s.cs := rfl
@[simp] theorem mgMod_en (s : State) (f : MgSt → MgSt) : (mgMod s f).en = s.en := rfl
@[simp] theorem mgMod_ks (s : State) (f : MgSt → MgSt) : (mgMod s f).ks = s.ks := rfl
@[simp] theorem mgMod_pw (s : State) (f : MgSt → MgSt) : (mgMod s f).pw = s.pw := rfl
@[simp] theorem mgMod_gz (s : State) (f : MgSt → MgSt) : (mgMod s f).gz = s.gz := rfl

/-! linkPut changes `host` alone. -/
@[simp] theorem linkPut_pending (s : State) (l : Link) (x : LinkSt) : (linkPut s l x).pending = s.pending := rfl
@[simp] theorem linkPut_out (s : State) (l : Link) (x : LinkSt) : (linkPut s l x).out = s.out := rfl
@[simp] theorem linkPut_fresh (s : State) (l : Link) (x : LinkSt) : (linkPut s l x).fresh = s.fresh := rfl
@[simp] theorem linkPut_regs (s : State) (l : Link) (x : LinkSt) : (linkPut s l x).regs = s.regs := rfl
@[simp] theorem linkPut_fr (s : State) (l : Link) (x : LinkSt) : (linkPut s l x).fr = s.fr := rfl
@[simp] theorem linkPut_cq (s : State) (l : Link) (x : LinkSt) : (linkPut s l x).cq = s.cq := rfl
@[simp] theorem linkPut_pc (s : State) (l : Link) (x : LinkSt) : (linkPut s l x).pc = s.pc := rfl
@[simp] theorem linkPut_ev (s : State) (l : Link) (x : LinkSt) : (linkPut s l x).ev = s.ev := rfl
@[simp] theorem linkPut_atl (s : State) (l : Link) (x : LinkSt) : (linkPut s l x).atl = s.atl := rfl
@[simp] theorem linkPut_fl (s : State) (l : Link) (x : LinkSt) : (linkPut s l x).fl = s.fl := rfl
@[simp] theorem linkPut_dr (s : State) (l : Link) (x : LinkSt) : (linkPut s l x).dr = s.dr := rfl
@[simp] theorem linkPut_cs (s : State) (l : Link) (x : LinkSt) : (linkPut s l x).cs = s.cs := rfl
@[simp] theorem linkPut_en (s : State) (l : Link) (x : LinkSt) : (linkPut s l x).en = s.en := rfl
@[simp] theorem linkPut_ks (s : State) (l : Link) (x : LinkSt) : (linkPut s l x).ks = s.ks := rfl
@[simp] theorem linkPut_mg (s : State) (l : Link) (x : LinkSt) : (linkPut s l x).mg = s.mg := rfl
@[simp] theorem linkPut_pw (s : State) (l : Link) (x : LinkSt) : (linkPut s l x).pw = s.pw := rfl
@[simp] theorem linkPut_gz (s : State) (l : Link) (x : LinkSt) : (linkPut s l x).gz = s.gz := rfl

/-! csMod changes `cs` alone. -/
@[simp] theorem csMod_pending (s : State) (f : ClusSt → ClusSt) : (csMod s f).pending = s.pending := rfl
@[simp] theorem csMod_out (s : State) (f : ClusSt → ClusSt) : (csMod s f).out = s.out := rfl
@[simp] theorem csMod_fresh (s : State) (f : ClusSt → ClusSt) : (csMod s f).fresh = s.fresh := rfl
@[simp] theorem csMod_regs (s : State) (f : ClusSt → ClusSt) : (csMod s f).regs = s.regs := rfl
@[simp] theorem csMod_fr (s : State) (f : ClusSt → ClusSt) : (csMod s f).fr = s.fr := rfl
@[simp] theorem csMod_host (s : State) (f : ClusSt → ClusSt) : (csMod s f).host = s.host := rfl
@[simp] theorem csMod_cq (s : State) (f : ClusSt → ClusSt) : (csMod s f).cq = s.cq := rfl
@[simp] theorem csMod_pc (s : State) (f : ClusSt → ClusSt) : (csMod s f).pc = s.pc := rfl
@[simp] theorem csMod_ev (s : State) (f : ClusSt → ClusSt) : (csMod s f).ev = s.ev := rfl
@[simp] theorem csMod_atl (s : State) (f : ClusSt → ClusSt) : (csMod s f).atl = s.atl := rfl
@[simp] theorem csMod_fl (s : State) (f : ClusSt → ClusSt) : (csMod s f).fl = s.fl := rfl
@[simp] theorem csMod_dr (s : State) (f : ClusSt → ClusSt) : (csMod s f).dr = s.dr := rfl
@[simp] theorem csMod_en (s : State) (f : ClusSt → ClusSt) : (csMod s f).en = s.en := rfl
@[simp] theorem csMod_ks (s : State) (f : ClusSt → ClusSt) : (csMod s f).ks = s.ks := rfl
@[simp] theorem csMod_mg (s : State) (f : ClusSt → ClusSt) : (csMod s f).mg = s.mg := rfl
@[simp] theorem csMod_pw (s : State) (f : ClusSt → ClusSt) : (csMod s f).pw = s.pw := rfl
@[simp] theorem csMod_gz (s : State) (f : ClusSt → ClusSt) : (csMod s f).gz = s.gz := rfl

/-! spdmPut changes `host` alone. -/
@[simp] theorem spdmPut_pending (s : State) (ep : SpdmEp) (x : Spdm) : (spdmPut s ep x).pending = s.pending := rfl
@[simp] theorem spdmPut_out (s : State) (ep : SpdmEp) (x : Spdm) : (spdmPut s ep x).out = s.out := rfl
@[simp] theorem spdmPut_fresh (s : State) (ep : SpdmEp) (x : Spdm) : (spdmPut s ep x).fresh = s.fresh := rfl
@[simp] theorem spdmPut_regs (s : State) (ep : SpdmEp) (x : Spdm) : (spdmPut s ep x).regs = s.regs := rfl
@[simp] theorem spdmPut_fr (s : State) (ep : SpdmEp) (x : Spdm) : (spdmPut s ep x).fr = s.fr := rfl
@[simp] theorem spdmPut_cq (s : State) (ep : SpdmEp) (x : Spdm) : (spdmPut s ep x).cq = s.cq := rfl
@[simp] theorem spdmPut_pc (s : State) (ep : SpdmEp) (x : Spdm) : (spdmPut s ep x).pc = s.pc := rfl
@[simp] theorem spdmPut_ev (s : State) (ep : SpdmEp) (x : Spdm) : (spdmPut s ep x).ev = s.ev := rfl
@[simp] theorem spdmPut_atl (s : State) (ep : SpdmEp) (x : Spdm) : (spdmPut s ep x).atl = s.atl := rfl
@[simp] theorem spdmPut_fl (s : State) (ep : SpdmEp) (x : Spdm) : (spdmPut s ep x).fl = s.fl := rfl
@[simp] theorem spdmPut_dr (s : State) (ep : SpdmEp) (x : Spdm) : (spdmPut s ep x).dr = s.dr := rfl
@[simp] theorem spdmPut_cs (s : State) (ep : SpdmEp) (x : Spdm) : (spdmPut s ep x).cs = s.cs := rfl
@[simp] theorem spdmPut_en (s : State) (ep : SpdmEp) (x : Spdm) : (spdmPut s ep x).en = s.en := rfl
@[simp] theorem spdmPut_ks (s : State) (ep : SpdmEp) (x : Spdm) : (spdmPut s ep x).ks = s.ks := rfl
@[simp] theorem spdmPut_mg (s : State) (ep : SpdmEp) (x : Spdm) : (spdmPut s ep x).mg = s.mg := rfl
@[simp] theorem spdmPut_pw (s : State) (ep : SpdmEp) (x : Spdm) : (spdmPut s ep x).pw = s.pw := rfl
@[simp] theorem spdmPut_gz (s : State) (ep : SpdmEp) (x : Spdm) : (spdmPut s ep x).gz = s.gz := rfl

end Sys2Proof.Laws
end

