-- ==== Sys2Proof/Laws/Dram.lean ====
section
/-! SUPPORT. What a DRAM access can do beside its data: a request that is served changes queues, banks, counters and free values,
and never what DRAM holds. -/
namespace Sys2Proof.Laws
open Sys2Proof Sys2Proof.Machine

/-- Two states that differ at most in DRAM's queues, epochs and banks, in registers and in the free values taken. -/
structure Served (s t : State) : Prop where
  rest : t = { s with dr := t.dr, regs := t.regs, fresh := t.fresh }
  mem : t.dr.mem = s.dr.mem
  words : t.dr.words = s.dr.words
  poison : t.dr.poison = s.dr.poison
  tags : t.dr.tags = s.dr.tags
  hard : t.dr.hard = s.dr.hard

theorem served_refl (s : State) : Served s s := ⟨rfl, rfl, rfl, rfl, rfl, rfl⟩

theorem served_trans {s t u : State} (h : Served s t) (k : Served t u) : Served s u where
  rest := by rw [k.rest, h.rest]
  mem := k.mem.trans h.mem
  words := k.words.trans h.words
  poison := k.poison.trans h.poison
  tags := k.tags.trans h.tags
  hard := k.hard.trans h.hard

theorem served_regPut (s : State) (a v : Nat) : Served s (regPut s a v) := ⟨rfl, rfl, rfl, rfl, rfl, rfl⟩

theorem served_paydownEnd (s : State) (ch : Nat) : Served s (paydownEnd s ch) := by
  unfold paydownEnd
  split
  · exact served_regPut ..
  · exact served_refl s

/-- Predictor, open row and activate count of a bank; the neighbours' refresh is a counter and a free value. -/
theorem served_bankAccess (s : State) (l : Nat) : Served s (bankAccess s l) := by
  unfold bankAccess
  extract_lets
  split
  · exact ⟨rfl, rfl, rfl, rfl, rfl, rfl⟩
  · unfold neighbourRefresh
    extract_lets
    split
    · exact ⟨rfl, rfl, rfl, rfl, rfl, rfl⟩
    · exact ⟨rfl, rfl, rfl, rfl, rfl, rfl⟩

theorem served_owedTake (s : State) (ch sub rank : Nat) : Served s (owedTake s ch sub rank) := by
  unfold owedTake
  refine served_trans (t := owedPut (refreshIssue s ch sub rank) ch sub rank (owedGet s ch sub rank - 1)) ?_ (served_paydownEnd ..)
  exact served_trans (t := refreshIssue s ch sub rank) ⟨rfl, rfl, rfl, rfl, rfl, rfl⟩ (served_regPut ..)

/-- An update of DRAM's own record that leaves what it holds. -/
theorem served_drMod (s : State) (f : DramSt → DramSt) (mem : (f s.dr).mem = s.dr.mem) (words : (f s.dr).words = s.dr.words)
    (poison : (f s.dr).poison = s.dr.poison) (tags : (f s.dr).tags = s.dr.tags) (hard : (f s.dr).hard = s.dr.hard) :
    Served s (drMod s f) := ⟨rfl, mem, words, poison, tags, hard⟩

theorem served_dramServe (s : State) (sub : Nat) : Served s (dramServe s sub) := by
  unfold dramServe
  split
  · exact served_refl s
  · extract_lets u older rank v
    have grow : ∀ s, Served s (older s) := fun s => served_drMod s _ rfl rfl rfl rfl rfl
    split
    · exact served_trans (served_owedTake ..) (grow _)
    · have step : Served s v := served_trans (served_drMod s _ rfl rfl rfl rfl rfl) (grow _)
      refine served_trans step (served_trans ?_ (served_bankAccess ..))
      split
      · exact served_regPut ..
      · exact served_refl _

theorem served_dramDrain (sub n : Nat) : ∀ s, Served s (dramDrain s sub n) := by
  induction n with
  | zero => exact served_refl
  | succ n ih =>
    intro s
    unfold dramDrain
    split
    · exact served_trans (served_dramServe s sub) (ih _)
    · exact served_refl s

theorem served_dramServes (sub n : Nat) : ∀ s, Served s (dramServes s sub n) := by
  induction n with
  | zero => exact served_refl
  | succ n ih =>
    intro s
    unfold dramServes
    split
    · exact served_refl s
    · exact served_trans (served_dramServe s sub) (ih _)

/-- A line that is touched holds what it held (R628). -/
theorem served_dramTouch (s : State) (l p : Nat) : Served s (dramTouch s l p) := by
  have post : Served s (dramPost s { line := l, port := p, wait := true }) := served_drMod s _ rfl rfl rfl rfl rfl
  exact served_trans post (served_dramDrain ..)

theorem poisoned_served {s t : State} (h : Served s t) (l : Nat) : poisoned t l = poisoned s l := by
  simp [poisoned, h.poison]

theorem served_dramTouchAll (s : State) (a n p : Nat) : Served s (dramTouchAll s a n p) := by
  unfold dramTouchAll
  generalize spanLines a n = ls
  induction ls generalizing s with
  | nil => exact served_refl s
  | cons l ls ih => exact served_trans (served_dramTouch s l p) (ih _)

/-- An engine or a DMA channel that reads octet lines without poison gets what DRAM holds (R641). -/
theorem octetsIn_clean (s : State) {a n c : Nat} (p : Nat) (hn : n ≠ 0) (hs : isScratch a = false)
    (hc : spanClass s a n = some c) (hw : c ≠ classW) (hp : ∀ l ∈ spanLines a n, poisoned s l = false) :
    octetsIn s a n p = (dramTouchAll s a n p, some (memRead s a n)) := by
  have t := served_dramTouchAll s a n p
  have none : (spanLines a n).find? (poisoned (dramTouchAll s a n p)) = none := by
    simpa [poisoned_served t] using hp
  have same : memRead (dramTouchAll s a n p) a n = memRead s a n := by simp [memRead, hs, memGet, t.mem]
  simp [octetsIn, hn, hs, hc, hw, none, same]

/-- A line without bit errors is clean whatever its class. -/
theorem coded_clean (s : State) (l c : Nat) : coded s l c Ecc.clean = .clean := by
  have h : ∀ j, errBits Ecc.clean j = 0 := fun _ => rfl
  simp [coded, errSymbols, h]

/-- A clean line that holds no poison is read without error, and the state it leaves is the touched one (R641). -/
theorem dramLine_clean (s : State) (a p : Nat) (h : poisoned s (lineOf a) = false) :
    dramLine s a p Ecc.clean = (dramTouch s (lineOf a) p, false) := by
  simp [dramLine, poisoned_served (served_dramTouch ..), h, coded_clean]

end Sys2Proof.Laws
end

