-- ==== Sys2Proof/Laws/Ledger.lean ====
section
/-! SUPPORT. The ledgers: every operation on granules keeps their sum, and every operation on flow credits the balance of each connection. -/
namespace Sys2Proof.Laws
open Sys2Proof Sys2Proof.Machine

/-! ## Granules (R43-R45) -/

@[simp] theorem granSum_granToTick (s : State) (i n : Nat) : granSum (granToTick s i n) = granSum s := by
  simp [granSum, granToTick] <;> omega
@[simp] theorem granSum_granFromTick (s : State) (i n : Nat) : granSum (granFromTick s i n) = granSum s := by
  simp [granSum, granFromTick] <;> omega
@[simp] theorem granSum_granToEng (s : State) (j n : Nat) : granSum (granToEng s j n) = granSum s := by
  simp [granSum, granToEng] <;> omega
@[simp] theorem granSum_granFromEng (s : State) (j n : Nat) : granSum (granFromEng s j n) = granSum s := by
  simp [granSum, granFromEng] <;> omega
@[simp] theorem granSum_granDiscardTick (s : State) (i n : Nat) : granSum (granDiscardTick s i n) = granSum s := by
  simp only [granDiscardTick]
  split
  · rfl
  · simp [granSum] <;> omega
@[simp] theorem granSum_granDiscardEng (s : State) (j n : Nat) : granSum (granDiscardEng s j n) = granSum s := by
  simp only [granDiscardEng]
  split
  · rfl
  · simp [granSum] <;> omega
@[simp] theorem granSum_granReturn (s : State) (n : Nat) : granSum (granReturn s n) = granSum s := by
  simp [granSum, granReturn] <;> omega
@[simp] theorem granSum_granDue (s : State) : granSum (granDue s) = granSum s := granSum_granReturn ..

/-! ## Flow credits (R83) -/

/-- Granted = consumed + returned + outstanding. -/
def credited (x : Conn) : Prop := x.granted = x.consumed + x.returned + x.outstanding

theorem mem_tabMod {α : Type} {t : Table α} {k : Nat} {f : α → α} {e : Nat × α} (h : e ∈ tabMod t k f) :
    e ∈ t ∨ ∃ x ∈ t, e = (x.1, f x.2) := by
  induction t with
  | nil => simp [tabMod] at h
  | cons x t ih =>
    obtain ⟨i, b⟩ := x
    simp only [tabMod] at h
    split at h
    · rcases List.mem_cons.1 h with h | h
      · exact .inr ⟨(i, b), List.mem_cons_self, h⟩
      · exact .inl (List.mem_cons_of_mem _ h)
    · split at h
      · exact .inl h
      · rcases List.mem_cons.1 h with h | h
        · exact .inl (h ▸ List.mem_cons_self)
        · exact (ih h).imp (List.mem_cons_of_mem _) fun ⟨y, hy, he⟩ => ⟨y, List.mem_cons_of_mem _ hy, he⟩

/-- A change of one connection that keeps its balance keeps every balance. -/
theorem credited_connMod {s : State} {c : Nat} {g : Conn → Conn} (h : ∀ e ∈ s.host.conns, credited e.2)
    (hg : ∀ x, credited x → credited (g x)) : ∀ e ∈ (connMod s c g).host.conns, credited e.2 := by
  intro e he
  rcases mem_tabMod he with he | ⟨x, hx, rfl⟩
  · exact h e he
  · exact hg _ (h x hx)

theorem credited_creditGrant {s : State} (c n : Nat) (h : ∀ e ∈ s.host.conns, credited e.2) :
    ∀ e ∈ (creditGrant s c n).host.conns, credited e.2 :=
  credited_connMod h fun x hx => by simp only [credited] at *; omega
theorem credited_creditConsume {s : State} (c : Nat) (h : ∀ e ∈ s.host.conns, credited e.2) :
    ∀ e ∈ (creditConsume s c).host.conns, credited e.2 :=
  credited_connMod h fun x hx => by
    simp only [credited] at *
    split
    · exact hx
    · simp only; omega
theorem credited_creditReturn {s : State} (c n : Nat) (h : ∀ e ∈ s.host.conns, credited e.2) :
    ∀ e ∈ (creditReturn s c n).host.conns, credited e.2 :=
  credited_connMod h fun x hx => by simp only [credited] at *; omega

end Sys2Proof.Laws
end

