-- ==== Sys2Proof/Laws/Memory.lean ====
section
/-! SUPPORT. Memory: what a read finds after a write, and that every operation on memory keeps its canonical form. -/
namespace Sys2Proof.Laws
open Sys2Proof Sys2Proof.Machine

/-! ## The canonical form of octets -/

theorem memWf_iff (m : List Host.Cell) : Memory.wf m = true ↔ tabSorted m = true ∧ ∀ x ∈ m, x.2 ≠ 0 := by
  simp [Memory.wf]

theorem memWf_tabErase {m : List Host.Cell} (a : Nat) (h : Memory.wf m = true) : Memory.wf (tabErase m a) = true := by
  rw [memWf_iff] at *
  exact ⟨tabSorted_tabErase _ _ h.1, fun x hx => h.2 x (mem_tabErase hx)⟩

theorem memWf_cellPut {m : List Host.Cell} (a : Nat) (b : Octet) (h : Memory.wf m = true) : Memory.wf (cellPut m a b) = true := by
  unfold cellPut
  split
  · exact memWf_tabErase a h
  · rw [memWf_iff] at *
    refine ⟨tabSorted_tabSet _ _ _ h.1, fun x hx => ?_⟩
    rcases mem_tabSet hx with rfl | hx
    · assumption
    · exact h.2 x hx

theorem memWf_cellsPut {m : List Host.Cell} {a : Nat} (d : Bytes) (h : Memory.wf m = true) : Memory.wf (cellsPut m a d) = true := by
  induction d generalizing m a with
  | nil => exact h
  | cons b t ih => exact ih (memWf_cellPut a b h)

theorem memWf_memStore {s : State} (a : Nat) (d : Bytes) (h : Memory.wf s.dr.mem = true) : Memory.wf (memStore s a d).dr.mem = true := by
  unfold memStore
  split
  · exact h
  · exact memWf_cellsPut d h

theorem memWf_memZero {s : State} (a n : Nat) (h : Memory.wf s.dr.mem = true) : Memory.wf (memZero s a n).dr.mem = true := by
  rw [memWf_iff] at *
  exact ⟨tabSorted_filter _ _ h.1, fun x hx => h.2 x (List.mem_filter.1 hx).1⟩

/-! ## Words -/

/-- The canonical form of the word table: in order, no word of zero. -/
def wordsWf (m : Table Word) : Prop := tabSorted m = true ∧ ∀ x ∈ m, x.2 ≠ 0

theorem wordsWf_wcellPut {m : Table Word} (k : Nat) (w : Word) (h : wordsWf m) : wordsWf (wcellPut m k w) := by
  unfold wcellPut
  split
  · exact ⟨tabSorted_tabErase _ _ h.1, fun x hx => h.2 x (mem_tabErase hx)⟩
  · refine ⟨tabSorted_tabSet _ _ _ h.1, fun x hx => ?_⟩
    rcases mem_tabSet hx with rfl | hx
    · assumption
    · exact h.2 x hx

theorem wordsWf_wordStore {s : State} (a : Nat) (w : Word) (h : wordsWf s.dr.words) : wordsWf (wordStore s a w).dr.words :=
  wordsWf_wcellPut _ _ h

theorem wordsWf_wordsStore {s : State} {a : Nat} (l : List Word) (h : wordsWf s.dr.words) : wordsWf (wordsStore s a l).dr.words := by
  induction l generalizing s a with
  | nil => exact h
  | cons w t ih => exact ih (wordsWf_wordStore a w h)

theorem wordsWf_wordsZero {s : State} (a n : Nat) (h : wordsWf s.dr.words) : wordsWf (wordsZero s a n).dr.words :=
  ⟨tabSorted_filter _ _ h.1, fun x hx => h.2 x (List.mem_filter.1 hx).1⟩

/-! ## What a read finds after a write -/

theorem get_cellPut {m : List Host.Cell} (a : Nat) (b : Octet) (h : Memory.wf m = true) : tabGetD (cellPut m a b) a 0 = b := by
  unfold cellPut
  split
  · next z => simp [tabGetD, tabGet_tabErase _ _ ((memWf_iff m).1 h).1, z]
  · simp

theorem get_cellPut_ne {m : List Host.Cell} {a x : Nat} (b : Octet) (h : Memory.wf m = true) (n : x ≠ a) :
    tabGetD (cellPut m a b) x 0 = tabGetD m x 0 := by
  unfold cellPut
  split
  · rw [tabGetD, tabGet_tabErase_ne _ n ((memWf_iff m).1 h).1, tabGetD]
  · exact tabGetD_tabSet_ne _ _ _ n

/-- Octets written from `a` on stand there, and every other address reads as before. -/
theorem get_cellsPut {m : List Host.Cell} {a : Nat} (d : Bytes) (h : Memory.wf m = true) (x : Nat) :
    tabGetD (cellsPut m a d) x 0 = if a ≤ x ∧ x < a + d.length then d.getD (x - a) 0 else tabGetD m x 0 := by
  induction d generalizing m a with
  | nil => simp [cellsPut] <;> omega
  | cons b t ih =>
    rw [cellsPut, ih (memWf_cellPut a b h)]
    by_cases e : x = a
    · subst e
      rw [if_neg (by omega), get_cellPut x b h]
      simp
    · rw [get_cellPut_ne b h e]
      by_cases g : a + 1 ≤ x ∧ x < a + 1 + t.length
      · have : x - a = (x - (a + 1)) + 1 := by omega
        simp only [g, and_self, if_true, List.length_cons, this, List.getD_cons_succ]
        rw [if_pos (by omega)]
      · rw [if_neg g, if_neg (by simp only [List.length_cons]; omega)]

/-- A store that its way takes stands in memory, and every other address reads as before (R482). -/
theorem memGet_memStore {s : State} (a : Nat) (d : Bytes) (h : Memory.wf s.dr.mem = true) (v : (isScratch a && !scratchLive s a) = false)
    (x : Nat) : memGet (memStore s a d) x = if a ≤ x ∧ x < a + d.length then d.getD (x - a) 0 else memGet s x := by
  simp only [memStore, v, memGet]
  exact get_cellsPut d h x

theorem wordGet_wordStore {s : State} (a : Nat) (w : Word) (h : wordsWf s.dr.words) : wordGet (wordStore s a w) a = w := by
  simp only [wordGet, wordStore, drMod, wcellPut]
  split
  · next z => simp [tabGetD, tabGet_tabErase _ _ h.1, z]
  · simp

theorem wordGet_wordStore_ne {s : State} {a x : Nat} (w : Word) (h : wordsWf s.dr.words) (n : x / 4 ≠ a / 4) :
    wordGet (wordStore s a w) x = wordGet s x := by
  simp only [wordGet, wordStore, drMod, wcellPut]
  split
  · rw [tabGetD, tabGet_tabErase_ne _ n h.1, tabGetD]
  · exact tabGetD_tabSet_ne _ _ _ n

/-- A store of octets changes no word, and a store of a word no octet. -/
@[simp] theorem wordGet_memStore (s : State) (a : Nat) (d : Bytes) (x : Nat) : wordGet (memStore s a d) x = wordGet s x := by
  unfold memStore
  split <;> rfl
@[simp] theorem memGet_wordStore (s : State) (a : Nat) (w : Word) (x : Nat) : memGet (wordStore s a w) x = memGet s x := rfl

end Sys2Proof.Laws
end

