-- ==== Sys2Proof/WellFormed.lean ====
section
/-! DEFINITION. Which commands are well formed: every operand within the range that the spec gives what it names. The
meanings do not rest on it; a command that is not well formed changes nothing that the spec names. -/
namespace Sys2Proof

/-- A function number: physical function 0, virtual functions of link A, the companion function and link B's (R60). -/
def fnOk (f : Nat) : Bool := f ≤ 768
/-- A ticket index (chapter 03). -/
def ticketOk (t : Nat) : Bool := t < 16384
/-- A parcel number (chapter 04). -/
def parcelOk (p : Nat) : Bool := p < 1024
/-- A Tuirus core. -/
def coreOk (c : Nat) : Bool := c < 64
/-- A Tuirus register (R519). -/
def regOk (r : Nat) : Bool := r < 32
/-- A condition of a branch, SEL or PRED. -/
def condOk (c : Nat) : Bool := c < 16
/-- A logical die (R316). -/
def dieOk (d : Nat) : Bool := d < 1016
/-- A flash channel. -/
def chanOk (c : Nat) : Bool := c < 32
/-- A DMA channel (R662). -/
def dmaOk (c : Nat) : Bool := c < 64
/-- A DRAM channel. -/
def dramChOk (c : Nat) : Bool := c < 4
/-- A fabric connection (R77). -/
def connOk (c : Nat) : Bool := c < 8192
/-- A task descriptor and a flow (R484, R488). -/
def taskOk (t : Nat) : Bool := t < 65536
def flowOk (f : Nat) : Bool := f < 16384
/-- A cluster, and a way of its L2 (R479). -/
def clusterOk (c : Nat) : Bool := c < 8
def wayOk (w : Nat) : Bool := w < 16
/-- A namespace tap (R396). -/
def tapOk (t : Nat) : Bool := t < 16
/-- An event and a word of EV_PENDING (R683, R691). -/
def eventOk (e : Nat) : Bool := e < 512
def evWordOk (k : Nat) : Bool := k < 16
/-- A 32-bit value. -/
def valueOk (v : Nat) : Bool := v < 2 ^ 32
/-- A resource class and a meter (R180, R189). -/
def classOk (c : Nat) : Bool := c < 4
def meterOk (m : Nat) : Bool := m < 9
/-- A quadrangle of 256 TiB. -/
def quadOk (q : Nat) : Bool := q < 2 ^ 18
/-- A system register or call number: an operand of a word. -/
def wordNumOk (n : Nat) : Bool := n < 2 ^ 36
/-- An AES lane, an MSI-X vector, a queue, a Gazetteer entry. -/
def laneOk (l : Nat) : Bool := l < 16
def vectorOk (v : Nat) : Bool := v < 2048
def queueOk (q : Nat) : Bool := q < 65536
def entryOk (e : Nat) : Bool := e < 262144
/-- A subchannel or rank, an octet, a packet's opcode, a namespace ID, granules of the pool, a key slot. -/
def bitOk (b : Nat) : Bool := b < 2
def octetOk (o : Nat) : Bool := o < 256
def opcodeOk (o : Nat) : Bool := o < 65536
def nsidOk (n : Nat) : Bool := 1 ≤ n && n ≤ 4096
def granulesOk (n : Nat) : Bool := n ≤ 16384
def keySlotOk (k : Nat) : Bool := k < 4096
/-- A port of the fabric (R72) and of the DRAM controller (R625). -/
def portOk (p : Nat) : Bool := p < 16
def qosPortOk (p : Nat) : Bool := p < 12

/-- A submission queue entry: each field as wide as NVMe makes it. -/
def sqeOk (e : Sqe) : Bool :=
  e.opc < 256 && e.cid < 65536 && valueOk e.nsid && e.fused < 4 && valueOk e.cdw10 && valueOk e.cdw11 && valueOk e.cdw12
    && valueOk e.cdw13 && valueOk e.cdw14 && valueOk e.cdw15
def tunnelledOk (x : Tunnelled) : Bool := sqeOk x.e

def capsuleOk (c : Capsule) : Bool := sqeOk c.sqe
def connReqOk (c : ConnReq) : Bool := connOk c.conn && c.cid < 65536 && queueOk c.qid && c.cntlid < 65536
/-- A manager packet: 40 octets of parameters at most, its other fields as wide as R693 makes them. -/
def packetOk (p : Packet) : Bool :=
  valueOk p.seq && p.flags < 65536 && p.parcel < 65536 && p.params.length ≤ 40 && valueOk p.bufLen
def msgOk (m : Msg) : Bool := ticketOk m.ticket && m.tkEdition < 256 && parcelOk m.parcel && m.pEdition < 65536
/-- A cascade mark (R608). -/
def markOk (d : Bytes) : Bool := d.length == 16
/-- An address space of the PCIe functions, and an SPDM endpoint. -/
def spaceOk : Space → Bool
  | .bar2 f => fnOk f
  | .bar0 f => fnOk f
  | .bar4 f => fnOk f
  | .config f => fnOk f
def epOk : SpdmEp → Bool
  | .doe f => fnOk f
  | .mctp e => octetOk e
/-- The encoding parts of an operation: a compact one has 1 to 8 syllables. -/
def pfxOk (x : Pfx) : Bool :=
  (match x.enc with
    | .compact n => decide (1 ≤ n) && decide (n ≤ 8)
    | _ => true) && (match x.pred with
    | some c => condOk c
    | none => true)
def modeOk : Mode → Bool
  | .idx r _ => regOk r
  | _ => true

/-- Is a command well formed? -/
def Instr.wf : Instr → Bool
  | .registerWrite sp _ _ value => spaceOk sp && valueOk value
  | .frameBoundary _ => true
  | .frameMark => true
  | .frameCountLoRead => true
  | .diagOverrunFire value => valueOk value
  | .syntheticOverrunRecord => true
  | .auditSnapshot => true
  | .auditComparison => true
  | .discardedGranuleReturn n => granulesOk n
  | .staleMessageDiscard m => msgOk m
  | .fatalEntry => true
  | .slicePreemption core => coreOk core
  | .perstAssert _ => true
  | .perstDeassert _ => true
  | .dlDown _ => true
  | .linkLossEffect _ => true
  | .vfFunctionLevelReset fn => fnOk fn
  | .pfFunctionLevelReset fn => fnOk fn
  | .pfCcEnClear fn => fnOk fn
  | .vfCcEnClear fn => fnOk fn
  | .ccEnSet fn => fnOk fn
  | .busMasterEnableSet fn => fnOk fn
  | .heldTicketResume tk => ticketOk tk
  | .pmcsrD3hotWrite fn => fnOk fn
  | .msixPendingDelivery fn vec => fnOk fn && vectorOk vec
  | .getVersion ep => epOk ep
  | .getCapabilities ep => epOk ep
  | .negotiateAlgorithms ep _ _ _ => epOk ep
  | .getDigests ep => epOk ep
  | .getCertificate ep slot _ _ => epOk ep && octetOk slot
  | .challenge ep slot _ => epOk ep && octetOk slot
  | .getMeasurements ep _ _ _ => epOk ep
  | .ethLinkUp port _ => portOk port
  | .ethLinkLost port => portOk port
  | .ecnMarkedPacket conn => connOk conn
  | .cnpReceived conn => connOk conn
  | .connect c => connReqOk c
  | .propertyGet tk => ticketOk tk
  | .propertySet tk => ticketOk tk
  | .keepAlive tk => ticketOk tk
  | .capsuleReceived conn c => connOk conn && capsuleOk c
  | .receiveBufferRepost conn => connOk conn
  | .rdmaReadResponse conn m _ _ => connOk conn && msgOk m
  | .icreq conn _ _ => connOk conn
  | .h2cDataPdu conn _ _ _ _ _ _ => connOk conn
  | .connectionClosed conn => connOk conn
  | .discoveryLogChange => true
  | .mctpControlMessage eid _ _ => octetOk eid
  | .readNvmeMiDataStructure eid _ _ => octetOk eid
  | .subsystemHealthStatusPoll eid _ => octetOk eid
  | .controllerHealthStatusPoll eid _ => octetOk eid
  | .configurationGet eid _ => octetOk eid
  | .configurationSet eid _ value => octetOk eid && valueOk value
  | .vpdRead eid _ _ => octetOk eid
  | .vpdWrite eid _ _ => octetOk eid
  | .tunnelledAdminCommand eid x => octetOk eid && tunnelledOk x
  | .unsupportedNvmeMiCommand eid _ => octetOk eid
  | .sqTailDoorbell fn qid _ entries => fnOk fn && queueOk qid && entries.all sqeOk
  | .cqHeadDoorbell fn qid _ => fnOk fn && queueOk qid
  | .heldCompletionPost tk => ticketOk tk
  | .hazardReleaseStart tk => ticketOk tk
  | .orderedCommandStart tk => ticketOk tk
  | .heldWriteBufferEntry tk => ticketOk tk
  | .commandCompletion tk => ticketOk tk
  | .durabilityModeChange => true
  | .budgetLowered => true
  | .read tk => ticketOk tk
  | .write tk _ => ticketOk tk
  | .flush tk => ticketOk tk
  | .compare tk _ => ticketOk tk
  | .fusedCompareAndWrite tk _ _ => ticketOk tk
  | .writeZeroes tk => ticketOk tk
  | .datasetManagement tk => ticketOk tk
  | .verify tk => ticketOk tk
  | .copy tk => ticketOk tk
  | .createIoSubmissionQueue tk => ticketOk tk
  | .createIoCompletionQueue tk => ticketOk tk
  | .deleteIoSubmissionQueue tk => ticketOk tk
  | .sqDeleteCompletion tk => ticketOk tk
  | .deleteIoCompletionQueue tk => ticketOk tk
  | .getLogPageErrorInformation tk => ticketOk tk
  | .getLogPageSmartHealth tk => ticketOk tk
  | .getLogPageFirmwareSlot tk => ticketOk tk
  | .getLogPageCommandsSupported tk => ticketOk tk
  | .getLogPageDeviceSelfTest tk => ticketOk tk
  | .identify tk => ticketOk tk
  | .abort tk => ticketOk tk
  | .getFeatures tk => ticketOk tk
  | .setFeaturesArbitration tk => ticketOk tk
  | .setFeaturesPowerManagement tk => ticketOk tk
  | .setFeaturesTemperatureThreshold tk => ticketOk tk
  | .setFeaturesErrorRecovery tk => ticketOk tk
  | .setFeaturesVolatileWriteCache tk => ticketOk tk
  | .setFeaturesNumberOfQueues tk => ticketOk tk
  | .setFeaturesInterruptCoalescing tk => ticketOk tk
  | .setFeaturesInterruptVectorConfig tk => ticketOk tk
  | .setFeaturesAsyncEventConfig tk => ticketOk tk
  | .setFeaturesKeepAliveTimer tk => ticketOk tk
  | .setFeaturesOrderMark tk => ticketOk tk
  | .setFeaturesRequireHoldup tk => ticketOk tk
  | .asynchronousEventRequest tk => ticketOk tk
  | .namespaceCreate tk _ _ => ticketOk tk
  | .namespaceDelete tk => ticketOk tk
  | .namespaceDeleteEffect nsid => nsidOk nsid
  | .namespaceAttach tk _ => ticketOk tk
  | .namespaceDetach tk _ => ticketOk tk
  | .firmwareImageDownload tk _ => ticketOk tk
  | .firmwareCommit tk => ticketOk tk
  | .deviceSelfTest tk => ticketOk tk
  | .virtualizationManagement tk => ticketOk tk
  | .formatNvmNoErase tk => ticketOk tk
  | .formatNvmCryptoErase tk => ticketOk tk
  | .parcelCreate p => packetOk p
  | .parcelConfigure p => packetOk p
  | .parcelBindVf p => packetOk p
  | .parcelUnbindVf p => packetOk p
  | .parcelHostPair p => packetOk p
  | .parcelAssignNs p => packetOk p
  | .parcelEnable p => packetOk p
  | .parcelReset p => packetOk p
  | .parcelFreeze p => packetOk p
  | .parcelThaw p => packetOk p
  | .parcelSave p => packetOk p
  | .parcelSaveComplete parcel => parcelOk parcel
  | .parcelRestore p => packetOk p
  | .restoreInstallComplete parcel => parcelOk parcel
  | .parcelRetire p => packetOk p
  | .parcelQuery p => packetOk p
  | .parcelShare p => packetOk p
  | .parcelRequestEffect parcel => parcelOk parcel
  | .parcelResetEffect parcel => parcelOk parcel
  | .teardownEnd parcel => parcelOk parcel
  | .queuedResetEffect parcel => parcelOk parcel
  | .parcelFreezeEffect parcel => parcelOk parcel
  | .parcelDrained parcel => parcelOk parcel
  | .retirementEffect parcel => parcelOk parcel
  | .retirementTeardownEnd parcel => parcelOk parcel
  | .mailboxSlotWrite _ parcel _ value => parcelOk parcel && valueOk value
  | .mailboxInPost parcel mask => parcelOk parcel && valueOk mask
  | .mailboxOutPost parcel mask => parcelOk parcel && valueOk mask
  | .mailboxPostVisible parcel => parcelOk parcel
  | .mailboxInConsume parcel mask => parcelOk parcel && valueOk mask
  | .shareWrite parcel cls _ value => parcelOk parcel && classOk cls && valueOk value
  | .shareChangeEffect parcel => parcelOk parcel
  | .coreMaskWrite parcel value => parcelOk parcel && valueOk value
  | .coreMaskEffect parcel => parcelOk parcel
  | .snapIntervalWrite value => valueOk value
  | .meterLoRead parcel meter => parcelOk parcel && meterOk meter
  | .snapLastLoRead => true
  | .meterIntervalEnd => true
  | .snapshotRecordsWritten => true
  | .heldFinalRecordWrite => true
  | .stripePadTimeout _ => true
  | .stripeProgramComplete _ => true
  | .blockEraseRelease die _ => dieOk die
  | .sheetFoldStart quad _ => quadOk quad
  | .sheetFoldEnd quad _ => quadOk quad
  | .conversionWindowEnd => true
  | .toPageConversionEnd quad => quadOk quad
  | .toSheetConversionEnd quad => quadOk quad
  | .resurveyStart => true
  | .wearLevelMove => true
  | .rebuildEnd => true
  | .sealedEntry => true
  | .sealedExit => true
  | .tablesBudgetWrite value => valueOk value
  | .capacityLoRead => true
  | .channelTrainingEnd ch _ => chanOk ch
  | .retrainWrite ch => chanOk ch
  | .channelRetrain ch => chanOk ch
  | .channelRetrainEnd ch _ => chanOk ch
  | .zqCalibrationShort => true
  | .suspendEntered die => dieOk die
  | .flashReadReady die _ => dieOk die
  | .softDecodeComplete die _ => dieOk die
  | .flashProgramDone die _ => dieOk die
  | .flashEraseDone die _ => dieOk die
  | .dieTimeout die => dieOk die
  | .dieLost die => dieOk die
  | .corrBitsRead ch => chanOk ch
  | .compress _ => true
  | .decompress _ => true
  | .czOpenContext _ => true
  | .czCloseContext _ => true
  | .dgOpenContext _ => true
  | .dgUpdate _ => true
  | .dgCloseContext _ => true
  | .engineJobEnd _ => true
  | .nsTapWrite tap value => tapOk tap && valueOk value
  | .nsTapAttach tap => tapOk tap
  | .tapHoldTimeout tap => tapOk tap
  | .encrypt _ => true
  | .decrypt _ => true
  | .gcmGranuleStart _ => true
  | .gcmPlaintextWriteoutEnd _ => true
  | .gcmVerify _ => true
  | .gcmDecryptAfterVerify _ => true
  | .aesKwUnwrap _ => true
  | .maskGeneratorReseed lane => laneOk lane
  | .entropyGraceExpiry => true
  | .keyUnwrap p => packetOk p
  | .keyDerive p => packetOk p
  | .keyErase p => packetOk p
  | .keyQuery p => packetOk p
  | .keyInstallEffect slot => keySlotOk slot
  | .keyErasureEffect slot => keySlotOk slot
  | .fuseBlowComplete => true
  | .healthTestFailure => true
  | .startupTestRetry _ => true
  | .drbgReseed => true
  | .clean c x _ ra => coreOk c && pfxOk x && regOk ra
  | .inval c x _ ra => coreOk c && pfxOk x && regOk ra
  | .cleanInval c x _ ra => coreOk c && pfxOk x && regOk ra
  | .zero c x _ ra => coreOk c && pfxOk x && regOk ra
  | .lock c x _ rd ra => coreOk c && pfxOk x && regOk rd && regOk ra
  | .unlock c x _ ra => coreOk c && pfxOk x && regOk ra
  | .cleanRange c x _ ra rb => coreOk c && pfxOk x && regOk ra && regOk rb
  | .invalRange c x _ ra rb => coreOk c && pfxOk x && regOk ra && regOk rb
  | .cleanInvalRange c x _ ra rb => coreOk c && pfxOk x && regOk ra && regOk rb
  | .invalI c x _ ra => coreOk c && pfxOk x && regOk ra
  | .sync c x => coreOk c && pfxOk x
  | .wayModeWrite cl value => clusterOk cl && valueOk value
  | .wayModeChangeStart cl => clusterOk cl
  | .wayModeChangeComplete cl => clusterOk cl
  | .wayOwnerWrite cl way value => clusterOk cl && wayOk way && valueOk value
  | .poolWrite cl value => clusterOk cl && valueOk value
  | .poolChangeEffect cl => clusterOk cl
  | .taskWake task => taskOk task
  | .taskUnblock task => taskOk task
  | .flowHandoff flow => flowOk flow
  | .taskClusterMove task => taskOk task
  | .exit_ c x => coreOk c && pfxOk x
  | .yield_ c x => coreOk c && pfxOk x
  | .delay c x => coreOk c && pfxOk x
  | .spawn c x => coreOk c && pfxOk x
  | .flowOpen c x => coreOk c && pfxOk x
  | .flowClose c x => coreOk c && pfxOk x
  | .flowRelease c x => coreOk c && pfxOk x
  | .engineSubmit c x => coreOk c && pfxOk x
  | .engineWait c x => coreOk c && pfxOk x
  | .gzSubmit c x => coreOk c && pfxOk x
  | .frame c x => coreOk c && pfxOk x
  | .unknownSupervisorCall c x num => coreOk c && pfxOk x && wordNumOk num
  | .loadProgram tk _ => ticketOk tk
  | .programActivate tk => ticketOk tk
  | .programDeactivate tk => ticketOk tk
  | .executeProgram tk _ => ticketOk tk
  | .memoryRangeSetCreate tk _ => ticketOk tk
  | .memoryRangeSetDelete tk => ticketOk tk
  | .slmRead tk => ticketOk tk
  | .slmWrite tk _ => ticketOk tk
  | .memoryCopy tk => ticketOk tk
  | .invocationBudgetEnd tk => ticketOk tk
  | .invocationCompletionPost tk => ticketOk tk
  | .add c x rd ra rb => coreOk c && pfxOk x && regOk rd && regOk ra && regOk rb
  | .adc c x rd ra rb => coreOk c && pfxOk x && regOk rd && regOk ra && regOk rb
  | .sub c x rd ra rb => coreOk c && pfxOk x && regOk rd && regOk ra && regOk rb
  | .sbc c x rd ra rb => coreOk c && pfxOk x && regOk rd && regOk ra && regOk rb
  | .cmp c x ra rb => coreOk c && pfxOk x && regOk ra && regOk rb
  | .and_ c x rd ra rb => coreOk c && pfxOk x && regOk rd && regOk ra && regOk rb
  | .or_ c x rd ra rb => coreOk c && pfxOk x && regOk rd && regOk ra && regOk rb
  | .xor c x rd ra rb => coreOk c && pfxOk x && regOk rd && regOk ra && regOk rb
  | .andn c x rd ra rb => coreOk c && pfxOk x && regOk rd && regOk ra && regOk rb
  | .tst c x ra rb => coreOk c && pfxOk x && regOk ra && regOk rb
  | .mov c x rd rb => coreOk c && pfxOk x && regOk rd && regOk rb
  | .neg c x rd rb => coreOk c && pfxOk x && regOk rd && regOk rb
  | .not_ c x rd rb => coreOk c && pfxOk x && regOk rd && regOk rb
  | .shl c x rd ra rb => coreOk c && pfxOk x && regOk rd && regOk ra && regOk rb
  | .shr c x rd ra rb => coreOk c && pfxOk x && regOk rd && regOk ra && regOk rb
  | .sar c x rd ra rb => coreOk c && pfxOk x && regOk rd && regOk ra && regOk rb
  | .ror c x rd ra rb => coreOk c && pfxOk x && regOk rd && regOk ra && regOk rb
  | .mulu c x rd ra rb => coreOk c && pfxOk x && regOk rd && regOk ra && regOk rb
  | .muls c x rd ra rb => coreOk c && pfxOk x && regOk rd && regOk ra && regOk rb
  | .divu c x rd ra rb => coreOk c && pfxOk x && regOk rd && regOk ra && regOk rb
  | .divs c x rd ra rb => coreOk c && pfxOk x && regOk rd && regOk ra && regOk rb
  | .clz c x rd ra => coreOk c && pfxOk x && regOk rd && regOk ra
  | .popc c x rd ra => coreOk c && pfxOk x && regOk rd && regOk ra
  | .sel c x cond rd ra rb => coreOk c && pfxOk x && condOk cond && regOk rd && regOk ra && regOk rb
  | .mff c x rd => coreOk c && pfxOk x && regOk rd
  | .mtf c x ra => coreOk c && pfxOk x && regOk ra
  | .addi c x rd ra _ => coreOk c && pfxOk x && regOk rd && regOk ra
  | .addq c x rd _ => coreOk c && pfxOk x && regOk rd
  | .subq c x rd _ => coreOk c && pfxOk x && regOk rd
  | .cmpi c x ra _ => coreOk c && pfxOk x && regOk ra
  | .cmpq c x rd _ => coreOk c && pfxOk x && regOk rd
  | .andi c x rd ra _ => coreOk c && pfxOk x && regOk rd && regOk ra
  | .ori c x rd ra _ => coreOk c && pfxOk x && regOk rd && regOk ra
  | .xori c x rd ra _ => coreOk c && pfxOk x && regOk rd && regOk ra
  | .shli c x rd ra _ => coreOk c && pfxOk x && regOk rd && regOk ra
  | .shri c x rd ra _ => coreOk c && pfxOk x && regOk rd && regOk ra
  | .sari c x rd ra _ => coreOk c && pfxOk x && regOk rd && regOk ra
  | .rori c x rd ra _ => coreOk c && pfxOk x && regOk rd && regOk ra
  | .shlq c x rd _ => coreOk c && pfxOk x && regOk rd
  | .shrq c x rd _ => coreOk c && pfxOk x && regOk rd
  | .sarq c x rd _ => coreOk c && pfxOk x && regOk rd
  | .ext c x rd ra _ _ => coreOk c && pfxOk x && regOk rd && regOk ra
  | .exts c x rd ra _ _ => coreOk c && pfxOk x && regOk rd && regOk ra
  | .ins c x rd ra _ _ => coreOk c && pfxOk x && regOk rd && regOk ra
  | .movhi c x rd _ => coreOk c && pfxOk x && regOk rd
  | .mfsr c x rd num => coreOk c && pfxOk x && regOk rd && wordNumOk num
  | .mtsr c x ra num => coreOk c && pfxOk x && regOk ra && wordNumOk num
  | .movi c x rd _ => coreOk c && pfxOk x && regOk rd
  | .movq c x rd _ => coreOk c && pfxOk x && regOk rd
  | .ldw c x rd ra m => coreOk c && pfxOk x && regOk rd && regOk ra && modeOk m
  | .stw c x rd ra m => coreOk c && pfxOk x && regOk rd && regOk ra && modeOk m
  | .ldo8u c x rd ra m => coreOk c && pfxOk x && regOk rd && regOk ra && modeOk m
  | .ldo8s c x rd ra m => coreOk c && pfxOk x && regOk rd && regOk ra && modeOk m
  | .ldo16u c x rd ra m => coreOk c && pfxOk x && regOk rd && regOk ra && modeOk m
  | .ldo16s c x rd ra m => coreOk c && pfxOk x && regOk rd && regOk ra && modeOk m
  | .ldo32u c x rd ra m => coreOk c && pfxOk x && regOk rd && regOk ra && modeOk m
  | .ldo32s c x rd ra m => coreOk c && pfxOk x && regOk rd && regOk ra && modeOk m
  | .ldo64 c x rd ra m => coreOk c && pfxOk x && regOk rd && regOk ra && modeOk m
  | .sto8 c x rd ra m => coreOk c && pfxOk x && regOk rd && regOk ra && modeOk m
  | .sto16 c x rd ra m => coreOk c && pfxOk x && regOk rd && regOk ra && modeOk m
  | .sto32 c x rd ra m => coreOk c && pfxOk x && regOk rd && regOk ra && modeOk m
  | .sto64 c x rd ra m => coreOk c && pfxOk x && regOk rd && regOk ra && modeOk m
  | .b c x cond _ => coreOk c && pfxOk x && condOk cond
  | .call c x _ => coreOk c && pfxOk x
  | .jmpr c x ra => coreOk c && pfxOk x && regOk ra
  | .callr c x ra => coreOk c && pfxOk x && regOk ra
  | .ret c x => coreOk c && pfxOk x
  | .rett c x => coreOk c && pfxOk x
  | .nop c x => coreOk c && pfxOk x
  | .illegalInstruction c => coreOk c
  | .search _ _ => true
  | .insert _ => true
  | .gzDelete _ => true
  | .walk _ => true
  | .openScanContext _ => true
  | .scan _ => true
  | .closeScanContext _ => true
  | .loadAutomaton _ => true
  | .unloadAutomaton _ => true
  | .suspectRepair entry => entryOk entry
  | .shadowComparison entry _ => entryOk entry
  | .cascadeLinkTrained _ _ => true
  | .cascadeMarkReceived octets crc => markOk octets && valueOk crc
  | .cascadeBatchSearch _ => true
  | .matchChainDrive _ => true
  | .cascadeAnswerReceived _ => true
  | .cascadeMarkMissing => true
  | .cascadeMembershipEffect => true
  | .gzTableCreate p => packetOk p
  | .gzTableDelete p => packetOk p
  | .gzLimits p => packetOk p
  | .gzCascadeSet p => packetOk p
  | .gzThrottleRead => true
  | .caParityAlert ch => dramChOk ch
  | .portQosWrite port value => qosPortOk port && valueOk value
  | .rowIdleClose _ => true
  | .rfmIssue _ => true
  | .refreshDue ch sub1 rank _ => dramChOk ch && bitOk sub1 && bitOk rank
  | .owedRefreshIssue ch sub1 rank => dramChOk ch && bitOk sub1 && bitOk rank
  | .mr4Read ch _ => dramChOk ch
  | .rowRepairSwitch ch _ => chanOk ch
  | .surveyorRead _ => true
  | .surveyorLapEnd => true
  | .lastErrLoRead => true
  | .dmaGo ch value => dmaOk ch && valueOk value
  | .dmaStop ch => dmaOk ch
  | .dmaDescriptorStart ch => dmaOk ch
  | .dmaDescriptorEnd ch _ => dmaOk ch
  | .dmaDescriptorHalt ch _ _ => dmaOk ch
  | .dxCqHeadWrite ch value => dmaOk ch && valueOk value
  | .dxCqConfigWrite ch _ value => dmaOk ch && valueOk value
  | .eventMsixDelivery ev => eventOk ev
  | .evPendingClear k value => evWordOk k && valueOk value
  | .evTestRaise value => valueOk value
  | .evRouteWrite ev value => eventOk ev && valueOk value
  | .mediaFormat p => packetOk p
  | .quadranglePin p => packetOk p
  | .quadrangleUnpin p => packetOk p
  | .channelRetire p => packetOk p
  | .mediaQuery p => packetOk p
  | .nsTransform p => packetOk p
  | .holdupDisarm p => packetOk p
  | .holdupTestAndArm p => packetOk p
  | .holdupTestOnly p => packetOk p
  | .computeRangeCreate p => packetOk p
  | .computeRangeDelete p => packetOk p
  | .computeLimits p => packetOk p
  | .operatorLoad p => packetOk p
  | .operatorInvoke p => packetOk p
  | .wayAssign p => packetOk p
  | .computeQuery p => packetOk p
  | .meterRead p => packetOk p
  | .meterFree p => packetOk p
  | .fwDownload p => packetOk p
  | .fwCommit p => packetOk p
  | .fwSvnAdvance p => packetOk p
  | .bootcfgSet p => packetOk p
  | .diagDump p => packetOk p
  | .eventRead p => packetOk p
  | .deviceQuery p => packetOk p
  | .unknownManagerPacket opcode p => opcodeOk opcode && packetOk p
  | .mgInflightRead => true
  | .fecUncorrRead port => portOk port
  | .powerOnReset => true
  | .sysReset => true
  | .temperatureMinimumReached => true
  | .romStage _ => true
  | .adminReady => true
  | .mediaReady _ => true
  | .pwrFailSeen => true
  | .railUndervoltage => true
  | .powerFailStop => true
  | .dumpEnd => true
  | .dumpRestart => true
  | .bootRestartAfterPowerFail => true
  | .bankSettled _ => true
  | .energyTestEnd _ _ => true
  | .energyTestSettleTimeout => true
  | .holdupRetest => true
  | .clusterResetWrite value => valueOk value
  | .clusterReset cl => clusterOk cl
  | .clusterResetComplete cl => clusterOk cl
  | .lifeRecordUpdate => true
  | .busMasterEnableClear fn => fnOk fn
  | .pfCcEnSet fn => fnOk fn
  | .pcieLinkUp _ => true
  | .doeDiscovery fn _ => fnOk fn
  | .getLogPageDiscovery tk => ticketOk tk
  | .keepAliveTimeout conn => connOk conn
  | .mapLineRebuildEnd _ => true

end Sys2Proof
end

