-- ==== Sys2Proof/Machine/Views.lean ====
section
/-! DEFINITION. What a read of the management window returns (R9, R12, R14): the stored register, or, where the register
shows state held elsewhere, that state. The reads that change something (RC fields, shadowed pairs) are commands of
their own. -/
namespace Sys2Proof.Machine

/-- The stored value at `a` with bits `[hi:lo]` showing `n`. -/
def viewFld (s : State) (a hi lo n : Nat) : Nat := putBits (regNat s a) hi lo n

/-- Free tickets, quarantined and reserved ones included (R154). -/
def ticketsFree (s : State) : Nat := 16384 - tabCount s.cq.tickets (·.busy)

/-- The sum over a channel's dies of a queue's length (R343). -/
def queueSum (s : State) (ch : Nat) (f : Die → Nat) : Nat :=
  ((s.fl.dies.filter fun e => e.2.ch == ch).map fun e => f e.2).sum

/-- FC_DIE: an array operation runs, one is suspended (R345). -/
def fcDie (s : State) (ch pos a : Nat) : Nat :=
  let at_ := s.fl.dies.filter fun e => e.2.ch == ch && e.2.pos == pos
  viewFld s a 29 28 (2 * b2n (at_.any (·.2.susp.isSome)) + b2n (at_.any (·.2.run.isSome)))

/-- A parcel's page of the PC block (R224-R229). -/
def pcView (s : State) (p off a : Nat) : Nat :=
  if off = 0 then pcState s p
  else if off = 4 then (parGet s p).edition
  else if off = 8 then pcAttach s p
  else if 0x40 ≤ off ∧ off < 0x50 then pcBalance s p ((off - 0x40) / 4)
  else if 0x100 ≤ off ∧ off < 0x148 ∧ off % 8 = 0 then (parGet s p).meters.getD ((off - 0x100) / 8) 0 % 2 ^ 32
  else regNat s a

/-- A parcel's mailbox page: the doorbell registers as each side sees them (R176, R177); the post registers are WO. -/
def mbView (s : State) (tenant : Bool) (p off : Nat) : Nat :=
  if off = 0x804 then mbInPending s p tenant
  else if off = 0x80C then mbOutPending s p tenant
  else if off = 0x810 then mbStatus s p
  else regNat s (PC_MB_IN_SLOT p 0 + off)

def pcPage (s : State) (a : Nat) : Nat :=
  if a = PC_SNAP_LAST_LO then s.pc.lastEnd % 2 ^ 32
  else if a < 0xA00000 then pcView s ((a - 0x800000) / 0x800) (a % 0x800) a
  else if 0xC00000 ≤ a then mbView s false ((a - 0xC00000) / 0x1000) (a % 0x1000)
  else regNat s a

def atPage (s : State) (a : Nat) : Nat :=
  if a = AT_FREE then if s.atl.fmt.isSome then hotGroups s * 2 ^ 24 + freeBlocks s % 2 ^ 24 else 0
  else if a = AT_MEDIA_STATE then viewFld s a 27 26 (b2n (dynamicWear s))
  else if a = AT_TABLES_USED then s.atl.tabs.length
  else if a = AT_OVERLAYS then viewFld s a 12 0 s.atl.overlays.length
  else regNat s a

def fcPage (s : State) (a : Nat) : Nat :=
  let ch := (a - 0x1100000) / 0x10000
  let off := a % 0x10000
  if off = 0x8 then queueSum s ch (fun x => min 64 x.readQ.length) * 2 ^ 16 + queueSum s ch (fun x => min 16 x.moveQ.length)
  else if off = 0xC then queueSum s ch (fun x => min progDepth x.progQ.length) * 2 ^ 16 + queueSum s ch (fun x => min 4 x.eraseQ.length)
  else if 0x100 ≤ off ∧ off < 0x180 then fcDie s ch ((off - 0x100) / 4) a
  else regNat s a

def dgPage (s : State) (a : Nat) : Nat :=
  if a = DG_CTX_OPEN then s.en.dg.length
  else if 0x1420000 ≤ a then dgStatus s ((a - 0x1420000) / 4)
  else if 0x1410000 ≤ a then dgResult s ((a - 0x1410000) / 0x40) (a % 0x40 / 4)
  else regNat s a

def ksPage (s : State) (a : Nat) : Nat :=
  if a = KS_SUMMARY then keySummary s
  else if 0x1610000 ≤ a then
    if a % 8 = 0 then slotLo s ((a - 0x1610000) / 8) else slotHi s ((a - 0x1610000) / 8)
  else regNat s a

def tsPage (s : State) (a : Nat) : Nat :=
  if a = TS_TASKS then viewFld s a 16 0 (tasksFree s)
  else if a = TS_FLOWS then viewFld s a 14 0 (flowsFree s)
  else if a = TS_DELAYED then tabCount s.cs.tasks fun t => t.st == .delayed
  else if 0x1C00020 ≤ a then
    let cl := (a - 0x1C00020) / 4
    if cl < 2 then 0 else readyCount s cl
  else regNat s a

def gzPage (s : State) (a : Nat) : Nat :=
  if a = GZ_STATUS then viewFld s a 18 0 (gzUsed s)
  else if a = GZ_SUSPECT then gzSuspects s
  else if 0x1D10000 ≤ a then
    if a % 8 = 0 then gzTableLo s ((a - 0x1D10000) / 8) else gzTableHi s ((a - 0x1D10000) / 8)
  else regNat s a

/-- What a 32-bit read of the management window returns at an offset; 0 where it is reserved (R9). -/
def readReg (s : State) (a : Nat) : Reg :=
  if (regDesc a).isNone then 0
  else BitVec.ofNat 32
    (if a = FR_FRAME_COUNT_LO then s.fr.count.toNat % 2 ^ 32
    else if a = EV_SUMMARY then evSummary s
    else if a = HQ_TICKETS_FREE then viewFld s a 14 0 (ticketsFree s)
    else if a = HQ_DURABILITY then viewFld s a 28 28 (b2n (ctrlWt s))
    else if a = HQ_WBUF_OCCUPANCY then viewFld s a 18 0 (occupancy s)
    else if a = FX_CONN_ACTIVE then s.host.conns.length
    else if 0x800000 ≤ a ∧ a < 0x1000000 then pcPage s a
    else if 0x1000000 ≤ a ∧ a < 0x1100000 then atPage s a
    else if 0x1100000 ≤ a ∧ a < 0x1300000 then fcPage s a
    else if a = CZ_CTX_OPEN then s.en.cz.length
    else if 0x1400000 ≤ a ∧ a < 0x1500000 then dgPage s a
    else if 0x1600000 ≤ a ∧ a < 0x1700000 then ksPage s a
    else if 0x1C00000 ≤ a ∧ a < 0x1D00000 then tsPage s a
    else if 0x1D00000 ≤ a ∧ a < 0x1E00000 then gzPage s a
    else if a = EC_LAST_ERR_LO then s.dr.lastErr % 2 ^ 32
    else if a = DX_SUMMARY_LO then dxSummary s 0
    else if a = DX_SUMMARY_HI then dxSummary s 32
    else if a = MG_INFLIGHT then mgInflight s
    else regNat s a)

end Sys2Proof.Machine
end

