-- ==== Sys2Proof/Machine/Reads.lean ====
section
/-! DEFINITION. Reads of a function's BARs and configuration space (R2, R9-R14, R25, R62). The table of operations has rows for the
reads that change something; a read of any register is the operation registerRead here. -/
namespace Sys2Proof.Machine

/-- What a read of the management window changes besides: RC fields clear, lower halves shadow their upper ones (R14, R25). -/
def readEffect (s : State) (a : Nat) : State :=
  let quiet := fun (r : Res) => { after r s with out := s.out }
  if a = FR_FRAME_COUNT_LO then quiet (execFrameCountLoRead s)
  else if a = PC_SNAP_LAST_LO then quiet (execSnapLastLoRead s)
  else if a = AT_CAPACITY_LO then quiet (execCapacityLoRead s)
  else if a = EC_LAST_ERR_LO then quiet (execLastErrLoRead s)
  else if a = GZ_THROTTLE then quiet (execGzThrottleRead s)
  else if a = MG_INFLIGHT then quiet (execMgInflightRead s)
  else if FX_PORT_STATUS 0 ≤ a ∧ a < FX_PORT_STATUS 16 ∧ a % 4 = 0 then quiet (execFecUncorrRead ((a - FX_PORT_STATUS 0) / 4) s)
  else if 0x800000 ≤ a ∧ a < 0xA00000 ∧ 0x100 ≤ a % 0x800 ∧ a % 0x800 < 0x148 ∧ a % 8 = 0 then
    quiet (execMeterLoRead ((a - 0x800000) / 0x800) ((a % 0x800 - 0x100) / 8) s)
  else if 0x1100000 ≤ a ∧ a < 0x1300000 ∧ a = FC_CORR_BITS ((a - 0x1100000) / 0x10000) then
    quiet (execCorrBitsRead ((a - 0x1100000) / 0x10000) s)
  else s

/-- A read in BAR0 of a function (R62, R63, R103, R791, R792): CAP, VS, CC, CSTS, AQA, ASQ, ACQ; another offset reads 0. -/
def nvmeRead (s : State) (f a : Nat) : Nat :=
  let c := ctrlGet s f
  if a = 0 then capReg false true % 2 ^ 32
  else if a = 4 then capReg false true / 2 ^ 32
  else if a = 8 then 0x20100
  else if a = 0x14 then c.cc
  else if a = 0x1C then cstsReg s f
  else if a = 0x24 then c.aqa
  else if a = 0x28 then c.asq % 2 ^ 32
  else if a = 0x2C then c.asq / 2 ^ 32
  else if a = 0x30 then c.acq % 2 ^ 32
  else if a = 0x34 then c.acq / 2 ^ 32
  else 0

/-- A read in BAR4 of a function (R62, R793): message words and Mask bits of the table, then the pending bits. -/
def msixRead (s : State) (f a : Nat) : Nat :=
  let x := fnGet s f
  if a / 16 < vectors f then
    if a % 16 = 12 then b2n (!x.vopen.contains (a / 16)) else (tabGetD x.table a 0).toNat
  else
    let v := (a - 16 * vectors f) * 8
    ((List.range 32).map fun k => b2n (x.pba.contains (v + k)) * 2 ^ k).sum

/-- One 32-bit read: what it returns, and the state after it. -/
def readDword (s : State) (sp : Space) (a : Nat) : Nat × State :=
  match sp with
  | .bar2 f =>
    if f = 0 then ((readReg s a).toNat, readEffect s a)
    else if isVf f ∧ a < 0x1000 then
      match boundParcel s f with
      | some p => (mbView s true p a, s)
      | none => (0, s)
    else (0, s)
  | .bar0 f => (nvmeRead s f a, s)
  | .bar4 f => (msixRead s f a, s)
  | .config f => (configRead s f a, s)

/-- A read of 4 octets, and of 8 as two, the lower address first; a narrower, wider or misaligned one is an Unsupported Request and
changes no register (R10, R11; log 56). -/
def registerRead (s : State) (sp : Space) (a size : Nat) : State :=
  if size = 4 ∧ a % 4 = 0 then
    let r := readDword s sp a
    emit r.2 (.regRead a (BitVec.ofNat 32 r.1))
  else if size = 8 ∧ a % 8 = 0 then
    let l := readDword s sp a
    let h := readDword l.2 sp (a + 4)
    emits h.2 [.regRead a (BitVec.ofNat 32 l.1), .regRead (a + 4) (BitVec.ofNat 32 h.1)]
  else emit s (.unsupported a)

end Sys2Proof.Machine
end

