-- ==== Sys2Proof/Tests/States.lean ====
section
/-! SUPPORT. The small states and operands that the tests use. Each state holds what its witnesses need and is otherwise the reset state: `live1` is
a chip in operation, `T…` hold tasks and programs, `G…` tickets and granules, `H…` ports and connections, `Q…` and `A…` queues and admin commands,
`P…` parcels, `L…` the map, `F…` flash, `E…` engine jobs, `K…` packets, keys and power, `D…` DRAM and `X…` DMA. -/
namespace Sys2Proof.Tests
open Sys2Proof Sys2Proof.Machine
set_option maxRecDepth 20000

def bad : Ecc := { errs := (List.range 12).map fun i => (8 * i, 3) }
def setRegs (s : State) (l : List (Nat × Nat)) : State := l.foldl (fun s e => regPut s e.1 e.2) s
def live0 : State :=
  setRegs State.reset [
      (PW_STATUS, 0x60000000), (EC_REGION_LO 0, 0x80000000), (EC_REGION_HI 0, 0), (EC_REGION_LO 1, 0xA0000001), (EC_REGION_HI 1, 1), (EC_REGION_LO 2, 0xC0000002),
      (EC_REGION_HI 2, 3), (TC_STATUS 0, 0), (TC_STATUS 2, 0), (TC_STATUS 3, 0)]
def live1 : State := { live0 with fr := { live0.fr with released := true, count := 2048 } }
def projW' (p : Nat) (w0 base lim phys : Nat) : Table Word :=
  [(4*p, BitVec.ofNat 36 w0), (4*p+1, BitVec.ofNat 36 base), (4*p+2, BitVec.ofNat 36 lim), (4*p+3, BitVec.ofNat 36 phys)].filter (·.2 != 0)
def V := 2^35
def O := 2^34
def ENC := 2^33
def X := 2^32
def W := 2^31
def R := 2^30
def SUP := 2^29
def projs : Table Word :=
  projW' 0 (V+X+R+W) 0 0x3FFFF 0
    ++ projW' 1 (V+O+R+W) 0x1000000 0x1FFFFFF 0x1000
    ++ projW' 2 (V+X+ENC+R) 0x40000 0x4FFFF 0x100
    ++ projW' 3 (V+O+R) 0 0xFFF 0x1100
    ++ projW' 4 (V+O+R+W) 0xF000000 0xF01FFFF 0xF0000400
    ++ projW' 5 (V+O+R+W+SUP) 0x3000000 0x3000FFF 0x2000
    ++ projW' 6 (V+O+R+W) 0x4000000 0x4000FFF 0xF0000600
def coreA : Core :=
  {
      w := [
          (1, 0x1000100), (2, 0x1000103), (3, 5), (4, 0xFFFFFFFFF), (5, 0x800000000), (6, 0x1FFFFFE), (7, 0x9000000), (8, 0x20), (9, 0xF000000), (10, 0x4000000),
          (30, 0x200), (31, 0x1000200)],
      resetProj := false,
      proj := projs,
      pc := 0x100,
      tepc := 0x800000044,
      tflags := 0x3,
      tvbase := 0x1000,
      tcause := 0x301,
      taddr := 77,
      icache := [(16, List.replicate 16 0)] }
def cells (l : List (Nat × Bytes)) : List Host.Cell :=
  l.flatMap fun e => (((List.range e.2.length).zip e.2).map fun b => ((e.1 + b.1, b.2) : Host.Cell)).filter fun c => c.2 != 0
def putCore (s : State) (c : Nat) (k : Core) : State := coreMod s c fun _ => k
def sA : State := putCore live1 16 coreA
def sAf : State :=
  putCore live1 16 { coreA with
      fl := { c := true, g := true, n := true, v := true, z := true },
      w := [(1, 0x1000104), (2, 0x1000108), (3, 0xFFFFFFFFE), (4, 0x7FFFFFFFF), (5, 0x80000000), (6, 0xFFFFFFFF), (7, 0), (8, 36)] }
def sC : State := putCore live1 16 { coreA with pc := BitVec.ofNat 36 (2^35 + 4 * 0x40000 + 2), fl := { z := true } }
def task1 : Task := { st := .running, prio := 3, clusters := 0xFC, inv := 5, root := true, fresh := false }
def inv5 : Invoc := { owner := .ticket 3, parcel := 17, pEdition := 6, ticket := 3, prog := 17*64+1, accepted := 2000, budget := 1000, maxTasks := 4 }
def parcel17 : Parcel :=
  {
      st := .active,
      edition := 6,
      lim := { namespaces := 8, queuePairs := 16, keySlots := 8, programs := 8, ranges := 4, controllers := 2 },
      vf := some 17,
      mask := 0x18,
      rate := [256,896,256,256],
      bal := [10, 20, 30, 40],
      shown := [10,20,30,40] }
def taskBase (s : State) : State :=
  { s with
      cs := { s.cs with
          tasks := [(1, task1)],
          nextTask := 2,
          invs := [(5, inv5)],
          nextInv := 6,
          progs := [(
                17*64+1, {
                    compact := false,
                    code := 0,
                    codeWords := 0x1000,
                    data := [],
                    zeroWords := 0,
                    stackWords := 0,
                    entry := 0,
                    budget := 1000,
                    maxTasks := 4,
                    active := true })] },
      pc := { s.pc with parcels := [(17, parcel17)] } }
def sD : State := putCore (taskBase live1) 16 { coreA with lower := true, task := some 1 }
def sE : State := putCore live1 16 { coreA with nest := true, prev := true }
def lineA : CLine := { data := some (.octets ((List.range 64).map fun i => BitVec.ofNat 8 (i + 1))), dirty := true, way := 3 }
def lineW : CLine := { data := some (.words ((List.range 16).map fun i => BitVec.ofNat 36 (i+5))), dirty := true }
def sF : State :=
  clusterMod { sA with dr := { sA.dr with mem := [(0x1000140, 7), (0x1000143, 9)], words := [(0x40, 0x123456789)] } } 2 fun k => { k with
      lines := [(16, lineW), (0x40004, lineA), (0x40005, { data := none, locked := some 0x4000 }), (0x40006, { lineA with locked := some 0x4000, dirty := false })] }
def sFF : State :=
  clusterMod sF 2 fun k => { k with
      lines := k.lines.filter fun e => e.1 != 0x40004 && e.1 != 0x40006,
      fills := [
          (16, { data := .words ((List.range 16).map fun i => BitVec.ofNat 36 (i+9)) }),
          (0x40004, { data := .octets ((List.range 64).map fun i => BitVec.ofNat 8 (i + 7)), ops := [.clean] })] }
def tk0 (cmd : Sqe) : Ticket := { busy := true, phase := .started, parcel := some 17, pEdition := 6, src := .pcie 17 1, ctrl := 17, cmd := cmd, edition := 5 }
def adm (cmd : Sqe) : Ticket := { tk0 cmd with admin := true, src := .pcie 17 0 }
def tkList (l : List Ticket) : Table Ticket := (List.range l.length).zip l
def image1 : Bytes :=
  [0x53, 0x56, 0x50, 0x52, 1, 0, 0, 0]
    ++ leBytes 4 2
    ++ leBytes 4 1
    ++ leBytes 4 3
    ++ leBytes 4 64
    ++ leBytes 4 0
    ++ leBytes 4 1000
    ++ leBytes 4 4
    ++ zeros 28
    ++ (List.range 18).map (BitVec.ofNat 8)
def parcel18 : Parcel := { parcel17 with st := .provisioned, edition := 3, vf := some 18, bal := [0,0,0,0] }
def ns3 : Ns := { nsze := 1000, lbads := 12, parcel := some 17, quads := [5, 6] }
def tile4 (i : Nat) : Bytes := (List.range 4096).map fun k => BitVec.ofNat 8 (k + i)
def tksC : List Ticket :=
  [
      adm { opc := 0x20, cid := 1, cdw10 := 1 }, adm { opc := 0x20, cid := 1, cdw10 := 2 }, adm { opc := 0x21, cid := 2, cdw10 := 0x10001 },
      adm { opc := 0x21, cid := 2, cdw10 := 0x00001 }, adm { opc := 0x21, cid := 2, cdw10 := 0x00003 }, tk0 { opc := 0x81, cid := 3, cdw10 := 1, cdw11 := 0xFFFF },
      tk0 { opc := 0x81, cid := 3, cdw10 := 1, cdw11 := 2 }, tk0 { opc := 0x81, cid := 3, cdw10 := 9, cdw11 := 0xFFFF }, adm { opc := 0x22, cid := 3, cdw10 := 0 },
      adm { opc := 0x22, cid := 3, cdw10 := 0x20001 }, adm { opc := 0x22, cid := 3, cdw10 := 0x30001 },
      tk0 { opc := 0x82, cid := 1, cdw10 := 0x140, cdw12 := 16, cdw13 := 1, dlen := 64 },
      tk0 { opc := 0x83, cid := 1, cdw10 := 0x140, cdw12 := 8, cdw13 := 1, dlen := 64 },
      tk0 { opc := 0x82, cid := 1, cdw10 := 0, cdw12 := 0x20000, cdw13 := 1, dlen := 64 },
      tk0 { opc := 0x83, cid := 1, cdw10 := 0, cdw12 := 16, cdw13 := 9, dlen := 64 }, {
          tk0 {
              opc := 0x84,
              cid := 1,
              nsid := 3,
              cdw12 := 0,
              cdw13 := 1,
              cdw14 := 4096,
              cdw15 := 64,
              list := some (zeros 8 ++ leBytes 8 2 ++ leBytes 2 0 ++ zeros 14) } with reads := [{ idx := 1000000, quad := 5, tile := 2, got := some (tile4 1) }] },
      adm { opc := 0x21, cid := 2, cdw10 := 0x10003 }, tk0 { opc := 0x82, cid := 1, cdw10 := 0, cdw12 := 0, cdw13 := 9, dlen := 64 },
      tk0 { opc := 0x83, cid := 1, cdw10 := 0xFFFF, cdw12 := 8, cdw13 := 1, dlen := 64 }, { tk0 { opc := 0x81, cid := 3 } with edition := 2, begun := true },
      { tk0 { opc := 0x81, cid := 3 } with edition := 2, begun := true }]
def flowTask (q : Nat) : Task := { task1 with st := .flowWait, root := false, flow := some 7, seq := q, ctx := { w := [(1, 5)], pc := 0x120 } }
def invT : Invoc := { inv5 with owner := .ticket 19, ticket := 19, tEdition := 2 }
def T0 : State :=
  let s := taskBase sF
  let s :=
    { s with
        cs := { s.cs with
            tasks := [
                (1, task1), (2, { task1 with st := .delayed, root := false, wake := 2048 }), (3, { task1 with st := .delayed, root := false, wake := 2049 }),
                (4, { task1 with st := .blocked, root := false, unblock := true }), (5, { task1 with st := .blocked, root := false, wait := some (.space 1) }),
                (6, flowTask 9), (7, flowTask 4), (8, { task1 with st := .ready, root := false, cluster := 1 }),
                (9, { task1 with st := .ready, root := false, clusters := 0x18, cluster := 2, prio := 7 })],
            nextTask := 10,
            flows := [(7, ⟨5, none⟩), (9, ⟨5, some 1⟩)],
            invs := [
                (5, inv5), (6, { invT with ended := some (.success, 7, 8) }),
                (7, { invT with owner := .ticket 20, ticket := 20, accepted := 500, ranges := [1] , prog := 3 })],
            progs := [
                (
                    17*64+1, {
                        compact := false,
                        code := 0,
                        codeWords := 0x1000,
                        data := [],
                        zeroWords := 0,
                        stackWords := 64,
                        entry := 3,
                        budget := 1000,
                        maxTasks := 40,
                        active := true }),
                (17*64+3, { compact := true, code := 0, codeWords := 16, data := [], zeroWords := 0, stackWords := 64, entry := 0, budget := 10, maxTasks := 4 })],
            ranges := [(17*4096+1, { phys := 0x1000000, len := 0x10000 }), (17*4096+2, { phys := 0x2000000, len := 0x1000 })],
            sets := [(17*16+2, [1]), (17*16+3, [2])] },
        atl := { s.atl with nss := [(2, ns3)] },
        host := { s.host with fns := [(17, { bme := true, msixEn := true, vopen := [1, 2], pba := [1, 3] })] },
        en := { s.en with jobs := [(3, { eng := .dg, desc := zeros 64, parcel := some 17, inv := some 5, phase := .ended, status := 6 })], nextJob := 4 },
        pc := { s.pc with parcels := [(17, { parcel17 with lim := { parcel17.lim with tasks := 40 } }), (18, parcel18)] },
        cq := { s.cq with tickets := tkList tksC } }
  putCore s 16 { coreA with lower := true, task := some 1, w := [(1, 5), (2, 77), (3, 6), (4, 0xFFFFFFFFF)] }
def withW (s : State) (w : Table Word) : State := coreMod s 16 fun k => { k with w := w }
def T1 : State := withW T0 [(1, 0), (2, 1)]
def T2 : State :=
  withW { T0 with
      en := { T0.en with jobs := [(4, { eng := .dg, desc := zeros 64, parcel := some 17, inv := some 5, phase := .running })], nextJob := 5 },
      cs := { T0.cs with invs := [(5, { inv5 with ended := some (.success, 1, 2), owner := .ticket 3, tEdition := 5 })] } } [(1, 0), (2, 2)]
def submitDesc : Bytes := [1, 0, 0, 0] ++ zeros 12 ++ leBytes 8 0x1000000 ++ leBytes 8 0x1000400 ++ leBytes 8 0 ++ leBytes 8 0x1000800 ++ zeros 16
def T3 : State := withW { T0 with dr := { T0.dr with mem := cellsPut T0.dr.mem 0x1000200 submitDesc } } [(1, 0x1000200), (2, 1)]
def T4 : State := withW T3 [(1, 0x1000200), (2, 2)]
def T5 : State := withW T3 [(1, 0x1000200)]
def T6 : State :=
  { withW T0 [(1, 0)] with
      cs := { T0.cs with
          flows := [(8, ⟨5, none⟩)],
          cores := [(16, { coreA with lower := true, task := some 1, w := [(3, 1)] })],
          tasks := [(1, { task1 with flow := some 9 })],
          clusters := T0.cs.clusters } }
def T7 : State :=
  clusterMod (regPut { T0 with cs := { T0.cs with flows := [(9, ⟨5, some 1⟩)], tasks := [(1, { task1 with flow := some 9 })] } } (TC_POOL 3) 0x7F) 2 fun k => { k with changes := [{ way := 3, old := 0, new := 3, start := some 2047 }, { way := 4, old := 0, new := 2 }] }
def T11 : State :=
  clusterMod (clusterMod { T0 with
        cs := { T0.cs with
            affinity := T0.cs.affinity % 4096 + 0x10 * 4096,
            idleAt := 2047,
            idle := [3, 5],
            tasks := T0.cs.tasks.map fun e => (e.1, { e.2 with since := 2000, clusters := 0xFC, cluster := if e.2.st == .ready then 2 else e.2.cluster }) } } 2 fun k => { k with pool := 0xFE }) 3 fun k => { k with pool := 0xFF }
def G0 : State :=
  let s := setRegs live1 [(FR_FRAME_MARK, 0x8000000A), (FR_OVERRUN_EVENT_EN, 0x1F), (FR_OVERRUN_COUNT 3, 0xFFFFFFFF), (FR_AUDIT_STATUS, 0x10)]
  { taskBase s with fr := { s.fr with synth := [3], pool := 16000, tick := 300, eng := 50, disc := 34 }
                    cq := { s.cq with tickets := [(21, { tk0 { opc := 2, cid := 1 } with gran := 5 })] } }
def gTok : State := { G0 with fr := { G0.fr with grants := [1000, 20, 30, 40], spends := [0, 0, 0, 0] } }
def G1 : State := { G0 with fr := { G0.fr with snap := some ⟨2048, 16384, [0,0,0,0]⟩, count := 2049, synth := [4, 3] } }
def G5 : State :=
  { G0 with
      fr := { G0.fr with synth := [2, 2] },
      dr := { G0.dr with tags := [(524289, tagWord (tagBits 17 6 1 22 5))] },
      cq := { G0.cq with
          tickets := [
              (21, { tk0 { opc := 2, cid := 1 } with gran := 5 }),
              (22, { tk0 { opc := 2, cid := 1 } with gran := 5, earlier := [{ edition := 4, parcel := 17, pEdition := 6, count := 1, gran := 2 }] })] } }
def connRdma : Conn :=
  {
      tcp := false,
      parcel := 17,
      ctrl := 1024,
      qid := 1,
      hostNqn := [1],
      subNqn := [2],
      depth := 8,
      granted := 8,
      outstanding := 6,
      consumed := 2,
      repost := 1,
      cnp := some 2000 }
def connTcp : Conn := { tcp := true, parcel := 17, ctrl := 1025, qid := 0, hostNqn := [1], subNqn := [2], depth := 8, granted := 3, outstanding := 2, consumed := 1 }
def connDisc : Conn := { tcp := true, parcel := 0, ctrl := 1026, qid := 0, hostNqn := [1], subNqn := discoveryNqn, depth := 8, discovery := true }
def p19 : Parcel := { parcel17 with st := .resetting, vf := some 19, pairs := [([3], [4])] }
def H0 : State := 
  let s := taskBase live1
  { s with
      host := { s.host with
          fns := [
              (0, { bme := true }), (17, { bme := true, msixEn := true, vopen := [1, 2], pba := [1, 3] }),
              (18, { bme := false, msixEn := true, vopen := [0], pba := [0] })],
          ctrls := [
              (0, { cc := 0x460001, rdy := true, aqa := 0x1F001F }), (17, { cc := 0x460001, rdy := true, aqa := 0x1F001F, vwc := true }), (19, { cc := 0x460000 }),
              (512, { cc := 0, aqa := 0x3F003F }), (1024, { parcel := some 17, rdy := true, kato := 1, lastKa := 0 }),
              (1025, { parcel := some 17, rdy := true, kato := 0 }), (1026, {})],
          linkA := { up := true },
          linkB := { up := true, loss := true },
          split := true,
          conns := [
              (3, connRdma), (4, connTcp), (5, { connRdma with cnp := some 2046, ctrl := 1025, qid := 2 }), (6, connDisc),
              (7, { connRdma with cnp := none, outstanding := 0 })],
          discChange := true,
          vpd := (List.range 32).map (BitVec.ofNat 8),
          eids := [9],
          spdm := [(.doe 0, { version := true, caps := true, algs := true, transcript := [1, 2] }), (.mctp 9, { version := true })],
          miConfig := [(1, 5)] },
      cq := { s.cq with
          sqs := [
              (qkey 0 0, { cqid := 0, depth := 32 }), (qkey 17 0, { cqid := 0, depth := 32, head := 3 }),
              (qkey 17 1, { cqid := 1, depth := 8, head := 3, tail := 5, waiting := [{ opc := 2, cid := 7 }] }), (qkey 17 2, { cqid := 2, depth := 8 })],
          cqs := [
              (qkey 0 0, { depth := 32, vec := some 0 }), (qkey 17 0, { depth := 32, vec := some 0 }),
              (qkey 17 1, { depth := 8, vec := some 1, head := 1, tail := 7 }), (qkey 17 2, { depth := 8, vec := some 3, head := 1, tail := 0 })],
          tickets := [
              (21, { tk0 { opc := 2, cid := 1 } with gran := 5, src := .fabric 3, r2t := true }),
              (22, { tk0 { opc := 1, cid := 9, dlen := 64 } with src := .fabric 4, r2t := true, got := [1,2,3] }),
              (23, { tk0 { opc := 2, cid := 1 } with gran := 5, src := .fabric 3, r2t := true, r2ts := [(3, 1, 9)] }),
              (24, { tk0 { opc := 2, cid := 5 } with phase := .done, held := true, status := .success, src := .pcie 17 1 }),
              (25, { tk0 { opc := 2, cid := 6 } with phase := .done, held := true, status := .lbaRange, src := .pcie 17 2 }),
              (16128, { adm { opc := 6, cid := 4 } with parcel := none, src := .pcie 0 0, ctrl := 0 })],
          nextIo := 30,
          nextAdm := 16129 },
      pc := { s.pc with
          parcels := [(17, { parcel17 with pairs := [([1], [2]), ([7], [8])], lim := { parcel17.lim with controllers := 4 } }), (18, parcel18), (19, p19)] },
      pw := { s.pw with rom := .done } }
def noConns (s : State) : State := { s with host := { s.host with conns := [] } }
def H1 : State :=
  { noConns H0 with
      host := { H0.host with
          conns := [],
          ctrls := [],
          discChange := false,
          linkA := { up := false, reset := true },
          linkB := { up := true, loss := false },
          spdm := [] },
      pc := { H0.pc with parcels := [(17, { parcel17 with pairs := [([1], [2])], st := .frozen, vf := none }), (19, { p19 with st := .enabling })] },
      ks := { H0.ks with failedAt := some 9 } }
def H2 : State :=
  regPut { H0 with
      host := { H0.host with linkB := { up := true, loss := true }, linkA := { up := true, loss := true } },
      pc := { H0.pc with parcels := [(17, { parcel17 with pairs := [([1], [2])] })] },
      ks := { H0.ks with failedAt := some 9 },
      cq := { H0.cq with nextAdm := 16384, freed := [16200] } } KS_ENTROPY 0x80000000
def H3 : State :=
  { regPut H0 PW_STATUS 0x20000000 with
      pc := { H0.pc with parcels := [(17, { parcel17 with pairs := [([1], [2])], vf := some 513 })] },
      host := { H0.host with linkA := { up := true, loss := true }, ctrls := [(0, {cc := 0x460000}), (17, { cc := 0x460000 })] } }
def H4 : State :=
  setRegs { H0 with
      host := { H0.host with
          ctrls := [(17, { cc := 0x460000, aqa := 0x1F000F }), (19, { cc := 0x460000 }), (18, { cc := 0 }), (1024, { parcel := some 17, rdy := true })],
          eids := [] } } [(FX_PORT_STATUS 1, 0x8001000F), (FX_PORT_STATUS 3, 0x80020010), (FX_PORT_MODE, 1), (HQ_DURABILITY, 0x80000000)]
def quadW (form ns tab : Nat) : Word := quadWord form false ns tab
def nsA : Ns := { nsze := 1000, lbads := 12, parcel := some 17, quads := [5, 6] }
def nsB : Ns := { nsze := 1000, lbads := 9, parcel := some 17, quads := [7], encrypt := true, media := some 4 }
def nsC : Ns := { nsze := 1000, lbads := 12, quads := [8] }
def nsD : Ns := { nsze := 1000, lbads := 12, quads := [9], parcel := some 17, encrypt := true, media := some 9 }
def tileA : Bytes := tile4 1
def io (opc : Nat) (e : Sqe) : Ticket := tk0 { e with opc := opc, nsid := 3 }
def rd (i : Nat) (d : Option Bytes) (bad : Bool := false) : TileRead := { idx := i, quad := 5, tile := 5 * 262144 + i, got := d, bad := bad }
def copySqe : Sqe := { cid := 10, opc := 2, cdw10 := 20, cdw12 := 0, dlen := 32, list := some (zeros 8 ++ leBytes 8 0 ++ leBytes 2 0 ++ zeros 14) }
def tksQ : List Ticket :=
  [
      { io 2 { cid := 1, opc := 2, cdw10 := 8, cdw12 := 1 } with order := 1 },
      { io 2 { cid := 2, opc := 2, cdw10 := 0, cdw12 := 0 } with reads := [rd 0 (some tileA)], order := 2 },
      { io 0xC { cid := 3, opc := 2, cdw10 := 0, cdw12 := 0 } with reads := [rd 0 (some tileA)], order := 3 },
      { io 5 { cid := 4, opc := 2, cdw10 := 0, cdw12 := 0 } with reads := [rd 0 (some tileA)], order := 4 },
      { io 2 { cid := 5, opc := 2, cdw10 := 0, cdw12 := 0 } with reads := [rd 0 none true], order := 5 },
      { io 2 { cid := 5, opc := 2, cdw10 := 0, cdw12 := 0 } with reads := [rd 0 none true], order := 5, cmd := { opc := 2, cid := 5, nsid := 10 } },
      { io 1 { cid := 6, opc := 2, cdw10 := 9, cdw12 := 0, dlen := 4096 } with order := 7 },
      { io 1 { cid := 7, opc := 2, cdw10 := 10, cdw12 := 1, dlen := 8192 } with order := 8, heldData := some (tile4 3 ++ tile4 4), begun := true },
      { io 8 { cid := 8, opc := 2, cdw10 := 0, cdw12 := 0 } with order := 9 }, { io 8 { cid := 8, opc := 2, cdw10 := 0, cdw12 := 0x2000001 } with order := 10 },
      { io 9 { cid := 9, opc := 2, cdw10 := 0, cdw11 := 4, dlen := 16, list := some (zeros 4 ++ leBytes 4 1 ++ leBytes 8 3) } with order := 11 },
      { io 9 { cid := 9, opc := 2, cdw10 := 0, cdw11 := 1, dlen := 16, list := some (zeros 4 ++ leBytes 4 1 ++ leBytes 8 3) } with order := 12 },
      { io 0x19 copySqe with order := 13, reads := [rd copyBase (some tileA)] }, { io 0 { cid := 11, opc := 0 } with order := 0 },
      { io 0 { cid := 11, opc := 0 } with order := 200 }, { io 5 { cid := 12, opc := 0, fused := 1, cdw10 := 0, cdw12 := 0 } with order := 14, src := .pcie 17 3 },
      { io 5 { cid := 12, opc := 0, fused := 1, cdw10 := 0, cdw12 := 0 } with order := 14, src := .pcie 17 1 },
      { io 5 { cid := 12, opc := 0, fused := 1, cdw10 := 0, cdw12 := 0 } with order := 20, reads := [rd 0 (some tileA)] },
      { io 1 { cid := 13, opc := 0, fused := 2, cdw10 := 0, cdw12 := 0 } with order := 21, phase := .waiting, qno := 1 },
      { io 5 { cid := 12, opc := 0, fused := 1, cdw10 := 0, cdw12 := 0 } with order := 22, src := .pcie 17 2, qno := 4 },
      { io 1 { cid := 13, opc := 0, fused := 2, cdw10 := 1, cdw12 := 0 } with order := 23, phase := .waiting, src := .pcie 17 2, qno := 5 },
      { io 2 { cid := 14, opc := 0, cdw10 := 500 } with order := 30, phase := .waiting },
      { io 2 { cid := 15, opc := 0, cdw10 := 0 } with order := 31, phase := .waiting, ordered := true },
      { io 8 { cid := 16, opc := 0, cdw10 := 501 } with order := 2, phase := .done, src := .fabric 99 },
      { io 8 { cid := 17, opc := 0, cdw10 := 0 } with order := 300, phase := .waiting },
      { tk0 { opc := 2, cid := 5 } with phase := .done, status := .success, src := .pcie 17 1 },
      { tk0 { opc := 2, cid := 6 } with phase := .done, status := .lbaRange, src := .pcie 17 2 },
      { tk0 { opc := 2, cid := 6 } with phase := .done, status := .lbaRange, src := .pcie 18 2 },
      { tk0 { opc := 2, cid := 6 } with phase := .done, status := .lbaRange, src := .pcie 17 5 },
      { tk0 { opc := 1, cid := 55 } with phase := .started, src := .pcie 17 7, order := 1000 },
      { tk0 { opc := 1, cid := 56 } with phase := .started, ponr := true, src := .pcie 17 7, order := 1001 }]
def Q0 : State :=
  let s := setRegs H0 [(HQ_DURABILITY, 0x80000000), (HQ_WBUF_BUDGET, 0x10)]
  { s with
      cq := { s.cq with
          armReq := some false,
          budgetReq := some 8,
          tickets := tkList tksQ,
          sqs := s.cq.sqs ++ [(qkey 17 5, { cqid := 5, depth := 4 }), (qkey 18 2, { cqid := 5, depth := 4 })],
          cqs := s.cq.cqs ++ [(qkey 17 5, { depth := 4, vec := none, tail := 3, head := 2 }), (qkey 18 5, { depth := 4, vec := none, tail := 3, head := 2 })] },
      atl := { s.atl with
          nss := [(2, nsA), (3, nsB), (4, nsC), (9, nsD)],
          dir := [(5, quadW formPage 2 1), (6, quadW formPage 2 2), (7, quadW formPage 3 3)],
          tabs := [(1, { fill := wUnmapped, words := [(3, wZero)] }), (2, { fill := wUnmapped }), (3, { fill := wUnmapped })] } }
def Q2 : State := { regPut Q0 HQ_DURABILITY 0xC0000000 with cq := { Q0.cq with armReq := some true, budgetReq := some 2047 } }
def ad (opc : Nat) (c : Nat) (e : Sqe) : Ticket := { tk0 { e with opc := opc } with admin := true, ctrl := c, src := .pcie c 0 }
def tksA : List Ticket :=
  [
      ad 1 17 { opc := 0, cid := 1, cdw10 := 0x70003, cdw11 := 0x10001 }, ad 1 17 { opc := 0, cid := 1, cdw10 := 0x70000, cdw11 := 0x10001 },
      ad 5 17 { opc := 0, cid := 1, cdw10 := 0x70003, cdw11 := 0x400003 }, ad 5 17 { opc := 0, cid := 1, cdw10 := 0x70003, cdw11 := 0x30003 },
      ad 5 17 { opc := 0, cid := 1, cdw10 := 0x70003, cdw11 := 0x30001 }, ad 0 17 { opc := 0, cid := 1, cdw10 := 2 }, ad 0 17 { opc := 0, cid := 1, cdw10 := 6 },
      ad 4 17 { opc := 0, cid := 1, cdw10 := 1 }, ad 4 17 { opc := 0, cid := 1, cdw10 := 3 }, ad 2 17 { opc := 0, cid := 1, cdw10 := 0x00F0001 },
      ad 2 17 { opc := 0, cid := 1, cdw10 := 0x00F0002, cdw12 := 16 }, ad 2 0 { opc := 0, cid := 1, cdw10 := 0x00F0003 },
      ad 2 17 { opc := 0, cid := 1, cdw10 := 0x00F0005 }, ad 2 0 { opc := 0, cid := 1, cdw10 := 0x00F0006 },
      { ad 2 1026 { opc := 0, cid := 1, cdw10 := 0x00F0070 } with src := .fabric 6 }, ad 6 17 { opc := 0, cid := 1, cdw10 := 1 },
      ad 6 17 { opc := 0, cid := 1, cdw10 := 0, nsid := 3 }, ad 6 17 { opc := 0, cid := 1, cdw10 := 0, nsid := 30 }, ad 6 18 { opc := 0, cid := 1, cdw10 := 1 },
      ad 8 17 { opc := 0, cid := 1, cdw10 := 7 + 55 * 65536 }, ad 8 17 { opc := 0, cid := 1, cdw10 := 7 + 56 * 65536 },
      ad 8 17 { opc := 0, cid := 1, cdw10 := 7 + 77 * 65536 }, ad 9 17 { opc := 0, cid := 1, cdw10 := 1, cdw11 := 3 },
      ad 9 17 { opc := 0, cid := 1, cdw10 := 2, cdw11 := 0 }, ad 9 17 { opc := 0, cid := 1, cdw10 := 2, cdw11 := 3 },
      ad 9 17 { opc := 0, cid := 1, cdw10 := 4, cdw11 := 0x155 }, ad 9 17 { opc := 0, cid := 1, cdw10 := 4, cdw11 := 0x1F0155 },
      ad 9 17 { opc := 0, cid := 1, cdw10 := 5, cdw11 := 0x155 }, ad 9 17 { opc := 0, cid := 1, cdw10 := 6, cdw11 := 0 },
      ad 9 0 { opc := 0, cid := 1, cdw10 := 6, cdw11 := 0 }, ad 9 17 { opc := 0, cid := 1, cdw10 := 7, cdw11 := 0 },
      ad 9 17 { opc := 0, cid := 1, cdw10 := 8, cdw11 := 0x305 }, ad 9 17 { opc := 0, cid := 1, cdw10 := 9, cdw11 := 0x10005 },
      ad 9 17 { opc := 0, cid := 1, cdw10 := 0xB, cdw11 := 0x305 }, { ad 9 1024 { opc := 0, cid := 1, cdw10 := 0xF, cdw11 := 0x305 } with src := .fabric 3 },
      ad 9 17 { opc := 0, cid := 1, cdw10 := 0xF, cdw11 := 0x305 }, ad 9 17 { opc := 0, cid := 1, cdw10 := 0xC1, cdw11 := 1 },
      ad 9 17 { opc := 0, cid := 1, cdw10 := 0xC2, cdw11 := 1, nsid := 3 }, ad 0xA 17 { opc := 0, cid := 1, cdw10 := 1 },
      ad 0xA 17 { opc := 0, cid := 1, cdw10 := 5 }, ad 0xA 17 { opc := 0, cid := 1, cdw10 := 0xB }, ad 0xA 17 { opc := 0, cid := 1, cdw10 := 6 },
      ad 0xA 0 { opc := 0, cid := 1, cdw10 := 6 }, ad 0xA 0 { opc := 0, cid := 1, cdw10 := 0x66 }, ad 0xC 17 { opc := 0, cid := 1 }, ad 0xC 0 { opc := 0, cid := 1 },
      ad 0xC 18 { opc := 0, cid := 1 }, ad 0xD 0 { opc := 0, cid := 1 }, ad 0xD 0 { opc := 0, cid := 1, cdw10 := 1, nsid := 3 },
      ad 0x15 0 { opc := 0, cid := 1, cdw10 := 0, nsid := 5 }, ad 0x15 0 { opc := 0, cid := 1, cdw10 := 0, nsid := 3 },
      ad 0x15 0 { opc := 0, cid := 1, cdw10 := 1, nsid := 3 }, ad 0x15 0 { opc := 0, cid := 1, cdw10 := 1, nsid := 5 },
      ad 0x14 0 { opc := 0, cid := 1, cdw10 := 15 }, ad 0x14 0 { opc := 0, cid := 1, cdw10 := 1 }, ad 0x1C 0 { opc := 0, cid := 1, cdw10 := 7 + 17 * 65536 },
      ad 0x1C 0 { opc := 0, cid := 1, cdw10 := 7 + 19 * 65536 }, ad 0x80 17 { opc := 0, cid := 1, cdw10 := 1, nsid := 3 },
      ad 0x80 17 { opc := 0, cid := 1, cdw10 := 0x401, nsid := 3 }, ad 0x80 17 { opc := 0, cid := 1, cdw10 := 0x400, nsid := 4 },
      ad 0x11 0 { opc := 0, cid := 1, cdw11 := 4 }, ad 0x10 0 { opc := 0, cid := 1, cdw10 := 8 },
      { ad 0x7F 1024 { opc := 0, cid := 1, nsid := 4, cdw11 := 0x14 } with src := .fabric 3 },
      { ad 0x7F 1024 { opc := 0, cid := 1, nsid := 4, cdw11 := 0x18 } with src := .fabric 3 },
      { ad 0x7F 1024 { opc := 0, cid := 1, nsid := 0, cdw11 := 0x14, cdw12 := 0x460001 } with src := .fabric 3 },
      { ad 0x7F 1024 { opc := 0, cid := 1, nsid := 0, cdw11 := 0x18 } with src := .fabric 3 }, { ad 0x18 1024 { opc := 0, cid := 1 } with src := .fabric 3 },
      { tk0 { opc := 1, cid := 55 } with phase := .started, src := .pcie 17 7, order := 1000 },
      { tk0 { opc := 1, cid := 56 } with phase := .started, ponr := true, src := .pcie 17 7, order := 1001 }]
def A0 : State :=
  { Q0 with
      cq := { Q0.cq with tickets := tkList tksA, sqs := (Q0.cq.sqs.filter fun e => e.1 != qkey 17 3) ++ [(qkey 17 6, { cqid := 9, depth := 8 , deleting := [6] })] },
      host := { Q0.host with
          ctrls := [
              (0, { aers := [100,101,102,103] }), (17, { vwc := true, rdy := true }), (18, { events := [0x10101] }),
              (1024, { parcel := some 17, kato := 1, rdy := true }), (1025, {}), (1026, {})] },
      ks := { Q0.ks with slots := [(4, { valid := true, alg := 1, key := zeros 32, owner := 17, edition := 255 })] },
      atl := { Q0.atl with fmt := some ⟨8, 1024, 4096, 3000, 10, 10⟩, nss := [(2, nsA), (3, nsB), (4, nsC)] },
      fl := { Q0.fl with dies := (List.range 8).map fun i => (i, { ch := i, pos := 0, freshHi := 4000, spareHi := 10 }) } }
def sortT {α : Type} (t : Table α) : Table α := t.foldl (fun a e => tabSet a e.1 e.2) []
def A0' : State :=
  setRegs { A0 with cq := { A0.cq with sqs := sortT A0.cq.sqs, cqs := sortT A0.cq.cqs } } ((
        AT_MEDIA_STATE, 0x20000000) :: (List.range 16).map fun c => (FC_STATUS c, 0x60000000))
def A1 : State :=
  { A0' with
      ks := { A0'.ks with reqs := (List.range 80).map fun i => .renew i 5 4 4 },
      cq := { A0'.cq with selfTest := some 1, sqs := [(qkey 17 6, { cqid := 9, depth := 8, deleting := [6] })], cqs := [(qkey 17 1, { depth := 8, vec := none })] },
      atl := { A0'.atl with deleted := [3], nss := [(2, { nsA with leaving := true }), (3, nsB)] },
      pc := { A0'.pc with parcels := (A0'.pc.parcels.map fun e => (e.1, { e.2 with st := .active })) } }
def pk (parcel : Nat) (params : Bytes) (flags : Nat :=
  0) : Packet := { mctp := true, id := 9, seq := 5, parcel := parcel, params := params ++ zeros (40 - params.length), flags := flags }
def flt (op : Nat) (p : Packet) : Flight := { op := op, p := p, intake := 2000 }
def prov20 : Parcel := { parcel17 with st := .provisioned, vf := none, pairs := [] }
def parcelsP : Table Parcel :=
  [
      (17, { parcel17 with pairs := [([1], [2])], endSt := 2 }), (18, { parcel18 with vf := some 18, reqs := [.reset 0 true (.packet 1)] }),
      (19, { p19 with effect := 2000 , wasActive := true}), (20, prov20), (21, { parcel17 with st := .frozen, drained := true, vf := none, pairs := [([5], [6])] }),
      (22, { parcel17 with st := .retiring, vf := none, effect := 2000, waiters := [.packet 1] }),
      (23, { parcel17 with st := .frozen, drained := false, vf := none, freezeW := .packet 1 }),
      (24, { parcel17 with st := .enabling, vf := some 24, effect := 2000, pend := some .none, shareDue := true, maskDue := true }),
      (25, { parcel17 with vf := some 25, reqs := [.reset 2 false .none] }),
      (26, { parcel17 with st := .resetting, vf := some 26, reqs := [.reset 2 true .none], effect := 2048, waiters := [.packet 3] }),
      (27, { parcel17 with vf := some 27, reqs := [.freeze 1] }), (28, { parcel17 with st := .provisioned, vf := some 28, queued := some (3, true) })]
def P0 : State :=
  let s := taskBase live1
  let s :=
    setRegs s [
        (PC_SHARE 24 1, 0x300), (PC_DEPTH 24 1, 0x40), (PC_CORE_MASK 24, 0x18), (PC_RESET_STATUS 19, 0x80000000), (PC_MB_IN_PENDING 17, 0x6),
        (PC_MB_OUT_PENDING 17, 0x1)]
  { s with
      pc := { s.pc with
          parcels := parcelsP.map fun e => (e.1, if e.1 = 17 then { e.2 with inPost := 2, outPost := 1 } else e.2),
          due := some 2000,
          spanStart := 100,
          lastEnd := 0,
          interval := 2048 },
      atl := { s.atl with nss := [(2, nsA), (3, nsB), (4, nsC)] },
      cq := { s.cq with
          tickets := [(5, tk0 { opc := 2, cid := 6 }), (16129, { adm { opc := 0xC1, cid := 4, dlen := 4096 } with src := .pcie 0 0, ctrl := 0, parcel := none })] },
      host := { s.host with fns := [(0, { bme := true })], conns := [(3, { connTcp with parcel := 25 })], ctrls := [(1025, { parcel := some 25 })] },
      ks := { s.ks with slots := [(7, { valid := true, alg := 1, key := zeros 32, uses := 0x80, device := true })] } }
def PF (op : Nat) (p : Packet) : State := { P0 with mg := { P0.mg with flights := [(1, flt op p)], next := 2 } }
def cre : Bytes := [8, 0, 16, 0, 8, 0, 8, 0, 4, 2, 0, 0, 0x18]
def nq (b : Octet) : Bytes := [b] ++ zeros 255
def withBuf (p : Packet) (b : Bytes) : Packet := { p with buf := b, bufLen := b.length }
def shr : Bytes := [3] ++ zeros 3 ++ leBytes 4 0x100 ++ leBytes 4 64 ++ leBytes 4 0x200 ++ leBytes 4 65 ++ zeros 16
def saveP (k op : Nat) (p : Packet) (r : Bool) : State :=
  { PF op p with pc := { P0.pc with saves := [(k, { packet := 1, sections := 0xE7, slot := 7, image := [], restore := r })] } }
def PR : State := { P0 with pc := { P0.pc with lastEnd := 1, ring := List.replicate 3 ⟨17, 1, 2, 0, 0, 1, []⟩, held := [⟨17, 1, 2, 1, 0, 1, []⟩], due := none } }
def PH : State := { P0 with pc := { P0.pc with ring := List.replicate 65535 ⟨17, 1, 2, 0, 0, 1, []⟩, held := [⟨17, 1, 2, 1, 0, 1, []⟩,⟨18, 1, 2, 1, 0, 1, []⟩] } }
def PM : State := { P0 with mg := { P0.mg with flights := [(1, { flt 0x101 (pk 3 []) with fevoum := false })], next := 2 } }
def Q (i : Nat) : Nat := i * 262144
def L0 : State :=
  let s :=
    setRegs (taskBase live1) ([(AT_MEDIA_STATE, 1), (AT_CONVERT, 0x80000000 + 5 * 16384 + 3), (AT_WEAR, 70)]
        ++ (List.range 8).map fun i => (FC_STATUS i, 0x40000045 + (if i = 3 then 0x80 else 0)))
  { s with
      atl := { s.atl with
          fmt := some ⟨2, 4, 100, 3000, 10, 5⟩,
          nss := [(2, { nsA with quads := [5, 6, 7, 8, 9] })],
          dir := [(5, quadW formPage 2 1), (6, quadW formPage 2 2), (7, quadW formSheet 2 0), (8, quadW formToPage 2 3), (9, quadW formToSheet 2 4)],
          tabs := [
              (1, { fill := wUnmapped, words := [(3, wBuffer 3), (4, flashWord 0 40 1), (6, flashWord 2 40 0)] }), (2, { fill := wUnmapped }),
              (3, { fill := wElse, words := [(1, wZero), (2, flashWord 1 41 0)] }), (4, { fill := wElse })],
          sheets := [(7, [(0, sheetWord 2 20 (some 4))]), (8, [(0, sheetWord 3 21 none)])],
          overlays := [
              (4, { quad := 7, sheet := 0, primDie := 2, primBlk := 30, mirDie := 3, mirBlk := 30, words := [(2, wZero)], pages := 4 }),
              (5, { quad := 8, sheet := 1, primDie := 2, primBlk := 31, mirDie := 3, mirBlk := 31 })],
          wbuf := [(3, { tile := Q 5 + 3, parcel := 17, image := tile4 1, ack := true })],
          stripes := [
              (1, { stream := .hot, frags := [⟨0, 0, 4096, true, Q 5 + 3, false, 3⟩], pages := 1, fill := 4096, cnt := 1, first := 1 }), (
                  2, {
                      stream := .hot,
                      group := some 1,
                      issued := true,
                      k := 0,
                      frags := [⟨0, 4096, 4096, true, Q 5 + 3, false, 3⟩],
                      mem := [(0, 12), (1, 12)],
                      need := [0, 1],
                      okM := [0, 1] }),
              (
                  3, {
                      stream := .cold,
                      group := some 1,
                      issued := true,
                      k := 1,
                      frags := [⟨0, 0, 4096, true, Q 5 + 4, true, 1⟩],
                      mem := [(0, 12), (1, 12)],
                      need := [0, 1],
                      okM := [0, 1] }),
              (
                  4, {
                      stream := .cold,
                      group := some 1,
                      issued := true,
                      k := 1,
                      frags := [⟨0, 0, 4096, true, Q 5 + 5, true, 2⟩],
                      mem := [(0, 12), (1, 12)],
                      need := [0, 1],
                      okM := [0, 1] }),
              (5, { stream := .cold, group := some 1, issued := true, k := 1, mem := [(0, 12), (1, 12)], need := [0, 1], okM := [0] }),
              (6, { stream := .cold, frags := [⟨0, 0, 4096, true, Q 5 + 5, true, 2⟩], first := 2000 }),
              (7, { stream := .hot, group := some 1, issued := true, k := 2, frags := [⟨0, 0, 4096, true, Q 5 + 3, false, 3⟩], pages := 1 })],
          nextStripe := 8,
          moves := [
              (1, { tile := Q 5 + 4, word := flashWord 0 40 1, die := 0, page := 40 }), (2, { tile := Q 5 + 5, word := flashWord 0 40 2, die := 0, page := 40 })],
          nextMove := 3,
          groups := [
              (1, { stream := .hot, members := [(0, 12), (1, 12)], next := 1 }), (2, { stream := .hot, members := [(0, 10), (1, 10)], next := 4, closed := some 3 })],
          nextGroup := 3,
          blks := [
              (blkKey 0 10, { role := .data, group := some 2, erases := 5 }), (blkKey 0 12, { role := .data, group := some 1 }),
              (blkKey 1 10, { role := .data, group := some 2, erases := 7 }), (blkKey 1 12, { role := .data, group := some 1 }), (blkKey 2 20, { role := .data }),
              (blkKey 2 25, { role := .data }), (blkKey 2 30, { role := .data, erases := 400 })],
          convs := [{ quad := 8, toPage := true, start := 2000 }, { quad := 9, toPage := false, start := 2000 }],
          mapLines := [4, 9],
          wcount := [(7, 6)] },
      fl := { s.fl with
          dies := (List.range 8).map fun i => (i, { ch := i, pos := 0, freshLo := 50, freshHi := 60, spareLo := 7, spareHi := 17, resLo := 17, resHi := 20 }),
          pages := [(pageKey 0 40, { kind := 1, group := 2, seq := 1, dir := [⟨true, 4096, 4096, Q 5 + 4⟩], data := zeros 4096 ++ tile4 5 ++ zeros 8192 })] } }
def Lf (f : AtlasSt → AtlasSt) : State := atlSet L0 f
def L1 : State :=
  Lf fun a => { a with
      folds := [{ quad := 7, sheet := 0, die := 4, block := 50, base := sheetWord 2 20 (some 4), copied := [(2, wZero)], done := true }],
      nss := [(2, { nsA with quads := [5,6,7,8,9] })],
      convs := [{ quad := 8, toPage := true, start := 2000 }, { quad := 9, toPage := false, start := 2000, writes := 5000 }],
      windowAt := 0,
      dir := [(7, quadW formSheet 2 0)] }
def L2 : State := let s := Lf fun a => { a with dir := [(7, quadW formSheet 2 0)], convs := [], tabs := [], stripes := [] }
  regPut { s with fr := { s.fr with count := 16777216 } } AT_TABLES_BUDGET 100
def L3 : State :=
  Lf fun a => { a with
      tabs := [
          (1, { fill := wUnmapped, words := [(3, wBuffer 3), (4, flashWord 0 40 1), (6, flashWord 2 40 0)] }),
          (4, { fill := wElse, words := [(2, flashWord 2 40 1)] })],
      rebuild := some (false, 3),
      groups := [(2, { stream := .hot, members := [(0, 11), (1, 10)], next := 4, closed := some 3 })],
      blks := [(blkKey 0 11, { role := .data, group := some 2, erases := 5 }), (blkKey 1 10, { role := .data, group := some 2 })] }
def drained (s : State) : State := flSet s fun f => { f with dies := f.dies.map fun e => (e.1, { e.2 with freshLo := 60 }) }
def L4 : State :=
  drained (regPut (Lf fun a => { a with
          groups := [
              (2, { stream := .hot, members := [(0, 10), (1, 10)], next := 4, closed := some 3 }),
              (5, { stream := .hot, members := [(0, 11), (1, 11)], next := 4, closed := some 1 }),
              (6, { stream := .cold, members := [(0, 13), (1, 13)], next := 4, closed := some 0 })],
          blks := [
              (blkKey 0 10, { role := .data, group := some 2, erases := 500 }), (blkKey 0 11, { role := .data, group := some 5 }),
              (blkKey 0 13, { role := .data, group := some 6 }), (blkKey 1 10, { role := .data, group := some 2 }), (blkKey 1 11, { role := .data, group := some 5 })] }) AT_MEDIA_STATE 1)
def L5 : State := drained (Lf fun a => { a with groups := [(2, { stream := .hot, members := [(0, 10), (1, 10)], next := 4, closed := some 3 })] })
def L6 : State := drained (Lf fun a => { a with groups := [], blks := [] })
def L7 : State := regPut L0 AT_MEDIA_STATE 0xC0000001
def L10 : State := Lf fun a => { a with convs := [{ quad := 9, toPage := false, start := 2000, writes := 5000 }] }
def L11 : State := Lf fun a => { a with folds := [], overlays := tabMod a.overlays 4 fun o => { o with prog := 4 } }
def L12 : State := Lf fun a => { a with folds := [], foldGroup := some 1, overlays := tabMod a.overlays 4 fun o => { o with prog := 4 } }
def L13 : State :=
  let s := Lf fun a => { a with mapLines := [4, 5, 9], journal := [(1, 5, 7)], journal2 := [(1, 5, 7)], blks := tabMod a.blks (blkKey 2 40) fun b => b }
  let s :=
    atlSet s fun a => { a with
        blks := tabSet (tabSet a.blks (blkKey 0 10) { role := .data, group := some 2, marked := true }) (blkKey 2 40) { role := .data, uncorr := 2 } }
  { s with dr := { s.dr with poison := [journalLine s 0 0, journalLine s 1 0] } }
def setDie (s : State) (d : Nat) (f : Die → Die) : State := dieMod s d f
def rdT (src : TileRead) : Ticket := { tk0 { opc := 2, cid := 1, nsid := 3, cdw10 := 4, cdw12 := 0 } with reads := [src], src := .pcie 17 1, begun := true }
def F0 : State :=
  let s := setDie L0 0 fun x => { x with run := some (.move 1 40) }
  let s := setDie s 1 fun x => { x with run := some (.prog 7 1 50) }
  let s := setDie s 2 fun x => { x with run := some (.erase 25) }
  let s := setDie s 3 fun x => { x with run := some (.prog 7 0 48), suspending := true, readQ := [.read 0 5 0 40 1, .read 1 5 0 40 1], progQ := [.prog 9 0 1] }
  let s := setDie s 4 fun x => { x with run := some (.move 1 40), retry := 15 }
  let s := setDie s 5 fun x => { x with run := some (.move 1 40), soft := true }
  let s := setRegs s ([16, 17, 18, 19].map fun c => (FC_STATUS c, 0x20000000))
  let s := setRegs s [(FC_STATUS 20, 0x60000000), (FR_TEMP, 0x500000), (FC_CORR_BITS 0, 0xFFFFFFFF)]
  { s with
      cq := { s.cq with tickets := [(0, rdT { idx := 0, quad := 5, tile := Q 5 + 4, die := some 0 })] },
      host := { s.host with fns := [(17, { bme := true })] } }
def F1 : State := setDie F0 0 fun x => { x with run := some (.read 0 5 0 40 1) }
def F2 : State := setRegs (setDie F0 0 fun x => { x with run := some (.move 1 40), soft := true }) [(FC_STATUS 0, 0x40000045), (FC_STATUS 7, 0x400000C5)]
def F3 : State := flSet F0 fun f => { f with chans := [(0, { retrainReq := true }), (20, { retireReq := some 1 })] }
def F4 : State := setDie F0 6 fun x => { x with lost := true }
def mkD (l : List (Nat × Bytes)) : Bytes := l.foldl (fun a e => putAt a e.1 e.2) (zeros 64)
def czD (op b1 b2 ctx len cap : Nat) : Bytes :=
  mkD [
      (0, leBytes 1 op), (1, leBytes 1 b1), (2, leBytes 1 b2), (4, leBytes 2 ctx), (16, leBytes 8 0x1000000), (24, leBytes 8 0x1010000), (32, leBytes 4 len),
      (36, leBytes 4 cap), (40, leBytes 8 0x1020000)]
def dgD (op b1 ctx len : Nat) (out : Nat :=
  0x1010000) (b13 : Nat := 0) (ks : Nat := 0) : Bytes := mkD [
      (0, leBytes 1 op), (1, leBytes 1 b1), (4, leBytes 2 ctx), (13, leBytes 1 b13), (14, leBytes 2 ks), (16, leBytes 8 0x1000000), (24, leBytes 8 len),
      (40, leBytes 8 0x1020000), (48, leBytes 8 out)]
def cpD (op b1 key len : Nat) (tag : Nat :=
  0) (aad : Nat := 0) (extra : List (Nat × Bytes) := []) : Bytes := mkD ([
          (0, leBytes 1 op), (1, leBytes 1 b1), (2, leBytes 2 key), (4, leBytes 2 0xFFFF), (13, leBytes 1 tag), (14, leBytes 2 aad), (16, leBytes 8 0x1000000),
          (24, leBytes 8 0x1010000), (32, leBytes 8 len), (40, leBytes 8 0x1020000)]
      ++ extra)
def EB : State :=
  let s := setRegs (taskBase live1) [(FR_FRAME_PERIOD, 2), (CZ_CTX_QUOTA, 16), (DG_CTX_QUOTA, 16)]
  { s with
      dr := { s.dr with mem := cells [(0x1000000, (List.range 300).map fun i => BitVec.ofNat 8 (i+1))] },
      fr := { s.fr with eng := 100, pool := 50000 },
      cs := { s.cs with tasks := [(1, { task1 with st := .blocked, wait := some (.job 3) })] },
      en := { s.en with
          cz := [(5, { parcel := some 17, pEdition := 6 }), (6, {})],
          dg := [
              (5, { parcel := some 17, pEdition := 6, alg := 1, data := [1,2] }), (6, { parcel := some 17, pEdition := 6, hmac := true, cap := some ⟨7, 3, [1,2]⟩ }),
              (7, { parcel := none })],
          verified := [⟨5, 4, zeros 12, 4, 32, 0x1000000, (List.range 12).map (fun i => BitVec.ofNat 8 (i+37)), 2000⟩] },
      ks := { s.ks with
          slots := [
              (5, { valid := true, alg := 0, key := zeros 16, uses := 0x0F, owner := 17, edition := 4 }),
              (6, { valid := true, alg := 3, key := zeros 64, uses := 3, owner := 17 }),
              (7, { valid := true, alg := 5, key := zeros 32, uses := 64, owner := 17, edition := 3 }),
              (8, { valid := true, alg := 0, key := zeros 16, uses := 0x20, device := true })] } }
def EJ (j : Job) : State := { EB with en := { EB.en with jobs := [(3, j)], nextJob := 4 } }
def J (g : Eng) (d : Bytes) : Job := { eng := g, desc := d, parcel := some 17, pEdition := 6, ticket := 2, inv := some 5, ranAt := none }
def cp2 : Bytes := cpD 2 0x80 5 32 12 4
def TapS : State :=
  setRegs { EB with
      fr := { EB.fr with count := 2048 },
      atl := { EB.atl with nss := [(2, nsA), (3, nsB), (4, nsC)] },
      en := { EB.en with
          taps := [(0, { ns := 2, ctx := 5, heldSince := some (2048 - 64) }), (1, { ns := 2, ctx := 5, heldSince := some 2000 }), (2, { ns := 2, ctx := 5 })] } } [(DG_NS_TAP 3, 0x80000205), (DG_NS_TAP 2, 0x80000205), (DG_NS_TAP 4, 0x205), (DG_NS_TAP 5, 0x80000905), (DG_NS_TAP 6, 0x80000209)]
def kp (slot : Nat) (par : Bytes) (parcel : Nat := 17) (flags : Nat := 0) : Packet := pk parcel (leBytes 2 slot ++ par) flags
def KF (op : Nat) (p : Packet) : State :=
  let s := { EB with en := { EB.en with jobs := [], dg := [] } }
  { s with
      mg := { s.mg with flights := [(1, flt op p)], next := 2 },
      ks := { s.ks with
          slots := s.ks.slots ++ [(9, { edition := 255 }), (10, { valid := true, alg := 3, key := zeros 64, uses := 16, device := true, persist := true })],
          reqs := [.packet 1 (pAt p 8 2)] },
      atl := { s.atl with nss := [(2, { nsB with media := some 10 })] } }
def KE (f : State → State) : State := let s := KF 0x203 (kp 5 []); f { s with ks := { s.ks with reqs := [.erase 5] } }
def gzD (op b1 obj ctx cnt src len cap : Nat) : Bytes :=
  mkD [
      (0, leBytes 1 op), (1, leBytes 1 b1), (2, leBytes 2 obj), (4, leBytes 2 ctx), (14, leBytes 2 cnt), (16, leBytes 8 src), (24, leBytes 8 0x1010000),
      (32, leBytes 4 len), (36, leBytes 4 cap), (40, leBytes 8 0x1020000)]
def val (n : Nat) : BitVec 160 := BitVec.ofNat 160 (n * 2 ^ 120)
def FULL : BitVec 160 := BitVec.ofNat 160 (2 ^ 160 - 1)
def ent (v m : BitVec 160) (p r : Nat) : GzEntry := { value := v, mask := m, prio := p, result := BitVec.ofNat 36 r, sval := v, smask := m }
def img (v m : BitVec 160) (p r : Nat) : Bytes := gzKeyBytes v ++ gzKeyBytes m ++ leBytes 2 p ++ leBytes 5 r ++ [0]
def auBody : Bytes :=
  zeros 256 ++ leBytes 2 1 ++ leBytes 2 0 ++ leBytes 2 0 ++ leBytes 2 1 ++ (leBytes 2 0 ++ leBytes 2 0) ++ (leBytes 2 0 ++ leBytes 2 1) ++ leBytes 2 1
def auImg : Bytes := let len := 288 + 2*2*2 + 8 + 2
  [0x53, 0x56, 0x47, 0x5A]
    ++ leBytes 2 1
    ++ leBytes 2 1
    ++ leBytes 4 2
    ++ leBytes 2 2
    ++ leBytes 2 0
    ++ leBytes 4 1
    ++ leBytes 4 len
    ++ leBytes 4 (crc32 auBody)
    ++ zeros 4
    ++ auBody
def entsA : Table GzEntry :=
  [
      (64, ent (val 1) FULL 5 111), (65, ent (val 3) FULL 5 222), (70, ent (val 2) 0 4 333), (75, { ent (val 7) FULL 9 1 with sval := val 8 }),
      (80, { ent (val 9) FULL 9 1 with suspect := true }), (81, { ent (val 10) FULL 9 1 with suspect := true, parityBad := true }),
      (82, { ent (val 11) FULL 9 1 with sval := val 12, parityBad := true })]
def fullEnts : Table GzEntry := (List.range 64).map fun i => (256 + i, ent (val (10 * i)) FULL 1 i)
def GB : State :=
  let s := regPut EB GZ_CASCADE 0
  { s with
      dr := { s.dr with
          mem := cells [
              (0x1000000, img (val 3) FULL 7 9), (0x1000100, img (val 40) FULL 7 9), (0x1000200, gzKeyBytes (val 1)), (0x1000300, gzKeyBytes (val 7)),
              (0x1000400, auImg), (0x1000800, auImg.set 40 5), (0x1001000, gzKeyBytes (val 99))] },
      gz := { s.gz with
          entries := entsA ++ fullEnts,
          tabs := [
              (3, { owner := some 17, bank := 0, base := 64, cap := 64 }), (4, { owner := some 17, bank := 0, base := 256, cap := 64 }),
              (5, { owner := some 17, bank := 1, base := 0, cap := 64, casc := 3 }), (6, { owner := none, bank := 1, base := 64, cap := 64 })],
          slots := [(2, { loaded := true, owner := some 17, image := auImg, edition := 4 }), (9, { edition := 255 })],
          ctxs := [(8, { parcel := some 17, pEdition := 6, slot := 2 })],
          lanes := [(8, (2, 4))] } }
def GJ (d : Bytes) : State := { GB with en := { GB.en with jobs := [(3, J .gz d)], nextJob := 4 } }
def mk (per : Nat) : Mark := { frame := 2048, epoch := 1, members := 6, batch := 62, change := none, period := per, level := 1 }
def ck (o : Nat) : CascKey := ⟨o, 3, 0, 3, val 1⟩
def CA (f : CascSt → CascSt) (r : Nat) : State :=
  regPut { GB with gz := { GB.gz with casc := f {}, tabs := [(5, { owner := some 17, bank := 0, base := 64, cap := 64, casc := 3 })] } } GZ_CASCADE r
def GP0 : State := { CA (fun c => { c with role := 2 }) 0xC0070601 with mg := { EB.mg with next := 2 }, pw := { EB.pw with rom := .done } }
def DB : State :=
  let s :=
    setRegs EB [
        (DM_CONFIG, 0x0C000000), (DM_DISTURB, 0x80000006), (DM_REFRESH 0, 0x10000023), (DM_REFRESH 1, 0xA0000010), (DM_REFRESH 2, 0x10000004),
        (DM_REFRESH 3, 0x80000001), (EC_SURVEY, 0x80000001), (DM_PORT_QOS 0, 0x3C0000), (DM_PORT_QOS 1, 0x140000)]
  { s with
      dr := { s.dr with
          banks := [(0, { row := some 7, acts := 5 }), (1, { row := some 9 }), (100, { row := some 1, acts := 3 })],
          rows := [{ ch := 1, row := 77 }, { ch := 2, row := 9, group := some 5 }],
          mr4 := [(3, 1)],
          surveyAt := 0x40000,
          reqs := (List.range 40).map (fun i => { line := i * 1024 + i, port := 1, age := 100000 }),
          poison := [0x40001] } }
def withFrame (n : Nat) (s : State) : State := { s with fr := { s.fr with count := n } }
def dmaRegs (c st cnt : Nat) (src : Nat :=
  0x1000000) : List (Nat × Nat) := [
      (DX_STATUS c, st * 2^30), (DX_COUNT c, cnt), (DX_SRC_LO c, src), (DX_DST_LO c, 0x1010000), (DX_CQ_CFG c, 0x80000004), (DX_CQ_TAIL c, 0x10000), (DX_CTRL c, 0),
      (DX_NEXT_LO c, 0x1000040)]
def descM (n : Nat) : Bytes :=
  leBytes 8 0x1000000 ++ leBytes 8 0x1010000 ++ leBytes 4 n ++ zeros 4 ++ zeros 2 ++ [2] ++ zeros 5 ++ leBytes 8 0 ++ leBytes 8 0x77 ++ zeros 16
def dsc (n : Nat) (ev nv : Bool) : Desc :=
  { reg := true, addr := 0, src := 0x1000000, dst := 0x1010000, count := n, attr := 0, func := 0, nextValid := nv, event := ev, next := 0x1000040, tag := 0 }
def XB : State :=
  let s :=
    setRegs (withFrame 2048 EB) (dmaRegs 32 0 100
        ++ dmaRegs 33 1 100
        ++ dmaRegs 34 0 0
        ++ dmaRegs 35 1 100
        ++ dmaRegs 36 1 0
        ++ dmaRegs 37 1 100
        ++ dmaRegs 38 1 100
        ++ dmaRegs 39 1 100
        ++ dmaRegs 40 0 100
        ++ dmaRegs 41 2 100
        ++ dmaRegs 42 1 100 0x9000000
        ++ dmaRegs 43 0 100
        ++ dmaRegs 44 1 100
        ++ dmaRegs 45 1 2)
  let s := setRegs s [(DX_CQ_CFG 43, 0x80000002), (DX_CQ_HEAD 40, 1), (DX_CQ_HEAD 41, 1)]
  { s with
      host := { s.host with fns := [(0, { bme := true, msixEn := true, vopen := [0] })] },
      dr := { s.dr with mem := cellsPut s.dr.mem 0x1000040 (descM 64) },
      ev := { s.ev with
          chans := [
              (33, { cur := some (dsc 100 true false), started := 1, since := 2040, room := 100000 }), (35, { next := some .register }),
              (36, { next := some (.memory 0x1000040) }), (37, { next := some (.memory 0x9000000) }), (38, {}),
              (39, { cur := some (dsc 100 false true), since := 2040, room := 100000 }), (41, { next := some .register }), (42, { next := some .register }),
              (44, { cur := some (dsc 1000000 false true), since := 2047 }), (45, { cur := some { dsc 2 false false with attr := 32 }, since := 2040, room := 1000 })] } }
def XE : State :=
  { setRegs XB [(EV_PENDING 0, 0x80000001), (EV_MASK 1, 0xFFFFFFFF), (EV_MASK 11, 0), (EV_MASK 0, 0), (EV_ROUTE 353, 0x80000000), (EV_ROUTE 0, 0x80000000), (EV_ROUTE 5, 0x80000002)] with
      ev := { XB.ev with send := [0, 5, 353], fwLatch := XB.ev.fwLatch } }
def pf (params : Bytes) (flags : Nat := 0) : Packet := pk 0xFFFF params flags
def nsE : Ns := { nsze := 1000, lbads := 12, quads := [20] }
def nsF : Ns := { nsze := 1000, lbads := 9, parcel := some 17, quads := [21], encrypt := true, media := some 4 }
def L0regs : List (Nat × Nat) :=
  [(AT_MEDIA_STATE, 1), (AT_CONVERT, 0x80000000 + 5 * 16384 + 3), (AT_WEAR, 70)]
    ++ (List.range 8).map (fun i => (FC_STATUS i, 0x40000045))
    ++ [(FC_STATUS 9, 0x20000000), (FC_STATUS 10, 0x60000000), (FC_STATUS 11, 0x80000000)]
def K0 : State :=
  let s := setRegs T0 (L0regs ++ [(EV_PENDING 0, 0xFF), (EV_PENDING 2, 7), (PW_STATUS, 0x60000000)])
  { s with
      atl := { L0.atl with nss := [(2, nsE), (3, nsB), (5, nsF), (6, nsE)], dir := L0.atl.dir ++ [(20, quadW formEmpty 2 0), (21, quadW formEmpty 5 0)] },
      fl := L0.fl,
      ks := { EB.ks with slots := (4, { valid := true, alg := 3, key := zeros 64, uses := 16, device := true }) :: EB.ks.slots },
      mg := { s.mg with next := 2 },
      pc := { s.pc with ring := List.replicate 3 ⟨17, 1, 2, 0, 0, 1, []⟩ },
      cq := { s.cq with tickets := [], nextAdm := 16129 },
      pw := { s.pw with running := 1, rom := .done, diag := [1, 2, 3, 4], fw := [(1, (zeros 100))] } }
def K1 : State :=
  { regPut K0 AT_REBUILD 0x80000000 with
      atl := { K0.atl with nss := [], convs := [] },
      pc := { K0.pc with ring := [] },
      cs := { K0.cs with ranges := [(17 * 4096 + 7, { phys := 0x1000000, len := 0x1000 })] } }
def K2 : State :=
  setRegs { K0 with
      atl := { K0.atl with nss := [], convs := [], tabs := (List.range 0).map fun i => (i, { fill := wUnmapped }) } } [(FC_STATUS 9, 0), (FC_STATUS 10, 0x40000045)]
def K2' : State := flSet K2 fun f => { f with dies := (List.range 40).map fun i => (i, { ch := i % 8, pos := i / 8, freshHi := 4000, spareHi := 10 }) }
def K3 : State := { regPut K0 AT_TABLES_BUDGET 0 with atl := { K0.atl with convs := [], tabs := (List.range 65536).map fun i => (i, { fill := wUnmapped }) } }
def K4 : State := { regPut K0 KS_ENTROPY 0x80000000 with pw := { K0.pw with test := some { asks := [(1, true)], start := 7 } } }
def K5 : State := { regPut K0 PW_STATUS 0x70000000 with ks := { K0.ks with fuses := 7 } }
def K6 : State := { K0 with pw := { K0.pw with fw := [(1, zeros 6 ++ leBytes 2 7 ++ zeros 80)] }, cs := { K0.cs with clusters := K0.cs.clusters } }
def K7 : State := setRegs K0 [(TC_WAY_MODE 2, 0), (TC_WAY_MODE 3, 0x40), (KS_ENTROPY, 0x40000000)]
def K8 : State := clusterMod K7 3 fun k => { k with changes := [{ way := 3, old := 0, new := 3, start := some 2047 }] }
def K9 : State :=
  regPut { K0 with
      cs := { K0.cs with
          sets := [],
          progs := [(
                17*64+1, {
                    compact := false,
                    code := 0,
                    codeWords := 0x1000,
                    data := [],
                    zeroWords := 0,
                    stackWords := 64,
                    entry := 3,
                    budget := 1000,
                    maxTasks := 40,
                    operatorOnly := true,
                    active := true })] } } PW_STATUS 0xA0000000
def Y (st : Nat) (f : PowSt → PowSt) (s : State := K0) : State := regPut { s with pw := f s.pw } PW_STATUS (st * 2 ^ 29)
def dmp (s : State) (c : Bool) : Dump := { serial := 3, boundary := 2000, closed := c, atl := s.atl, pc := s.pc }
def tst (f : ETest → ETest) : PowSt → PowSt := fun p => { p with test := some (f { asks := [(1, true)], start := 7 }) }
def withFl (s : State) : State := { s with mg := { s.mg with flights := [(1, flt 0x306 (pf [1]))], next := 2 } }

/-! ## What the proofs of the witnesses use -/

/-- A bus master enable that the source of a ticket needs. -/
def busMasters (s : State) (tk : Nat) : Bool :=
  match (tkGet s tk).src with
  | .pcie f _ => (fnGet s f).bme
  | _ => true
theorem busMasterOf {s : State} {tk : Nat} (h : busMasters s tk = true) :
    ∀ f q : Nat, (tkGet s tk).src = .pcie f q → (fnGet s f).bme = true := by
  intro f q e
  simpa [busMasters, e] using h
/-- Does a die run a read? -/
def runsRead (x : Die) : Bool :=
  match x.run with
  | some (.read ..) => true
  | some (.move ..) => true
  | _ => false
theorem readRuns {x : Die} (h : runsRead x = true) :
    (∃ mv page, x.run = some (.move mv page)) ∨ ∃ tk e i page k, x.run = some (.read tk e i page k) := by
  unfold runsRead at h
  split at h
  · exact .inr ⟨_, _, _, _, _, ‹_›⟩
  · exact .inl ⟨_, _, ‹_›⟩
  · simp at h
theorem pullsOf {s : State} {n : Nat} (h : ∀ e ∈ s.cq.tickets, e.2.src = .fabric n → e.2.pullDue = false) :
    ∀ i : Nat, (tkGet s i).src = .fabric n → (tkGet s i).pullDue = false := by
  intro i
  rcases Sys2Proof.Laws.tabGetD_cases s.cq.tickets i {} with e | ⟨e, m, r⟩
  · intro _
    rw [tkGet, e]
  · rw [tkGet, r]
    exact h e m
def slmState : State :=
  { T0 with cq := { T0.cq with tickets := [(11, tk0 { opc := 0x82, cid := 1, cdw10 := 0x140, cdw13 := 1, dlen := 64 })] } }
def compactState : State := coreMod sC 16 fun k => { k with icache := k.icache ++ [(16384, List.replicate 16 0)] }
theorem pairOf {α β : Type} {x : α × β} {b : β} (h : x.2 = b) : x = (x.1, b) := by subst h; rfl
/-- A descriptor in a live scratchpad way, which w1 points to. -/
def submitState (s : State) : State :=
  let s := regPut s (TC_WAY_MODE 2) 3
  withW { s with dr := { s.dr with mem := cells [(16492678610944, submitDesc)] } } [(1, 0xF000000), (2, 1)]
/-- A word projection onto octet lines: a load through it finds the wrong kind (R655). -/
def wrongKindState : State :=
  coreMod sF 16 fun k => { k with proj := projW' 0 (2 ^ 35 + 2 ^ 32 + 2 ^ 30) 0 0x3FFFF 0 ++ projW' 1 (2 ^ 35 + 2 ^ 30) 0x1000000 0x1FFFFFF 0x1000 }
/-- A task whose w1 holds the handle of flow 8. -/
def flowState : State := coreMod T6 16 fun k => { k with w := [(1, handleOf 8)] }
theorem flowByOf {s : State} {i f : Nat} {h : Word} (k : tabKeys s.cs.flows (fun f => f.inv == i) = [f]) (e : handleOf f = h) :
    flowBy s i h = some f := by simp [flowBy, k, e]
/-- A job that loads the automaton at 01000400h. -/
def loadState : State := GJ (gzD 8 0 0xFFFF 0xFFFF 0 0x1000400 auImg.length 0)
def loadJob : Job := J .gz (gzD 8 0 0xFFFF 0xFFFF 0 0x1000400 auImg.length 0)
theorem loadChecks : gzCheck loadState 3 loadJob = esOk := by
  have e : (octetsIn loadState (dSrc loadJob + 20) 4 6).2 = some (memRead loadState (dSrc loadJob + 20) 4) := by
    rw [Laws.octetsIn_clean (c := 1)] <;> decide +kernel
  have o : gzOp loadJob = 8 := by decide +kernel
  have f : gzLengths loadState loadJob = esOk := by
    simp only [gzLengths, o, e]
    decide +kernel
  simp only [gzCheck, f]
  decide +kernel

/-- The state in which a call of the supervisor's trap handler runs its submission. -/
def calledState (s : State) (num : Nat) : State := Says.inCall (pairKeep (atFetch s 16 {}).1 16 {}) 16 {} num
theorem scratchRead {s : State} {p src : Nat} {d : Bytes} (h : isScratch p = true) (n : d.length ≠ 0) (e : memRead s p d.length = d) :
    octetsIn s p d.length src = (s, some d) := by
  simp [octetsIn, n, h, e]
/-- An engine for which no job waits has room for one, whatever the depth of its queue. -/
theorem noneWaits {s : State} {g : Eng} (h : (tabCount s.en.jobs fun j => j.eng == g && j.phase == .waiting) = 0) : queueFull s g = false := by
  simp only [queueFull, h, decide_eq_false_iff_not]
  omega
/-- A packet of step 4, its request standing (R451). -/
def turnState (params : Bytes) : State :=
  let s : State := { K0 with mg := { K0.mg with flights := [(1, flt 0x305 (pk 17 params))], next := 2 } }
  { s with ks := { s.ks with reqs := [.packet 1 4096] }, atl := { s.atl with nss := [(2, nsE), (5, nsF)] } }
/-- An error of the symbols and bits named. -/
def wrongBits (l : List (Nat × Nat)) : Ecc := { errs := l }
def surveyState : State := { setRegs live1 [(EC_SURVEY, 0x80000001)] with dr := { live1.dr with surveyAt := 0x40000 } }
def gzTable : GzTab := { owner := some 17, bank := 0, base := 64, cap := 64 }
def dramRequest (l : Nat) : DramReq := { line := l, port := 1, age := 100000 }
def gcmJob (op : Nat) : Job := J .cp (cpD op 0x80 5 32 12 4)
def gcmSlot : KSlot := { valid := true, alg := 0, key := zeros 16, uses := 0x0F, owner := 17, edition := 4 }
def octets7 : Bytes := (List.range 64).map fun i => BitVec.ofNat 8 (i + 7)
def fillA : Fill := { data := .octets octets7 }
def fillState : State := clusterMod sFF 2 fun k => { k with fills := [(0x40004, fillA)] }
/-- Something of every unit, and a command that waits. -/
def wholeState : State :=
  { GB with
    fr := { GB.fr with pool := 16284 }, dr := { GB.dr with words := [(0x40, 5)] }, atl := L0.atl, fl := L0.fl, pc := P0.pc
    mg := (PF 0x107 (pk 20 [])).mg, cs := T0.cs, cq := T0.cq, pending := [.dlDown .a] }
/-- Is a line's data whole? -/
def wholeData : LineData → Bool
  | .octets o => o.length == 64
  | .words w => w.length == 16
theorem wholeData_iff (d : LineData) : wholeData d = true ↔ Says.dataWhole d := by
  cases d <;> simp [wholeData, Says.dataWhole]
/-- Are the caches in order? -/
def cachesGood (s : State) : Bool :=
  (s.cs.clusters.all fun k => tabSorted k.2.lines && tabSorted k.2.fills && (k.2.lines.all fun e => e.2.data.all wholeData)
    && k.2.fills.all fun e => wholeData e.2.data) && s.cs.cores.all fun k => tabSorted k.2.icache
theorem cachesOf {s : State} (h : cachesGood s = true) : Says.cachesOrdered s := by
  simp only [cachesGood, Bool.and_eq_true, List.all_eq_true] at h
  refine ⟨fun k hk => ?_, h.2⟩
  obtain ⟨⟨⟨a, b⟩, c⟩, d⟩ := h.1 k hk
  refine ⟨a, b, fun e he x hx => ?_, fun e he => (wholeData_iff _).1 (d e he)⟩
  have := c e he
  rw [hx] at this
  exact (wholeData_iff _).1 (by simpa using this)
theorem wholeOf {s : State} {cl : Nat} (h : Memory.wf s.dr.mem = true) (w : tabSorted s.dr.words = true)
    (l : tabSorted (clusterGet s cl).lines = true) (a : ((clusterGet s cl).lines.all fun e => e.2.data.all wholeData) = true) :
    Says.whole s cl := by
  refine ⟨l, h, w, fun k x hx => ?_⟩
  have m := List.all_eq_true.1 a _ (Laws.tabGet_mem hx)
  refine ⟨fun o ho => ?_, fun o ho => ?_⟩ <;>
    · rw [ho] at m
      simpa [wholeData] using m
theorem kindOf {s : State} {cl p : Nat} {x : CLine} {d : LineData} {oct : Bool} (h : lineGet s cl (lineOf p) = some x) (e : x.data = some d)
    (k : (match d with | .octets _ => oct == true | .words _ => oct == false) = true) : Says.kindHeld s cl p oct := by
  intro y f hy hf
  rw [h] at hy
  cases hy
  rw [e] at hf
  cases hf
  cases d <;> simpa using k

def moveState : State :=
  { T11 with
    cs := { T11.cs with idle := [2], tasks := [(8, { task1 with st := .ready, root := false, since := 2000, cluster := 3 })] }
    pc := { T11.pc with parcels := [(17, { parcel17 with mask := 0xC })] } }
def bareState : State :=
  let s := setRegs K1 ((List.range 32).map fun c => (FC_STATUS c, 0x40000045))
  { s with fl := { s.fl with found := [] } }
def formatState : State := flSet bareState fun f => { f with found := (List.range 8).map fun c => (c, [(0, 0)]), profiles := [(0, {})] }
def loneFirst : State :=
  { Q0 with
    atl := { Q0.atl with nss := [(2, nsA)] }
    cq := { Q0.cq with tickets := [(16, { io 5 { cid := 12, opc := 0, fused := 1, cdw10 := 0, cdw12 := 0 } with src := .pcie 17 1, qno := 4 })] } }
def lockState : State := coreMod sF 16 fun k => { k with w := [(1, 0x1000140)] }
def fewPrograms : State := { T0 with pc := { T0.pc with parcels := [(17, { parcel17 with lim := { parcel17.lim with programs := 1 } })] } }
def progState : State := setDie L0 1 fun x => { x with run := some (.prog 5 1 49) }
/-- The pages of the stripe that it programs. -/
def progStripe : Stripe := { stream := .cold, group := some 1, issued := true, k := 1, mem := [(0, 12), (1, 12)], need := [0, 1], okM := [0] }
def progPages : List (Nat × Nat × Page) := stripePages progState progStripe (progStripe.group.getD (progStripe.overlay.getD 0)) progStripe.mem
def progPage : Page := ((progPages[1]?.map (·.2.2)).getD { kind := 0, group := 0, seq := 0, dir := [], data := [] })
def propState (a v : Nat) : State :=
  { A0 with cq := { A0.cq with tickets := [(64, { ad 0x7F 1024 { opc := 0, cid := 1, nsid := 0, cdw11 := a, cdw12 := v } with src := .fabric 3 })] } }
/-- Its namespaces are neither compressed nor encrypted. -/
def plainState : State := { Q0 with atl := { Q0.atl with nss := [(2, nsA)] } }
def invokePacket : Packet := withBuf (pk 17 [1, 0, 255, 255]) [1, 2, 3]
def noScans (s : State) : State := { s with gz := { s.gz with ctxs := [] } }
def falseHit : State :=
  let s := GJ (gzD 1 0 3 0xFFFF 1 0x1000300 20 16)
  { s with gz := { s.gz with entries := [(75, { ent (val 7) FULL 9 1 with sval := val 8 })] } }

end Sys2Proof.Tests
end

