-- ==== Sys2Proof/Tests/Slice0.lean ====
section
/-! SUPPORT. Small tests of the model, each with its source, and for every statement with hypotheses a witness that meets them. -/
namespace Sys2Proof.Tests
open Sys2Proof Sys2Proof.Machine
set_option maxRecDepth 20000
set_option Elab.async false

/-! ## Well-formedness: for each check a command that it refuses -/

theorem test_wf_units :
    [Instr.vfFunctionLevelReset 769, .heldTicketResume 16384, .parcelSaveComplete 1024, .slicePreemption 64, .blockEraseRelease 1016 0,
      .channelTrainingEnd 32 { answered := false, ok := false }, .dmaGo 64 0, .caParityAlert 4, .ecnMarkedPacket 8192, .taskWake 65536,
      .flowHandoff 16384, .wayModeWrite 8 0, .wayOwnerWrite 0 16 0, .nsTapWrite 16 0, .eventMsixDelivery 512, .evPendingClear 16 0,
      .sheetFoldStart (2 ^ 18) 0, .maskGeneratorReseed 16, .suspectRepair 262144, .ethLinkUp 16 true, .portQosWrite 12 0].all
      (fun i => !i.wf) = true := by decide +kernel

theorem test_wf_operands :
    [Instr.registerWrite (.bar2 0) 0 4 (2 ^ 64), .registerWrite (.bar2 769) 0 4 0, .shareWrite 0 4 false 0, .meterLoRead 0 9,
      .msixPendingDelivery 0 2048, .sqTailDoorbell 0 65536 0 [], .refreshDue 0 2 0 true, .unknownManagerPacket 65536 (pk 0 []),
      .namespaceDeleteEffect 0, .discardedGranuleReturn 16385, .keyInstallEffect 4096, .getVersion (.mctp 256),
      .getCertificate (.mctp 0) 256 0 0, .cascadeMarkReceived [] 0, .parcelCreate (pk 65536 []),
      .tunnelledAdminCommand 0 { e := { opc := 256, cid := 0 } }].all (fun i => !i.wf) = true := by decide +kernel

theorem test_wf_core :
    [Instr.add 64 {} 0 0 0, .add 16 {} 32 0 0, .add 16 { enc := .compact 9 } 0 0 0, .add 16 { pred := some 16 } 0 0 0, .sel 16 {} 16 0 0 0,
      .ldw 16 {} 0 0 (.idx 32 1), .unknownSupervisorCall 16 {} (2 ^ 36)].all (fun i => !i.wf) = true := by decide +kernel

/-! ## Worked examples of the spec -/

/-- Does the command answer a next state with the property? -/
def after (i : Instr) (s : State) (p : State → Bool) : Bool :=
  match exec i s with
  | .next t => p t
  | _ => false

/-- Chapter 10: the words of its listings, and a word with F = 1 whose bit 0 is 1 (R537). -/
theorem test_words_decode :
    decodePaired 0x400000000 = .ops [.movi 0 0] ∧ decodePaired 0x4E2050004 = .ops [.ldo32u 4 1 (.post 4)] ∧
    decodePaired 0x820109882 = .ops [.add 0 0 4, .subq 2 1] ∧ decodePaired 0x581FFFFFE = .ops [.b 1 (-2)] ∧
    decodePaired 0x5C0000000 = .ops [.ret] ∧ decodePaired 0x2C2820000 = .ops [.movhi 5 0x20000] ∧
    decodePaired 0x232940800 = .ops [.ori 5 5 0x800] ∧ decodePaired 0x5B0140000 = .ops [.callr 5] ∧
    decodePaired 0x800000001 = .trap 1 0 := by decide +kernel

/-- R240's example: the map word 4_7C02_930Eh names die 287, page 42,179, slot 2. -/
theorem test_map_word : wordLoc 0x47C02930E = .flash 287 42179 2 := by decide +kernel

/-- Chapter 15, "a budget from a tired bank": 1,581 mJ, of which b_energy is 332 MiB. -/
theorem test_holdup_budget :
    (testResult (regPutFld live1 PW_HOLDUP_CFG 15 0 6000) 12000 11900 140000).2.1 = 1581 ∧
    energyBudget (140000 * 250000 * (12000 ^ 2 - 6000 ^ 2)) ((12000 ^ 2 - 11900 ^ 2) * 1000000000) = 332 := by decide +kernel

/-- R185's example: a balance of 64 over a depth of 16 is granted nothing, and one of 15 gains the token of a rate of 100h. -/
theorem test_grant :
    ([64, 15].map fun b =>
      let x : Parcel := { parcel17 with rate := [0x100, 0, 0, 0], depth := [16, 1, 1, 1], bal := [b, 0, 0, 0] }
      (parGet (grantAll { live1 with pc := { live1.pc with parcels := [(17, x)] } }) 17).bal.getD 0 0) = [64, 16] := by decide +kernel

/-- Chapter 14's PARCEL_CREATE of parcel 17: 8 namespaces, 16 queue pairs, 8 key slots, 8 programs, 4 ranges, 2 controllers. -/
theorem test_parcel_create :
    after (.parcelRequestEffect 17) { live1 with mg := { live1.mg with flights := [(1, flt 0x101 (pk 17 cre))], next := 2 } }
      (fun t => (parGet t 17).st == .provisioned && (parGet t 17).lim == { namespaces := 8, queuePairs := 16, keySlots := 8, programs := 8
                                                                           ranges := 4, controllers := 2 }) = true := by decide +kernel

/-- R546: w4 = F_FFFF_FFFFh and w3 = 5 sum to 4 with a carry. -/
theorem test_add_wraps : after (.add 16 {} 5 4 3) sA (fun t => reg t 16 5 == 4 && (flagsOf t 16).c && !(flagsOf t 16).z) = true := by
  decide +kernel

/-- With nothing waiting the block idles (log 2). -/
theorem test_empty_queue_idles : step State.reset = .next State.reset := rfl

/-! ## The hypotheses of every statement are met
One theorem for each statement that has hypotheses: for each case of it, a state and operands that meet the hypotheses of that case together. -/

/-- Cases of O1. A step runs the front command with the rest of the queue. -/
theorem witness_StepRunsFront :
    ∃ s : State, s.pending = [] :=
  ⟨State.reset, rfl⟩

/-- Cases of O6. Decoding an encoded long operation gives it back. -/
theorem witness_EncodeDecode :
    (∃ i, i = .addi 31 0 0xFFFFE0000 ∧ Says.encodable i) ∧
    (∃ i, i = .ldw 0 31 (.idx 31 8) ∧ Says.encodable i) ∧
    (∃ i, i = .ext 31 0 63 63 ∧ Says.encodable i) ∧
    (∃ i, i = .b 14 (-(2 ^ 23)) ∧ Says.encodable i) :=
  ⟨⟨_, rfl, by unfold Says.encodable Says.fitsSigned; decide +kernel⟩,
   ⟨_, rfl, by unfold Says.encodable Says.fitsMode; decide +kernel⟩,
   ⟨_, rfl, by unfold Says.encodable; decide +kernel⟩,
   ⟨_, rfl, by unfold Says.encodable Says.fitsDisp; decide +kernel⟩⟩

/-- Cases of O7. Staging granules are conserved by every step. -/
theorem witness_GranulesKept :
    ∃ s t : State, s.pending ≠ [] ∧ step s = .next t ∧ Says.granulesStand s :=
  ⟨wholeState, _, by decide +kernel, rfl, by unfold Says.granulesStand granulesWhole; decide +kernel⟩

/-- Cases of O8. Flow credits are conserved by every step. -/
theorem witness_CreditsKept :
    ∃ s t : State, s.pending ≠ [] ∧ step s = .next t ∧ Says.creditsStand s :=
  ⟨wholeState, _, by decide +kernel, rfl, by unfold Says.creditsStand; decide +kernel⟩

/-- Cases of O9. Memory keeps its canonical form. -/
theorem witness_MemoryCanonicalKept :
    ∃ s t : State, s.pending ≠ [] ∧ step s = .next t ∧ Says.memoryCanonical s :=
  ⟨wholeState, _, by decide +kernel, rfl, by unfold Says.memoryCanonical; decide +kernel⟩

/-- Cases of O10. The map and the cadastre stay in order. -/
theorem witness_RecordsOrderedKept :
    ∃ s t : State, s.pending ≠ [] ∧ step s = .next t ∧ Says.recordsOrdered s :=
  ⟨wholeState, _, by decide +kernel, rfl, by unfold Says.recordsOrdered Says.mapOrdered Says.cadastreOrdered; decide +kernel⟩

/-- Cases of O11. Tables of work stay in order. -/
theorem witness_WorkOrderedKept :
    ∃ s t : State, s.pending ≠ [] ∧ step s = .next t ∧ Says.workOrdered s :=
  ⟨wholeState, _, by decide +kernel, rfl, by unfold Says.workOrdered; decide +kernel⟩

/-- Cases of O12. Caches stay in order and their lines whole. -/
theorem witness_CachesOrderedKept :
    ∃ s t : State, s.pending ≠ [] ∧ step s = .next t ∧ Says.cachesOrdered s :=
  ⟨wholeState, _, by decide +kernel, rfl, cachesOf (by decide +kernel)⟩

/-- Cases of O13. No command changes what waits behind it. -/
theorem witness_QueueUntouched :
    ∃ (i : Instr) (s t : State), exec i s = .next t ∧ s.pending ≠ [] :=
  ⟨.dlDown .a, wholeState, _, rfl, by decide +kernel⟩

/-- Cases of O14. Which commands leave DRAM, scratchpad, cores and clusters alone. -/
theorem witness_FrameMemory :
    (∃ (i : Instr) (s t : State), exec i s = .next t ∧ Says.memoryOp i = false) ∧
    (∃ (i : Instr) (s t : State), exec i s = .next t ∧ Says.dramOp i = false) ∧
    (∃ (i : Instr) (s t : State), exec i s = .next t ∧ Says.coresOp i = false) ∧
    (∃ (i : Instr) (s t : State), exec i s = .next t ∧ Says.clustersOp i = false) :=
  ⟨⟨.dlDown .a, T0, _, rfl, by decide +kernel⟩,
   ⟨.dlDown .a, T0, _, rfl, by decide +kernel⟩,
   ⟨.dlDown .a, T0, _, rfl, by decide +kernel⟩,
   ⟨.dlDown .a, T0, _, rfl, by decide +kernel⟩⟩

/-- Cases of O15. Which commands leave the media, keys, jobs, the Gazetteer and parcels alone. Part 1. -/
theorem witness_FrameUnits_1 :
    (∃ (i : Instr) (s t : State), exec i s = .next t ∧ Says.pagesOp i = false) ∧
    (∃ (i : Instr) (s t : State), exec i s = .next t ∧ Says.flashOp i = false) ∧
    (∃ (i : Instr) (s t : State), exec i s = .next t ∧ Says.atlasOp i = false) ∧
    (∃ (i : Instr) (s t : State), exec i s = .next t ∧ Says.keysOp i = false) ∧
    (∃ (i : Instr) (s t : State), exec i s = .next t ∧ Says.jobsOp i = false) ∧
    (∃ (i : Instr) (s t : State), exec i s = .next t ∧ Says.gazOp i = false) :=
  ⟨⟨.dlDown .a, T0, _, rfl, by decide +kernel⟩,
   ⟨.dlDown .a, T0, _, rfl, by decide +kernel⟩,
   ⟨.dlDown .a, T0, _, rfl, by decide +kernel⟩,
   ⟨.dlDown .a, T0, _, rfl, by decide +kernel⟩,
   ⟨.dlDown .a, T0, _, rfl, by decide +kernel⟩,
   ⟨.dlDown .a, T0, _, rfl, by decide +kernel⟩⟩

/-- Cases of O15. Which commands leave the media, keys, jobs, the Gazetteer and parcels alone. Part 2. -/
theorem witness_FrameUnits_2 :
    ∃ (i : Instr) (s t : State), exec i s = .next t ∧ Says.parcelsOp i = false :=
  ⟨.dlDown .a, T0, _, rfl, by decide +kernel⟩

/-- Cases of O16. Which commands leave queues, ports, packets, power, events, the frame and registers alone. Part 1. -/
theorem witness_FrameFront_1 :
    (∃ (i : Instr) (s t : State), exec i s = .next t ∧ Says.queuesOp i = false) ∧
    (∃ (i : Instr) (s t : State), exec i s = .next t ∧ Says.portsOp i = false) ∧
    (∃ (i : Instr) (s t : State), exec i s = .next t ∧ Says.packetsOp i = false) ∧
    (∃ (i : Instr) (s t : State), exec i s = .next t ∧ Says.powerOp i = false) ∧
    (∃ (i : Instr) (s t : State), exec i s = .next t ∧ Says.eventsOp i = false) ∧
    (∃ (i : Instr) (s t : State), exec i s = .next t ∧ Says.framesOp i = false) :=
  ⟨⟨.dlDown .a, T0, _, rfl, by decide +kernel⟩,
   ⟨.taskWake 2, T0, _, rfl, by decide +kernel⟩,
   ⟨.dlDown .a, T0, _, rfl, by decide +kernel⟩,
   ⟨.dlDown .a, T0, _, rfl, by decide +kernel⟩,
   ⟨.dlDown .a, T0, _, rfl, by decide +kernel⟩,
   ⟨.dlDown .a, T0, _, rfl, by decide +kernel⟩⟩

/-- Cases of O16. Which commands leave queues, ports, packets, power, events, the frame and registers alone. Part 2. -/
theorem witness_FrameFront_2 :
    ∃ (i : Instr) (s t : State), exec i s = .next t ∧ Says.regsOp i = false :=
  ⟨.taskWake 2, T0, _, rfl, by decide +kernel⟩

/-- Cases of O17. Additions, subtractions and comparisons. -/
theorem witness_Sums :
    (∃ (c : Nat) (x : Pfx) (s : State) (f : State) (w : Word), atFetch s c x = (f, Fetched.word w) ∧ coreRuns s c = true ∧
      encFits s c x = true ∧ (Option.all (fun p => condHolds p (flagsOf f c)) x.pred = true)) ∧
    (∃ (c : Nat) (x : Pfx) (s : State) (f : State) (w : Word), atFetch s c x = (f, Fetched.word w) ∧ x.l32 = false ∧ coreRuns s c = true ∧
      encFits s c x = true ∧ (Option.all (fun p => condHolds p (flagsOf f c)) x.pred = true)) :=
  ⟨⟨16, { enc := Enc.short false }, sF, (atFetch sF 16 ({ enc := Enc.short false } : Pfx)).1, 0x000000000#36, pairOf (by decide +kernel),
      by decide +kernel⟩,
   ⟨16, { enc := Enc.short false }, sF, (atFetch sF 16 ({ enc := Enc.short false } : Pfx)).1, 0x000000000#36, pairOf (by decide +kernel),
      by decide +kernel⟩⟩

/-- Cases of O18. Logical operations, CLZ and POPC. -/
theorem witness_Logic :
    ∃ (c : Nat) (x : Pfx) (s : State) (f : State) (w : Word), atFetch s c x = (f, Fetched.word w) ∧ coreRuns s c = true ∧
      encFits s c x = true ∧ (Option.all (fun p => condHolds p (flagsOf f c)) x.pred = true) :=
  ⟨16, { enc := Enc.short false }, sF, (atFetch sF 16 ({ enc := Enc.short false } : Pfx)).1, 0x000000000#36, pairOf (by decide +kernel),
    by decide +kernel⟩

/-- Cases of O19. EXT, EXTS and INS. -/
theorem witness_BitFields :
    (∃ (p : Nat) (n : Nat) (c : Nat) (x : Pfx) (s : State) (f : State) (w : Word), atFetch s c x = (f, Fetched.word w) ∧ 1 ≤ n ∧
      p + n ≤ 36 ∧ coreRuns s c = true ∧ encFits s c x = true ∧ (Option.all (fun p => condHolds p (flagsOf f c)) x.pred = true)) ∧
    (∃ (p : Nat) (n : Nat) (c : Nat) (x : Pfx) (s : State) (f : State) (w : Word), atFetch s c x = (f, Fetched.word w) ∧ (n = 0 ∨
      36 < p + n) ∧ coreRuns s c = true ∧ encFits s c x = true ∧ (Option.all (fun p => condHolds p (flagsOf f c)) x.pred = true) ∧
      (coreGet (pairKeep f c x) c).nest = false ∧ True) :=
  ⟨⟨4, 3, 16, {}, sF, (atFetch sF 16 {}).1, 0x000000000#36, pairOf (by decide +kernel), by decide +kernel⟩,
   ⟨31, 0, 16, {}, sF, (atFetch sF 16 {}).1, 0x000000000#36, pairOf (by decide +kernel), by decide +kernel⟩⟩

/-- Cases of O20. Shifts and rotations. -/
theorem witness_Shifts :
    (∃ (c : Nat) (x : Pfx) (s : State) (f : State) (w : Word), atFetch s c x = (f, Fetched.word w) ∧ coreRuns s c = true ∧
      encFits s c x = true ∧ (Option.all (fun p => condHolds p (flagsOf f c)) x.pred = true)) ∧
    (∃ (k : Nat) (c : Nat) (x : Pfx) (s : State) (f : State) (w : Word), atFetch s c x = (f, Fetched.word w) ∧ k < 64 ∧
      coreRuns s c = true ∧ encFits s c x = true ∧ (Option.all (fun p => condHolds p (flagsOf f c)) x.pred = true)) ∧
    (∃ (k : Nat) (c : Nat) (x : Pfx) (s : State) (f : State) (w : Word), atFetch s c x = (f, Fetched.word w) ∧ k < 32 ∧ x.l32 = false ∧
      coreRuns s c = true ∧ encFits s c x = true ∧ (Option.all (fun p => condHolds p (flagsOf f c)) x.pred = true)) :=
  ⟨⟨16, { enc := Enc.short false }, sF, (atFetch sF 16 ({ enc := Enc.short false } : Pfx)).1, 0x000000000#36, pairOf (by decide +kernel),
      by decide +kernel⟩,
   ⟨0, 16, { enc := Enc.short false }, sF, (atFetch sF 16 ({ enc := Enc.short false } : Pfx)).1, 0x000000000#36, pairOf (by decide +kernel),
      by decide +kernel⟩,
   ⟨1, 16, { enc := Enc.short false }, sF, (atFetch sF 16 ({ enc := Enc.short false } : Pfx)).1, 0x000000000#36, pairOf (by decide +kernel),
      by decide +kernel⟩⟩

/-- Cases of O21. Multiplication and division. -/
theorem witness_MultiplyDivide :
    (∃ (rd : Nat) (c : Nat) (x : Pfx) (s : State) (f : State) (w : Word), atFetch s c x = (f, Fetched.word w) ∧ rd % 2 = 0 ∧
      coreRuns s c = true ∧ encFits s c x = true ∧ (Option.all (fun p => condHolds p (flagsOf f c)) x.pred = true)) ∧
    (∃ (rd : Nat) (c : Nat) (x : Pfx) (s : State) (f : State) (w : Word), atFetch s c x = (f, Fetched.word w) ∧ rd % 2 = 1 ∧
      coreRuns s c = true ∧ encFits s c x = true ∧ (Option.all (fun p => condHolds p (flagsOf f c)) x.pred = true) ∧
      (coreGet (pairKeep f c x) c).nest = false ∧ True) ∧
    (∃ (rd : Nat) (c : Nat) (x : Pfx) (s : State) (f : State) (w : Word), atFetch s c x = (f, Fetched.word w) ∧ rd % 2 = 1 ∧
      coreRuns s c = true ∧ encFits s c x = true ∧ (Option.all (fun p => condHolds p (flagsOf f c)) x.pred = true) ∧
      (coreGet (pairKeep f c x) c).nest = false ∧ x.l32 = false) :=
  ⟨⟨0, 16, {}, sF, (atFetch sF 16 {}).1, 0x000000000#36, pairOf (by decide +kernel), by decide +kernel⟩,
   ⟨5, 16, { enc := Enc.short false }, sF, (atFetch sF 16 ({ enc := Enc.short false } : Pfx)).1, 0x000000000#36, pairOf (by decide +kernel),
      by decide +kernel⟩,
   ⟨5, 16, { ecc := { errs := [(2, 4)], recurs := true } }, sF, (atFetch sF 16 ({ ecc := { errs := [(2, 4)], recurs := true } } : Pfx)).1,
      0x000000000#36, pairOf (by decide +kernel), by decide +kernel⟩⟩

/-- Cases of O22. Moves, selection and flags in a register, NOP and SYNC. -/
theorem witness_Moves :
    (∃ (c : Nat) (x : Pfx) (s : State) (f : State) (w : Word), atFetch s c x = (f, Fetched.word w) ∧ x.l32 = false ∧ coreRuns s c = true ∧
      encFits s c x = true ∧ (Option.all (fun p => condHolds p (flagsOf f c)) x.pred = true)) ∧
    (∃ (cond : Nat) (c : Nat) (x : Pfx) (s : State) (f : State) (w : Word), atFetch s c x = (f, Fetched.word w) ∧ cond ≠ 15 ∧
      x.l32 = false ∧ coreRuns s c = true ∧ encFits s c x = true ∧ (Option.all (fun p => condHolds p (flagsOf f c)) x.pred = true)) :=
  ⟨⟨16, { enc := Enc.short false }, sF, (atFetch sF 16 ({ enc := Enc.short false } : Pfx)).1, 0x000000000#36, pairOf (by decide +kernel),
      by decide +kernel⟩,
   ⟨20, 16, {}, sF, (atFetch sF 16 {}).1, 0x000000000#36, pairOf (by decide +kernel), by decide +kernel⟩⟩

/-- Cases of O23. System registers, branches, calls and returns. -/
theorem witness_ControlFlow :
    (∃ (c : Nat) (x : Pfx) (s : State) (f : State) (w : Word), atFetch s c x = (f, Fetched.word w) ∧ x.l32 = false ∧ coreRuns s c = true ∧
      encFits s c x = true ∧ (Option.all (fun p => condHolds p (flagsOf f c)) x.pred = true) ∧ (coreGet s c).lower = false) ∧
    (∃ (n : Nat) (c : Nat) (x : Pfx) (s : State) (f : State) (w : Word), atFetch s c x = (f, Fetched.word w) ∧ x.l32 = false ∧
      coreRuns s c = true ∧ encFits s c x = true ∧ (Option.all (fun p => condHolds p (flagsOf f c)) x.pred = true) ∧
      (coreGet s c).lower = false ∧ (n < 7 ∨ 256 ≤ n ∧ n < 512)) ∧
    (∃ (n : Nat) (c : Nat) (x : Pfx) (s : State) (f : State) (w : Word), atFetch s c x = (f, Fetched.word w) ∧ x.l32 = false ∧
      coreRuns s c = true ∧ encFits s c x = true ∧ (Option.all (fun p => condHolds p (flagsOf f c)) x.pred = true) ∧
      (coreGet s c).lower = false ∧ (n < 8 ∨ 256 ≤ n ∧ n < 512)) ∧
    (∃ (cond : Nat) (c : Nat) (x : Pfx) (s : State) (f : State) (w : Word), atFetch s c x = (f, Fetched.word w) ∧ cond ≠ 15 ∧
      x.l32 = false ∧ coreRuns s c = true ∧ encFits s c x = true ∧ (Option.all (fun p => condHolds p (flagsOf f c)) x.pred = true)) ∧
    (∃ (c : Nat) (x : Pfx) (s : State) (f : State) (w : Word), atFetch s c x = (f, Fetched.word w) ∧ x.l32 = false ∧ coreRuns s c = true ∧
      encFits s c x = true ∧ (Option.all (fun p => condHolds p (flagsOf f c)) x.pred = true)) :=
  ⟨⟨16, { ecc := { errs := [(2, 4)], recurs := true } }, sF, (atFetch sF 16 ({ ecc := { errs := [(2, 4)], recurs := true } } : Pfx)).1,
      0x000000000#36, pairOf (by decide +kernel), by decide +kernel⟩,
   ⟨511, 16, { enc := Enc.short false }, sF, (atFetch sF 16 ({ enc := Enc.short false } : Pfx)).1, 0x000000000#36,
      pairOf (by decide +kernel), by decide +kernel⟩,
   ⟨511, 16, { enc := Enc.short false }, sF, (atFetch sF 16 ({ enc := Enc.short false } : Pfx)).1, 0x000000000#36,
      pairOf (by decide +kernel), by decide +kernel⟩,
   ⟨20, 16, { enc := Enc.short false }, sF, (atFetch sF 16 ({ enc := Enc.short false } : Pfx)).1, 0x000000000#36,
      pairOf (by decide +kernel), by decide +kernel⟩,
   ⟨16, {}, sF, (atFetch sF 16 {}).1, 0x000000000#36, pairOf (by decide +kernel), by decide +kernel⟩⟩

/-- Cases of O24. Loads and what they read. Part 1. -/
theorem witness_Loads_1 :
    (∃ (rd : Nat) (ra : Nat) (m : Mode) (c : Nat) (x : Pfx) (s : State) (p : Nat) (v : State) (d : Word) (f : State) (w : Word) (lo : Nat) (hi : Nat) (e : Bool),
      atFetch s c x = (f, Fetched.word w) ∧ loadWord (pairKeep f c x) (c / 8) p x.ecc = (v, some d) ∧ x.l32 = false ∧ coreRuns s c = true ∧
      encFits s c x = true ∧ (Option.all (fun p => condHolds p (flagsOf f c)) x.pred = true) ∧ (Says.writesBase m = true →
      rd % 32 ≠ ra % 32) ∧ rd < 32 ∧ ra < 32 ∧ (false = true → 1 < 1 → Says.address (pairKeep f c x) c ra m % 1 = 0) ∧
      translate (pairKeep f c x) c false (Says.address (pairKeep f c x) c ra m) 1 Perm.r = Trans.ok p lo hi e) ∧
    (∃ (rd : Nat) (ra : Nat) (m : Mode) (c : Nat) (x : Pfx) (s : State) (p : Nat) (v : State) (d : Bytes) (f : State) (w : Word) (lo : Nat) (hi : Nat) (e : Bool),
      atFetch s c x = (f, Fetched.word w) ∧ loadOctets (pairKeep f c x) (c / 8) p 1 x.ecc = (v, some d) ∧ x.l32 = false ∧
      coreRuns s c = true ∧ encFits s c x = true ∧ (Option.all (fun p => condHolds p (flagsOf f c)) x.pred = true) ∧
      (Says.writesBase m = true → rd % 32 ≠ ra % 32) ∧ rd < 32 ∧ ra < 32 ∧ (true = true → 1 < 1 →
      Says.address (pairKeep f c x) c ra m % 1 = 0) ∧
      translate (pairKeep f c x) c true (Says.address (pairKeep f c x) c ra m) 1 Perm.r = Trans.ok p lo hi e ∧ List.length d = 1) ∧
    (∃ (rd : Nat) (ra : Nat) (m : Mode) (c : Nat) (x : Pfx) (s : State) (p : Nat) (v : State) (d : Bytes) (f : State) (w : Word) (lo : Nat) (hi : Nat) (e : Bool),
      atFetch s c x = (f, Fetched.word w) ∧ loadOctets (pairKeep f c x) (c / 8) p 2 x.ecc = (v, some d) ∧ x.l32 = false ∧
      coreRuns s c = true ∧ encFits s c x = true ∧ (Option.all (fun p => condHolds p (flagsOf f c)) x.pred = true) ∧
      (Says.writesBase m = true → rd % 32 ≠ ra % 32) ∧ rd < 32 ∧ ra < 32 ∧ (true = true → 1 < 2 →
      Says.address (pairKeep f c x) c ra m % 2 = 0) ∧
      translate (pairKeep f c x) c true (Says.address (pairKeep f c x) c ra m) 2 Perm.r = Trans.ok p lo hi e ∧ List.length d = 2) ∧
    (∃ (rd : Nat) (ra : Nat) (m : Mode) (c : Nat) (x : Pfx) (s : State) (p : Nat) (v : State) (d : Bytes) (f : State) (w : Word) (lo : Nat) (hi : Nat) (e : Bool),
      atFetch s c x = (f, Fetched.word w) ∧ loadOctets (pairKeep f c x) (c / 8) p 4 x.ecc = (v, some d) ∧ x.l32 = false ∧
      coreRuns s c = true ∧ encFits s c x = true ∧ (Option.all (fun p => condHolds p (flagsOf f c)) x.pred = true) ∧
      (Says.writesBase m = true → rd % 32 ≠ ra % 32) ∧ rd < 32 ∧ ra < 32 ∧ (true = true → 1 < 4 →
      Says.address (pairKeep f c x) c ra m % 4 = 0) ∧
      translate (pairKeep f c x) c true (Says.address (pairKeep f c x) c ra m) 4 Perm.r = Trans.ok p lo hi e ∧ List.length d = 4) ∧
    (∃ (rd : Nat) (ra : Nat) (m : Mode) (c : Nat) (x : Pfx) (s : State) (p : Nat) (v : State) (d : Bytes) (f : State) (w : Word) (lo : Nat) (hi : Nat) (e : Bool),
      atFetch s c x = (f, Fetched.word w) ∧ loadOctets (pairKeep f c x) (c / 8) p 8 x.ecc = (v, some d) ∧ x.l32 = false ∧
      coreRuns s c = true ∧ encFits s c x = true ∧ (Option.all (fun p => condHolds p (flagsOf f c)) x.pred = true) ∧ rd % 2 = 0 ∧ rd < 31 ∧
      ra < 32 ∧ (Says.writesBase m = true → rd ≠ ra ∧ rd + 1 ≠ ra) ∧ (true = true → 1 < 8 → Says.address (pairKeep f c x) c ra m % 8 = 0) ∧
      translate (pairKeep f c x) c true (Says.address (pairKeep f c x) c ra m) 8 Perm.r = Trans.ok p lo hi e ∧ List.length d = 8) ∧
    (∃ (s : State) (cl p : Nat) (e : Ecc) (t : State) (n : Nat) (d : Bytes), isScratch p = false ∧ Says.whole s cl ∧
      fillGet s cl (lineOf p) = none ∧ Says.kindHeld s cl p true ∧ 1 ≤ n ∧ p % 64 + n ≤ 64 ∧ loadOctets s cl p n e = (t, some d)) :=
  ⟨⟨4, 0, (Mode.off 0x100), 16, {}, sF, 1024, (loadWord (pairKeep ((atFetch sF 16 ({})).1) 16 ({})) (16 / 8) 1024 Ecc.clean).1, 5,
      (atFetch sF 16 ({})).1, 0x000000000#36, 0, 1048575, false, pairOf (by decide +kernel), pairOf (by decide +kernel), by decide +kernel⟩,
   ⟨4, 1, (Mode.off 0), 16, {}, sF, 16777472, (loadOctets (pairKeep ((atFetch sF 16 ({})).1) 16 ({})) (16 / 8) 16777472 1 Ecc.clean).1,
      ((loadOctets (pairKeep ((atFetch sF 16 ({})).1) 16 ({})) (16 / 8) 16777472 1 Ecc.clean).2.get (by decide +kernel)),
      (atFetch sF 16 ({})).1, 0x000000000#36, 16777216, 33554431, false, pairOf (by decide +kernel), pairOf (by decide +kernel),
      by decide +kernel⟩,
   ⟨4, 1, (Mode.off 0), 16, {}, sF, 16777472, (loadOctets (pairKeep ((atFetch sF 16 ({})).1) 16 ({})) (16 / 8) 16777472 2 Ecc.clean).1,
      ((loadOctets (pairKeep ((atFetch sF 16 ({})).1) 16 ({})) (16 / 8) 16777472 2 Ecc.clean).2.get (by decide +kernel)),
      (atFetch sF 16 ({})).1, 0x000000000#36, 16777216, 33554431, false, pairOf (by decide +kernel), pairOf (by decide +kernel),
      by decide +kernel⟩,
   ⟨4, 1, (Mode.off 0), 16, {}, sF, 16777472, (loadOctets (pairKeep ((atFetch sF 16 ({})).1) 16 ({})) (16 / 8) 16777472 4 Ecc.clean).1,
      ((loadOctets (pairKeep ((atFetch sF 16 ({})).1) 16 ({})) (16 / 8) 16777472 4 Ecc.clean).2.get (by decide +kernel)),
      (atFetch sF 16 ({})).1, 0x000000000#36, 16777216, 33554431, false, pairOf (by decide +kernel), pairOf (by decide +kernel),
      by decide +kernel⟩,
   ⟨4, 1, (Mode.off 0), 16, {}, sF, 16777472, (loadOctets (pairKeep ((atFetch sF 16 ({})).1) 16 ({})) (16 / 8) 16777472 8 Ecc.clean).1,
      ((loadOctets (pairKeep ((atFetch sF 16 ({})).1) 16 ({})) (16 / 8) 16777472 8 Ecc.clean).2.get (by decide +kernel)),
      (atFetch sF 16 ({})).1, 0x000000000#36, 16777216, 33554431, false, pairOf (by decide +kernel), pairOf (by decide +kernel),
      by decide +kernel⟩,
   ⟨sF, 2, 16777472, .clean, _, 2, [1, 2], by decide +kernel,
      wholeOf (by decide +kernel) (by decide +kernel) (by decide +kernel) (by decide +kernel), by decide +kernel,
      kindOf (x := lineA) (by decide +kernel) rfl rfl, by decide, by decide, pairOf (by decide +kernel)⟩⟩

/-- Cases of O24. Loads and what they read. Part 2. -/
theorem witness_Loads_2 :
    (∃ (s : State) (cl p : Nat) (e : Ecc) (t : State) (v : Word), isScratch p = false ∧ Says.whole s cl ∧ fillGet s cl (lineOf p) = none ∧
      Says.kindHeld s cl p false ∧ p % 4 = 0 ∧ loadWord s cl p e = (t, some v)) ∧
    (∃ (s : State) (cl p : Nat) (e : Ecc) (t : State) (f : Fill) (o : Bytes) (n : Nat) (d : Bytes), isScratch p = false ∧ Says.whole s cl ∧
      fillGet s cl (lineOf p) = some f ∧ f.ops = [] ∧ f.data = .octets o ∧ loadOctets s cl p n e = (t, some d)) :=
  ⟨⟨sF, 2, 1024, .clean, _, 5, by decide +kernel, wholeOf (by decide +kernel) (by decide +kernel) (by decide +kernel) (by decide +kernel),
      by decide +kernel, kindOf (x := lineW) (by decide +kernel) rfl rfl, by decide, pairOf (by decide +kernel)⟩,
   ⟨fillState, 2, 16777472, .clean, _, fillA, octets7, 2, [7, 8], by decide +kernel,
      wholeOf (by decide +kernel) (by decide +kernel) (by decide +kernel) (by decide +kernel), by decide +kernel, rfl, rfl,
      pairOf (by decide +kernel)⟩⟩

/-- Cases of O25. Stores and where they write. Part 1. -/
theorem witness_Stores_1 :
    (∃ (rd : Nat) (ra : Nat) (m : Mode) (c : Nat) (x : Pfx) (s : State) (p : Nat) (v : State) (f : State) (w : Word) (lo : Nat) (hi : Nat) (e : Bool),
      atFetch s c x = (f, Fetched.word w) ∧ storeWord (pairKeep f c x) (c / 8) p (reg (pairKeep f c x) c rd) x.ecc = (v, true) ∧
      x.l32 = false ∧ coreRuns s c = true ∧ encFits s c x = true ∧ (Option.all (fun p => condHolds p (flagsOf f c)) x.pred = true) ∧
      (false = true → 1 < 1 → Says.address (pairKeep f c x) c ra m % 1 = 0) ∧
      translate (pairKeep f c x) c false (Says.address (pairKeep f c x) c ra m) 1 Perm.w = Trans.ok p lo hi e) ∧
    (∃ (rd : Nat) (ra : Nat) (m : Mode) (c : Nat) (x : Pfx) (s : State) (p : Nat) (v : State) (f : State) (w : Word) (lo : Nat) (hi : Nat) (e : Bool),
      atFetch s c x = (f, Fetched.word w) ∧
      storeOctets (pairKeep f c x) (c / 8) p (leBytes 1 (BitVec.toNat (reg (pairKeep f c x) c rd))) x.ecc = (v, true) ∧ x.l32 = false ∧
      coreRuns s c = true ∧ encFits s c x = true ∧ (Option.all (fun p => condHolds p (flagsOf f c)) x.pred = true) ∧ (true = true → 1 < 1 →
      Says.address (pairKeep f c x) c ra m % 1 = 0) ∧
      translate (pairKeep f c x) c true (Says.address (pairKeep f c x) c ra m) 1 Perm.w = Trans.ok p lo hi e) ∧
    (∃ (rd : Nat) (ra : Nat) (m : Mode) (c : Nat) (x : Pfx) (s : State) (p : Nat) (v : State) (f : State) (w : Word) (lo : Nat) (hi : Nat) (e : Bool),
      atFetch s c x = (f, Fetched.word w) ∧
      storeOctets (pairKeep f c x) (c / 8) p (leBytes 2 (BitVec.toNat (reg (pairKeep f c x) c rd))) x.ecc = (v, true) ∧ x.l32 = false ∧
      coreRuns s c = true ∧ encFits s c x = true ∧ (Option.all (fun p => condHolds p (flagsOf f c)) x.pred = true) ∧ (true = true → 1 < 2 →
      Says.address (pairKeep f c x) c ra m % 2 = 0) ∧
      translate (pairKeep f c x) c true (Says.address (pairKeep f c x) c ra m) 2 Perm.w = Trans.ok p lo hi e) ∧
    (∃ (rd : Nat) (ra : Nat) (m : Mode) (c : Nat) (x : Pfx) (s : State) (p : Nat) (v : State) (f : State) (w : Word) (lo : Nat) (hi : Nat) (e : Bool),
      atFetch s c x = (f, Fetched.word w) ∧
      storeOctets (pairKeep f c x) (c / 8) p (leBytes 4 (BitVec.toNat (reg (pairKeep f c x) c rd))) x.ecc = (v, true) ∧ x.l32 = false ∧
      coreRuns s c = true ∧ encFits s c x = true ∧ (Option.all (fun p => condHolds p (flagsOf f c)) x.pred = true) ∧ (true = true → 1 < 4 →
      Says.address (pairKeep f c x) c ra m % 4 = 0) ∧
      translate (pairKeep f c x) c true (Says.address (pairKeep f c x) c ra m) 4 Perm.w = Trans.ok p lo hi e) ∧
    (∃ (rd : Nat) (ra : Nat) (m : Mode) (c : Nat) (x : Pfx) (s : State) (p : Nat) (v : State) (f : State) (w : Word) (lo : Nat) (hi : Nat) (e : Bool),
      atFetch s c x = (f, Fetched.word w) ∧
      storeOctets (pairKeep f c x) (c / 8) p (leBytes 4 (BitVec.toNat (reg (pairKeep f c x) c rd)) ++ leBytes 4 (BitVec.toNat (reg (pairKeep f c x) c (rd + 1)))) x.ecc = (v,
      true) ∧ x.l32 = false ∧ coreRuns s c = true ∧ encFits s c x = true ∧ (Option.all (fun p => condHolds p (flagsOf f c)) x.pred = true) ∧
      rd % 2 = 0 ∧ (true = true → 1 < 8 → Says.address (pairKeep f c x) c ra m % 8 = 0) ∧
      translate (pairKeep f c x) c true (Says.address (pairKeep f c x) c ra m) 8 Perm.w = Trans.ok p lo hi e) ∧
    (∃ (s : State) (cl p : Nat) (e : Ecc) (t : State) (b : Bytes), isScratch p = false ∧ Says.whole s cl ∧ fillGet s cl (lineOf p) = none ∧
      Says.kindHeld s cl p true ∧ 1 ≤ b.length ∧ p % 64 + b.length ≤ 64 ∧ storeOctets s cl p b e = (t, true)) :=
  ⟨⟨4, 0, (Mode.off 0x100), 16, {}, sF, 1024,
      (storeWord (pairKeep ((atFetch sF 16 ({})).1) 16 ({})) (16 / 8) 1024 (reg (pairKeep ((atFetch sF 16 ({})).1) 16 ({})) 16 4) Ecc.clean).1,
      (atFetch sF 16 ({})).1, 0x000000000#36, 0, 1048575, false, pairOf (by decide +kernel), pairOf (by decide +kernel), by decide +kernel⟩,
   ⟨5, 9, (Mode.off 0x000000020#36), 16, { ecc := { errs := [(2, 4)], recurs := true } }, sF, 16492678610976,
      (storeOctets (pairKeep ((atFetch sF 16 ({ ecc := { errs := [(2, 4)], recurs := true } } : Pfx)).1) 16 ({ ecc := { errs := [(2, 4)], recurs := true } } : Pfx)) (16 / 8) 16492678610976 (leBytes 1 (BitVec.toNat (reg (pairKeep ((atFetch sF 16 ({ ecc := { errs := [(2, 4)], recurs := true } } : Pfx)).1) 16 ({ ecc := { errs := [(2, 4)], recurs := true } } : Pfx)) 16 5))) ({ ecc := { errs := [(2, 4)], recurs := true } } : Pfx).ecc).1,
      (atFetch sF 16 ({ ecc := { errs := [(2, 4)], recurs := true } } : Pfx)).1, 0x000000000#36, 16492678610944, 16492678742015, false,
      pairOf (by decide +kernel), pairOf (by decide +kernel), by decide +kernel⟩,
   ⟨5, 9, (Mode.off 0x000000020#36), 16, { ecc := { errs := [(2, 4)], recurs := true } }, sF, 16492678610976,
      (storeOctets (pairKeep ((atFetch sF 16 ({ ecc := { errs := [(2, 4)], recurs := true } } : Pfx)).1) 16 ({ ecc := { errs := [(2, 4)], recurs := true } } : Pfx)) (16 / 8) 16492678610976 (leBytes 2 (BitVec.toNat (reg (pairKeep ((atFetch sF 16 ({ ecc := { errs := [(2, 4)], recurs := true } } : Pfx)).1) 16 ({ ecc := { errs := [(2, 4)], recurs := true } } : Pfx)) 16 5))) ({ ecc := { errs := [(2, 4)], recurs := true } } : Pfx).ecc).1,
      (atFetch sF 16 ({ ecc := { errs := [(2, 4)], recurs := true } } : Pfx)).1, 0x000000000#36, 16492678610944, 16492678742015, false,
      pairOf (by decide +kernel), pairOf (by decide +kernel), by decide +kernel⟩,
   ⟨5, 9, (Mode.off 0x000000020#36), 16, { ecc := { errs := [(2, 4)], recurs := true } }, sF, 16492678610976,
      (storeOctets (pairKeep ((atFetch sF 16 ({ ecc := { errs := [(2, 4)], recurs := true } } : Pfx)).1) 16 ({ ecc := { errs := [(2, 4)], recurs := true } } : Pfx)) (16 / 8) 16492678610976 (leBytes 4 (BitVec.toNat (reg (pairKeep ((atFetch sF 16 ({ ecc := { errs := [(2, 4)], recurs := true } } : Pfx)).1) 16 ({ ecc := { errs := [(2, 4)], recurs := true } } : Pfx)) 16 5))) ({ ecc := { errs := [(2, 4)], recurs := true } } : Pfx).ecc).1,
      (atFetch sF 16 ({ ecc := { errs := [(2, 4)], recurs := true } } : Pfx)).1, 0x000000000#36, 16492678610944, 16492678742015, false,
      pairOf (by decide +kernel), pairOf (by decide +kernel), by decide +kernel⟩,
   ⟨4, 1, (Mode.off 0), 16, {}, sF, 16777472,
      (storeOctets (pairKeep ((atFetch sF 16 ({})).1) 16 ({})) (16 / 8) 16777472 (leBytes 4 (BitVec.toNat (reg (pairKeep ((atFetch sF 16 ({})).1) 16 ({})) 16 4)) ++ leBytes 4 (BitVec.toNat (reg (pairKeep ((atFetch sF 16 ({})).1) 16 ({})) 16 (4 + 1)))) Ecc.clean).1,
      (atFetch sF 16 ({})).1, 0x000000000#36, 16777216, 33554431, false, pairOf (by decide +kernel), pairOf (by decide +kernel),
      by decide +kernel⟩,
   ⟨sF, 2, 16777472, .clean, _, [1, 2], by decide +kernel,
      wholeOf (by decide +kernel) (by decide +kernel) (by decide +kernel) (by decide +kernel), by decide +kernel,
      kindOf (x := lineA) (by decide +kernel) rfl rfl, by decide, by decide, pairOf (by decide +kernel)⟩⟩

/-- Cases of O25. Stores and where they write. Part 2. -/
theorem witness_Stores_2 :
    (∃ (s : State) (cl p : Nat) (e : Ecc) (t : State) (v : Word), isScratch p = false ∧ Says.whole s cl ∧ fillGet s cl (lineOf p) = none ∧
      Says.kindHeld s cl p false ∧ p % 4 = 0 ∧ storeWord s cl p v e = (t, true)) ∧
    (∃ (s : State) (p : Nat), isScratch p = true ∧ Memory.wf s.dr.mem = true ∧ scratchLive s p = true) ∧
    (∃ (s : State) (p : Nat), isScratch p = true ∧ Memory.wf s.dr.mem = true ∧ scratchLive s p = false) :=
  ⟨⟨sF, 2, 1024, .clean, _, 5, by decide +kernel, wholeOf (by decide +kernel) (by decide +kernel) (by decide +kernel) (by decide +kernel),
      by decide +kernel, kindOf (x := lineW) (by decide +kernel) rfl rfl, by decide, pairOf (by decide +kernel)⟩,
   ⟨submitState T3, 16492678610944, by decide +kernel⟩,
   ⟨sF, 16492678610944, by decide +kernel⟩⟩

/-- Cases of O26. Where a data access traps. -/
theorem witness_Accesses :
    (∃ (n : Nat) (need : Perm) (rd : Nat) (ra : Nat) (m : Mode) (c : Nat) (x : Pfx) (s : State) (f : State) (w : Word), atFetch s c x = (f,
      Fetched.word w) ∧ x.l32 = false ∧ coreRuns s c = true ∧ encFits s c x = true ∧
      (Option.all (fun p => condHolds p (flagsOf f c)) x.pred = true) ∧ rd < 32 ∧ ra < 32 ∧ (n = 8 → rd % 2 = 0) ∧ (need = Perm.r →
      Says.writesBase m = true → rd ≠ ra ∧ (n = 8 → rd + 1 ≠ ra)) ∧ (coreGet (pairKeep f c x) c).nest = false ∧ 1 < n ∧
      Says.address (pairKeep f c x) c ra m % n ≠ 0) ∧
    (∃ (oct : Bool) (n : Nat) (need : Perm) (rd : Nat) (ra : Nat) (m : Mode) (c : Nat) (x : Pfx) (s : State) (f : State) (w : Word) (k : Nat),
      atFetch s c x = (f, Fetched.word w) ∧ x.l32 = false ∧ coreRuns s c = true ∧ encFits s c x = true ∧
      (Option.all (fun p => condHolds p (flagsOf f c)) x.pred = true) ∧ rd < 32 ∧ ra < 32 ∧ (n = 8 → rd % 2 = 0) ∧ (need = Perm.r →
      Says.writesBase m = true → rd ≠ ra ∧ (n = 8 → rd + 1 ≠ ra)) ∧ (coreGet (pairKeep f c x) c).nest = false ∧ (oct = true → 1 < n →
      Says.address (pairKeep f c x) c ra m % n = 0) ∧
      translate (pairKeep f c x) c oct (Says.address (pairKeep f c x) c ra m) n need = Trans.fault k) ∧
    (∃ (rd : Nat) (ra : Nat) (c : Nat) (p : Nat) (lo : Nat) (hi : Nat) (e : Bool) (m : Mode) (x : Pfx) (s : State) (f : State) (w : Word),
      atFetch s c x = (f, Fetched.word w) ∧ x.l32 = false ∧ coreRuns s c = true ∧ encFits s c x = true ∧
      (x.pred.all fun k => condHolds k (flagsOf f c)) = true ∧ rd < 32 ∧ ra < 32 ∧ (coreGet (pairKeep f c x) c).nest = false ∧
      translate (pairKeep f c x) c false (Says.address (pairKeep f c x) c ra m) 1 .r = .ok p lo hi e ∧
      (loadWord (pairKeep f c x) (c / 8) p x.ecc).2 = none) ∧
    (∃ (rd : Nat) (m : Mode) (c : Nat) (x : Pfx) (s : State) (f : State) (w : Word), atFetch s c x = (f, Fetched.word w) ∧ rd < 32 ∧
      rd + 1 < 32 ∧ Says.writesBase m = true ∧ rd % 2 = 0 ∧ coreRuns s c = true ∧ encFits s c x = true ∧
      (Option.all (fun p => condHolds p (flagsOf f c)) x.pred = true) ∧ (coreGet (pairKeep f c x) c).nest = false ∧ x.l32 = false) ∧
    (∃ (n : Nat) (rd : Nat) (ra : Nat) (m : Mode) (c : Nat) (x : Pfx) (s : State) (f : State) (w : Word), atFetch s c x = (f,
      Fetched.word w) ∧ rd < 32 ∧ ra < 32 ∧ Says.writesBase m = true ∧ rd = ra ∧ (n = 8 → rd % 2 = 0) ∧ coreRuns s c = true ∧
      encFits s c x = true ∧ (Option.all (fun p => condHolds p (flagsOf f c)) x.pred = true) ∧ (coreGet (pairKeep f c x) c).nest = false ∧
      x.l32 = false) :=
  ⟨⟨2, Perm.r, 9, 20, (Mode.idx 3 1), 16, {}, sF, (atFetch sF 16 {}).1, 0x000000000#36, pairOf (by decide +kernel), by decide +kernel⟩,
   ⟨true, 1, Perm.r, 24, 23, (Mode.off 0xffffffffc#36), 16, { enc := Enc.short false }, sF,
      (atFetch sF 16 ({ enc := Enc.short false } : Pfx)).1, 0x000000000#36, 0, pairOf (by decide +kernel), by decide +kernel⟩,
   ⟨4, 0, 16, 0x1000000, 0x1000000, 83886079, false, .off 0x1000000, {}, wrongKindState, (atFetch wrongKindState 16 {}).1, 0,
      pairOf (by decide +kernel), by decide +kernel⟩,
   ⟨24, (Mode.pre 0x000000008#36), 16, {}, sAf, (atFetch sAf 16 {}).1, 0x000000000#36, pairOf (by decide +kernel), by decide +kernel⟩,
   ⟨1, 29, 29, (Mode.pre 0x000000008#36), 16, { enc := Enc.short false }, sF, (atFetch sF 16 ({ enc := Enc.short false } : Pfx)).1,
      0x000000000#36, pairOf (by decide +kernel), by decide +kernel⟩⟩

/-- Cases of O27. Illegal instructions, privilege and stopped cores. -/
theorem witness_DecodeTraps :
    (∃ (c : Nat) (s : State) (f : State) (w : Word) (v : Nat) (d : Nat),
      fetchWord s c (BitVec.toNat (coreGet s c).pc % 2 ^ 35) (coreGet s c).pc Ecc.clean = (f, Fetched.word w) ∧ coreRuns s c = true ∧
      (coreGet s c).pair = none ∧ BitVec.getLsbD (coreGet s c).pc 35 = false ∧ decodePaired (BitVec.toNat w) = Decoded.trap v d ∧ v ≠ 5 ∧
      (coreGet f c).nest = false ∧ (coreGet f c).task = none) ∧
    (∃ (c : Nat) (x : Pfx) (s : State) (f : State) (w : Word), atFetch s c x = (f, Fetched.word w) ∧ coreRuns s c = true ∧
      encFits s c x = true ∧ (Option.all (fun p => condHolds p (flagsOf f c)) x.pred = true) ∧ (coreGet (pairKeep f c x) c).nest = false ∧
      (coreGet (pairKeep f c x) c).lower = true ∧ x.l32 = false) ∧
    (∃ (c : Nat) (x : Pfx) (s : State) (f : State) (w : Word), atFetch s c x = (f, Fetched.word w) ∧ coreRuns s c = true ∧
      encFits s c x = true ∧ (Option.all (fun p => condHolds p (flagsOf f c)) x.pred = true) ∧ (coreGet (pairKeep f c x) c).nest = false ∧
      x.l32 = true) ∧
    (∃ (rd : Nat) (c : Nat) (x : Pfx) (s : State) (f : State) (w : Word), atFetch s c x = (f, Fetched.word w) ∧ rd % 2 = 1 ∧
      coreRuns s c = true ∧ encFits s c x = true ∧ (Option.all (fun p => condHolds p (flagsOf f c)) x.pred = true) ∧
      (coreGet (pairKeep f c x) c).nest = true) :=
  ⟨⟨16, sF, (fetchWord sF 16 (BitVec.toNat (coreGet sF 16).pc % 2 ^ 35) (coreGet sF 16).pc Ecc.clean).1, 0x000000000#36, 1, 0,
      pairOf (by decide +kernel), by decide +kernel⟩,
   ⟨16, { ecc := { errs := [(2, 4)], recurs := true } }, sD, (atFetch sD 16 ({ ecc := { errs := [(2, 4)], recurs := true } } : Pfx)).1,
      0x000000000#36, pairOf (by decide +kernel), by decide +kernel⟩,
   ⟨16, { enc := Enc.compact 4, l32 := true }, compactState, (atFetch compactState 16 ({ enc := Enc.compact 4, l32 := true } : Pfx)).1,
      0x000000000#36, pairOf (by decide +kernel), by decide +kernel⟩,
   ⟨7, 16, {}, sE, (atFetch sE 16 {}).1, 0x000000000#36, pairOf (by decide +kernel), by decide +kernel⟩⟩

/-- Cases of O28. Projections translate addresses. -/
theorem witness_Translation :
    (∃ (s : State) (c : Nat) (oct : Bool) (a n : Nat) (need : Perm) (i : Nat), (coreGet s c).resetProj = false ∧ 1 ≤ n ∧
      Says.covers (coreGet s c) oct a i ∧ (projWord (coreGet s c) i 0).getLsbD (Says.permBit need) = true ∧
      ((projWord (coreGet s c) i 0).getLsbD 29 = false ∨ (coreGet s c).lower = false) ∧ a + n - 1 ≤ (projWord (coreGet s c) i 2).toNat ∧
      isScratch (((projWord (coreGet s c) i 3).toNat % 2 ^ 32) * 4096 + (if oct then 1 else 4) * (a - (projWord (coreGet s c) i 1).toNat)) = false) ∧
    (∃ (s : State) (c : Nat) (oct : Bool) (a n : Nat) (i : Nat), (coreGet s c).resetProj = false ∧ 1 ≤ n ∧
      Says.covers (coreGet s c) oct a i ∧ (projWord (coreGet s c) i 2).toNat < a + n - 1) ∧
    (∃ (s : State) (c : Nat) (oct : Bool) (a n : Nat) (need : Perm) (i : Nat), (coreGet s c).resetProj = false ∧ 1 ≤ n ∧
      Says.covers (coreGet s c) oct a i ∧ (projWord (coreGet s c) i 0).getLsbD (Says.permBit need) = false) ∧
    (∃ (s : State) (c : Nat) (oct : Bool) (a n : Nat), (coreGet s c).resetProj = false ∧ 1 ≤ n ∧ ∀ i, i < 64 →
      ¬ ((projWord (coreGet s c) i 0).getLsbD 35 = true ∧ (projWord (coreGet s c) i 0).getLsbD 34 = oct ∧
      (projWord (coreGet s c) i 1).toNat ≤ a ∧ a ≤ (projWord (coreGet s c) i 2).toNat)) :=
  ⟨⟨sA, 16, true, 0x1000100, 8, .r, 1, by unfold Says.covers; decide +kernel⟩,
   ⟨sA, 16, true, 0x1FFFFFE, 4, 1, by unfold Says.covers; decide +kernel⟩,
   ⟨sA, 16, true, 0, 4, .w, 3, by unfold Says.covers; decide +kernel⟩,
   ⟨sA, 16, true, 0x9000000, 4, by decide +kernel⟩⟩

/-- Cases of O29. Cache maintenance. Part 1. -/
theorem witness_CacheOperations_1 :
    (∃ (oct : Bool) (ra : Nat) (c : Nat) (x : Pfx) (s : State) (p : Nat) (f : State) (w : Word) (lo : Nat) (hi : Nat) (e : Bool),
      atFetch s c x = (f, Fetched.word w) ∧ x.l32 = false ∧ coreRuns s c = true ∧ encFits s c x = true ∧
      (Option.all (fun p => condHolds p (flagsOf f c)) x.pred = true) ∧ isScratch p = false ∧
      translate (pairKeep f c x) c oct (BitVec.toNat (reg (pairKeep f c x) c ra)) 1 Perm.r = Trans.ok p lo hi e ∧
      fillGet (pairKeep f c x) (c / 8) (p / 64) = none) ∧
    (∃ (oct : Bool) (ra : Nat) (c : Nat) (x : Pfx) (s : State) (p : Nat) (f : State) (w : Word) (lo : Nat) (hi : Nat) (e : Bool),
      atFetch s c x = (f, Fetched.word w) ∧ x.l32 = false ∧ coreRuns s c = true ∧ encFits s c x = true ∧
      (Option.all (fun p => condHolds p (flagsOf f c)) x.pred = true) ∧ isScratch p = false ∧
      translate (pairKeep f c x) c oct (BitVec.toNat (reg (pairKeep f c x) c ra)) 1 Perm.w = Trans.ok p lo hi e ∧
      fillGet (pairKeep f c x) (c / 8) (p / 64) = none) ∧
    (∃ (oct : Bool) (ra : Nat) (c : Nat) (x : Pfx) (s : State) (p : Nat) (f : State) (w : Word) (lo : Nat) (hi : Nat) (e : Bool),
      atFetch s c x = (f, Fetched.word w) ∧ x.l32 = false ∧ coreRuns s c = true ∧ encFits s c x = true ∧
      (Option.all (fun p => condHolds p (flagsOf f c)) x.pred = true) ∧ isScratch p = false ∧
      translate (pairKeep f c x) c oct (BitVec.toNat (reg (pairKeep f c x) c ra)) 1 Perm.w = Trans.ok p lo hi e ∧
      kindOk (pairKeep f c x) oct p 1 = true ∧ fillGet (pairKeep f c x) (c / 8) (p / 64) = none) ∧
    (∃ (oct : Bool) (ra : Nat) (c : Nat) (x : Pfx) (s : State) (p : Nat) (f : State) (w : Word) (lo : Nat) (hi : Nat) (e : Bool),
      atFetch s c x = (f, Fetched.word w) ∧ x.l32 = false ∧ coreRuns s c = true ∧ encFits s c x = true ∧
      (Option.all (fun p => condHolds p (flagsOf f c)) x.pred = true) ∧ isScratch p = false ∧
      translate (pairKeep f c x) c oct (BitVec.toNat (reg (pairKeep f c x) c ra)) 1 Perm.r = Trans.ok p lo hi e ∧
      kindOk (pairKeep f c x) oct p 1 = true ∧ (fillGet (pairKeep f c x) (c / 8) (p / 64)).isSome = true) ∧
    (∃ (oct : Bool) (ra : Nat) (rb : Nat) (c : Nat) (x : Pfx) (s : State) (p : Nat) (lo : Nat) (hi : Nat) (e : Bool) (f : State) (w : Word),
      atFetch s c x = (f, Fetched.word w) ∧ x.l32 = false ∧ coreRuns s c = true ∧ encFits s c x = true ∧
      (Option.all (fun p => condHolds p (flagsOf f c)) x.pred = true) ∧ ra % 32 ≠ rb % 32 ∧
      translate (pairKeep f c x) c oct (BitVec.toNat (reg (pairKeep f c x) c ra)) 1 Perm.r = Trans.ok p lo hi e ∧
      BitVec.toNat (reg (pairKeep f c x) c rb) ≤ hi / 64 + 1 - p / 64) ∧
    (∃ (oct : Bool) (ra : Nat) (rb : Nat) (c : Nat) (x : Pfx) (s : State) (p : Nat) (lo : Nat) (hi : Nat) (e : Bool) (f : State) (w : Word),
      atFetch s c x = (f, Fetched.word w) ∧ x.l32 = false ∧ coreRuns s c = true ∧ encFits s c x = true ∧
      (Option.all (fun p => condHolds p (flagsOf f c)) x.pred = true) ∧ ra % 32 ≠ rb % 32 ∧
      translate (pairKeep f c x) c oct (BitVec.toNat (reg (pairKeep f c x) c ra)) 1 Perm.w = Trans.ok p lo hi e ∧
      BitVec.toNat (reg (pairKeep f c x) c rb) ≤ hi / 64 + 1 - p / 64) :=
  ⟨⟨true, 1, 16, {}, sF, 16777472, (atFetch sF 16 {}).1, 0x000000000#36, 16777216, 33554431, false, pairOf (by decide +kernel),
      by decide +kernel⟩,
   ⟨true, 1, 16, {}, sF, 16777472, (atFetch sF 16 {}).1, 0x000000000#36, 16777216, 33554431, false, pairOf (by decide +kernel),
      by decide +kernel⟩,
   ⟨true, 1, 16, {}, sF, 16777472, (atFetch sF 16 {}).1, 0x000000000#36, 16777216, 33554431, false, pairOf (by decide +kernel),
      by decide +kernel⟩,
   ⟨true, 1, 16, {}, sFF, 16777472, (atFetch sFF 16 {}).1, 0x000000000#36, 16777216, 33554431, false, pairOf (by decide +kernel),
      by decide +kernel⟩,
   ⟨true, 31, 3, 16, { enc := Enc.short false }, sF, 16777728, 16777216, 33554431, false,
      (atFetch sF 16 ({ enc := Enc.short false } : Pfx)).1, 0x000000000#36, pairOf (by decide +kernel), by decide +kernel⟩,
   ⟨true, 31, 3, 16, { enc := Enc.short false }, sF, 16777728, 16777216, 33554431, false,
      (atFetch sF 16 ({ enc := Enc.short false } : Pfx)).1, 0x000000000#36, pairOf (by decide +kernel), by decide +kernel⟩⟩

/-- Cases of O29. Cache maintenance. Part 2. -/
theorem witness_CacheOperations_2 :
    (∃ (oct : Bool) (ra : Nat) (c : Nat) (x : Pfx) (s : State) (p : Nat) (f : State) (w : Word) (lo : Nat) (hi : Nat) (e : Bool),
      atFetch s c x = (f, Fetched.word w) ∧ x.l32 = false ∧ coreRuns s c = true ∧ encFits s c x = true ∧
      (Option.all (fun p => condHolds p (flagsOf f c)) x.pred = true) ∧ isScratch p = false ∧
      translate (pairKeep f c x) c oct (BitVec.toNat (reg (pairKeep f c x) c ra)) 1 Perm.x = Trans.ok p lo hi e ∧
      tabSorted (coreGet (pairKeep f c x) c).icache = true) ∧
    (∃ (s u : State) (c p : Nat) (x : Pfx) (ra : Nat) (f : Fill), x.l32 = false ∧ Says.starts s c x u ∧ Says.names u c ra true .w p ∧
      fillGet u (c / 8) (p / 64) = some f) ∧
    (∃ (s u : State) (c p : Nat) (x : Pfx) (ra : Nat) (d : Option LineData) (b : Bool) (w k : Nat), x.l32 = false ∧ Says.starts s c x u ∧
      Says.names u c ra true .r p ∧ kindOk u true p 1 = true ∧ fillGet u (c / 8) (p / 64) = none ∧ lineGet u (c / 8) (p / 64) = some ⟨d, b,
      w, some k⟩) :=
  ⟨⟨false, 3, 16, {}, sA, 20, (atFetch sA 16 {}).1, 0x000000000#36, 0, 1048575, false, pairOf (by decide +kernel), by decide +kernel⟩,
   ⟨sFF, pairKeep (atFetch sFF 16 {}).1 16 {}, 16, 16777472, {}, 1, { data := .octets octets7, ops := [.clean] }, rfl, ⟨by decide +kernel,
      by decide +kernel, _, _, pairOf (b := Fetched.word 0) (by decide +kernel), by decide +kernel, rfl⟩, ⟨by decide +kernel, 16777216,
      33554431, false, by decide +kernel⟩, by decide +kernel⟩,
   ⟨lockState, pairKeep (atFetch lockState 16 {}).1 16 {}, 16, 16777536, {}, 1, none, false, 0, 0x4000, rfl, ⟨by decide +kernel,
      by decide +kernel, _, _, pairOf (b := Fetched.word 0) (by decide +kernel), by decide +kernel, rfl⟩, ⟨by decide +kernel, 16777216,
      33554431, false, by decide +kernel⟩, by decide +kernel, by decide +kernel, by decide +kernel⟩⟩

/-- Cases of O30. Supervisor calls of tasks and flows. Part 1. -/
theorem witness_TaskCalls_1 :
    (∃ (c : Nat) (x : Pfx) (s : State) (n : Nat) (d : Task) (f : State) (w : Word), atFetch s c x = (f, Fetched.word w) ∧ x.l32 = false ∧
      coreRuns s c = true ∧ encFits s c x = true ∧ (Option.all (fun p => condHolds p (flagsOf f c)) x.pred = true) ∧
      (coreGet (pairKeep f c x) c).lower = true ∧ (coreGet (pairKeep f c x) c).task = some n ∧ taskGet (pairKeep f c x) n = some d) ∧
    (∃ (c : Nat) (x : Pfx) (num : Nat) (s : State) (n : Nat) (d : Task) (f : State) (w : Word), atFetch s c x = (f, Fetched.word w) ∧
      x.l32 = false ∧ coreRuns s c = true ∧ encFits s c x = true ∧ (Option.all (fun p => condHolds p (flagsOf f c)) x.pred = true) ∧
      (coreGet (pairKeep f c x) c).lower = true ∧ (coreGet (pairKeep f c x) c).task = some n ∧ taskGet (pairKeep f c x) n = some d ∧
      10 < num) ∧
    (∃ (c : Nat) (x : Pfx) (s : State) (n : Nat) (d : Task) (f : State) (w : Word), atFetch s c x = (f, Fetched.word w) ∧ x.l32 = false ∧
      coreRuns s c = true ∧ encFits s c x = true ∧ (Option.all (fun p => condHolds p (flagsOf f c)) x.pred = true) ∧
      (coreGet (pairKeep f c x) c).lower = true ∧ (coreGet (pairKeep f c x) c).task = some n ∧ taskGet (pairKeep f c x) n = some d ∧
      tabSorted (pairKeep f c x).cs.tasks = true) ∧
    (∃ (c : Nat) (x : Pfx) (s : State) (n : Nat) (d : Task) (f : State) (w : Word), atFetch s c x = (f, Fetched.word w) ∧ x.l32 = false ∧
      coreRuns s c = true ∧ encFits s c x = true ∧ (Option.all (fun p => condHolds p (flagsOf f c)) x.pred = true) ∧
      (coreGet (pairKeep f c x) c).lower = true ∧ (coreGet (pairKeep f c x) c).task = some n ∧ taskGet (pairKeep f c x) n = some d ∧
      tabSorted (pairKeep f c x).cs.tasks = true ∧ 1 ≤ BitVec.toNat (reg (pairKeep f c x) c 1) ∧
      BitVec.toNat (reg (pairKeep f c x) c 1) ≤ 16777216) ∧
    (∃ (c : Nat) (x : Pfx) (s : State) (n : Nat) (d : Task) (f : State) (w : Word), atFetch s c x = (f, Fetched.word w) ∧ x.l32 = false ∧
      coreRuns s c = true ∧ encFits s c x = true ∧ (Option.all (fun p => condHolds p (flagsOf f c)) x.pred = true) ∧
      (coreGet (pairKeep f c x) c).lower = true ∧ (coreGet (pairKeep f c x) c).task = some n ∧ taskGet (pairKeep f c x) n = some d ∧
      tabSorted (pairKeep f c x).cs.tasks = true ∧ (BitVec.toNat (reg (pairKeep f c x) c 1) = 0 ∨
      16777216 < BitVec.toNat (reg (pairKeep f c x) c 1))) ∧
    (∃ (c : Nat) (x : Pfx) (s : State) (n : Nat) (d : Task) (f : State) (w : Word), atFetch s c x = (f, Fetched.word w) ∧ x.l32 = false ∧
      coreRuns s c = true ∧ encFits s c x = true ∧ (Option.all (fun p => condHolds p (flagsOf f c)) x.pred = true) ∧
      (coreGet (pairKeep f c x) c).lower = true ∧ (coreGet (pairKeep f c x) c).task = some n ∧ taskGet (pairKeep f c x) n = some d ∧
      BitVec.toNat (reg (pairKeep f c x) c 3) ≤ 7 ∧ reg (pairKeep f c x) c 4 = BitVec.allOnes 36 ∧
      (parcelTasks (pairKeep f c x) (taskParcel (pairKeep f c x) d)).length < (parGet (pairKeep f c x) (taskParcel (pairKeep f c x) d)).lim.tasks ∧
      ((invTasks (pairKeep f c x) d.inv).length < (Option.map (fun x => x.maxTasks) (invGet (pairKeep f c x) d.inv)).getD 0) ∧
      0 < tasksFree (pairKeep f c x)) :=
  ⟨⟨16, {}, T11, 1, ((taskGet (pairKeep ((atFetch T11 16 {}).1) 16 {}) 1).get (by decide +kernel)), (atFetch T11 16 {}).1, 0x000000000#36,
      pairOf (by decide +kernel), by decide +kernel⟩,
   ⟨16, {}, 64, T6, 1, ((taskGet (pairKeep ((atFetch T6 16 {}).1) 16 {}) 1).get (by decide +kernel)), (atFetch T6 16 {}).1, 0x000000000#36,
      pairOf (by decide +kernel), by decide +kernel⟩,
   ⟨16, {}, T11, 1, ((taskGet (pairKeep ((atFetch T11 16 {}).1) 16 {}) 1).get (by decide +kernel)), (atFetch T11 16 {}).1, 0x000000000#36,
      pairOf (by decide +kernel), by decide +kernel⟩,
   ⟨16, {}, T11, 1, ((taskGet (pairKeep ((atFetch T11 16 {}).1) 16 {}) 1).get (by decide +kernel)), (atFetch T11 16 {}).1, 0x000000000#36,
      pairOf (by decide +kernel), by decide +kernel⟩,
   ⟨16, { ecc := { errs := [(0, 3), (8, 3), (16, 3), (24, 3), (32, 3), (40, 3), (48, 3), (56, 3), (64, 3), (72, 3), (80, 3), (88, 3)] } },
      T3, 1,
      ((taskGet (pairKeep ((atFetch T3 16 ({ ecc := { errs := [(0, 3), (8, 3), (16, 3), (24, 3), (32, 3), (40, 3), (48, 3), (56, 3), (64, 3), (72, 3), (80, 3), (88, 3)] } } : Pfx)).1) 16 ({ ecc := { errs := [(0, 3), (8, 3), (16, 3), (24, 3), (32, 3), (40, 3), (48, 3), (56, 3), (64, 3), (72, 3), (80, 3), (88, 3)] } } : Pfx)) 1).get (by decide +kernel)),
      (atFetch T3 16 ({ ecc := { errs := [(0, 3), (8, 3), (16, 3), (24, 3), (32, 3), (40, 3), (48, 3), (56, 3), (64, 3), (72, 3), (80, 3), (88, 3)] } } : Pfx)).1,
      0x000000000#36, pairOf (by decide +kernel), by decide +kernel⟩,
   ⟨16, { ecc := { errs := [(0, 3), (8, 3), (16, 3), (24, 3), (32, 3), (40, 3), (48, 3), (56, 3), (64, 3), (72, 3), (80, 3), (88, 3)] } },
      T7, 1,
      ((taskGet (pairKeep ((atFetch T7 16 ({ ecc := { errs := [(0, 3), (8, 3), (16, 3), (24, 3), (32, 3), (40, 3), (48, 3), (56, 3), (64, 3), (72, 3), (80, 3), (88, 3)] } } : Pfx)).1) 16 ({ ecc := { errs := [(0, 3), (8, 3), (16, 3), (24, 3), (32, 3), (40, 3), (48, 3), (56, 3), (64, 3), (72, 3), (80, 3), (88, 3)] } } : Pfx)) 1).get (by decide +kernel)),
      (atFetch T7 16 ({ ecc := { errs := [(0, 3), (8, 3), (16, 3), (24, 3), (32, 3), (40, 3), (48, 3), (56, 3), (64, 3), (72, 3), (80, 3), (88, 3)] } } : Pfx)).1,
      0x000000000#36, pairOf (by decide +kernel), by decide +kernel⟩⟩

/-- Cases of O30. Supervisor calls of tasks and flows. Part 2. -/
theorem witness_TaskCalls_2 :
    (∃ (c : Nat) (x : Pfx) (s : State) (n : Nat) (d : Task) (f : Nat) (f1 : State) (w : Word), atFetch s c x = (f1, Fetched.word w) ∧
      x.l32 = false ∧ coreRuns s c = true ∧ encFits s c x = true ∧ (Option.all (fun p => condHolds p (flagsOf f1 c)) x.pred = true) ∧
      (coreGet (pairKeep f1 c x) c).lower = true ∧ (coreGet (pairKeep f1 c x) c).task = some n ∧ taskGet (pairKeep f1 c x) n = some d ∧
      (parcelFlows (pairKeep f1 c x) (taskParcel (pairKeep f1 c x) d)).length < (parGet (pairKeep f1 c x) (taskParcel (pairKeep f1 c x) d)).lim.flows ∧
      tabFree (pairKeep f1 c x).cs.flows 0 16384 = some f) ∧
    (∃ (c : Nat) (x : Pfx) (s : State) (n : Nat) (d : Task) (f : Nat) (f1 : State) (w : Word), atFetch s c x = (f1, Fetched.word w) ∧
      x.l32 = false ∧ coreRuns s c = true ∧ encFits s c x = true ∧ (x.pred.all fun p => condHolds p (flagsOf f1 c)) = true ∧
      (coreGet (pairKeep f1 c x) c).lower = true ∧ (coreGet (pairKeep f1 c x) c).task = some n ∧ taskGet (pairKeep f1 c x) n = some d ∧
      tabSorted (pairKeep f1 c x).cs.flows = true ∧ flowBy (pairKeep f1 c x) d.inv (reg (pairKeep f1 c x) c 1) = some f ∧
      ((pairKeep f1 c x).cs.tasks.any fun e => e.2.flow == some f) = false) ∧
    (∃ (n : Nat) (s : State) (d : Task), taskGet s n = some d ∧ d.st ≠ TState.blocked) ∧
    (∃ (n : Nat) (s : State) (d : Task), taskGet s n = some d ∧ (¬(d.st = TState.delayed ∧ d.wake ≤ frameNo s))) ∧
    (∃ (n : Nat) (s : State) (d : Task), taskGet s n = some d ∧ d.st = TState.delayed ∧ d.wake ≤ frameNo s) :=
  ⟨⟨16, {}, T11, 1, ((taskGet (pairKeep ((atFetch T11 16 {}).1) 16 {}) 1).get (by decide +kernel)), 0, (atFetch T11 16 {}).1, 0x000000000#36,
      pairOf (by decide +kernel), by decide +kernel⟩,
   ⟨16, {}, flowState, 1, { task1 with flow := some 9 }, 8, (atFetch flowState 16 {}).1, 0, pairOf (by decide +kernel), rfl,
      by decide +kernel, by decide +kernel, by decide +kernel, by decide +kernel, by decide +kernel, by decide +kernel, by decide +kernel,
      flowByOf (by decide +kernel) rfl, by decide +kernel⟩,
   ⟨7, T1, ((taskGet T1 7).get (by decide +kernel)), by decide +kernel⟩,
   ⟨7, T1, ((taskGet T1 7).get (by decide +kernel)), by decide +kernel⟩,
   ⟨2, T4, ((taskGet T4 2).get (by decide +kernel)), by decide +kernel⟩⟩

/-- Cases of O31. Supervisor calls to engines, and hand-offs. Part 1. -/
theorem witness_EngineCalls_1 :
    (∃ (c : Nat) (x : Pfx) (s : State) (n : Nat) (d : Task) (k : Nat) (j : Job) (f : State) (w : Word), atFetch s c x = (f,
      Fetched.word w) ∧ x.l32 = false ∧ coreRuns s c = true ∧ encFits s c x = true ∧
      (Option.all (fun p => condHolds p (flagsOf f c)) x.pred = true) ∧ (coreGet (pairKeep f c x) c).lower = true ∧
      (coreGet (pairKeep f c x) c).task = some n ∧ taskGet (pairKeep f c x) n = some d ∧ tabSorted (pairKeep f c x).cs.tasks = true ∧
      jobBy (pairKeep f c x) d.inv (reg (pairKeep f c x) c 1) = some (k, j) ∧ j.phase = JPhase.ended) ∧
    (∃ (c : Nat) (x : Pfx) (s : State) (n : Nat) (d : Task) (k : Nat) (j : Job) (f : State) (w : Word), atFetch s c x = (f,
      Fetched.word w) ∧ x.l32 = false ∧ coreRuns s c = true ∧ encFits s c x = true ∧
      (Option.all (fun p => condHolds p (flagsOf f c)) x.pred = true) ∧ (coreGet (pairKeep f c x) c).lower = true ∧
      (coreGet (pairKeep f c x) c).task = some n ∧ taskGet (pairKeep f c x) n = some d ∧ tabSorted (pairKeep f c x).cs.tasks = true ∧
      jobBy (pairKeep f c x) d.inv (reg (pairKeep f c x) c 1) = some (k, j) ∧ j.phase ≠ JPhase.ended) ∧
    (∃ (n : Nat) (s : State) (d : Task) (k : Nat), taskGet s n = some d ∧ d.st = TState.ready ∧ (taskAllows s d d.cluster = false ∨
      hasPool s d.cluster = false) ∧ fewest s (Says.movesTo s d) = some k) ∧
    (∃ (n : Nat) (s : State) (d : Task), taskGet s n = some d ∧ (d.st ≠ TState.ready ∨ taskAllows s d d.cluster = true ∧
      hasPool s d.cluster = true ∧ (bitsOf s.cs.affinity 23 12 = 0 ∨ s.cs.idleAt < d.since + bitsOf s.cs.affinity 23 12 ∨
      d.cluster ∈ s.cs.idle))) ∧
    (∃ (c : Nat) (s : State) (n : Nat) (d : Task), 16 ≤ c ∧ (coreGet s c).task = some n ∧ (coreGet s c).lower = true ∧
      (coreGet s c).sliceAt < frameNo s ∧ (coreGet s c).pair = none ∧ taskGet s n = some d) ∧
    (∃ (c : Nat) (x : Pfx) (s : State) (n : Nat) (d : Task) (i : Invoc) (desc pd : Bytes) (v f : State) (w : Word) (p : Nat),
      atFetch s c x = (f, Fetched.word w) ∧ octetsIn (Says.inCall (pairKeep f c x) c x 7) p 64 8 = (v, some desc) ∧ x.l32 = false ∧
      coreRuns s c = true ∧ encFits s c x = true ∧ (x.pred.all fun p => condHolds p (flagsOf f c)) = true ∧
      (coreGet (pairKeep f c x) c).lower = true ∧ (coreGet (pairKeep f c x) c).task = some n ∧ taskGet (pairKeep f c x) n = some d ∧
      1 ≤ (reg (pairKeep f c x) c 2).toNat ∧ (reg (pairKeep f c x) c 2).toNat ≤ 3 ∧ invGet (pairKeep f c x) d.inv = some i ∧
      ((reg (pairKeep f c x) c 3).getLsbD 0 = true → i.oper = true) ∧
      spanPhys (Says.inCall (pairKeep f c x) c x 7) c (reg (pairKeep f c x) c 1).toNat 64 .r = some p ∧
      descPhys v c (Says.jobOf (engOf (reg (pairKeep f c x) c 2).toNat) i d.inv ((reg (pairKeep f c x) c 3).getLsbD 0) desc) (spansOf v (Says.jobOf (engOf (reg (pairKeep f c x) c 2).toNat) i d.inv ((reg (pairKeep f c x) c 3).getLsbD 0) desc)) = some pd ∧
      parcelJobs v i.parcel < 64 ∧ queueFull v (engOf (reg (pairKeep f c x) c 2).toNat) = false) :=
  ⟨⟨16, {}, T6, 1, ((taskGet (pairKeep ((atFetch T6 16 {}).1) 16 {}) 1).get (by decide +kernel)), 3,
      { eng := Eng.dg, desc := zeros 64, parcel := some 17, pEdition := 0, ticket := 0, tEdition := 0, inv := some 5, order := 0, phase := JPhase.ended, lane := none, ranAt := none, row := 0, ctx := 65535, pos := 0, written := 0, input := [], output := [], cap := none, gran := 0, iv := [], vEnt := none, status := 6, flags := 0, consumed := 0, produced := 0, aux0 := 0, aux1 := 0, handle := 0x000000000#36, awaits := [] },
      (atFetch T6 16 {}).1, 0x000000000#36, pairOf (by decide +kernel), by decide +kernel⟩,
   ⟨16, { ecc := { errs := [(2, 4)], recurs := true } }, T2, 1,
      ((taskGet (pairKeep ((atFetch T2 16 ({ ecc := { errs := [(2, 4)], recurs := true } } : Pfx)).1) 16 ({ ecc := { errs := [(2, 4)], recurs := true } } : Pfx)) 1).get (by decide +kernel)),
      4,
      { eng := Eng.dg, desc := zeros 64, parcel := some 17, pEdition := 0, ticket := 0, tEdition := 0, inv := some 5, order := 0, phase := JPhase.running, lane := none, ranAt := none, row := 0, ctx := 65535, pos := 0, written := 0, input := [], output := [], cap := none, gran := 0, iv := [], vEnt := none, status := 0, flags := 0, consumed := 0, produced := 0, aux0 := 0, aux1 := 0, handle := 0x000000000#36, awaits := [] },
      (atFetch T2 16 ({ ecc := { errs := [(2, 4)], recurs := true } } : Pfx)).1, 0x000000000#36, pairOf (by decide +kernel),
      by decide +kernel⟩,
   ⟨8, T11, ((taskGet T11 8).get (by decide +kernel)), 3, by decide +kernel⟩,
   ⟨7, T1, ((taskGet T1 7).get (by decide +kernel)), by decide +kernel⟩,
   ⟨16, T2, 1, ((taskGet T2 1).get (by decide +kernel)), by decide +kernel⟩,
   ⟨16, {}, submitState T3, 1, task1, inv5, submitDesc, putAt submitDesc 6 [17, 0, 6, 0, 3], calledState (submitState T3) 7,
      (atFetch (submitState T3) 16 {}).1, 0, 16492678610944, pairOf (by decide +kernel),
      scratchRead (d := submitDesc) (by decide +kernel) (by decide) (by decide +kernel), rfl, by decide +kernel, by decide +kernel,
      by decide +kernel, by decide +kernel, by decide +kernel, by decide +kernel, by decide +kernel, by decide +kernel, by decide +kernel,
      by decide +kernel, by decide +kernel, by decide +kernel, by decide +kernel, noneWaits (by decide +kernel)⟩⟩

/-- Cases of O31. Supervisor calls to engines, and hand-offs. Part 2. -/
theorem witness_EngineCalls_2 :
    (∃ (c : Nat) (x : Pfx) (s : State) (n : Nat) (d : Task) (i : Invoc) (desc pd : Bytes) (v f : State) (w : Word) (p : Nat),
      atFetch s c x = (f, Fetched.word w) ∧ octetsIn (Says.inCall (pairKeep f c x) c x 9) p 64 8 = (v, some desc) ∧ x.l32 = false ∧
      coreRuns s c = true ∧ encFits s c x = true ∧ (x.pred.all fun p => condHolds p (flagsOf f c)) = true ∧
      (coreGet (pairKeep f c x) c).lower = true ∧ (coreGet (pairKeep f c x) c).task = some n ∧ taskGet (pairKeep f c x) n = some d ∧
      invGet (pairKeep f c x) d.inv = some i ∧ ((reg (pairKeep f c x) c 2).getLsbD 0 = true → i.oper = true) ∧
      spanPhys (Says.inCall (pairKeep f c x) c x 9) c (reg (pairKeep f c x) c 1).toNat 64 .r = some p ∧
      descPhys v c (Says.jobOf .gz i d.inv ((reg (pairKeep f c x) c 2).getLsbD 0) desc) (spansOf v (Says.jobOf .gz i d.inv ((reg (pairKeep f c x) c 2).getLsbD 0) desc)) = some pd ∧
      parcelJobs v i.parcel < 64 ∧ queueFull v .gz = false) ∧
    (∃ (f : Nat) (s : State) (i : Nat), tabGet s.cs.flows f = some ⟨i, none⟩ ∧ tabSorted s.cs.tasks = true ∧ ∃ n d, taskGet s n = some d ∧
      d.st = .flowWait ∧ d.flow = some f) ∧
    (∃ (s : State) (n : Nat) (d : Task) (k : Nat), taskGet s n = some d ∧ d.st = .ready ∧ taskAllows s d d.cluster = true ∧
      hasPool s d.cluster = true ∧ bitsOf s.cs.affinity 23 12 ≠ 0 ∧ d.since + bitsOf s.cs.affinity 23 12 ≤ s.cs.idleAt ∧
      d.cluster ∉ s.cs.idle ∧ fewest s ((Says.movesTo s d).filter fun cl => decide (cl ∈ s.cs.idle)) = some k) :=
  ⟨⟨16, {}, withW (submitState T5) [(1, 0xF000000)], 1, task1, inv5, submitDesc, putAt submitDesc 6 [17, 0, 6, 0, 3],
      calledState (withW (submitState T5) [(1, 0xF000000)]) 9, (atFetch (withW (submitState T5) [(1, 0xF000000)]) 16 {}).1, 0,
      16492678610944, pairOf (by decide +kernel), scratchRead (d := submitDesc) (by decide +kernel) (by decide) (by decide +kernel), rfl,
      by decide +kernel, by decide +kernel, by decide +kernel, by decide +kernel, by decide +kernel, by decide +kernel, by decide +kernel,
      by decide +kernel, by decide +kernel, by decide +kernel, by decide +kernel, noneWaits (by decide +kernel)⟩,
   ⟨7, T0, 5, by decide +kernel, by decide +kernel, 6, flowTask 9, by decide +kernel⟩,
   ⟨moveState, 8, { task1 with st := .ready, root := false, since := 2000, cluster := 3 }, 2, by decide +kernel⟩⟩

/-- Cases of O32. Scratchpad ways and pools. Part 1. -/
theorem witness_CacheWays_1 :
    (∃ (cl : Nat) (v : Nat) (s : State), cl < 8 ∧ v < 2 ^ 32 ∧ wayRefused s cl v = true) ∧
    (∃ (cl : Nat) (v : Nat) (s : State), cl < 8 ∧ v < 2 ^ 32 ∧ wayRefused s cl v = false) ∧
    (∃ (cl : Nat), cl < 8) ∧
    (∃ (cl : Nat) (s : State) (x : WayChange), cl < 8 ∧ x ∈ (clusterGet s cl).changes ∧ x.start.isSome = true ∧ (∀ (x : WayChange),
      x ∈ (clusterGet s cl).changes → x.way < 16)) ∧
    (∃ (cl : Nat) (w : Nat) (v : Nat) (s : State), cl < 8 ∧ w < 16 ∧ v < 2 ^ 32 ∧ (2 ≤ wayMode s cl w ∨
      ((clusterGet s cl).changes.any fun x => x.way == w) = true)) ∧
    (∃ (cl : Nat) (w : Nat) (v : Nat) (s : State), cl < 8 ∧ w < 16 ∧ v < 2 ^ 32 ∧ wayMode s cl w < 2 ∧
      (((clusterGet s cl).changes.any fun x => x.way == w) = false)) :=
  ⟨⟨0, 4294967295, T0, by decide +kernel⟩,
   ⟨4, 5, T0, by decide +kernel⟩,
   ⟨0, by decide +kernel⟩,
   ⟨2, T7, { way := 3, old := 0, new := 3, start := some 2047 }, by decide +kernel⟩,
   ⟨2, 3, 0, T7, by decide +kernel⟩,
   ⟨0, 7, 3, T0, by decide +kernel⟩⟩

/-- Cases of O32. Scratchpad ways and pools. Part 2. -/
theorem witness_CacheWays_2 :
    (∃ (cl : Nat) (s : State), 2 ≤ cl ∧ cl < 8 ∧ regFld s (TC_POOL cl) 7 0 ≠ (clusterGet s cl).pool ∧ (∀ (k : Nat), k < 8 →
      bitOf (clusterGet s cl).pool k = true → bitOf (regFld s (TC_POOL cl) 7 0) k = true)) ∧
    (∃ (s : State) (p : Packet), (p.mctp = true ∨ onTicket s p = true ∧ c1Fields (tkGet s p.id).cmd = true ∧
      (tkGet s p.id).cmd.dok = true) ∧ (List.length s.mg.flights < if fevoum s = true then 4 else 64) ∧ (∀ (e : Nat × Flight),
      e ∈ s.mg.flights → carrier e.snd.p = carrier p → e.snd.p.seq ≠ p.seq) ∧ (∀ (c : CachedReply), c ∈ tabGetD s.mg.caches (carrier p) [] →
      c.op = 1029 → samePacket c.p p = false) ∧ s.ev.powerFail = false ∧ s.pw.halted = false ∧ s.fr.fatal = false ∧
      packetCheck s 1029 p = none ∧ tabSorted s.mg.flights = true ∧ (∀ (e : Nat × Flight), e ∈ s.mg.flights → e.snd.p.parcel = p.parcel →
      e.snd.applied = true) ∧ p.bufOk = true ∧ (p.mctp = true ∨ (fnGet s 0).bme = true) ∧ 2 ≤ pAt p 8 1 ∧ pAt p 8 1 ≤ 7 ∧ pAt p 9 1 ≤ 15 ∧
      pAt p 10 1 ≤ 3 ∧ wayChanging s (pAt p 8 1) (pAt p 9 1) = true) ∧
    (∃ (s : State) (p : Packet), (p.mctp = true ∨ onTicket s p = true ∧ c1Fields (tkGet s p.id).cmd = true ∧
      (tkGet s p.id).cmd.dok = true) ∧ (List.length s.mg.flights < if fevoum s = true then 4 else 64) ∧ (∀ (e : Nat × Flight),
      e ∈ s.mg.flights → carrier e.snd.p = carrier p → e.snd.p.seq ≠ p.seq) ∧ (∀ (c : CachedReply), c ∈ tabGetD s.mg.caches (carrier p) [] →
      c.op = 1029 → samePacket c.p p = false) ∧ s.ev.powerFail = false ∧ s.pw.halted = false ∧ s.fr.fatal = false ∧
      packetCheck s 1029 p = none ∧ tabSorted s.mg.flights = true ∧ (∀ (e : Nat × Flight), e ∈ s.mg.flights → e.snd.p.parcel = p.parcel →
      e.snd.applied = true) ∧ p.bufOk = true ∧ (p.mctp = true ∨ (fnGet s 0).bme = true) ∧ 2 ≤ pAt p 8 1 ∧ pAt p 8 1 ≤ 7 ∧ pAt p 9 1 ≤ 15 ∧
      pAt p 10 1 ≤ 3 ∧ wayChanging s (pAt p 8 1) (pAt p 9 1) = false ∧ wayMode s (pAt p 8 1) (pAt p 9 1) < 2 ∧
      (wayRefused (regPut s (TC_WAY_OWNER (pAt p 8 1) (pAt p 9 1)) (if 2 ≤ pAt p 10 1 then 2 ^ 31 + p.parcel else 0)) (pAt p 8 1) (putBits (regNat s (TC_WAY_MODE (pAt p 8 1))) (2 * pAt p 9 1 + 1) (2 * pAt p 9 1) (pAt p 10 1)) = false) ∧
      wayMode s (pAt p 8 1) (pAt p 9 1) ≠ pAt p 10 1) ∧
    (∃ (s : State) (p : Packet), (p.mctp = true ∨ onTicket s p = true ∧ c1Fields (tkGet s p.id).cmd = true ∧
      (tkGet s p.id).cmd.dok = true) ∧ (List.length s.mg.flights < if fevoum s = true then 4 else 64) ∧ (∀ (e : Nat × Flight),
      e ∈ s.mg.flights → carrier e.snd.p = carrier p → e.snd.p.seq ≠ p.seq) ∧ (∀ (c : CachedReply), c ∈ tabGetD s.mg.caches (carrier p) [] →
      c.op = 1029 → samePacket c.p p = false) ∧ s.ev.powerFail = false ∧ s.pw.halted = false ∧ s.fr.fatal = false ∧
      packetCheck s 1029 p = none ∧ tabSorted s.mg.flights = true ∧ (∀ (e : Nat × Flight), e ∈ s.mg.flights → e.snd.p.parcel = p.parcel →
      e.snd.applied = true) ∧ p.bufOk = true ∧ (p.mctp = true ∨ (fnGet s 0).bme = true) ∧ 2 ≤ pAt p 8 1 ∧ pAt p 8 1 ≤ 7 ∧ pAt p 9 1 ≤ 15 ∧
      pAt p 10 1 ≤ 3 ∧ wayChanging s (pAt p 8 1) (pAt p 9 1) = false ∧ wayMode s (pAt p 8 1) (pAt p 9 1) < 2 ∧
      (wayRefused (regPut s (TC_WAY_OWNER (pAt p 8 1) (pAt p 9 1)) (if 2 ≤ pAt p 10 1 then 2 ^ 31 + p.parcel else 0)) (pAt p 8 1) (putBits (regNat s (TC_WAY_MODE (pAt p 8 1))) (2 * pAt p 9 1 + 1) (2 * pAt p 9 1) (pAt p 10 1)) = false) ∧
      wayMode s (pAt p 8 1) (pAt p 9 1) = pAt p 10 1) ∧
    (∃ (s : State) (p : Packet), Says.acts s 0x405 p ∧ 2 ≤ pAt p 8 1 ∧ pAt p 8 1 ≤ 7 ∧ pAt p 9 1 ≤ 15 ∧ pAt p 10 1 ≤ 3 ∧
      wayChanging s (pAt p 8 1) (pAt p 9 1) = false ∧ wayMode s (pAt p 8 1) (pAt p 9 1) < 2 ∧
      wayRefused (regPut s (TC_WAY_OWNER (pAt p 8 1) (pAt p 9 1)) (if 2 ≤ pAt p 10 1 then 2 ^ 31 + p.parcel else 0)) (pAt p 8 1) (putBits (regNat s (TC_WAY_MODE (pAt p 8 1))) (2 * pAt p 9 1 + 1) (2 * pAt p 9 1) (pAt p 10 1)) = true) :=
  ⟨⟨2, T11, by decide +kernel⟩,
   ⟨K8, { mctp := true, id := 9, seq := 5, parcel := 17, params := [3, 3, 3] ++ zeros 37 }, by decide +kernel⟩,
   ⟨K6, { mctp := true, id := 9, seq := 5, parcel := 17, params := [2, 3, 2] ++ zeros 37 }, by decide +kernel⟩,
   ⟨K4, { mctp := true, id := 9, seq := 5, parcel := 65535, params := [5] ++ zeros 39 }, by decide +kernel⟩,
   ⟨regPut K7 (TC_WAY_MODE 2) 0x5555, pk 17 [2, 15, 3], (by unfold Says.acts Says.arrives; decide +kernel), by decide +kernel⟩⟩

/-- Cases of O33. Programs and their execution. Part 1. -/
theorem witness_Programs_1 :
    (∃ (tk : Nat) (img : Bytes) (s : State) (p : Nat), (tkGet s tk).busy = true ∧ (tkGet s tk).admin = true ∧
      (tkGet s tk).phase = TkPhase.started ∧ (tkGet s tk).cmd.opc = 32 ∧ (tkGet s tk).parcel = some p ∧ tkBme s tk = true ∧
      bitsOf (tkGet s tk).cmd.cdw10 15 0 ≤ 63 ∧ imgLength img = false) ∧
    (∃ (tk : Nat) (s : State) (p : Nat) (g : Prog), (tkGet s tk).busy = true ∧ (tkGet s tk).admin = true ∧
      (tkGet s tk).phase = TkPhase.started ∧ (tkGet s tk).cmd.opc = 33 ∧ bitOf (tkGet s tk).cmd.cdw10 16 = true ∧
      (tkGet s tk).parcel = some p ∧ tabGet s.cs.progs (progKey p (bitsOf (tkGet s tk).cmd.cdw10 15 0)) = some g) ∧
    (∃ (tk : Nat) (s : State) (p : Nat) (g : Prog), (tkGet s tk).busy = true ∧ (tkGet s tk).admin = true ∧
      (tkGet s tk).phase = TkPhase.started ∧ (tkGet s tk).cmd.opc = 33 ∧ bitOf (tkGet s tk).cmd.cdw10 16 = false ∧
      (tkGet s tk).parcel = some p ∧ tabGet s.cs.progs (progKey p (bitsOf (tkGet s tk).cmd.cdw10 15 0)) = some g ∧
      progInvs s p (bitsOf (tkGet s tk).cmd.cdw10 15 0) = []) ∧
    (∃ (tk : Nat) (s : State) (p : Nat) (g : Prog), (tkGet s tk).busy = true ∧ (tkGet s tk).admin = true ∧
      (tkGet s tk).phase = TkPhase.started ∧ (tkGet s tk).cmd.opc = 33 ∧ bitOf (tkGet s tk).cmd.cdw10 16 = false ∧
      (tkGet s tk).parcel = some p ∧ tabGet s.cs.progs (progKey p (bitsOf (tkGet s tk).cmd.cdw10 15 0)) = some g ∧
      progInvs s p (bitsOf (tkGet s tk).cmd.cdw10 15 0) ≠ []) ∧
    (∃ (tk : Nat) (param : Bytes) (s : State) (p : Nat) (g : Prog) (rs : List Nat) (v : State),
      invStart s (InvOwner.ticket tk) p tk (bitsOf (tkGet s tk).cmd.cdw10 15 0) g false rs (hostData (tkGet s tk) param) = some v ∧
      (tkGet s tk).busy = true ∧ (tkGet s tk).admin = false ∧ (tkGet s tk).phase = TkPhase.started ∧ (tkGet s tk).cmd.opc = 129 ∧
      (tkGet s tk).begun = false ∧ (tkGet s tk).r2t = false ∧ (tkGet s tk).parcel = some p ∧ (tkGet s tk).heldData = none ∧
      bitsOf (tkGet s tk).cmd.cdw10 15 0 ≤ 63 ∧ tabGet s.cs.progs (progKey p (bitsOf (tkGet s tk).cmd.cdw10 15 0)) = some g ∧
      g.active = true ∧ g.operatorOnly = false ∧ setRanges s p (bitsOf (tkGet s tk).cmd.cdw11 15 0) = some rs ∧
      List.length (hostData (tkGet s tk) param) ≤ 4096) ∧
    (∃ (tk : Nat) (s : State) (p : Nat) (rs : List Nat), (tkGet s tk).busy = true ∧ (tkGet s tk).admin = false ∧
      (tkGet s tk).phase = TkPhase.started ∧ (tkGet s tk).cmd.opc = 129 ∧ (tkGet s tk).begun = false ∧ (tkGet s tk).r2t = false ∧
      (tkGet s tk).parcel = some p ∧ (tkGet s tk).heldData = none ∧ setRanges s p (bitsOf (tkGet s tk).cmd.cdw11 15 0) = some rs ∧
      (∀ (g : Prog), tabGet s.cs.progs (progKey p (bitsOf (tkGet s tk).cmd.cdw10 15 0)) = some g → g.active = false ∨
      g.operatorOnly = true)) :=
  ⟨⟨0, [1], T0, 17, by decide +kernel⟩,
   ⟨2, T0, 17, ((tabGet T0.cs.progs (progKey 17 (bitsOf (tkGet T0 2).cmd.cdw10 15 0))).get (by decide +kernel)), by decide +kernel⟩,
   ⟨3, T0, 17, ((tabGet T0.cs.progs (progKey 17 (bitsOf (tkGet T0 3).cmd.cdw10 15 0))).get (by decide +kernel)), by decide +kernel⟩,
   ⟨4, T0, 17, ((tabGet T0.cs.progs (progKey 17 (bitsOf (tkGet T0 4).cmd.cdw10 15 0))).get (by decide +kernel)), by decide +kernel⟩,
   ⟨5, [1], T0, 17, ((tabGet T0.cs.progs (progKey 17 (bitsOf (tkGet T0 5).cmd.cdw10 15 0))).get (by decide +kernel)), [],
      ((invStart T0 (InvOwner.ticket 5) 17 5 (bitsOf (tkGet T0 5).cmd.cdw10 15 0) (((tabGet T0.cs.progs (progKey 17 (bitsOf (tkGet T0 5).cmd.cdw10 15 0))).get (by decide +kernel))) false ([] : List Nat) (hostData (tkGet T0 5) ([1] : Bytes))).get (by decide +kernel)),
      (Option.some_get _).symm, by decide +kernel⟩,
   ⟨7, T0, 17, [], by decide +kernel⟩⟩

/-- Cases of O33. Programs and their execution. Part 2. -/
theorem witness_Programs_2 :
    (∃ (tk : Nat) (s : State) (n : Nat) (i : Invoc), ticketInv s tk = some n ∧ invGet s n = some i ∧ i.ended = none ∧
      tabSorted s.cs.tasks = true ∧ i.accepted + i.budget ≤ frameNo s) ∧
    (∃ (tk : Nat) (s : State) (n : Nat) (i : Invoc), ticketInv s tk = some n ∧ invGet s n = some i ∧ i.ended = none ∧
      tabSorted s.cs.tasks = true ∧ frameNo s < i.accepted + i.budget) ∧
    (∃ (tk : Nat) (s : State) (n : Nat) (i : Invoc) (st : Status) (a : Nat) (b : Nat), ticketInv s tk = some n ∧ invGet s n = some i ∧
      i.owner = InvOwner.ticket tk ∧ i.ended = some (st, a, b) ∧ (tkGet s tk).busy = true ∧ (tkGet s tk).edition = i.tEdition ∧
      (tkGet s tk).phase ≠ TkPhase.done ∧ invJobs s n ≠ 0) ∧
    (∃ (tk : Nat) (s : State) (n : Nat) (i : Invoc) (st : Status) (a : Nat) (b : Nat), ticketInv s tk = some n ∧ invGet s n = some i ∧
      i.owner = InvOwner.ticket tk ∧ i.ended = some (st, a, b) ∧ (tkGet s tk).busy = true ∧ (tkGet s tk).edition = i.tEdition ∧
      (tkGet s tk).phase ≠ TkPhase.done ∧ invJobs s n = 0) ∧
    (∃ (tk : Nat) (img : Bytes) (s : State) (p : Nat) (v : State), Says.started s tk true 0x20 ∧ tkBme s tk = true ∧
      (tkGet s tk).parcel = some p ∧ bitsOf (tkGet s tk).cmd.cdw10 15 0 ≤ 63 ∧ imgLength img = true ∧ imgHeader img = true ∧
      imgOperator img = false ∧ progActive s p (bitsOf (tkGet s tk).cmd.cdw10 15 0) = false ∧
      progsFull s p (bitsOf (tkGet s tk).cmd.cdw10 15 0) = false ∧ progInstall s p (bitsOf (tkGet s tk).cmd.cdw10 15 0) img = some v ∧
      tabSorted s.dr.words = true) ∧
    (∃ (s : State) (tk p : Nat), Says.started s tk true 0x20 ∧ (tkGet s tk).parcel = some p ∧ tkBme s tk = false) :=
  ⟨⟨20, T0, 7, ((invGet T0 7).get (by decide +kernel)), by decide +kernel⟩,
   ⟨3, T0, 5, ((invGet T0 5).get (by decide +kernel)), by decide +kernel⟩,
   ⟨3, T2, 5, ((invGet T2 5).get (by decide +kernel)), Status.success, 1, 2, by decide +kernel⟩,
   ⟨19, T0, 6, ((invGet T0 6).get (by decide +kernel)), Status.success, 7, 8, by decide +kernel⟩,
   ⟨1, image1, T0, 17, (progInstall T0 17 2 image1).get (by decide +kernel), by unfold Says.started; decide +kernel, by decide +kernel,
      by decide +kernel, by decide +kernel, by decide +kernel, by decide +kernel, by decide +kernel, by decide +kernel, by decide +kernel,
      (Option.some_get (by decide +kernel)).symm, by decide +kernel⟩,
   ⟨{ T0 with host := { T0.host with fns := [] } }, 0, 17, (by unfold Says.started; decide +kernel), by decide +kernel⟩⟩

/-- Cases of O33. Programs and their execution. Part 3. -/
theorem witness_Programs_3 :
    (∃ (s : State) (tk p : Nat) (img : Bytes), Says.started s tk true 0x20 ∧ (tkGet s tk).parcel = some p ∧ tkBme s tk = true ∧
      bitsOf (tkGet s tk).cmd.cdw10 15 0 ≤ 63 ∧ imgLength img = true ∧ imgHeader img = false) ∧
    (∃ (s : State) (tk p : Nat) (img : Bytes), Says.started s tk true 0x20 ∧ (tkGet s tk).parcel = some p ∧ tkBme s tk = true ∧
      bitsOf (tkGet s tk).cmd.cdw10 15 0 ≤ 63 ∧ imgLength img = true ∧ imgHeader img = true ∧ imgOperator img = false ∧
      progActive s p (bitsOf (tkGet s tk).cmd.cdw10 15 0) = true) ∧
    (∃ (s : State) (tk p : Nat) (img : Bytes), Says.started s tk true 0x20 ∧ (tkGet s tk).parcel = some p ∧ tkBme s tk = true ∧
      bitsOf (tkGet s tk).cmd.cdw10 15 0 ≤ 63 ∧ imgLength img = true ∧ imgHeader img = true ∧ imgOperator img = false ∧
      progActive s p (bitsOf (tkGet s tk).cmd.cdw10 15 0) = false ∧ progsFull s p (bitsOf (tkGet s tk).cmd.cdw10 15 0) = true) :=
  ⟨⟨T0, 0, 17, image1.set 1 0, (by unfold Says.started; decide +kernel), by decide +kernel⟩,
   ⟨T0, 0, 17, image1, (by unfold Says.started; decide +kernel), by decide +kernel⟩,
   ⟨fewPrograms, 1, 17, image1, (by unfold Says.started; decide +kernel), by decide +kernel⟩⟩

/-- Cases of O34. Memory ranges and range sets. Part 1. -/
theorem witness_MemoryRanges_1 :
    (∃ (tk : Nat) (rs : List Nat) (s : State) (p : Nat) (k : Nat), (tkGet s tk).busy = true ∧ (tkGet s tk).admin = true ∧
      (tkGet s tk).phase = TkPhase.started ∧ (tkGet s tk).cmd.opc = 34 ∧ tkBme s tk = true ∧ bitsOf (tkGet s tk).cmd.cdw10 3 0 = 0 ∧
      (tkGet s tk).parcel = some p ∧ rs ≠ [] ∧ rs.length ≤ 31 ∧ (∀ (r : Nat), r ∈ rs → (rangeGet s p r).isSome = true) ∧
      tabFree s.cs.sets (p * 16) 16 = some k) ∧
    (∃ (tk : Nat) (s : State) (p : Nat) (rs : List Nat), (tkGet s tk).busy = true ∧ (tkGet s tk).admin = true ∧
      (tkGet s tk).phase = TkPhase.started ∧ (tkGet s tk).cmd.opc = 34 ∧ bitsOf (tkGet s tk).cmd.cdw10 3 0 = 1 ∧
      (tkGet s tk).parcel = some p ∧ bitsOf (tkGet s tk).cmd.cdw10 31 16 < 16 ∧
      tabGet s.cs.sets (p * 16 + bitsOf (tkGet s tk).cmd.cdw10 31 16) = some rs ∧ tabSorted s.cs.sets = true ∧ (∀ (e : Nat × Invoc),
      e ∈ s.cs.invs → e.snd.parcel = p → e.snd.ranges ≠ rs)) ∧
    (∃ (tk : Nat) (s : State) (p : Nat) (r : MRange) (v : State) (d : Bytes),
      octetsIn (rangeClean s p (r.phys + ((tkGet s tk).cmd.cdw10 + (tkGet s tk).cmd.cdw11 * 2 ^ 32)) (tkGet s tk).cmd.cdw12) (r.phys + ((tkGet s tk).cmd.cdw10 + (tkGet s tk).cmd.cdw11 * 2 ^ 32)) (tkGet s tk).cmd.cdw12 0 = (v,
      some d) ∧ (tkGet s tk).busy = true ∧ (tkGet s tk).admin = false ∧ (tkGet s tk).phase = TkPhase.started ∧ (tkGet s tk).cmd.opc = 130 ∧
      (tkGet s tk).begun = false ∧ (tkGet s tk).r2t = false ∧ (tkGet s tk).parcel = some p ∧ rangeGet s p (tkGet s tk).cmd.cdw13 = some r ∧
      (tkGet s tk).cmd.cdw10 + (tkGet s tk).cmd.cdw11 * 2 ^ 32 + (tkGet s tk).cmd.cdw12 ≤ r.len ∧
      (tkGet s tk).cmd.cdw12 ≤ (tkGet s tk).cmd.dlen ∧ tkBme s tk = true) ∧
    (∃ (tk : Nat) (data : Bytes) (s : State) (p : Nat) (r : MRange) (k : Nat), (tkGet s tk).busy = true ∧ (tkGet s tk).admin = false ∧
      (tkGet s tk).phase = TkPhase.started ∧ (tkGet s tk).cmd.opc = 131 ∧ (tkGet s tk).begun = false ∧ (tkGet s tk).r2t = false ∧
      (tkGet s tk).parcel = some p ∧ rangeGet s p (tkGet s tk).cmd.cdw13 = some r ∧
      (tkGet s tk).cmd.cdw10 + (tkGet s tk).cmd.cdw11 * 2 ^ 32 + (tkGet s tk).cmd.cdw12 ≤ r.len ∧ 1 ≤ (tkGet s tk).cmd.cdw12 ∧
      (tkGet s tk).cmd.cdw12 ≤ (tkGet s tk).cmd.dlen ∧ (tkGet s tk).cmd.cdw12 ≤ List.length (hostData (tkGet s tk) data) ∧
      Memory.wf (rangeClean s p (r.phys + ((tkGet s tk).cmd.cdw10 + (tkGet s tk).cmd.cdw11 * 2 ^ 32)) (tkGet s tk).cmd.cdw12).dr.mem = true ∧
      isScratch (r.phys + ((tkGet s tk).cmd.cdw10 + (tkGet s tk).cmd.cdw11 * 2 ^ 32)) = false ∧
      spanClass (rangeClean s p (r.phys + ((tkGet s tk).cmd.cdw10 + (tkGet s tk).cmd.cdw11 * 2 ^ 32)) (tkGet s tk).cmd.cdw12) (r.phys + ((tkGet s tk).cmd.cdw10 + (tkGet s tk).cmd.cdw11 * 2 ^ 32)) (tkGet s tk).cmd.cdw12 = some k ∧
      k ≠ 0) ∧
    (∃ (tk : Nat) (s : State) (p : Nat), (tkGet s tk).busy = true ∧ (tkGet s tk).admin = false ∧ (tkGet s tk).phase = TkPhase.started ∧
      (tkGet s tk).cmd.opc = 130 ∧ (tkGet s tk).begun = false ∧ (tkGet s tk).r2t = false ∧ (tkGet s tk).parcel = some p ∧ (∀ (r : MRange),
      rangeGet s p (tkGet s tk).cmd.cdw13 = some r →
      r.len < (tkGet s tk).cmd.cdw10 + (tkGet s tk).cmd.cdw11 * 2 ^ 32 + (tkGet s tk).cmd.cdw12)) ∧
    (∃ (tk : Nat) (s : State) (p : Nat), (tkGet s tk).busy = true ∧ (tkGet s tk).admin = false ∧ (tkGet s tk).phase = TkPhase.started ∧
      (tkGet s tk).cmd.opc = 131 ∧ (tkGet s tk).begun = false ∧ (tkGet s tk).r2t = false ∧ (tkGet s tk).parcel = some p ∧ (∀ (r : MRange),
      rangeGet s p (tkGet s tk).cmd.cdw13 = some r →
      r.len < (tkGet s tk).cmd.cdw10 + (tkGet s tk).cmd.cdw11 * 2 ^ 32 + (tkGet s tk).cmd.cdw12)) :=
  ⟨⟨8, [1, 2], T0, 17, 272, by decide +kernel⟩,
   ⟨10, T0, 17, [2], by decide +kernel⟩,
   ⟨11, slmState, 17, ((rangeGet slmState 17 (tkGet slmState 11).cmd.cdw13).get (by decide +kernel)),
      (octetsIn (rangeClean slmState 17 ((((rangeGet slmState 17 (tkGet slmState 11).cmd.cdw13).get (by decide +kernel))).phys + ((tkGet slmState 11).cmd.cdw10 + (tkGet slmState 11).cmd.cdw11 * 2 ^ 32)) (tkGet slmState 11).cmd.cdw12) ((((rangeGet slmState 17 (tkGet slmState 11).cmd.cdw13).get (by decide +kernel))).phys + ((tkGet slmState 11).cmd.cdw10 + (tkGet slmState 11).cmd.cdw11 * 2 ^ 32)) (tkGet slmState 11).cmd.cdw12 0).1,
      [], pairOf (by decide +kernel), by decide +kernel⟩,
   ⟨12, (zeros 8), T0, 17, ((rangeGet T0 17 (tkGet T0 12).cmd.cdw13).get (by decide +kernel)), 1, by decide +kernel⟩,
   ⟨17, T0, 17, by decide +kernel⟩,
   ⟨14, T0, 17, by decide +kernel⟩⟩

/-- Cases of O34. Memory ranges and range sets. Part 2. -/
theorem witness_MemoryRanges_2 :
    (∃ (tk : Nat) (s : State) (p : Nat) (n : Ns) (r : MRange) (u : State) (k : Nat),
      (decodeStage (tkMod s tk fun t => { edition := t.edition, busy := t.busy, earlier := t.earlier, r2ts := t.r2ts, parcel := t.parcel, pEdition := t.pEdition, src := t.src, ctrl := t.ctrl, admin := t.admin, cmd := t.cmd, fuse2 := t.fuse2, begun := true, order := t.order, qno := t.qno, through := t.through, ordered := t.ordered, phase := t.phase, released := true, ponr := t.ponr, caught := t.caught, held := t.held, heldData := t.heldData, gran := t.gran, status := t.status, dw0 := t.dw0, dw1 := t.dw1, r2t := t.r2t, pullDue := t.pullDue, got := t.got, xdec := t.xdec, xenc := t.xenc, reads := t.reads, waitProg := t.waitProg, waitTk := t.waitTk }) tk p n = (true,
      u)) ∧ (tkGet s tk).busy = true ∧ (tkGet s tk).admin = false ∧ (tkGet s tk).phase = TkPhase.started ∧
      (tkGet s tk).cmd.opc = copyOpcode ∧ (tkGet s tk).parcel = some p ∧ nsGet s (tkGet s tk).cmd.nsid = some n ∧
      copiesOut (tkGet s tk).cmd = false ∧ rangeGet s p (tkGet s tk).cmd.cdw13 = some r ∧
      (tkGet s tk).cmd.cdw15 + (tkGet s tk).cmd.cdw14 ≤ r.len ∧ copyBlocks (tkGet s tk).cmd * lbaSize n = (tkGet s tk).cmd.cdw14 ∧
      (tkGet s tk).reads ≠ [] ∧ readsDone (tkGet s tk) = true ∧ (((tkGet s tk).reads.any fun x => x.bad) = false) ∧
      Memory.wf (rangeClean u p (r.phys + (tkGet s tk).cmd.cdw15) (tkGet s tk).cmd.cdw14).dr.mem = true ∧
      isScratch (r.phys + (tkGet s tk).cmd.cdw15) = false ∧ gather (tkGet s tk) copyBase (copySpans n (tkGet s tk).cmd) ≠ [] ∧
      spanClass (rangeClean u p (r.phys + (tkGet s tk).cmd.cdw15) (tkGet s tk).cmd.cdw14) (r.phys + (tkGet s tk).cmd.cdw15) (List.length (gather (tkGet s tk) copyBase (copySpans n (tkGet s tk).cmd))) = some k ∧
      k ≠ 0) ∧
    (∃ (s : State) (p : Packet), (p.mctp = true ∨ onTicket s p = true ∧ c1Fields (tkGet s p.id).cmd = true ∧
      (tkGet s p.id).cmd.dok = true) ∧ (List.length s.mg.flights < if fevoum s = true then 4 else 64) ∧ (∀ (e : Nat × Flight),
      e ∈ s.mg.flights → carrier e.snd.p = carrier p → e.snd.p.seq ≠ p.seq) ∧ (∀ (c : CachedReply), c ∈ tabGetD s.mg.caches (carrier p) [] →
      c.op = 1025 → samePacket c.p p = false) ∧ s.ev.powerFail = false ∧ s.pw.halted = false ∧ s.fr.fatal = false ∧
      packetCheck s 1025 p = none ∧ tabSorted s.mg.flights = true ∧ (∀ (e : Nat × Flight), e ∈ s.mg.flights → e.snd.p.parcel = p.parcel →
      e.snd.applied = true) ∧ p.bufOk = true ∧ (p.mctp = true ∨ (fnGet s 0).bme = true) ∧ pAt p 8 1 < 32 ∧ parcelThere s p.parcel = true ∧
      pFlag p 0 = false ∧ (pAt p 16 8 % 4096 ≠ 0 ∨ pAt p 16 8 < 4096 ∨ 2 ^ 31 < pAt p 16 8)) ∧
    (∃ (s : State) (p : Packet) (x : MRange), (p.mctp = true ∨ onTicket s p = true ∧ c1Fields (tkGet s p.id).cmd = true ∧
      (tkGet s p.id).cmd.dok = true) ∧ (List.length s.mg.flights < if fevoum s = true then 4 else 64) ∧ (∀ (e : Nat × Flight),
      e ∈ s.mg.flights → carrier e.snd.p = carrier p → e.snd.p.seq ≠ p.seq) ∧ (∀ (c : CachedReply), c ∈ tabGetD s.mg.caches (carrier p) [] →
      c.op = 1025 → samePacket c.p p = false) ∧ s.ev.powerFail = false ∧ s.pw.halted = false ∧ s.fr.fatal = false ∧
      packetCheck s 1025 p = none ∧ tabSorted s.mg.flights = true ∧ (∀ (e : Nat × Flight), e ∈ s.mg.flights → e.snd.p.parcel = p.parcel →
      e.snd.applied = true) ∧ p.bufOk = true ∧ (p.mctp = true ∨ (fnGet s 0).bme = true) ∧ pAt p 8 1 < 32 ∧ parcelThere s p.parcel = true ∧
      pFlag p 0 = true ∧ rangeGet s p.parcel (pAt p 8 1) = some x ∧ rangeUsed s p.parcel (pAt p 8 1) = false ∧ tabSorted s.cs.ranges = true) ∧
    (∃ (s : State) (p : Packet) (x : MRange), (p.mctp = true ∨ onTicket s p = true ∧ c1Fields (tkGet s p.id).cmd = true ∧
      (tkGet s p.id).cmd.dok = true) ∧ (List.length s.mg.flights < if fevoum s = true then 4 else 64) ∧ (∀ (e : Nat × Flight),
      e ∈ s.mg.flights → carrier e.snd.p = carrier p → e.snd.p.seq ≠ p.seq) ∧ (∀ (c : CachedReply), c ∈ tabGetD s.mg.caches (carrier p) [] →
      c.op = 1025 → samePacket c.p p = false) ∧ s.ev.powerFail = false ∧ s.pw.halted = false ∧ s.fr.fatal = false ∧
      packetCheck s 1025 p = none ∧ tabSorted s.mg.flights = true ∧ (∀ (e : Nat × Flight), e ∈ s.mg.flights → e.snd.p.parcel = p.parcel →
      e.snd.applied = true) ∧ p.bufOk = true ∧ (p.mctp = true ∨ (fnGet s 0).bme = true) ∧ pAt p 8 1 < 32 ∧ parcelThere s p.parcel = true ∧
      pFlag p 0 = true ∧ rangeGet s p.parcel (pAt p 8 1) = some x ∧ rangeUsed s p.parcel (pAt p 8 1) = true) ∧
    (∃ (s : State) (p : Packet) (a : Nat), (p.mctp = true ∨ onTicket s p = true ∧ c1Fields (tkGet s p.id).cmd = true ∧
      (tkGet s p.id).cmd.dok = true) ∧ (List.length s.mg.flights < if fevoum s = true then 4 else 64) ∧ (∀ (e : Nat × Flight),
      e ∈ s.mg.flights → carrier e.snd.p = carrier p → e.snd.p.seq ≠ p.seq) ∧ (∀ (c : CachedReply), c ∈ tabGetD s.mg.caches (carrier p) [] →
      c.op = 1025 → samePacket c.p p = false) ∧ s.ev.powerFail = false ∧ s.pw.halted = false ∧ s.fr.fatal = false ∧
      packetCheck s 1025 p = none ∧ tabSorted s.mg.flights = true ∧ (∀ (e : Nat × Flight), e ∈ s.mg.flights → e.snd.p.parcel = p.parcel →
      e.snd.applied = true) ∧ p.bufOk = true ∧ (p.mctp = true ∨ (fnGet s 0).bme = true) ∧ pAt p 8 1 < 32 ∧ parcelThere s p.parcel = true ∧
      pFlag p 0 = false ∧ pAt p 16 8 % 4096 = 0 ∧ 4096 ≤ pAt p 16 8 ∧ pAt p 16 8 ≤ 2 ^ 31 ∧ rangeGet s p.parcel (pAt p 8 1) = none ∧
      (parcelRanges s p.parcel).length < (parGet s p.parcel).lim.ranges ∧ placeSpan s (rangeClass (pFlag p 1)) (pAt p 16 8) = some a) ∧
    (∃ (s : State) (p : Packet), (p.mctp = true ∨ onTicket s p = true ∧ c1Fields (tkGet s p.id).cmd = true ∧
      (tkGet s p.id).cmd.dok = true) ∧ (List.length s.mg.flights < if fevoum s = true then 4 else 64) ∧ (∀ (e : Nat × Flight),
      e ∈ s.mg.flights → carrier e.snd.p = carrier p → e.snd.p.seq ≠ p.seq) ∧ (∀ (c : CachedReply), c ∈ tabGetD s.mg.caches (carrier p) [] →
      c.op = 1026 → samePacket c.p p = false) ∧ s.ev.powerFail = false ∧ s.pw.halted = false ∧ s.fr.fatal = false ∧
      packetCheck s 1026 p = none ∧ tabSorted s.mg.flights = true ∧ (∀ (e : Nat × Flight), e ∈ s.mg.flights → e.snd.p.parcel = p.parcel →
      e.snd.applied = true) ∧ p.bufOk = true ∧ (p.mctp = true ∨ (fnGet s 0).bme = true) ∧ parcelThere s p.parcel = true ∧ (pAt p 8 4 = 0 ∨
      65536 < pAt p 8 4 ∨ 7 < pAt p 20 1)) :=
  ⟨⟨15, T0, 17, ((nsGet T0 (tkGet T0 15).cmd.nsid).get (by decide +kernel)),
      ((rangeGet T0 17 (tkGet T0 15).cmd.cdw13).get (by decide +kernel)),
      (decodeStage (tkMod T0 15 fun t => { edition := t.edition, busy := t.busy, earlier := t.earlier, r2ts := t.r2ts, parcel := t.parcel, pEdition := t.pEdition, src := t.src, ctrl := t.ctrl, admin := t.admin, cmd := t.cmd, fuse2 := t.fuse2, begun := true, order := t.order, qno := t.qno, through := t.through, ordered := t.ordered, phase := t.phase, released := true, ponr := t.ponr, caught := t.caught, held := t.held, heldData := t.heldData, gran := t.gran, status := t.status, dw0 := t.dw0, dw1 := t.dw1, r2t := t.r2t, pullDue := t.pullDue, got := t.got, xdec := t.xdec, xenc := t.xenc, reads := t.reads, waitProg := t.waitProg, waitTk := t.waitTk }) 15 17 (((nsGet T0 (tkGet T0 15).cmd.nsid).get (by decide +kernel)))).2,
      1, pairOf (by decide +kernel), by decide +kernel⟩,
   ⟨K1, { mctp := true, id := 9, seq := 5, parcel := 17, params := [5, 0, 0, 0, 0, 0, 0, 0, 100] ++ zeros 31 }, by decide +kernel⟩,
   ⟨K9, { mctp := true, id := 9, seq := 5, flags := 1, parcel := 17, params := [2] ++ zeros 39 },
      ((rangeGet K9 ({ mctp := true, id := 9, seq := 5, flags := 1, parcel := 17, params := [2] ++ zeros 39 } : Packet).parcel (pAt ({ mctp := true, id := 9, seq := 5, flags := 1, parcel := 17, params := [2] ++ zeros 39 } : Packet) 8 1)).get (by decide +kernel)),
      by decide +kernel⟩,
   ⟨K7, { mctp := true, id := 9, seq := 5, flags := 1, parcel := 17, params := [1] ++ zeros 39 },
      ((rangeGet K7 ({ mctp := true, id := 9, seq := 5, flags := 1, parcel := 17, params := [1] ++ zeros 39 } : Packet).parcel (pAt ({ mctp := true, id := 9, seq := 5, flags := 1, parcel := 17, params := [1] ++ zeros 39 } : Packet) 8 1)).get (by decide +kernel)),
      by decide +kernel⟩,
   ⟨K2, { mctp := true, id := 9, seq := 5, flags := 2, parcel := 17, params := [5, 0, 0, 0, 0, 0, 0, 0, 0, 32] ++ zeros 30 }, 33554432,
      by decide +kernel⟩,
   ⟨K5, { mctp := true, id := 9, seq := 5, parcel := 17, params := zeros 40 }, by decide +kernel⟩⟩

/-- Cases of O34. Memory ranges and range sets. Part 3. -/
theorem witness_MemoryRanges_3 :
    (∃ (s : State) (p : Packet), (p.mctp = true ∨ onTicket s p = true ∧ c1Fields (tkGet s p.id).cmd = true ∧
      (tkGet s p.id).cmd.dok = true) ∧ (List.length s.mg.flights < if fevoum s = true then 4 else 64) ∧ (∀ (e : Nat × Flight),
      e ∈ s.mg.flights → carrier e.snd.p = carrier p → e.snd.p.seq ≠ p.seq) ∧ (∀ (c : CachedReply), c ∈ tabGetD s.mg.caches (carrier p) [] →
      c.op = 1026 → samePacket c.p p = false) ∧ s.ev.powerFail = false ∧ s.pw.halted = false ∧ s.fr.fatal = false ∧
      packetCheck s 1026 p = none ∧ tabSorted s.mg.flights = true ∧ (∀ (e : Nat × Flight), e ∈ s.mg.flights → e.snd.p.parcel = p.parcel →
      e.snd.applied = true) ∧ p.bufOk = true ∧ (p.mctp = true ∨ (fnGet s 0).bme = true) ∧ parcelThere s p.parcel = true ∧ 1 ≤ pAt p 8 4 ∧
      pAt p 8 4 ≤ 65536 ∧ 1 ≤ pAt p 12 2 ∧ pAt p 12 2 ≤ 16384 ∧ 1 ≤ pAt p 16 4 ∧ pAt p 16 4 ≤ 16777216 ∧ pAt p 20 1 ≤ 7) ∧
    (∃ (s : State) (tk p : Nat) (r : MRange) (v : State) (d : Bytes), Says.fresh s tk 0x82 p ∧
      rangeGet s p (tkGet s tk).cmd.cdw13 = some r ∧
      (tkGet s tk).cmd.cdw10 + (tkGet s tk).cmd.cdw11 * 2 ^ 32 + (tkGet s tk).cmd.cdw12 ≤ r.len ∧
      (tkGet s tk).cmd.cdw12 ≤ (tkGet s tk).cmd.dlen ∧
      octetsIn (rangeClean s p (r.phys + ((tkGet s tk).cmd.cdw10 + (tkGet s tk).cmd.cdw11 * 2 ^ 32)) (tkGet s tk).cmd.cdw12) (r.phys + ((tkGet s tk).cmd.cdw10 + (tkGet s tk).cmd.cdw11 * 2 ^ 32)) (tkGet s tk).cmd.cdw12 0 = (v,
      some d) ∧ tkBme s tk = false) :=
  ⟨⟨K2, { mctp := true, id := 9, seq := 5, parcel := 17, params := [100, 0, 0, 0, 20, 0, 0, 0, 232, 3, 0, 0, 5] ++ zeros 27 },
      by decide +kernel⟩,
   ⟨{ slmState with host := { slmState.host with fns := [] } }, 11, 17, { phys := 0x1000000, len := 0x10000 }, _, [],
      (by unfold Says.fresh Says.started; decide +kernel), by decide +kernel, by decide +kernel, by decide +kernel,
      pairOf (by decide +kernel), by decide +kernel⟩⟩

/-- Cases of O35. Register writes by the manager. -/
theorem witness_RegisterWrites :
    (∃ (a : Nat) (v : Nat), a % 4 = 0 ∧ a < 2097152 ∧ a ≠ FR_DIAG_OVERRUN ∧ a ≠ PW_CLUSTER_RESET ∧ v < 2 ^ 32 ∧ regDesc a = none) ∧
    (∃ (a : Nat) (v : Nat) (d : RegDesc), a % 4 = 0 ∧ a < 2097152 ∧ a ≠ FR_DIAG_OVERRUN ∧ a ≠ PW_CLUSTER_RESET ∧ v < 2 ^ 32 ∧
      regDesc a = some d) ∧
    (∃ (a : Nat) (n : Nat), (¬(n = 4 ∧ a % 4 = 0)) ∧ (¬(n = 8 ∧ a % 8 = 0))) :=
  ⟨⟨192, 4294967295, by decide +kernel⟩,
   ⟨0, 1, ((regDesc 0).get (by decide +kernel)), by decide +kernel⟩,
   ⟨16777536, 7, by decide +kernel⟩⟩

/-- Cases of O36. The frame counter, its mark and overruns. Part 1. -/
theorem witness_FrameClock_1 :
    (∃ (s : State), s.fr.released = false) ∧
    (∃ (s : State), s.fr.released = true) ∧
    (∃ (s : State), regBit s FR_FRAME_MARK 31 = true ∧ frameNo s % 2 ^ max 10 (regFld s FR_FRAME_MARK 4 0) = 0) ∧
    (∃ (s : State), (regBit s FR_FRAME_MARK 31 = false ∨ frameNo s % 2 ^ max 10 (regFld s FR_FRAME_MARK 4 0) ≠ 0)) ∧
    (∃ (v : Nat), bitOf v 31 = true ∧ bitsOf v 2 0 < 5) ∧
    (∃ (v : Nat), (bitOf v 31 = false ∨ 5 ≤ bitsOf v 2 0)) :=
  ⟨⟨live0, by decide +kernel⟩,
   ⟨G0, by decide +kernel⟩,
   ⟨G0, by decide +kernel⟩,
   ⟨G1, by decide +kernel⟩,
   ⟨2147483648, by decide +kernel⟩,
   ⟨5, by decide +kernel⟩⟩

/-- Cases of O36. The frame counter, its mark and overruns. Part 2. -/
theorem witness_FrameClock_2 :
    (∃ (s : State) (c : Nat), c < 5 ∧ s.fr.synth = [c, c]) ∧
    (∃ (s : State) (c : Nat), c < 5 ∧ s.fr.synth = [c]) :=
  ⟨⟨G5, 2, by decide +kernel⟩,
   ⟨G0, 3, by decide +kernel⟩⟩

/-- Cases of O37. Grants, audits, discards and FATAL. Part 1. -/
theorem witness_Ledgers_1 :
    (∃ (s : State), (Option.map (fun x => x.boundary) s.fr.snap ≠ some (frameNo s)) ∧ frameNo s ≠ 0 ∧ frameNo s % 1024 = 0) ∧
    (∃ (s : State), (Option.map (fun x => x.boundary) s.fr.snap ≠ some (frameNo s)) ∧ (frameNo s = 0 ∨ frameNo s % 1024 ≠ 0)) ∧
    (∃ (s : State) (x : AuditSnap), s.fr.snap = some x ∧ x.sum < 32768 ∧ x.tokens.length = 4) ∧
    (∃ (n : Nat) (s : State), n ≤ s.fr.disc) ∧
    (∃ (m : Msg) (s : State), m.line = none ∧ (tkGet s m.ticket).gran ≤ s.fr.tick ∧ (∀ (l : Late), l ∈ (tkGet s m.ticket).earlier →
      l.edition ≠ m.tkEdition) ∧ msgStale s m = true) ∧
    (∃ (m : Msg) (s : State), m.line = none ∧ (tkGet s m.ticket).gran ≤ s.fr.tick ∧ (∀ (l : Late), l ∈ (tkGet s m.ticket).earlier →
      l.edition ≠ m.tkEdition) ∧ msgStale s m = false) :=
  ⟨⟨G0, by decide +kernel⟩,
   ⟨G1, by decide +kernel⟩,
   ⟨G1, ((G1.fr.snap).get (by decide +kernel)), by decide +kernel⟩,
   ⟨7, gTok, by decide +kernel⟩,
   ⟨{ ticket := 21, tkEdition := 4, parcel := 17, pEdition := 6, granules := 2, fabric := true, line := none }, G0, by decide +kernel⟩,
   ⟨{ ticket := 21, tkEdition := 5, parcel := 17, pEdition := 6, granules := 2, fabric := true, line := none }, G1, by decide +kernel⟩⟩

/-- Cases of O37. Grants, audits, discards and FATAL. Part 2. -/
theorem witness_Ledgers_2 :
    (∃ (m : Msg) (s : State) (l : Late), m.line = none ∧ msgStale s m = true ∧ (tkGet s m.ticket).earlier = [l] ∧ l.edition = m.tkEdition ∧
      l.gran ≤ s.fr.tick ∧ m.granules ≤ l.gran) ∧
    (∃ (m : Msg) (s : State) (l : Nat) (u : State), dramLine s (64 * l) (b2n m.fabric) m.ecc = (u, false) ∧ m.line = some l ∧
      spanClass s (64 * l) 64 = some 2 ∧ tagArrived u l m.ecc = tagWord (tagBits m.parcel m.pEdition 1 m.ticket m.tkEdition) ∧
      msgStale u m = false) ∧
    (∃ (s : State), stage s ≠ 5 ∧ tabSorted s.mg.flights = true) :=
  ⟨⟨{ ticket := 22, tkEdition := 4, parcel := 17, pEdition := 6, granules := 2, fabric := false, line := none }, G5,
      { edition := 4, parcel := 17, pEdition := 6, count := 1, gran := 2 }, by decide +kernel⟩,
   ⟨{ ticket := 22, tkEdition := 5, parcel := 17, pEdition := 6, line := some 524289 }, G5, 524289, dramTouch G5 524289 0,
      Laws.dramLine_clean _ _ _ (by decide +kernel), rfl, by decide +kernel,
      by simp only [tagArrived, (Laws.served_dramTouch G5 524289 0).tags]; decide +kernel,
      by rw [(Laws.served_dramTouch G5 524289 0).rest]; decide +kernel⟩,
   ⟨G0, by decide +kernel⟩⟩

/-- Cases of O38. Functions, links and ports. Part 1. -/
theorem witness_HostLinks_1 :
    (∃ (fn : Nat) (v : Nat) (s : State), (fnGet s fn).pba.contains v = true ∧ (fnGet s fn).msixEn = true ∧ (fnGet s fn).fmask = false ∧
      (fnGet s fn).vopen.contains v = true ∧ (fnGet s fn).bme = true) ∧
    (∃ (tk : Nat) (s : State) (fn : Nat) (qid : Nat) (q : Sq) (cq : Cq), (tkGet s tk).busy = true ∧ (tkGet s tk).held = true ∧
      (tkGet s tk).phase = TkPhase.done ∧ s.fr.fatal = false ∧ (tkGet s tk).src = Src.pcie fn qid ∧ (fnGet s fn).bme = true ∧
      tabGet s.cq.sqs (qkey fn qid) = some q ∧ tabGet s.cq.cqs (qkey fn q.cqid) = some cq ∧ cqFull cq = false) ∧
    (∃ (fn : Nat) (s : State), isVf fn = false ∧ tabSorted s.cq.tickets = true ∧ (ctrlGet s fn).cc % 2 = 1) ∧
    (∃ (fn : Nat) (s : State), isVf fn = false ∧ tabSorted s.cq.tickets = true) ∧
    (∃ (fn : Nat) (s : State), (ctrlGet s fn).cc % 2 = 0 ∧ isVf fn = false ∧ adminUp s = false) ∧
    (∃ (fn : Nat) (s : State), (ctrlGet s fn).cc % 2 = 0 ∧ isVf fn = true ∧ boundParcel s fn = none) :=
  ⟨⟨17, 1, H3, by decide +kernel⟩,
   ⟨24, H0, 17, 1, ((tabGet H0.cq.sqs (qkey 17 1)).get (by decide +kernel)),
      ((tabGet H0.cq.cqs (qkey 17 (((tabGet H0.cq.sqs (qkey 17 1)).get (by decide +kernel))).cqid)).get (by decide +kernel)),
      by decide +kernel⟩,
   ⟨0, H0, by decide +kernel⟩,
   ⟨0, H4, by decide +kernel⟩,
   ⟨0, H3, by decide +kernel⟩,
   ⟨28, H0, by decide +kernel⟩⟩

/-- Cases of O38. Functions, links and ports. Part 2. -/
theorem witness_HostLinks_2 :
    (∃ (fn : Nat) (s : State), (ctrlGet s fn).cc % 2 = 0 ∧ isVf fn = false ∧ adminUp s = true) ∧
    (∃ (fn : Nat) (s : State) (p : Nat), (ctrlGet s fn).cc % 2 = 0 ∧ isVf fn = true ∧ boundParcel s fn = some p ∧
      (ctrlGet s fn).rdy = false ∧ (parGet s p).st ≠ PState.active ∧ (parGet s p).st ≠ PState.frozen) ∧
    (∃ (fn : Nat) (s : State) (p : Nat), (ctrlGet s fn).cc % 2 = 0 ∧ isVf fn = true ∧ boundParcel s fn = some p ∧
      (ctrlGet s fn).rdy = false ∧ mediaUp s = true ∧ ((parGet s p).st = PState.active ∨ (parGet s p).st = PState.frozen)) ∧
    (∃ (fn : Nat) (p : Nat) (s : State), isVf fn = true ∧ boundParcel s fn = some p ∧ (parGet s p).st ≠ PState.retiring) ∧
    (∃ (fn : Nat) (p : Nat) (s : State), isVf fn = true ∧ boundParcel s fn = some p ∧ (parGet s p).st ≠ PState.retiring ∧
      (ctrlGet s fn).cc % 2 = 1) ∧
    (∃ (l : Link) (s : State), linkExists s l = true) :=
  ⟨⟨0, H4, by decide +kernel⟩,
   ⟨18, H0, 18, by decide +kernel⟩,
   ⟨17, H4, 17, by decide +kernel⟩,
   ⟨18, 18, H0, by decide +kernel⟩,
   ⟨17, 17, H0, by decide +kernel⟩,
   ⟨Link.a, H0, by decide +kernel⟩⟩

/-- Cases of O38. Functions, links and ports. Part 3. -/
theorem witness_HostLinks_3 :
    (∃ (l : Link) (s : State), linkExists s l = true ∧ tabSorted s.cq.tickets = true) ∧
    (∃ (l : Link) (s : State), linkExists s l = true ∧ (linkGet s l).reset = true) ∧
    (∃ (l : Link) (s : State), linkExists s l = true ∧ (linkGet s l).reset = false ∧ s.pw.rom = RomSt.done) ∧
    (∃ (l : Link) (s : State) (p : Nat) (f : Nat), (linkGet s l).loss = true ∧ (List.map (fun x => x.fst) s.pc.parcels = [p]) ∧
      (parGet s p).vf = some f ∧ fnOn l f = true ∧ (parGet s p).pairs ≠ []) ∧
    (∃ (p : Nat) (s : State), p < portCount s) ∧
    (∃ (p : Nat) (s : State), p < portCount s ∧ regBit s (FX_PORT_STATUS p) 31 = true) :=
  ⟨⟨Link.a, H0, by decide +kernel⟩,
   ⟨Link.a, H1, by decide +kernel⟩,
   ⟨Link.a, H0, by decide +kernel⟩,
   ⟨Link.a, H2, 17, 17, by decide +kernel⟩,
   ⟨0, H0, by decide +kernel⟩,
   ⟨1, H4, by decide +kernel⟩⟩

/-- Cases of O38. Functions, links and ports. Part 4. -/
theorem witness_HostLinks_4 :
    (∃ (p : Nat) (s : State), p < portCount s ∧ s.pw.rom = RomSt.done) ∧
    (∃ (c : Nat) (s : State) (x : Conn), connGet s c = some x ∧ x.tcp = false) ∧
    (∃ (c : Nat) (s : State) (x : Conn), connGet s c = some x ∧ x.tcp = false ∧ (∀ (f : Nat), x.cnp = some f → f + 4 ≤ frameNo s)) ∧
    (∃ (c : Nat) (s : State) (x : Conn) (f : Nat), connGet s c = some x ∧ x.tcp = false ∧ x.cnp = some f ∧ frameNo s < f + 4) ∧
    (∃ (tk : Nat) (s : State), (tkGet s tk).busy = true ∧ (tkGet s tk).admin = true ∧ (tkGet s tk).phase = TkPhase.started ∧
      (tkGet s tk).cmd.opc = 24) ∧
    (∃ (tk : Nat) (s : State), (tkGet s tk).busy = true ∧ (tkGet s tk).admin = true ∧ (tkGet s tk).phase = TkPhase.started ∧
      (tkGet s tk).cmd.opc = 127 ∧ (tkGet s tk).cmd.nsid % 256 = 4 ∧ (¬(tkGet s tk).cmd.cdw11 ∈ [0, 8, 20, 28])) :=
  ⟨⟨0, H0, by decide +kernel⟩,
   ⟨5, H3, ((connGet H3 5).get (by decide +kernel)), by decide +kernel⟩,
   ⟨7, H4, ((connGet H4 7).get (by decide +kernel)), by decide +kernel⟩,
   ⟨5, H3, ((connGet H3 5).get (by decide +kernel)), 2046, by decide +kernel⟩,
   ⟨66, A0', by decide +kernel⟩,
   ⟨63, A1, by decide +kernel⟩⟩

/-- Cases of O38. Functions, links and ports. Part 5. -/
theorem witness_HostLinks_5 :
    (∃ (tk : Nat) (s : State), (tkGet s tk).busy = true ∧ (tkGet s tk).admin = true ∧ (tkGet s tk).phase = TkPhase.started ∧
      (tkGet s tk).cmd.opc = 127 ∧ (tkGet s tk).cmd.nsid % 256 = 4 ∧ (tkGet s tk).cmd.cdw11 = 20) ∧
    (∃ (s : State) (tk c : Nat), Says.admin s tk 0x7F c ∧ (tkGet s tk).cmd.nsid % 256 = 0 ∧ (tkGet s tk).cmd.cdw11 = 0x14 ∧
      (ctrlGet s c).cc % 2 = (tkGet s tk).cmd.cdw12 % 2) ∧
    (∃ (s : State) (tk c : Nat), Says.admin s tk 0x7F c ∧ (tkGet s tk).cmd.nsid % 256 = 0 ∧ (tkGet s tk).cmd.cdw11 = 0x14 ∧
      (ctrlGet s c).cc % 2 ≠ (tkGet s tk).cmd.cdw12 % 2) ∧
    (∃ (s : State) (tk c : Nat), Says.admin s tk 0x7F c ∧ (tkGet s tk).cmd.nsid % 256 = 0 ∧ (tkGet s tk).cmd.cdw11 ≠ 0x14) :=
  ⟨⟨62, A1, by decide +kernel⟩,
   ⟨propState 0x14 0x460000, 64, 1024, (by unfold Says.admin Says.started; decide +kernel), by decide +kernel⟩,
   ⟨propState 0x14 0x460001, 64, 1024, (by unfold Says.admin Says.started; decide +kernel), by decide +kernel⟩,
   ⟨propState 0x18 0, 64, 1024, (by unfold Says.admin Says.started; decide +kernel), by decide +kernel⟩⟩

/-- Cases of O39. Fabric connections. Part 1. -/
theorem witness_Connections_1 :
    (∃ (c : ConnReq) (p : Nat) (k : Nat) (s : State), connGet s c.conn = none ∧ c.subNqn ≠ discoveryNqn ∧
      pairParcel s c.hostNqn c.subNqn = some p ∧ ((parGet s p).st = PState.active ∨ (parGet s p).st = PState.frozen) ∧
      List.length s.host.conns < 8192 ∧ c.qid = 0 ∧ 1 ≤ c.sqsize ∧ c.sqsize ≤ 31 ∧
      (parcelCtrls s p).length < min 4 (parGet s p).lim.controllers ∧ tabFree s.host.ctrls fabricBase 40000 = some k) ∧
    (∃ (c : ConnReq) (s : State), connGet s c.conn = none ∧ c.subNqn ≠ discoveryNqn ∧ pairParcel s c.hostNqn c.subNqn = none) ∧
    (∃ (c : ConnReq) (s : State) (p : Nat), connGet s c.conn = none ∧ c.subNqn ≠ discoveryNqn ∧ pairParcel s c.hostNqn c.subNqn = some p ∧
      ((parGet s p).st = PState.resetting ∨ (parGet s p).st = PState.enabling)) ∧
    (∃ (n : Nat) (c : Capsule) (s : State) (x : Conn), connGet s n = some x ∧ List.length c.data ≤ capsuleLimit x ∧ x.tcp = true ∧
      c.headerOk = true) ∧
    (∃ (n : Nat) (c : Capsule) (s : State) (x : Conn), connGet s n = some x ∧ List.length c.data ≤ capsuleLimit x ∧ x.tcp = false ∧
      0 < x.outstanding) ∧
    (∃ (n : Nat) (c : Capsule) (s : State) (x : Conn), connGet s n = some x ∧ List.length c.data ≤ capsuleLimit x ∧ x.tcp = true ∧
      c.headerOk = false ∧ tabSorted s.host.conns = true) :=
  ⟨⟨{ conn := 9, cid := 4, tcp := false, qid := 0, sqsize := 31, cattr := 0, kato := 5, cntlid := 65535, port := 0, svc := 4420, hostNqn := [1], subNqn := [2] },
      17, 1027, H0, by decide +kernel⟩,
   ⟨{ conn := 10, cid := 4, tcp := true, qid := 0, sqsize := 1, cattr := 0, kato := 0, cntlid := 65535, port := 0, svc := 4420, hostNqn := [9], subNqn := [2] },
      H1, by decide +kernel⟩,
   ⟨{ conn := 10, cid := 4, tcp := true, qid := 1, sqsize := 1, cattr := 0, kato := 0, cntlid := 65535, port := 0, svc := 4420, hostNqn := [3], subNqn := [4] },
      H0, 19, by decide +kernel⟩,
   ⟨4, { sqe := { opc := 2, cid := 1 }, data := [], sglLen := 0, inCapsule := false, headerOk := true, lost := false }, H3,
      ((connGet H3 4).get (by decide +kernel)), by decide +kernel⟩,
   ⟨3, { sqe := { opc := 2, cid := 1 }, data := [], sglLen := 0, inCapsule := false, headerOk := true, lost := false }, H4,
      ((connGet H4 3).get (by decide +kernel)), by decide +kernel⟩,
   ⟨4, { sqe := { opc := 1, cid := 1 }, data := zeros 64, sglLen := 0, inCapsule := false, headerOk := false, lost := false }, H3,
      ((connGet H3 4).get (by decide +kernel)), by decide +kernel⟩⟩

/-- Cases of O39. Fabric connections. Part 2. -/
theorem witness_Connections_2 :
    (∃ (n : Nat) (s : State) (x : Conn), connGet s n = some x ∧ x.tcp = false ∧ 0 < x.repost) ∧
    (∃ (n : Nat) (m : Msg) (s : State), (∀ (i : Nat), (tkGet s i).src = Src.fabric n → (tkGet s i).pullDue = false) ∧ msgStale s m = false ∧
      (tkGet s m.ticket).src = Src.fabric n ∧ (tkGet s m.ticket).r2t = true) ∧
    (∃ (n : Nat) (m : Msg) (s : State), (∀ (i : Nat), (tkGet s i).src = Src.fabric n → (tkGet s i).pullDue = false) ∧ msgStale s m = true) ∧
    (∃ (n : Nat) (tag : Nat) (s : State) (x : Conn), connGet s n = some x ∧ tabSorted s.host.conns = true ∧
      (tkGet s (tag % 16384)).busy = false ∧ (tkGet s (tag % 16384)).r2ts = []) ∧
    (∃ (n : Nat) (tag : Nat) (last : Bool) (d : Bytes) (s : State) (x : Conn), connGet s n = some x ∧ x.tcp = true ∧
      (tkGet s (tag % 16384)).busy = true ∧ (tkGet s (tag % 16384)).r2t = true ∧ (tkGet s (tag % 16384)).src = Src.fabric n ∧
      (tkGet s (tag % 16384)).edition % 4 = tag / 16384 % 4 ∧
      List.length (tkGet s (tag % 16384)).got + List.length d ≤ (tkGet s (tag % 16384)).cmd.dlen ∧ List.length d ≤ 65536 ∧ (last = true →
      List.length (tkGet s (tag % 16384)).got + List.length d = (tkGet s (tag % 16384)).cmd.dlen)) ∧
    (∃ (n : Nat) (s : State) (x : Conn), connGet s n = some x ∧ tabSorted s.host.conns = true ∧ tabSorted s.cq.tickets = true) :=
  ⟨⟨7, H0, ((connGet H0 7).get (by decide +kernel)), by decide +kernel⟩,
   ⟨4, { ticket := 22, tkEdition := 5, parcel := 17, pEdition := 6, granules := 0, fabric := false, line := some 524289 }, H0,
      pullsOf (by decide +kernel), by decide +kernel⟩,
   ⟨256, { ticket := 21, tkEdition := 4, parcel := 17, pEdition := 6, granules := 2, fabric := true, line := none }, H0,
      pullsOf (by decide +kernel), by decide +kernel⟩,
   ⟨4, 99, H3, ((connGet H3 4).get (by decide +kernel)), by decide +kernel⟩,
   ⟨4, 16406, false, [1], H3, ((connGet H3 4).get (by decide +kernel)), by decide +kernel⟩,
   ⟨4, H3, ((connGet H3 4).get (by decide +kernel)), by decide +kernel⟩⟩

/-- Cases of O39. Fabric connections. Part 3. -/
theorem witness_Connections_3 :
    (∃ (s : State), s.host.discChange = true) ∧
    (∃ (s : State), s.host.discChange = false) ∧
    (∃ (n : Nat) (s : State) (x : Conn), connGet s n = some x ∧ ((ctrlGet s x.ctrl).kato = 0 ∨
      frameNo s < (ctrlGet s x.ctrl).lastKa + framesOf s ((ctrlGet s x.ctrl).kato * 1000000))) ∧
    (∃ (n : Nat) (s : State) (x : Conn), connGet s n = some x ∧ (ctrlGet s x.ctrl).kato ≠ 0 ∧
      (ctrlGet s x.ctrl).lastKa + framesOf s ((ctrlGet s x.ctrl).kato * 1000000) ≤ frameNo s ∧ tabSorted s.host.conns = true) :=
  ⟨⟨H0, by decide +kernel⟩,
   ⟨H1, by decide +kernel⟩,
   ⟨4, H3, ((connGet H3 4).get (by decide +kernel)), by decide +kernel⟩,
   ⟨7, H0, ((connGet H0 7).get (by decide +kernel)), by decide +kernel⟩⟩

/-- Cases of O40. Management over MCTP: answers, VPD, tunnels and SPDM. Part 1. -/
theorem witness_Sideband_1 :
    (∃ (a : Nat), (a = 0 ∨ 4 ≤ a)) ∧
    (∃ (a : Nat), 1 ≤ a ∧ a ≤ 3) ∧
    (∃ (s : State) (fn : Nat), isVf fn = false ∧ (fn ≠ compFn ∨ s.host.split = true)) ∧
    (∃ (d : Bytes), List.length d ≤ 1024) ∧
    (∃ (off : Nat) (len : Nat) (s : State), List.length s.host.vpd < off + len) ∧
    (∃ (off : Nat) (len : Nat) (s : State), off + len ≤ List.length s.host.vpd) :=
  ⟨⟨16777536, by decide +kernel⟩,
   ⟨1, by decide +kernel⟩,
   ⟨H0, 512, by decide +kernel⟩,
   ⟨[7], by decide +kernel⟩,
   ⟨30, 4096, H0, by decide +kernel⟩,
   ⟨1, 18, H0, by decide +kernel⟩⟩

/-- Cases of O40. Management over MCTP: answers, VPD, tunnels and SPDM. Part 2. -/
theorem witness_Sideband_2 :
    (∃ (ep : SpdmEp) (s : State), spdmOpen s ep = true) ∧
    (∃ (ep : SpdmEp) (s : State), spdmOpen s ep = true ∧ (spdmGet s ep).version = true) ∧
    (∃ (ep : SpdmEp) (s : State), spdmOpen s ep = true ∧ (spdmGet s ep).version = false) ∧
    (∃ (ep : SpdmEp) (s : State) (a : Nat) (h : Nat), spdmOpen s ep = true ∧ (spdmGet s ep).caps = true ∧ bitOf a 7 = true ∧
      bitOf h 1 = true) ∧
    (∃ (ep : SpdmEp) (s : State), spdmOpen s ep = true ∧ (spdmGet s ep).algs = true) ∧
    (∃ (ep : SpdmEp) (s : State) (op : Nat), spdmOpen s ep = true ∧ (spdmGet s ep).algs = true ∧ (op ≤ 5 ∨ op = 255)) :=
  ⟨⟨(SpdmEp.mctp 9), H0, by decide +kernel⟩,
   ⟨(SpdmEp.mctp 9), H0, by decide +kernel⟩,
   ⟨(SpdmEp.mctp 9), H1, by decide +kernel⟩,
   ⟨(SpdmEp.doe 0), H3, 192, 7, by decide +kernel⟩,
   ⟨(SpdmEp.doe 0), H2, by decide +kernel⟩,
   ⟨(SpdmEp.doe 0), H2, 255, by decide +kernel⟩⟩

/-- Cases of O40. Management over MCTP: answers, VPD, tunnels and SPDM. Part 3. -/
theorem witness_Sideband_3 :
    (∃ (ep : SpdmEp) (s : State), spdmOpen s ep = true ∧ (spdmGet s ep).algs = true ∧ drbgError s = true) ∧
    (∃ (ep : SpdmEp) (s : State), spdmOpen s ep = true ∧ (spdmGet s ep).algs = true ∧ drbgError s = false) ∧
    (∃ (p : MctpPacket) (l : List MctpPacket), mctpMessage (p :: l) = none) ∧
    (∃ (p : MctpPacket) (l : List MctpPacket) (m : Bytes), mctpMessage (p :: l) = some m ∧ leAt m 0 1 = 0 ∧ 3 ≤ m.length) ∧
    (∃ a b : Nat, miValueOk a b = true) ∧
    (∃ (e : Sqe) (i : Nat) (v s : State), tkAlloc s true = (some i, v) ∧ 16128 ≤ s.cq.nextAdm ∧ adminSupported .pf0 e.opc = true ∧
      pointerCheck 0 e none = none) :=
  ⟨⟨(SpdmEp.doe 0), H2, by decide +kernel⟩,
   ⟨(SpdmEp.doe 0), H3, by decide +kernel⟩,
   ⟨{ som := false, eom := true }, [], by decide +kernel⟩,
   ⟨{ som := true, eom := true, seq := 1, data := [0, 0, 1, 0, 0] }, [], [0, 0, 1, 0, 0], by decide +kernel⟩,
   ⟨1, 2, by decide⟩,
   ⟨{ opc := 2, cid := 1, cdw10 := 1 }, 16128, (tkAlloc State.reset true).2, State.reset, Prod.ext (by decide +kernel) rfl,
      by decide +kernel, by decide +kernel, by decide +kernel⟩⟩

/-- Cases of O40. Management over MCTP: answers, VPD, tunnels and SPDM. Part 4. -/
theorem witness_Sideband_4 :
    (∃ (e : Sqe) (i : Nat) (v s : State), tkAlloc s true = (some i, v) ∧ 16128 ≤ s.cq.nextAdm ∧ adminSupported .pf0 e.opc = false) ∧
    (∃ c : Nat, c ≠ 0) :=
  ⟨⟨{ opc := 0x7F, cid := 1 }, 16128, (tkAlloc State.reset true).2, State.reset, Prod.ext (by decide +kernel) rfl, by decide +kernel,
      by decide +kernel⟩,
   ⟨39, by decide⟩⟩

/-- Cases of O41. Doorbells, completions and durability. Part 1. -/
theorem witness_Rings_1 :
    (∃ (fn : Nat) (qid : Nat) (tail : Nat) (s : State) (q : Sq), tabGet s.cq.sqs (qkey fn qid) = some q ∧ tail < q.depth ∧ q.tail < q.depth) ∧
    (∃ (fn : Nat) (qid : Nat) (head : Nat) (s : State) (q : Cq), tabGet s.cq.cqs (qkey fn qid) = some q ∧ head < q.depth) ∧
    (∃ (tk : Nat) (s : State) (fn : Nat) (qid : Nat) (q : Sq) (cq : Cq) (i : Instr), (tkGet s tk).busy = true ∧
      (tkGet s tk).phase = TkPhase.done ∧ s.fr.fatal = false ∧ (tkGet s tk).src = Src.pcie fn qid ∧ tabGet s.cq.sqs (qkey fn qid) = some q ∧
      tabGet s.cq.cqs (qkey fn q.cqid) = some cq ∧ (i = Instr.commandCompletion tk ∨ i = Instr.heldCompletionPost tk) ∧
      (fnGet s fn).bme = false) ∧
    (∃ (tk : Nat) (s : State) (fn : Nat) (qid : Nat) (q : Sq) (cq : Cq) (i : Instr), (tkGet s tk).busy = true ∧
      (tkGet s tk).phase = TkPhase.done ∧ s.fr.fatal = false ∧ (tkGet s tk).src = Src.pcie fn qid ∧ tabGet s.cq.sqs (qkey fn qid) = some q ∧
      tabGet s.cq.cqs (qkey fn q.cqid) = some cq ∧ (i = Instr.commandCompletion tk ∨ i = Instr.heldCompletionPost tk) ∧
      (fnGet s fn).bme = true ∧ cqFull cq = true) ∧
    (∃ (tk : Nat) (s : State) (fn : Nat) (qid : Nat) (q : Sq) (cq : Cq) (i : Instr), (tkGet s tk).busy = true ∧
      (tkGet s tk).phase = TkPhase.done ∧ s.fr.fatal = false ∧ (tkGet s tk).src = Src.pcie fn qid ∧ tabGet s.cq.sqs (qkey fn qid) = some q ∧
      tabGet s.cq.cqs (qkey fn q.cqid) = some cq ∧ (i = Instr.commandCompletion tk ∨ i = Instr.heldCompletionPost tk) ∧
      (fnGet s fn).bme = true ∧ cqFull cq = false) ∧
    (∃ (tk : Nat) (s : State) (c : Nat), (tkGet s tk).busy = true ∧ (tkGet s tk).phase = TkPhase.done ∧ s.fr.fatal = false ∧
      (tkGet s tk).src = Src.fabric c ∧ connGet s c = none) :=
  ⟨⟨17, 0, 27, A0', ((tabGet (A0').cq.sqs (qkey 17 0)).get (by decide +kernel)), by decide +kernel⟩,
   ⟨17, 0, 27, A0', ((tabGet (A0').cq.cqs (qkey 17 0)).get (by decide +kernel)), by decide +kernel⟩,
   ⟨27, Q0, 18, 2, ((tabGet Q0.cq.sqs (qkey 18 2)).get (by decide +kernel)),
      ((tabGet Q0.cq.cqs (qkey 18 (((tabGet Q0.cq.sqs (qkey 18 2)).get (by decide +kernel))).cqid)).get (by decide +kernel)),
      (Instr.commandCompletion 27), by decide +kernel⟩,
   ⟨26, Q0, 17, 2, ((tabGet Q0.cq.sqs (qkey 17 2)).get (by decide +kernel)),
      ((tabGet Q0.cq.cqs (qkey 17 (((tabGet Q0.cq.sqs (qkey 17 2)).get (by decide +kernel))).cqid)).get (by decide +kernel)),
      (Instr.heldCompletionPost 26), by decide +kernel⟩,
   ⟨25, Q0, 17, 1, ((tabGet Q0.cq.sqs (qkey 17 1)).get (by decide +kernel)),
      ((tabGet Q0.cq.cqs (qkey 17 (((tabGet Q0.cq.sqs (qkey 17 1)).get (by decide +kernel))).cqid)).get (by decide +kernel)),
      (Instr.commandCompletion 25), by decide +kernel⟩,
   ⟨23, Q0, 99, by decide +kernel⟩⟩

/-- Cases of O41. Doorbells, completions and durability. Part 2. -/
theorem witness_Rings_2 :
    (∃ (tk : Nat) (s : State) (fn : Nat) (q : Nat), (tkGet s tk).busy = true ∧ (tkGet s tk).phase = TkPhase.waiting ∧
      (tkGet s tk).src = Src.pcie fn q ∧ (hazardBlocked s tk = true ∨ orderBlocked s tk = true)) ∧
    (∃ (tk : Nat) (s : State) (fn : Nat) (q : Nat), (tkGet s tk).busy = true ∧ (tkGet s tk).phase = TkPhase.waiting ∧
      (tkGet s tk).src = Src.pcie fn q ∧ hazardBlocked s tk = false ∧ orderBlocked s tk = false) ∧
    (∃ (s : State) (a : Bool), s.cq.armReq = some a) ∧
    (∃ (s : State) (b : Nat), s.cq.budgetReq = some b ∧ b < 2048) :=
  ⟨⟨18, Q0, 17, 1, by decide +kernel⟩,
   ⟨21, Q0, 17, 1, by decide +kernel⟩,
   ⟨Q0, false, by decide +kernel⟩,
   ⟨Q0, 8, by decide +kernel⟩⟩

/-- Cases of O42. I/O commands. Part 1. -/
theorem witness_IoCommands_1 :
    (∃ (tk : Nat) (s : State) (p : Nat) (n : Ns), (tkGet s tk).busy = true ∧ (tkGet s tk).admin = false ∧
      (tkGet s tk).phase = TkPhase.started ∧ (tkGet s tk).cmd.opc = 2 ∧ (tkGet s tk).parcel = some p ∧
      nsGet s (tkGet s tk).cmd.nsid = some n ∧ (tkGet s tk).waitProg = [] ∧ (tkGet s tk).r2t = false ∧ tkXform s tk = false ∧
      (∀ (f q : Nat), (tkGet s tk).src = Src.pcie f q → (fnGet s f).bme = true) ∧ (tkGet s tk).reads = [] ∧
      1 ≤ (Says.tilesOf s tk n).length ∧ (∀ (x : TileSpan), x ∈ Says.tilesOf s tk n → mapLookup s x.tile = Loc.unmapped ∨
      mapLookup s x.tile = Loc.zero) ∧ (Says.tilesOf s tk n).length ≤ s.fr.pool) ∧
    (∃ (tk : Nat) (s : State) (p : Nat) (n : Ns), (tkGet s tk).busy = true ∧ (tkGet s tk).admin = false ∧
      (tkGet s tk).phase = TkPhase.started ∧ (tkGet s tk).cmd.opc = 2 ∧ (tkGet s tk).parcel = some p ∧
      nsGet s (tkGet s tk).cmd.nsid = some n ∧ (tkGet s tk).waitProg = [] ∧ (tkGet s tk).r2t = false ∧ tkXform s tk = false ∧
      (∀ (f q : Nat), (tkGet s tk).src = Src.pcie f q → (fnGet s f).bme = true) ∧ (tkGet s tk).reads ≠ [] ∧ readsDone (tkGet s tk) = true ∧
      (((tkGet s tk).reads.any fun x => x.bad) = true)) ∧
    (∃ (tk : Nat) (data : Bytes) (s : State) (p : Nat) (n : Ns), (tkGet s tk).busy = true ∧ (tkGet s tk).admin = false ∧
      (tkGet s tk).phase = TkPhase.started ∧ (tkGet s tk).cmd.opc = 1 ∧ (tkGet s tk).parcel = some p ∧
      nsGet s (tkGet s tk).cmd.nsid = some n ∧ (tkGet s tk).waitProg = [] ∧ (tkGet s tk).r2t = false ∧ tkXform s tk = false ∧
      (∀ (f q : Nat), (tkGet s tk).src = Src.pcie f q → (fnGet s f).bme = true) ∧ (tkGet s tk).heldData = none ∧ (tkGet s tk).reads = [] ∧
      transforms n = 0 ∧ tkXform s tk = false ∧ tapFull s ((tkGet s tk).cmd.nsid - 1) = false ∧ tokenOk s p 1 = true ∧ (armed s = true →
      occupancy s + (dataOps n (cmdSlba (tkGet s tk).cmd) (cmdNlb (tkGet s tk).cmd) (hostData (tkGet s tk) data)).length ≤ budgetUnits s) ∧
      List.length s.atl.wbuf + (dataOps n (cmdSlba (tkGet s tk).cmd) (cmdNlb (tkGet s tk).cmd) (hostData (tkGet s tk) data)).length ≤ 262144 ∧
      (∀ (o : TileOp), o ∈ dataOps n (cmdSlba (tkGet s tk).cmd) (cmdNlb (tkGet s tk).cmd) (hostData (tkGet s tk) data) → o.whole = true ∧
      Says.takesWrites s o.tile)) ∧
    (∃ (tk : Nat) (s : State) (p : Nat) (n : Ns) (d : Bytes), (tkGet s tk).busy = true ∧ (tkGet s tk).admin = false ∧
      (tkGet s tk).phase = TkPhase.started ∧ (tkGet s tk).cmd.opc = 1 ∧ (tkGet s tk).parcel = some p ∧
      nsGet s (tkGet s tk).cmd.nsid = some n ∧ (tkGet s tk).waitProg = [] ∧ (tkGet s tk).r2t = false ∧ tkXform s tk = false ∧
      (∀ (f q : Nat), (tkGet s tk).src = Src.pcie f q → (fnGet s f).bme = true) ∧ (tkGet s tk).heldData = some d ∧
      (tkGet s tk).begun = true ∧ (tkGet s tk).reads = [] ∧ transforms n = 0 ∧ tkXform s tk = false ∧
      tapFull s ((tkGet s tk).cmd.nsid - 1) = false ∧ tokenOk s p 1 = true ∧ (armed s = true →
      occupancy s + (dataOps n (cmdSlba (tkGet s tk).cmd) (cmdNlb (tkGet s tk).cmd) d).length ≤ budgetUnits s) ∧
      List.length s.atl.wbuf + (dataOps n (cmdSlba (tkGet s tk).cmd) (cmdNlb (tkGet s tk).cmd) d).length ≤ 262144 ∧ (∀ (o : TileOp),
      o ∈ dataOps n (cmdSlba (tkGet s tk).cmd) (cmdNlb (tkGet s tk).cmd) d → o.whole = true ∧ Says.takesWrites s o.tile)) ∧
    (∃ (tk : Nat) (s : State) (p : Nat) (n : Ns), (tkGet s tk).busy = true ∧ (tkGet s tk).admin = false ∧
      (tkGet s tk).phase = TkPhase.started ∧ (tkGet s tk).cmd.opc = 9 ∧ (tkGet s tk).parcel = some p ∧
      nsGet s (tkGet s tk).cmd.nsid = some n ∧ (tkGet s tk).waitProg = [] ∧ (tkGet s tk).r2t = false ∧ tkXform s tk = false ∧
      (∀ (f q : Nat), (tkGet s tk).src = Src.pcie f q → (fnGet s f).bme = true) ∧ bitOf (tkGet s tk).cmd.cdw11 2 = false) ∧
    (∃ (tk : Nat) (s : State) (p : Nat) (n : Ns), (tkGet s tk).busy = true ∧ (tkGet s tk).admin = false ∧
      (tkGet s tk).phase = TkPhase.started ∧ (tkGet s tk).cmd.opc = 8 ∧ (tkGet s tk).parcel = some p ∧
      nsGet s (tkGet s tk).cmd.nsid = some n ∧ (tkGet s tk).waitProg = [] ∧ (tkGet s tk).r2t = false ∧ tkXform s tk = false ∧
      (∀ (f q : Nat), (tkGet s tk).src = Src.pcie f q → (fnGet s f).bme = true) ∧ (tkGet s tk).reads = [] ∧ transforms n = 0 ∧
      tkXform s tk = false ∧ tapFull s ((tkGet s tk).cmd.nsid - 1) = false ∧ tokenOk s p 1 = true ∧ (armed s = true →
      occupancy s + (zeroOps n (cmdSlba (tkGet s tk).cmd) (cmdNlb (tkGet s tk).cmd) (if bitOf (tkGet s tk).cmd.cdw12 25 = true then wUnmapped else wZero)).length ≤ budgetUnits s) ∧
      (List.length s.atl.wbuf + (zeroOps n (cmdSlba (tkGet s tk).cmd) (cmdNlb (tkGet s tk).cmd) (if bitOf (tkGet s tk).cmd.cdw12 25 = true then wUnmapped else wZero)).length ≤ 262144) ∧
      (∀ (o : TileOp),
      o ∈ zeroOps n (cmdSlba (tkGet s tk).cmd) (cmdNlb (tkGet s tk).cmd) (if bitOf (tkGet s tk).cmd.cdw12 25 = true then wUnmapped else wZero) →
      o.whole = true ∧ Says.takesWrites s o.tile)) :=
  ⟨⟨0, Q0, 17, ((nsGet Q0 (tkGet Q0 0).cmd.nsid).get (by decide +kernel)), by decide +kernel, by decide +kernel, by decide +kernel,
      by decide +kernel, by decide +kernel, by decide +kernel, by decide +kernel, by decide +kernel, by decide +kernel,
      busMasterOf (by decide +kernel), by decide +kernel⟩,
   ⟨4, Q0, 17, ((nsGet Q0 (tkGet Q0 4).cmd.nsid).get (by decide +kernel)), by decide +kernel, by decide +kernel, by decide +kernel,
      by decide +kernel, by decide +kernel, by decide +kernel, by decide +kernel, by decide +kernel, by decide +kernel,
      busMasterOf (by decide +kernel), by decide +kernel⟩,
   ⟨6, [1], Q0, 17, ((nsGet Q0 (tkGet Q0 6).cmd.nsid).get (by decide +kernel)), by decide +kernel, by decide +kernel, by decide +kernel,
      by decide +kernel, by decide +kernel, by decide +kernel, by decide +kernel, by decide +kernel, by decide +kernel,
      busMasterOf (by decide +kernel), by decide +kernel, by decide +kernel, by decide +kernel, by decide +kernel, by decide +kernel,
      by decide +kernel, by decide +kernel, by decide +kernel, (by unfold Says.takesWrites; decide +kernel)⟩,
   ⟨7, Q0, 17, ((nsGet Q0 (tkGet Q0 7).cmd.nsid).get (by decide +kernel)), (((tkGet Q0 7).heldData).get (by decide +kernel)),
      by decide +kernel, by decide +kernel, by decide +kernel, by decide +kernel, by decide +kernel, by decide +kernel, by decide +kernel,
      by decide +kernel, by decide +kernel, busMasterOf (by decide +kernel), by decide +kernel, by decide +kernel, by decide +kernel,
      by decide +kernel, by decide +kernel, by decide +kernel, by decide +kernel, by decide +kernel, by decide +kernel,
      (by unfold Says.takesWrites; decide +kernel)⟩,
   ⟨11, Q2, 17, ((nsGet Q2 (tkGet Q2 11).cmd.nsid).get (by decide +kernel)), by decide +kernel, by decide +kernel, by decide +kernel,
      by decide +kernel, by decide +kernel, by decide +kernel, by decide +kernel, by decide +kernel, by decide +kernel,
      busMasterOf (by decide +kernel), by decide +kernel⟩,
   ⟨8, Q2, 17, ((nsGet Q2 (tkGet Q2 8).cmd.nsid).get (by decide +kernel)), by decide +kernel, by decide +kernel, by decide +kernel,
      by decide +kernel, by decide +kernel, by decide +kernel, by decide +kernel, by decide +kernel, by decide +kernel,
      busMasterOf (by decide +kernel), by decide +kernel, by decide +kernel, by decide +kernel, by decide +kernel, by decide +kernel,
      by decide +kernel, by decide +kernel, (by unfold Says.takesWrites; decide +kernel)⟩⟩

/-- Cases of O42. I/O commands. Part 2. -/
theorem witness_IoCommands_2 :
    (∃ (tk : Nat) (s : State) (p : Nat) (n : Ns), (tkGet s tk).busy = true ∧ (tkGet s tk).admin = false ∧
      (tkGet s tk).phase = TkPhase.started ∧ (tkGet s tk).cmd.opc = 9 ∧ (tkGet s tk).parcel = some p ∧
      nsGet s (tkGet s tk).cmd.nsid = some n ∧ (tkGet s tk).waitProg = [] ∧ (tkGet s tk).r2t = false ∧ tkXform s tk = false ∧
      (∀ (f q : Nat), (tkGet s tk).src = Src.pcie f q → (fnGet s f).bme = true) ∧ bitOf (tkGet s tk).cmd.cdw11 2 = true ∧
      (tkGet s tk).reads = [] ∧ transforms n = 0 ∧ tkXform s tk = false ∧ tapFull s ((tkGet s tk).cmd.nsid - 1) = false ∧
      tokenOk s p 1 = true ∧ (armed s = true → occupancy s + (dsmOps n (dsmRanges (tkGet s tk).cmd)).length ≤ budgetUnits s) ∧
      List.length s.atl.wbuf + (dsmOps n (dsmRanges (tkGet s tk).cmd)).length ≤ 262144 ∧ (∀ (o : TileOp),
      o ∈ dsmOps n (dsmRanges (tkGet s tk).cmd) → o.whole = true ∧ Says.takesWrites s o.tile)) ∧
    (∃ (tk : Nat) (s : State) (p : Nat) (n : Ns), (tkGet s tk).busy = true ∧ (tkGet s tk).admin = false ∧
      (tkGet s tk).phase = TkPhase.started ∧ (tkGet s tk).cmd.opc = 25 ∧ (tkGet s tk).parcel = some p ∧
      nsGet s (tkGet s tk).cmd.nsid = some n ∧ (tkGet s tk).waitProg = [] ∧ (tkGet s tk).r2t = false ∧ tkXform s tk = false ∧
      (∀ (f q : Nat), (tkGet s tk).src = Src.pcie f q → (fnGet s f).bme = true) ∧ (tkGet s tk).heldData = none ∧ (tkGet s tk).reads ≠ [] ∧
      readsDone (tkGet s tk) = true ∧ (((tkGet s tk).reads.any fun x => x.bad) = false) ∧ (transforms n = 0 ∨
      (tkGet s tk).xdec ≠ XStage.idle) ∧
      ((tkGet (heldPut s tk (gather (tkGet s tk) copyBase (List.flatMap (fun r => spans n r.fst r.snd) (copyRanges (tkGet s tk).cmd)))) tk).reads = []) ∧
      transforms n = 0 ∧
      (tkXform (heldPut s tk (gather (tkGet s tk) copyBase (List.flatMap (fun r => spans n r.fst r.snd) (copyRanges (tkGet s tk).cmd)))) tk = false) ∧
      (tapFull (heldPut s tk (gather (tkGet s tk) copyBase (List.flatMap (fun r => spans n r.fst r.snd) (copyRanges (tkGet s tk).cmd)))) ((tkGet (heldPut s tk (gather (tkGet s tk) copyBase (List.flatMap (fun r => spans n r.fst r.snd) (copyRanges (tkGet s tk).cmd)))) tk).cmd.nsid - 1) = false) ∧
      (tokenOk (heldPut s tk (gather (tkGet s tk) copyBase (List.flatMap (fun r => spans n r.fst r.snd) (copyRanges (tkGet s tk).cmd)))) p 1 = true) ∧
      (armed (heldPut s tk (gather (tkGet s tk) copyBase (List.flatMap (fun r => spans n r.fst r.snd) (copyRanges (tkGet s tk).cmd)))) = true →
      occupancy (heldPut s tk (gather (tkGet s tk) copyBase (List.flatMap (fun r => spans n r.fst r.snd) (copyRanges (tkGet s tk).cmd)))) + (dataOps n (cmdSlba (tkGet s tk).cmd) (copyBlocks (tkGet s tk).cmd) (gather (tkGet s tk) copyBase (List.flatMap (fun r => spans n r.fst r.snd) (copyRanges (tkGet s tk).cmd)))).length ≤ budgetUnits (heldPut s tk (gather (tkGet s tk) copyBase (List.flatMap (fun r => spans n r.fst r.snd) (copyRanges (tkGet s tk).cmd))))) ∧
      (List.length (heldPut s tk (gather (tkGet s tk) copyBase (List.flatMap (fun r => spans n r.fst r.snd) (copyRanges (tkGet s tk).cmd)))).atl.wbuf + (dataOps n (cmdSlba (tkGet s tk).cmd) (copyBlocks (tkGet s tk).cmd) (gather (tkGet s tk) copyBase (List.flatMap (fun r => spans n r.fst r.snd) (copyRanges (tkGet s tk).cmd)))).length ≤ 262144) ∧
      (∀ (o : TileOp),
      o ∈ dataOps n (cmdSlba (tkGet s tk).cmd) (copyBlocks (tkGet s tk).cmd) (gather (tkGet s tk) copyBase (List.flatMap (fun r => spans n r.fst r.snd) (copyRanges (tkGet s tk).cmd))) →
      o.whole = true ∧
      Says.takesWrites (heldPut s tk (gather (tkGet s tk) copyBase (List.flatMap (fun r => spans n r.fst r.snd) (copyRanges (tkGet s tk).cmd)))) o.tile)) ∧
    (∃ (tk : Nat) (s : State) (p : Nat), (tkGet s tk).busy = true ∧ (tkGet s tk).admin = false ∧ (tkGet s tk).phase = TkPhase.started ∧
      (tkGet s tk).cmd.opc = 0 ∧ (tkGet s tk).parcel = some p ∧ (∀ (e : Nat × WEnt), e ∈ s.atl.wbuf → flushCovers s tk p e.snd = false) ∧
      flushBlocked s tk p = true) ∧
    (∃ (tk : Nat) (s : State) (p : Nat), (tkGet s tk).busy = true ∧ (tkGet s tk).admin = false ∧ (tkGet s tk).phase = TkPhase.started ∧
      (tkGet s tk).cmd.opc = 0 ∧ (tkGet s tk).parcel = some p ∧ (∀ (e : Nat × WEnt), e ∈ s.atl.wbuf → flushCovers s tk p e.snd = false) ∧
      flushBlocked s tk p = false) ∧
    (∃ (tk : Nat) (s : State) (p : Nat) (n : Ns), (tkGet s tk).busy = true ∧ (tkGet s tk).admin = false ∧
      (tkGet s tk).phase = TkPhase.started ∧ (tkGet s tk).cmd.opc = 5 ∧ (tkGet s tk).parcel = some p ∧
      nsGet s (tkGet s tk).cmd.nsid = some n ∧ (tkGet s tk).waitProg = [] ∧ (tkGet s tk).r2t = false ∧ tkXform s tk = false ∧
      (∀ (f q : Nat), (tkGet s tk).src = Src.pcie f q → (fnGet s f).bme = true) ∧ (tkGet s tk).cmd.fused = 1 ∧
      (tkGet s tk).heldData = none ∧ tabSorted s.cq.tickets = true ∧ fusedMate s tk = none ∧ fusedNext s tk = true) ∧
    (∃ (tk : Nat) (s : State) (p : Nat) (n : Ns) (j : Nat), (tkGet s tk).busy = true ∧ (tkGet s tk).admin = false ∧
      (tkGet s tk).phase = TkPhase.started ∧ (tkGet s tk).cmd.opc = 5 ∧ (tkGet s tk).parcel = some p ∧
      nsGet s (tkGet s tk).cmd.nsid = some n ∧ (tkGet s tk).waitProg = [] ∧ (tkGet s tk).r2t = false ∧ tkXform s tk = false ∧
      (∀ (f q : Nat), (tkGet s tk).src = Src.pcie f q → (fnGet s f).bme = true) ∧ (tkGet s tk).cmd.fused = 1 ∧
      (tkGet s tk).heldData = none ∧ tabSorted s.cq.tickets = true ∧ fusedMate s tk = some j ∧ j ≠ tk ∧
      (cmdSlba (tkGet s j).cmd ≠ cmdSlba (tkGet s tk).cmd ∨ cmdNlb (tkGet s j).cmd ≠ cmdNlb (tkGet s tk).cmd ∨
      (tkGet s j).cmd.nsid ≠ (tkGet s tk).cmd.nsid)) :=
  ⟨⟨10, Q0, 17, ((nsGet Q0 (tkGet Q0 10).cmd.nsid).get (by decide +kernel)), by decide +kernel, by decide +kernel, by decide +kernel,
      by decide +kernel, by decide +kernel, by decide +kernel, by decide +kernel, by decide +kernel, by decide +kernel,
      busMasterOf (by decide +kernel), by decide +kernel, by decide +kernel, by decide +kernel, by decide +kernel, by decide +kernel,
      by decide +kernel, by decide +kernel, by decide +kernel, (by unfold Says.takesWrites; decide +kernel)⟩,
   ⟨12, Q0, 17, ((nsGet Q0 (tkGet Q0 12).cmd.nsid).get (by decide +kernel)), by decide +kernel, by decide +kernel, by decide +kernel,
      by decide +kernel, by decide +kernel, by decide +kernel, by decide +kernel, by decide +kernel, by decide +kernel,
      busMasterOf (by decide +kernel), by decide +kernel, by decide +kernel, by decide +kernel, by decide +kernel, by decide +kernel,
      by decide +kernel, by decide +kernel, by decide +kernel, by decide +kernel, by decide +kernel, by decide +kernel, by decide +kernel,
      (by unfold Says.takesWrites; decide +kernel)⟩,
   ⟨14, Q0, 17, by decide +kernel⟩,
   ⟨13, Q0, 17, by decide +kernel⟩,
   ⟨15, Q0, 17, ((nsGet Q0 (tkGet Q0 15).cmd.nsid).get (by decide +kernel)), by decide +kernel, by decide +kernel, by decide +kernel,
      by decide +kernel, by decide +kernel, by decide +kernel, by decide +kernel, by decide +kernel, by decide +kernel,
      busMasterOf (by decide +kernel), by decide +kernel⟩,
   ⟨19, Q0, 17, ((nsGet Q0 (tkGet Q0 19).cmd.nsid).get (by decide +kernel)), 20, by decide +kernel, by decide +kernel, by decide +kernel,
      by decide +kernel, by decide +kernel, by decide +kernel, by decide +kernel, by decide +kernel, by decide +kernel,
      busMasterOf (by decide +kernel), by decide +kernel⟩⟩

/-- Cases of O42. I/O commands. Part 3. -/
theorem witness_IoCommands_3 :
    (∃ (tk : Nat) (c : Bytes) (s : State) (p : Nat) (n : Ns) (j : Nat), (tkGet s tk).busy = true ∧ (tkGet s tk).admin = false ∧
      (tkGet s tk).phase = TkPhase.started ∧ (tkGet s tk).cmd.opc = 5 ∧ (tkGet s tk).parcel = some p ∧
      nsGet s (tkGet s tk).cmd.nsid = some n ∧ (tkGet s tk).waitProg = [] ∧ (tkGet s tk).r2t = false ∧ tkXform s tk = false ∧
      (∀ (f q : Nat), (tkGet s tk).src = Src.pcie f q → (fnGet s f).bme = true) ∧ (tkGet s tk).cmd.fused = 1 ∧
      (tkGet s tk).heldData = none ∧ tabSorted s.cq.tickets = true ∧ fusedMate s tk = some j ∧ j ≠ tk ∧
      cmdSlba (tkGet s j).cmd = cmdSlba (tkGet s tk).cmd ∧ cmdNlb (tkGet s j).cmd = cmdNlb (tkGet s tk).cmd ∧
      (tkGet s j).cmd.nsid = (tkGet s tk).cmd.nsid ∧ (tkGet s tk).reads ≠ [] ∧ readsDone (tkGet s tk) = true ∧
      (((tkGet s tk).reads.any fun x => x.bad) = false) ∧ (transforms n = 0 ∨ (tkGet s tk).xdec ≠ XStage.idle) ∧
      hostData (tkGet s tk) c ≠ gather (tkGet s tk) 0 (Says.tilesOf s tk n)) ∧
    (∃ (s : State) (tk p : Nat) (n : Ns) (d : Bytes), Says.runs s tk p n 2 ∧ Says.delivered s tk n d) ∧
    (∃ (s : State) (tk p : Nat) (n : Ns) (d : Bytes), Says.runs s tk p n 12 ∧ Says.delivered s tk n d) ∧
    (∃ (s : State) (tk p : Nat) (n : Ns) (d : Bytes), Says.runs s tk p n 5 ∧ Says.delivered s tk n d ∧ (tkGet s tk).cmd.fused = 0 ∧
      (tkGet s tk).fuse2 = none ∧ (tkGet s tk).heldData = none) ∧
    (∃ (s : State) (tk p : Nat) (n : Ns), Says.runs s tk p n 5 ∧ (tkGet s tk).cmd.fused = 1 ∧ (tkGet s tk).heldData = none ∧
      tabSorted s.cq.tickets = true ∧ fusedMate s tk = none ∧ fusedNext s tk = false) :=
  ⟨⟨17, [1], Q0, 17, ((nsGet Q0 (tkGet Q0 17).cmd.nsid).get (by decide +kernel)), 18, by decide +kernel, by decide +kernel, by decide +kernel,
      by decide +kernel, by decide +kernel, by decide +kernel, by decide +kernel, by decide +kernel, by decide +kernel,
      busMasterOf (by decide +kernel), by decide +kernel⟩,
   ⟨plainState, 1, 17, nsA, gather (tkGet plainState 1) 0 (Says.tilesOf plainState 1 nsA),
      (by unfold Says.runs Says.started; exact ⟨by decide +kernel, by decide +kernel, by decide +kernel, by decide +kernel,
      by decide +kernel, by decide +kernel, busMasterOf (by decide +kernel)⟩), ⟨(by unfold Says.allCome; decide +kernel), rfl⟩⟩,
   ⟨plainState, 2, 17, nsA, gather (tkGet plainState 2) 0 (Says.tilesOf plainState 2 nsA),
      (by unfold Says.runs Says.started; exact ⟨by decide +kernel, by decide +kernel, by decide +kernel, by decide +kernel,
      by decide +kernel, by decide +kernel, busMasterOf (by decide +kernel)⟩), ⟨(by unfold Says.allCome; decide +kernel), rfl⟩⟩,
   ⟨plainState, 3, 17, nsA, gather (tkGet plainState 3) 0 (Says.tilesOf plainState 3 nsA),
      (by unfold Says.runs Says.started; exact ⟨by decide +kernel, by decide +kernel, by decide +kernel, by decide +kernel,
      by decide +kernel, by decide +kernel, busMasterOf (by decide +kernel)⟩), ⟨(by unfold Says.allCome; decide +kernel), rfl⟩,
      by decide +kernel⟩,
   ⟨loneFirst, 16, 17, nsA, (by unfold Says.runs Says.started; exact ⟨by decide +kernel, by decide +kernel, by decide +kernel,
      by decide +kernel, by decide +kernel, by decide +kernel, busMasterOf (by decide +kernel)⟩), by decide +kernel⟩⟩

/-- Cases of O43. Admin commands on queues, logs and features. Part 1. -/
theorem witness_AdminCommands_1 :
    (∃ (tk : Nat) (s : State), (tkGet s tk).busy = true ∧ (tkGet s tk).admin = true ∧ (tkGet s tk).phase = TkPhase.started ∧
      (tkGet s tk).cmd.opc = 1 ∧ (bitsOf (tkGet s tk).cmd.cdw10 15 0 = 0 ∨ 64 < bitsOf (tkGet s tk).cmd.cdw10 15 0 ∨
      queueAlloc s (tkGet s tk).ctrl ≤ sqCount s (tkGet s tk).ctrl)) ∧
    (∃ (tk : Nat) (s : State), (tkGet s tk).busy = true ∧ (tkGet s tk).admin = true ∧ (tkGet s tk).phase = TkPhase.started ∧
      (tkGet s tk).cmd.opc = 1 ∧ 1 ≤ bitsOf (tkGet s tk).cmd.cdw10 15 0 ∧ bitsOf (tkGet s tk).cmd.cdw10 15 0 ≤ 64 ∧
      sqCount s (tkGet s tk).ctrl < queueAlloc s (tkGet s tk).ctrl ∧
      tabGet s.cq.sqs (qkey (tkGet s tk).ctrl (bitsOf (tkGet s tk).cmd.cdw10 15 0)) = none ∧ 1 ≤ bitsOf (tkGet s tk).cmd.cdw10 31 16 ∧
      bitsOf (tkGet s tk).cmd.cdw10 31 16 ≤ 4095 ∧ bitsOf (tkGet s tk).cmd.cdw11 31 16 ≠ 0 ∧
      (tabGet s.cq.cqs (qkey (tkGet s tk).ctrl (bitsOf (tkGet s tk).cmd.cdw11 31 16))).isSome = true ∧
      bitOf (tkGet s tk).cmd.cdw11 0 = true) ∧
    (∃ (tk : Nat) (s : State), (tkGet s tk).busy = true ∧ (tkGet s tk).admin = true ∧ (tkGet s tk).phase = TkPhase.started ∧
      (tkGet s tk).cmd.opc = 5 ∧ 1 ≤ bitsOf (tkGet s tk).cmd.cdw10 15 0 ∧ bitsOf (tkGet s tk).cmd.cdw10 15 0 ≤ 64 ∧
      cqCount s (tkGet s tk).ctrl < queueAlloc s (tkGet s tk).ctrl ∧
      tabGet s.cq.cqs (qkey (tkGet s tk).ctrl (bitsOf (tkGet s tk).cmd.cdw10 15 0)) = none ∧ 1 ≤ bitsOf (tkGet s tk).cmd.cdw10 31 16 ∧
      bitsOf (tkGet s tk).cmd.cdw10 31 16 ≤ 4095 ∧ bitOf (tkGet s tk).cmd.cdw11 0 = true ∧ (bitOf (tkGet s tk).cmd.cdw11 1 = false ∨
      bitsOf (tkGet s tk).cmd.cdw11 31 16 ≤ 63)) ∧
    (∃ (tk : Nat) (s : State), (tkGet s tk).busy = true ∧ (tkGet s tk).admin = true ∧ (tkGet s tk).phase = TkPhase.started ∧
      (tkGet s tk).cmd.opc = 5 ∧ 1 ≤ bitsOf (tkGet s tk).cmd.cdw10 15 0 ∧ bitsOf (tkGet s tk).cmd.cdw10 15 0 ≤ 64 ∧
      cqCount s (tkGet s tk).ctrl < queueAlloc s (tkGet s tk).ctrl ∧
      tabGet s.cq.cqs (qkey (tkGet s tk).ctrl (bitsOf (tkGet s tk).cmd.cdw10 15 0)) = none ∧ 1 ≤ bitsOf (tkGet s tk).cmd.cdw10 31 16 ∧
      bitsOf (tkGet s tk).cmd.cdw10 31 16 ≤ 4095 ∧ bitOf (tkGet s tk).cmd.cdw11 0 = true ∧ bitOf (tkGet s tk).cmd.cdw11 1 = true ∧
      63 < bitsOf (tkGet s tk).cmd.cdw11 31 16) ∧
    (∃ (tk : Nat) (s : State) (q : Sq), (tkGet s tk).busy = true ∧ (tkGet s tk).admin = true ∧ (tkGet s tk).phase = TkPhase.started ∧
      (tkGet s tk).cmd.opc = 0 ∧ bitsOf (tkGet s tk).cmd.cdw10 15 0 ≠ 0 ∧
      tabGet s.cq.sqs (qkey (tkGet s tk).ctrl (bitsOf (tkGet s tk).cmd.cdw10 15 0)) = some q ∧
      queueTks s (tkGet s tk).ctrl (bitsOf (tkGet s tk).cmd.cdw10 15 0) = []) ∧
    (∃ (tk : Nat) (s : State) (q : Sq), (tkGet s tk).busy = true ∧ (tkGet s tk).admin = true ∧ (tkGet s tk).phase = TkPhase.started ∧
      (tkGet s tk).cmd.opc = 0 ∧ bitsOf (tkGet s tk).cmd.cdw10 15 0 ≠ 0 ∧
      tabGet s.cq.sqs (qkey (tkGet s tk).ctrl (bitsOf (tkGet s tk).cmd.cdw10 15 0)) = some q ∧
      queueTks s (tkGet s tk).ctrl (bitsOf (tkGet s tk).cmd.cdw10 15 0) = [] ∧ tk ∈ q.deleting ∧ tabSorted s.cq.sqs = true) :=
  ⟨⟨1, A0', by decide +kernel⟩,
   ⟨0, A0', by decide +kernel⟩,
   ⟨3, A0', by decide +kernel⟩,
   ⟨2, A0', by decide +kernel⟩,
   ⟨5, A0', ((tabGet (A0').cq.sqs (qkey (tkGet (A0') 5).ctrl (bitsOf (tkGet (A0') 5).cmd.cdw10 15 0))).get (by decide +kernel)),
      by decide +kernel⟩,
   ⟨6, A0', ((tabGet (A0').cq.sqs (qkey (tkGet (A0') 6).ctrl (bitsOf (tkGet (A0') 6).cmd.cdw10 15 0))).get (by decide +kernel)),
      by decide +kernel⟩⟩

/-- Cases of O43. Admin commands on queues, logs and features. Part 2. -/
theorem witness_AdminCommands_2 :
    (∃ (tk : Nat) (s : State), (tkGet s tk).busy = true ∧ (tkGet s tk).admin = true ∧ (tkGet s tk).phase = TkPhase.started ∧
      (tkGet s tk).cmd.opc = 4 ∧ bitsOf (tkGet s tk).cmd.cdw10 15 0 ≠ 0 ∧
      (tabGet s.cq.cqs (qkey (tkGet s tk).ctrl (bitsOf (tkGet s tk).cmd.cdw10 15 0))).isSome = true ∧ tabSorted s.cq.cqs = true ∧
      (∀ (e : Nat × Sq), e ∈ s.cq.sqs → e.fst / 65536 = (tkGet s tk).ctrl → e.fst % 65536 ≠ 0 →
      e.snd.cqid ≠ bitsOf (tkGet s tk).cmd.cdw10 15 0)) ∧
    (∃ (tk : Nat) (s : State), (tkGet s tk).busy = true ∧ (tkGet s tk).admin = true ∧ (tkGet s tk).phase = TkPhase.started ∧
      (tkGet s tk).cmd.opc = 2 ∧ tkBme s tk = true ∧ bitsOf (tkGet s tk).cmd.cdw10 7 0 = 3) ∧
    (∃ (tk : Nat) (s : State), (tkGet s tk).busy = true ∧ (tkGet s tk).admin = true ∧ (tkGet s tk).phase = TkPhase.started ∧
      (tkGet s tk).cmd.opc = 2 ∧ tkBme s tk = true ∧ bitsOf (tkGet s tk).cmd.cdw10 7 0 = 5) ∧
    (∃ (tk : Nat) (s : State), (tkGet s tk).busy = true ∧ (tkGet s tk).admin = true ∧ (tkGet s tk).phase = TkPhase.started ∧
      (tkGet s tk).cmd.opc = 2 ∧ tkBme s tk = true ∧ bitsOf (tkGet s tk).cmd.cdw10 7 0 = 6 ∧ (tkGet s tk).ctrl = 0) ∧
    (∃ (tk : Nat) (s : State), (tkGet s tk).busy = true ∧ (tkGet s tk).admin = true ∧ (tkGet s tk).phase = TkPhase.started ∧
      (tkGet s tk).cmd.opc = 2 ∧ tkBme s tk = true ∧ bitsOf (tkGet s tk).cmd.cdw10 7 0 = 1) ∧
    (∃ (tk : Nat) (s : State), (tkGet s tk).busy = true ∧ (tkGet s tk).admin = true ∧ (tkGet s tk).phase = TkPhase.started ∧
      (tkGet s tk).cmd.opc = 2 ∧ tkBme s tk = true ∧ bitsOf (tkGet s tk).cmd.cdw10 7 0 = 2) :=
  ⟨⟨7, A1, by decide +kernel⟩,
   ⟨11, A0', by decide +kernel⟩,
   ⟨12, A0', by decide +kernel⟩,
   ⟨13, A0', by decide +kernel⟩,
   ⟨9, A0', by decide +kernel⟩,
   ⟨10, A0', by decide +kernel⟩⟩

/-- Cases of O43. Admin commands on queues, logs and features. Part 3. -/
theorem witness_AdminCommands_3 :
    (∃ (tk : Nat) (s : State) (n : Nat) (c : Conn), (tkGet s tk).busy = true ∧ (tkGet s tk).admin = true ∧
      (tkGet s tk).phase = TkPhase.started ∧ (tkGet s tk).cmd.opc = 2 ∧ tkBme s tk = true ∧ bitsOf (tkGet s tk).cmd.cdw10 7 0 = 112 ∧
      (tkGet s tk).src = Src.fabric n ∧ connGet s n = some c ∧ c.discovery = true) ∧
    (∃ (tk : Nat) (s : State), (tkGet s tk).busy = true ∧ (tkGet s tk).admin = true ∧ (tkGet s tk).phase = TkPhase.started ∧
      (tkGet s tk).cmd.opc = 6 ∧ tkBme s tk = true ∧ bitsOf (tkGet s tk).cmd.cdw10 7 0 = 1) ∧
    (∃ (tk : Nat) (s : State), (tkGet s tk).busy = true ∧ (tkGet s tk).admin = true ∧ (tkGet s tk).phase = TkPhase.started ∧
      (tkGet s tk).cmd.opc = 6 ∧ tkBme s tk = false) ∧
    (∃ (tk : Nat) (s : State), (tkGet s tk).busy = true ∧ (tkGet s tk).admin = true ∧ (tkGet s tk).phase = TkPhase.started ∧
      (tkGet s tk).cmd.opc = 6 ∧ tkBme s tk = true ∧ bitsOf (tkGet s tk).cmd.cdw10 7 0 = 0 ∧ nsGet s (tkGet s tk).cmd.nsid = none) ∧
    (∃ (tk : Nat) (s : State) (n : Ns), (tkGet s tk).busy = true ∧ (tkGet s tk).admin = true ∧ (tkGet s tk).phase = TkPhase.started ∧
      (tkGet s tk).cmd.opc = 6 ∧ tkBme s tk = true ∧ bitsOf (tkGet s tk).cmd.cdw10 7 0 = 0 ∧ nsGet s (tkGet s tk).cmd.nsid = some n ∧
      n.parcel.isSome = true ∧ n.parcel = ctrlParcel s (tkGet s tk).ctrl) ∧
    (∃ (tk : Nat) (s : State), (tkGet s tk).busy = true ∧ (tkGet s tk).admin = true ∧ (tkGet s tk).phase = TkPhase.started ∧
      (tkGet s tk).cmd.opc = 8 ∧ (tkGet s tk).waitTk = [] ∧
      ((tksWhere s fun u => u.admin && u.ctrl == (tkGet s tk).ctrl && u.cmd.opc == 8).length ≤ 8) ∧ (∀ (j : Nat),
      abortTarget s (tkGet s tk).ctrl (bitsOf (tkGet s tk).cmd.cdw10 15 0) (bitsOf (tkGet s tk).cmd.cdw10 31 16) = some j →
      catchable (tkGet s j) = false)) :=
  ⟨⟨14, A0', 6, ((connGet (A0') 6).get (by decide +kernel)), by decide +kernel⟩,
   ⟨15, A0', by decide +kernel⟩,
   ⟨18, A0', by decide +kernel⟩,
   ⟨17, A0', by decide +kernel⟩,
   ⟨16, A0', ((nsGet (A0') (tkGet (A0') 16).cmd.nsid).get (by decide +kernel)), by decide +kernel⟩,
   ⟨20, A0', by decide +kernel⟩⟩

/-- Cases of O43. Admin commands on queues, logs and features. Part 4. -/
theorem witness_AdminCommands_4 :
    (∃ (tk : Nat) (j : Nat) (s : State), (tkGet s tk).busy = true ∧ (tkGet s tk).admin = true ∧ (tkGet s tk).phase = TkPhase.started ∧
      (tkGet s tk).cmd.opc = 8 ∧ (tkGet s tk).waitTk = [] ∧
      ((tksWhere s fun u => u.admin && u.ctrl == (tkGet s tk).ctrl && u.cmd.opc == 8).length ≤ 8) ∧
      abortTarget s (tkGet s tk).ctrl (bitsOf (tkGet s tk).cmd.cdw10 15 0) (bitsOf (tkGet s tk).cmd.cdw10 31 16) = some j ∧ j ≠ tk ∧
      catchable (tkGet s j) = true) ∧
    (∃ (tk : Nat) (s : State), (tkGet s tk).busy = true ∧ (tkGet s tk).admin = true ∧ (tkGet s tk).phase = TkPhase.started ∧
      (tkGet s tk).cmd.opc = 9 ∧ bitsOf (tkGet s tk).cmd.cdw10 7 0 = 7) ∧
    (∃ (tk : Nat) (s : State), (tkGet s tk).busy = true ∧ (tkGet s tk).admin = true ∧ (tkGet s tk).phase = TkPhase.started ∧
      (tkGet s tk).cmd.opc = 9 ∧ bitsOf (tkGet s tk).cmd.cdw10 7 0 = 1) ∧
    (∃ (tk : Nat) (s : State), (tkGet s tk).busy = true ∧ (tkGet s tk).admin = true ∧ (tkGet s tk).phase = TkPhase.started ∧
      (tkGet s tk).cmd.opc = 9 ∧ bitsOf (tkGet s tk).cmd.cdw10 7 0 = 15 ∧ fabricBase ≤ (tkGet s tk).ctrl) ∧
    (∃ (tk : Nat) (s : State), (tkGet s tk).busy = true ∧ (tkGet s tk).admin = true ∧ (tkGet s tk).phase = TkPhase.started ∧
      (tkGet s tk).cmd.opc = 9 ∧ bitsOf (tkGet s tk).cmd.cdw10 7 0 = 8 ∧ isVf (tkGet s tk).ctrl = true) ∧
    (∃ (tk : Nat) (s : State), (tkGet s tk).busy = true ∧ (tkGet s tk).admin = true ∧ (tkGet s tk).phase = TkPhase.started ∧
      (tkGet s tk).cmd.opc = 9 ∧ bitsOf (tkGet s tk).cmd.cdw10 7 0 = 6 ∧ (ctrlGet s (tkGet s tk).ctrl).vwc = false) :=
  ⟨⟨19, 67, A0', by decide +kernel⟩,
   ⟨30, A0', by decide +kernel⟩,
   ⟨22, A0', by decide +kernel⟩,
   ⟨34, A0', by decide +kernel⟩,
   ⟨31, A0', by decide +kernel⟩,
   ⟨29, A0', by decide +kernel⟩⟩

/-- Cases of O43. Admin commands on queues, logs and features. Part 5. -/
theorem witness_AdminCommands_5 :
    (∃ (tk : Nat) (s : State), (tkGet s tk).busy = true ∧ (tkGet s tk).admin = true ∧ (tkGet s tk).phase = TkPhase.started ∧
      (tkGet s tk).cmd.opc = 9 ∧ bitsOf (tkGet s tk).cmd.cdw10 7 0 = 15 ∧ (tkGet s tk).ctrl < fabricBase) ∧
    (∃ (tk : Nat) (s : State), (tkGet s tk).busy = true ∧ (tkGet s tk).admin = true ∧ (tkGet s tk).phase = TkPhase.started ∧
      (tkGet s tk).cmd.opc = 9 ∧ bitsOf (tkGet s tk).cmd.cdw10 7 0 = 11) ∧
    (∃ (tk : Nat) (s : State), (tkGet s tk).busy = true ∧ (tkGet s tk).admin = true ∧ (tkGet s tk).phase = TkPhase.started ∧
      (tkGet s tk).cmd.opc = 9 ∧ bitsOf (tkGet s tk).cmd.cdw10 7 0 = 194 ∧
      (attachedNs s (tkGet s tk).ctrl).contains (tkGet s tk).cmd.nsid = true) ∧
    (∃ (tk : Nat) (s : State), (tkGet s tk).busy = true ∧ (tkGet s tk).admin = true ∧ (tkGet s tk).phase = TkPhase.started ∧
      (tkGet s tk).cmd.opc = 9 ∧ bitsOf (tkGet s tk).cmd.cdw10 7 0 = 2) ∧
    (∃ (tk : Nat) (s : State), (tkGet s tk).busy = true ∧ (tkGet s tk).admin = true ∧ (tkGet s tk).phase = TkPhase.started ∧
      (tkGet s tk).cmd.opc = 9 ∧ bitsOf (tkGet s tk).cmd.cdw10 7 0 = 5) ∧
    (∃ (tk : Nat) (s : State), (tkGet s tk).busy = true ∧ (tkGet s tk).admin = true ∧ (tkGet s tk).phase = TkPhase.started ∧
      (tkGet s tk).cmd.opc = 9 ∧ bitsOf (tkGet s tk).cmd.cdw10 7 0 = 4 ∧ (bitsOf (tkGet s tk).cmd.cdw11 19 16 = 0 ∨
      bitsOf (tkGet s tk).cmd.cdw11 19 16 = 15) ∧ bitsOf (tkGet s tk).cmd.cdw11 21 20 = 1) :=
  ⟨⟨35, A0', by decide +kernel⟩,
   ⟨33, A0', by decide +kernel⟩,
   ⟨37, A0', by decide +kernel⟩,
   ⟨23, A0', by decide +kernel⟩,
   ⟨27, A0', by decide +kernel⟩,
   ⟨26, A0', by decide +kernel⟩⟩

/-- Cases of O43. Admin commands on queues, logs and features. Part 6. -/
theorem witness_AdminCommands_6 :
    (∃ (tk : Nat) (s : State), (tkGet s tk).busy = true ∧ (tkGet s tk).admin = true ∧ (tkGet s tk).phase = TkPhase.started ∧
      (tkGet s tk).cmd.opc = 9 ∧ bitsOf (tkGet s tk).cmd.cdw10 7 0 = 6 ∧ (ctrlGet s (tkGet s tk).ctrl).vwc = true) ∧
    (∃ (tk : Nat) (s : State) (p : Nat), (tkGet s tk).busy = true ∧ (tkGet s tk).admin = true ∧ (tkGet s tk).phase = TkPhase.started ∧
      (tkGet s tk).cmd.opc = 9 ∧ bitsOf (tkGet s tk).cmd.cdw10 7 0 = 193 ∧ (tkGet s tk).parcel = some p) ∧
    (∃ (tk : Nat) (s : State), (tkGet s tk).busy = true ∧ (tkGet s tk).admin = true ∧ (tkGet s tk).phase = TkPhase.started ∧
      (tkGet s tk).cmd.opc = 9 ∧ bitsOf (tkGet s tk).cmd.cdw10 7 0 = 9 ∧ isVf (tkGet s tk).ctrl = true ∧
      bitsOf (tkGet s tk).cmd.cdw11 15 0 ≤ 63) ∧
    (∃ (tk : Nat) (s : State), (tkGet s tk).busy = true ∧ (tkGet s tk).admin = true ∧ (tkGet s tk).phase = TkPhase.started ∧
      (tkGet s tk).cmd.opc = 9 ∧ bitsOf (tkGet s tk).cmd.cdw10 7 0 = 4 ∧ (bitsOf (tkGet s tk).cmd.cdw11 19 16 = 0 ∨
      bitsOf (tkGet s tk).cmd.cdw11 19 16 = 15) ∧ bitsOf (tkGet s tk).cmd.cdw11 21 20 = 0) ∧
    (∃ (tk : Nat) (s : State), (tkGet s tk).busy = true ∧ (tkGet s tk).admin = true ∧ (tkGet s tk).phase = TkPhase.started ∧
      (tkGet s tk).cmd.opc = 10 ∧ bitsOf (tkGet s tk).cmd.cdw10 7 0 = 5) ∧
    (∃ (tk : Nat) (s : State), (tkGet s tk).busy = true ∧ (tkGet s tk).admin = true ∧ (tkGet s tk).phase = TkPhase.started ∧
      (tkGet s tk).cmd.opc = 10 ∧ bitsOf (tkGet s tk).cmd.cdw10 7 0 = 6) :=
  ⟨⟨28, A0', by decide +kernel⟩,
   ⟨36, A0', 17, by decide +kernel⟩,
   ⟨32, A0', by decide +kernel⟩,
   ⟨25, A0', by decide +kernel⟩,
   ⟨39, A0', by decide +kernel⟩,
   ⟨41, A0', by decide +kernel⟩⟩

/-- Cases of O43. Admin commands on queues, logs and features. Part 7. -/
theorem witness_AdminCommands_7 :
    (∃ (tk : Nat) (s : State), (tkGet s tk).busy = true ∧ (tkGet s tk).admin = true ∧ (tkGet s tk).phase = TkPhase.started ∧
      (tkGet s tk).cmd.opc = 10 ∧ featSupported (bitsOf (tkGet s tk).cmd.cdw10 7 0) = false) ∧
    (∃ (tk : Nat) (s : State), (tkGet s tk).busy = true ∧ (tkGet s tk).admin = true ∧ (tkGet s tk).phase = TkPhase.started ∧
      (tkGet s tk).cmd.opc = 10 ∧ bitsOf (tkGet s tk).cmd.cdw10 7 0 = 1) ∧
    (∃ (tk : Nat) (s : State), (tkGet s tk).busy = true ∧ (tkGet s tk).admin = true ∧ (tkGet s tk).phase = TkPhase.started ∧
      (tkGet s tk).cmd.opc = 10 ∧ bitsOf (tkGet s tk).cmd.cdw10 7 0 = 11) ∧
    (∃ (tk : Nat) (s : State), (tkGet s tk).busy = true ∧ (tkGet s tk).admin = true ∧ (tkGet s tk).phase = TkPhase.started ∧
      (tkGet s tk).cmd.opc = 12 ∧ (ctrlGet s (tkGet s tk).ctrl).aers.contains tk = false ∧ 4 ≤ (ctrlGet s (tkGet s tk).ctrl).aers.length) ∧
    (∃ (tk : Nat) (s : State), (tkGet s tk).busy = true ∧ (tkGet s tk).admin = true ∧ (tkGet s tk).phase = TkPhase.started ∧
      (tkGet s tk).cmd.opc = 12 ∧ (ctrlGet s (tkGet s tk).ctrl).aers.contains tk = false ∧ (ctrlGet s (tkGet s tk).ctrl).aers.length < 4 ∧
      (ctrlGet s (tkGet s tk).ctrl).events = []) ∧
    (∃ (tk : Nat) (s : State) (e : Nat) (l : List Nat), (tkGet s tk).busy = true ∧ (tkGet s tk).admin = true ∧
      (tkGet s tk).phase = TkPhase.started ∧ (tkGet s tk).cmd.opc = 12 ∧ (ctrlGet s (tkGet s tk).ctrl).aers.contains tk = false ∧
      (ctrlGet s (tkGet s tk).ctrl).aers.length < 4 ∧ (ctrlGet s (tkGet s tk).ctrl).events = e :: l) :=
  ⟨⟨43, A0', by decide +kernel⟩,
   ⟨38, A0', by decide +kernel⟩,
   ⟨40, A0', by decide +kernel⟩,
   ⟨45, A0', by decide +kernel⟩,
   ⟨44, A0', by decide +kernel⟩,
   ⟨46, A0', 65793, [], by decide +kernel⟩⟩

/-- Cases of O44. Namespaces, formats, self-tests and firmware commands. Part 1. -/
theorem witness_Namespaces_1 :
    (∃ (tk : Nat) (z : Nat) (f : Nat) (k : Nat) (s : State), (tkGet s tk).busy = true ∧ (tkGet s tk).admin = true ∧
      (tkGet s tk).phase = TkPhase.started ∧ (tkGet s tk).cmd.opc = 13 ∧ tkBme s tk = true ∧ bitsOf (tkGet s tk).cmd.cdw10 3 0 = 0 ∧
      tabFree s.atl.nss 0 4096 = some k ∧ z ≠ 0 ∧ f ≤ 1 ∧ (((if f = 0 then (z + 7) / 8 else z) + quadTiles - 1) / quadTiles ≤ quadsLeft s)) ∧
    (∃ (tk : Nat) (s : State) (n : Ns), (tkGet s tk).busy = true ∧ (tkGet s tk).admin = true ∧ (tkGet s tk).phase = TkPhase.started ∧
      (tkGet s tk).cmd.opc = 13 ∧ bitsOf (tkGet s tk).cmd.cdw10 3 0 = 1 ∧ (tkGet s tk).cmd.nsid ≠ 4294967295 ∧
      nsGet s (tkGet s tk).cmd.nsid = some n ∧ (∀ (p : Nat), n.parcel = some p → parcelBusy s p = false)) ∧
    (∃ (id : Nat) (s : State) (n : Ns), s.atl.deleted.contains id = true ∧ nsGet s id = some n ∧ tabSorted s.atl.nss = true ∧
      tabSorted s.atl.dir = true) ∧
    (∃ (tk : Nat) (cs : List Nat) (p : Nat) (n : Ns) (s : State), (tkGet s tk).busy = true ∧ (tkGet s tk).admin = true ∧
      (tkGet s tk).phase = TkPhase.started ∧ (tkGet s tk).cmd.opc = 21 ∧ tkBme s tk = true ∧ listParcel s cs = some p ∧
      parcelBusy s p = false ∧ nsGet s (tkGet s tk).cmd.nsid = some n ∧ bitsOf (tkGet s tk).cmd.cdw10 3 0 = 1 ∧ n.parcel = some p ∧
      (parGet s p).st = PState.active) ∧
    (∃ (tk : Nat) (cs : List Nat) (p : Nat) (n : Ns) (s : State), (tkGet s tk).busy = true ∧ (tkGet s tk).admin = true ∧
      (tkGet s tk).phase = TkPhase.started ∧ (tkGet s tk).cmd.opc = 21 ∧ tkBme s tk = true ∧ listParcel s cs = some p ∧
      parcelBusy s p = false ∧ nsGet s (tkGet s tk).cmd.nsid = some n ∧ bitsOf (tkGet s tk).cmd.cdw10 3 0 = 0 ∧ n.parcel.isSome = true) ∧
    (∃ (tk : Nat) (cs : List Nat) (p : Nat) (n : Ns) (s : State), (tkGet s tk).busy = true ∧ (tkGet s tk).admin = true ∧
      (tkGet s tk).phase = TkPhase.started ∧ (tkGet s tk).cmd.opc = 21 ∧ tkBme s tk = true ∧ listParcel s cs = some p ∧
      parcelBusy s p = false ∧ nsGet s (tkGet s tk).cmd.nsid = some n ∧ bitsOf (tkGet s tk).cmd.cdw10 3 0 = 1 ∧ n.parcel ≠ some p) :=
  ⟨⟨47, 1, 0, 0, A0', by decide +kernel⟩,
   ⟨48, A0', ((nsGet (A0') (tkGet (A0') 48).cmd.nsid).get (by decide +kernel)), by decide +kernel⟩,
   ⟨3, A1, ((nsGet A1 3).get (by decide +kernel)), by decide +kernel⟩,
   ⟨51, [17], 17, ((nsGet A1 (tkGet A1 51).cmd.nsid).get (by decide +kernel)), A1, by decide +kernel⟩,
   ⟨50, [17], 17, ((nsGet (A0') (tkGet (A0') 50).cmd.nsid).get (by decide +kernel)), A0', by decide +kernel⟩,
   ⟨52, [18], 18, ((nsGet (A0') (tkGet (A0') 52).cmd.nsid).get (by decide +kernel)), A0', by decide +kernel⟩⟩

/-- Cases of O44. Namespaces, formats, self-tests and firmware commands. Part 2. -/
theorem witness_Namespaces_2 :
    (∃ (tk : Nat) (cs : List Nat) (p : Nat) (n : Ns) (s : State), (tkGet s tk).busy = true ∧ (tkGet s tk).admin = true ∧
      (tkGet s tk).phase = TkPhase.started ∧ (tkGet s tk).cmd.opc = 21 ∧ tkBme s tk = true ∧ listParcel s cs = some p ∧
      parcelBusy s p = false ∧ nsGet s (tkGet s tk).cmd.nsid = some n ∧ bitsOf (tkGet s tk).cmd.cdw10 3 0 = 0 ∧ n.parcel = none ∧
      ((List.filter (fun e => e.snd.parcel == some p) s.atl.nss).length < min 64 (parGet s p).lim.namespaces)) ∧
    (∃ (tk : Nat) (s : State), (tkGet s tk).busy = true ∧ (tkGet s tk).admin = true ∧ (tkGet s tk).phase = TkPhase.started ∧
      (tkGet s tk).cmd.opc = 20 ∧ bitsOf (tkGet s tk).cmd.cdw10 3 0 = 15) ∧
    (∃ (tk : Nat) (s : State), (tkGet s tk).busy = true ∧ (tkGet s tk).admin = true ∧ (tkGet s tk).phase = TkPhase.started ∧
      (tkGet s tk).cmd.opc = 20 ∧ (bitsOf (tkGet s tk).cmd.cdw10 3 0 = 1 ∨ bitsOf (tkGet s tk).cmd.cdw10 3 0 = 2) ∧
      s.cq.selfTest.isSome = true) ∧
    (∃ (tk : Nat) (s : State), (tkGet s tk).busy = true ∧ (tkGet s tk).admin = true ∧ (tkGet s tk).phase = TkPhase.started ∧
      (tkGet s tk).cmd.opc = 20 ∧ (bitsOf (tkGet s tk).cmd.cdw10 3 0 = 1 ∨ bitsOf (tkGet s tk).cmd.cdw10 3 0 = 2) ∧ s.cq.selfTest = none) ∧
    (∃ (tk : Nat) (p : Nat) (s : State), (tkGet s tk).busy = true ∧ (tkGet s tk).admin = true ∧ (tkGet s tk).phase = TkPhase.started ∧
      (tkGet s tk).cmd.opc = 28 ∧ 1 ≤ bitsOf (tkGet s tk).cmd.cdw10 31 16 ∧ bitsOf (tkGet s tk).cmd.cdw10 31 16 ≤ 255 ∧
      boundParcel s (bitsOf (tkGet s tk).cmd.cdw10 31 16) = some p ∧ parcelBusy s p = false ∧ bitsOf (tkGet s tk).cmd.cdw10 3 0 = 7) ∧
    (∃ (tk : Nat) (p : Nat) (s : State), (tkGet s tk).busy = true ∧ (tkGet s tk).admin = true ∧ (tkGet s tk).phase = TkPhase.started ∧
      (tkGet s tk).cmd.opc = 28 ∧ 1 ≤ bitsOf (tkGet s tk).cmd.cdw10 31 16 ∧ bitsOf (tkGet s tk).cmd.cdw10 31 16 ≤ 255 ∧
      boundParcel s (bitsOf (tkGet s tk).cmd.cdw10 31 16) = some p ∧ parcelBusy s p = true) :=
  ⟨⟨49, [18], 18, ((nsGet (A0') (tkGet (A0') 49).cmd.nsid).get (by decide +kernel)), A0', by decide +kernel⟩,
   ⟨53, A0', by decide +kernel⟩,
   ⟨54, A1, by decide +kernel⟩,
   ⟨54, A0', by decide +kernel⟩,
   ⟨55, 17, A0', by decide +kernel⟩,
   ⟨56, 19, A0', by decide +kernel⟩⟩

/-- Cases of O44. Namespaces, formats, self-tests and firmware commands. Part 3. -/
theorem witness_Namespaces_3 :
    (∃ (tk : Nat) (s : State) (n : Ns) (p : Nat) (k : Nat), (tkGet s tk).busy = true ∧ (tkGet s tk).admin = true ∧
      (tkGet s tk).phase = TkPhase.started ∧ (tkGet s tk).cmd.opc = 128 ∧ nsGet s (tkGet s tk).cmd.nsid = some n ∧
      (tkGet s tk).parcel = some p ∧ n.parcel = some p ∧ (parGet s p).st ≠ PState.frozen ∧
      (bitsOf (tkGet s tk).cmd.cdw10 3 0 = if n.lbads = 9 then 0 else 1) ∧ bitsOf (tkGet s tk).cmd.cdw10 11 9 = 2 ∧ n.media = some k ∧
      KeyReq.renew tk (tkGet s tk).edition (tkGet s tk).cmd.nsid k ∈ s.ks.reqs) ∧
    (∃ (tk : Nat) (s : State) (n : Ns) (p : Nat), (tkGet s tk).busy = true ∧ (tkGet s tk).admin = true ∧
      (tkGet s tk).phase = TkPhase.started ∧ (tkGet s tk).cmd.opc = 128 ∧ nsGet s (tkGet s tk).cmd.nsid = some n ∧
      (tkGet s tk).parcel = some p ∧ n.parcel = some p ∧ (parGet s p).st ≠ PState.frozen ∧
      (bitsOf (tkGet s tk).cmd.cdw10 3 0 = if n.lbads = 9 then 0 else 1) ∧ bitsOf (tkGet s tk).cmd.cdw10 11 9 = 2 ∧ n.media = none) ∧
    (∃ (tk : Nat) (s : State) (n : Ns) (p : Nat), (tkGet s tk).busy = true ∧ (tkGet s tk).admin = true ∧
      (tkGet s tk).phase = TkPhase.started ∧ (tkGet s tk).cmd.opc = 128 ∧ nsGet s (tkGet s tk).cmd.nsid = some n ∧
      (tkGet s tk).parcel = some p ∧ n.parcel = some p ∧ (parGet s p).st ≠ PState.frozen ∧
      (bitsOf (tkGet s tk).cmd.cdw10 3 0 = if n.lbads = 9 then 0 else 1) ∧ bitsOf (tkGet s tk).cmd.cdw10 11 9 = 0) ∧
    (∃ (tk : Nat) (s : State) (n : Ns) (p : Nat) (k : Nat), (tkGet s tk).busy = true ∧ (tkGet s tk).admin = true ∧
      (tkGet s tk).phase = TkPhase.started ∧ (tkGet s tk).cmd.opc = 128 ∧ nsGet s (tkGet s tk).cmd.nsid = some n ∧
      (tkGet s tk).parcel = some p ∧ n.parcel = some p ∧ (parGet s p).st ≠ PState.frozen ∧
      (bitsOf (tkGet s tk).cmd.cdw10 3 0 = if n.lbads = 9 then 0 else 1) ∧ bitsOf (tkGet s tk).cmd.cdw10 11 9 = 2 ∧ n.media = some k ∧
      (¬KeyReq.renew tk (tkGet s tk).edition (tkGet s tk).cmd.nsid k ∈ s.ks.reqs)) ∧
    (∃ (tk : Nat) (s : State), (tkGet s tk).busy = true ∧ (tkGet s tk).admin = true ∧ (tkGet s tk).phase = TkPhase.started ∧
      (tkGet s tk).cmd.opc = 16) ∧
    (∃ (tk : Nat) (s : State), (tkGet s tk).busy = true ∧ (tkGet s tk).admin = true ∧ (tkGet s tk).phase = TkPhase.started ∧
      (tkGet s tk).cmd.opc = 17 ∧ tkBme s tk = true) :=
  ⟨⟨59, A1, ((nsGet A1 (tkGet A1 59).cmd.nsid).get (by decide +kernel)), 17, 4, by decide +kernel⟩,
   ⟨58, A0', ((nsGet (A0') (tkGet (A0') 58).cmd.nsid).get (by decide +kernel)), 17, by decide +kernel⟩,
   ⟨57, A0', ((nsGet (A0') (tkGet (A0') 57).cmd.nsid).get (by decide +kernel)), 17, by decide +kernel⟩,
   ⟨59, A0', ((nsGet (A0') (tkGet (A0') 59).cmd.nsid).get (by decide +kernel)), 17, 4, by decide +kernel⟩,
   ⟨61, A0', by decide +kernel⟩,
   ⟨60, A0', by decide +kernel⟩⟩

/-- Cases of O45. Packets: intake, checks and queries. Part 1. -/
theorem witness_PacketIntake_1 :
    (∃ (s : State) (p : Packet), (p.mctp = true ∨ onTicket s p = true ∧ c1Fields (tkGet s p.id).cmd = true ∧
      (tkGet s p.id).cmd.dok = true) ∧ (List.length s.mg.flights < if fevoum s = true then 4 else 64) ∧ (∀ (e : Nat × Flight),
      e ∈ s.mg.flights → carrier e.snd.p = carrier p → e.snd.p.seq ≠ p.seq) ∧ (∀ (c : CachedReply), c ∈ tabGetD s.mg.caches (carrier p) [] →
      c.op = 257 → samePacket c.p p = false) ∧ s.ev.powerFail = false ∧ s.pw.halted = false ∧ s.fr.fatal = false ∧
      packetCheck s 257 p = none ∧ tabSorted s.mg.flights = true) ∧
    (∃ (s : State) (p : Packet), (p.mctp = true ∨ onTicket s p = true ∧ c1Fields (tkGet s p.id).cmd = true ∧
      (tkGet s p.id).cmd.dok = true) ∧ (List.length s.mg.flights < if fevoum s = true then 4 else 64) ∧ (∀ (e : Nat × Flight),
      e ∈ s.mg.flights → carrier e.snd.p = carrier p → e.snd.p.seq ≠ p.seq) ∧ (∀ (c : CachedReply), c ∈ tabGetD s.mg.caches (carrier p) [] →
      c.op = 265 → samePacket c.p p = false) ∧ s.ev.powerFail = false ∧ s.pw.halted = false ∧ s.fr.fatal = false ∧
      packetCheck s 265 p = none ∧ tabSorted s.mg.flights = true) ∧
    (∃ (s : State) (p : Packet), (p.mctp = true ∨ onTicket s p = true ∧ c1Fields (tkGet s p.id).cmd = true ∧
      (tkGet s p.id).cmd.dok = true) ∧ (List.length s.mg.flights < if fevoum s = true then 4 else 64) ∧ (∀ (e : Nat × Flight),
      e ∈ s.mg.flights → carrier e.snd.p = carrier p → e.snd.p.seq ≠ p.seq) ∧ (∀ (c : CachedReply), c ∈ tabGetD s.mg.caches (carrier p) [] →
      c.op = 264 → samePacket c.p p = false) ∧ s.ev.powerFail = false ∧ s.pw.halted = false ∧ s.fr.fatal = false ∧
      packetCheck s 264 p = none ∧ tabSorted s.mg.flights = true) ∧
    (∃ (s : State) (op : Nat) (p : Packet), opKnown op = false ∧ p.mctp = true ∧
      (List.length s.mg.flights < if fevoum s = true then 4 else 64) ∧ (∀ (e : Nat × Flight), e ∈ s.mg.flights →
      carrier e.snd.p = carrier p → e.snd.p.seq ≠ p.seq) ∧ (∀ (c : CachedReply), c ∈ tabGetD s.mg.caches (carrier p) [] → c.op = op →
      samePacket c.p p = false) ∧ s.ev.powerFail = false ∧ s.pw.halted = false ∧ tabSorted s.mg.flights = true) ∧
    (∃ (s : State), inFlight s < 65536) ∧
    (∃ (s : State) (p : Packet) (st : RStat), p.mctp = true ∧ s.mg.flights = [] ∧ (∀ (c : CachedReply),
      c ∈ tabGetD s.mg.caches (carrier p) [] → c.op = 1799 → samePacket c.p p = false) ∧ s.ev.powerFail = false ∧ s.pw.halted = false ∧
      packetCheck s 1799 p = some st) :=
  ⟨⟨P0, { mctp := true, id := 9, seq := 5, parcel := 21, params := [8, 0, 16, 0, 8, 0, 8, 0, 4, 2, 0, 0, 24] ++ zeros 27 }, by decide +kernel⟩,
   ⟨PH, { mctp := true, id := 9, seq := 5, parcel := 17, params := zeros 40 }, by decide +kernel⟩,
   ⟨PH, { mctp := true, id := 9, seq := 5, parcel := 17, params := zeros 40 }, by decide +kernel⟩,
   ⟨P0, 35, { mctp := true, id := 9, seq := 5, parcel := 28, params := [8, 0, 16, 0, 8, 0, 8, 0, 4, 2, 0, 0, 24] ++ zeros 27 },
      by decide +kernel⟩,
   ⟨(PF 0x101 (pk 16 cre)), by decide +kernel⟩,
   ⟨K0, { mctp := true, id := 9, seq := 5, parcel := 17, params := zeros 40, rsvdZero := false }, RStat.badParameter, by decide +kernel⟩⟩

/-- Cases of O45. Packets: intake, checks and queries. Part 2. -/
theorem witness_PacketIntake_2 :
    (∃ (s : State) (p : Packet), (p.mctp = true ∨ onTicket s p = true ∧ c1Fields (tkGet s p.id).cmd = true ∧
      (tkGet s p.id).cmd.dok = true) ∧ (List.length s.mg.flights < if fevoum s = true then 4 else 64) ∧ (∀ (e : Nat × Flight),
      e ∈ s.mg.flights → carrier e.snd.p = carrier p → e.snd.p.seq ≠ p.seq) ∧ (∀ (c : CachedReply), c ∈ tabGetD s.mg.caches (carrier p) [] →
      c.op = 1030 → samePacket c.p p = false) ∧ s.ev.powerFail = false ∧ s.pw.halted = false ∧ s.fr.fatal = false ∧
      packetCheck s 1030 p = none ∧ tabSorted s.mg.flights = true ∧ (∀ (e : Nat × Flight), e ∈ s.mg.flights → e.snd.p.parcel = p.parcel →
      e.snd.applied = true) ∧ p.bufOk = true ∧ (p.mctp = true ∨ (fnGet s 0).bme = true)) ∧
    (∃ (s : State) (p : Packet), (p.mctp = true ∨ onTicket s p = true ∧ c1Fields (tkGet s p.id).cmd = true ∧
      (tkGet s p.id).cmd.dok = true) ∧ (List.length s.mg.flights < if fevoum s = true then 4 else 64) ∧ (∀ (e : Nat × Flight),
      e ∈ s.mg.flights → carrier e.snd.p = carrier p → e.snd.p.seq ≠ p.seq) ∧ (∀ (c : CachedReply), c ∈ tabGetD s.mg.caches (carrier p) [] →
      c.op = 772 → samePacket c.p p = false) ∧ s.ev.powerFail = false ∧ s.pw.halted = false ∧ s.fr.fatal = false ∧
      packetCheck s 772 p = none ∧ tabSorted s.mg.flights = true ∧ (∀ (e : Nat × Flight), e ∈ s.mg.flights → e.snd.p.parcel = p.parcel →
      e.snd.applied = true) ∧ p.bufOk = true ∧ (p.mctp = true ∨ (fnGet s 0).bme = true)) ∧
    (∃ (s : State) (p : Packet), (p.mctp = true ∨ onTicket s p = true ∧ c1Fields (tkGet s p.id).cmd = true ∧
      (tkGet s p.id).cmd.dok = true) ∧ (List.length s.mg.flights < if fevoum s = true then 4 else 64) ∧ (∀ (e : Nat × Flight),
      e ∈ s.mg.flights → carrier e.snd.p = carrier p → e.snd.p.seq ≠ p.seq) ∧ (∀ (c : CachedReply), c ∈ tabGetD s.mg.caches (carrier p) [] →
      c.op = 270 → samePacket c.p p = false) ∧ s.ev.powerFail = false ∧ s.pw.halted = false ∧ s.fr.fatal = false ∧
      packetCheck s 270 p = none ∧ tabSorted s.mg.flights = true ∧ (∀ (e : Nat × Flight), e ∈ s.mg.flights → e.snd.p.parcel = p.parcel →
      e.snd.applied = true) ∧ p.bufOk = true ∧ (p.mctp = true ∨ (fnGet s 0).bme = true)) ∧
    (∃ (s : State) (p : Packet), (p.mctp = true ∨ onTicket s p = true ∧ c1Fields (tkGet s p.id).cmd = true ∧
      (tkGet s p.id).cmd.dok = true) ∧ (List.length s.mg.flights < if fevoum s = true then 4 else 64) ∧ (∀ (e : Nat × Flight),
      e ∈ s.mg.flights → carrier e.snd.p = carrier p → e.snd.p.seq ≠ p.seq) ∧ (∀ (c : CachedReply), c ∈ tabGetD s.mg.caches (carrier p) [] →
      c.op = 1799 → samePacket c.p p = false) ∧ s.ev.powerFail = false ∧ s.pw.halted = false ∧ s.fr.fatal = false ∧
      packetCheck s 1799 p = none ∧ tabSorted s.mg.flights = true ∧ (∀ (e : Nat × Flight), e ∈ s.mg.flights → e.snd.p.parcel = p.parcel →
      e.snd.applied = true) ∧ p.bufOk = true ∧ (p.mctp = true ∨ (fnGet s 0).bme = true)) :=
  ⟨⟨K5, { mctp := true, id := 9, seq := 5, parcel := 17, params := zeros 40 }, by decide +kernel⟩,
   ⟨K1, { mctp := true, id := 9, seq := 5, parcel := 65535, params := zeros 40 }, by decide +kernel⟩,
   ⟨K5, { mctp := true, id := 9, seq := 5, parcel := 17, params := zeros 40 }, by decide +kernel⟩,
   ⟨K1, { mctp := true, id := 9, seq := 5, parcel := 65535, params := zeros 40 }, by decide +kernel⟩⟩

/-- Cases of O46. Packets that take effect on a parcel. Part 1. -/
theorem witness_ParcelPackets_1 :
    (∃ (n : Nat) (f : Flight) (s : State), flightGet s n = some f ∧ f.applied = false ∧ f.intake < frameNo s ∧
      tabSorted s.mg.flights = true ∧ (∀ (e : Nat × Flight), e ∈ s.mg.flights → e.snd.p.parcel = f.p.parcel → e.fst = n) ∧ (∀ (r : PReq),
      r ∈ (parGet s f.p.parcel).reqs → isCcEn r = false) ∧ f.p.bufOk = true ∧ keyWaits s n = false ∧ s.ev.powerFail = false ∧
      s.fr.fatal = false ∧ replyLive s f.p f.tkEd = true ∧ (f.p.mctp = true ∨ (fnGet s 0).bme = true) ∧ f.op = 257 ∧
      (parGet s f.p.parcel).st = PState.vacant ∧ (∀ (r : MRec), r ∈ s.pc.held → r.parcel ≠ f.p.parcel) ∧ limitsOk f.p = true ∧
      pAt f.p 20 1 < 256 ∧ pairsAllocated s f.p.parcel + pAt f.p 10 2 ≤ 4096) ∧
    (∃ (n : Nat) (f : Flight) (s : State), flightGet s n = some f ∧ f.applied = false ∧ f.intake < frameNo s ∧
      tabSorted s.mg.flights = true ∧ (∀ (e : Nat × Flight), e ∈ s.mg.flights → e.snd.p.parcel = f.p.parcel → e.fst = n) ∧ (∀ (r : PReq),
      r ∈ (parGet s f.p.parcel).reqs → isCcEn r = false) ∧ f.p.bufOk = true ∧ keyWaits s n = false ∧ s.ev.powerFail = false ∧
      s.fr.fatal = false ∧ replyLive s f.p f.tkEd = true ∧ (f.p.mctp = true ∨ (fnGet s 0).bme = true) ∧ f.op = 258 ∧
      (parGet s f.p.parcel).st = PState.active ∧ limitsOk f.p = true ∧
      limitsBelowUse s f.p.parcel (limitsOf f.p (parGet s f.p.parcel).lim) = false ∧ pairsAllocated s f.p.parcel + pAt f.p 10 2 ≤ 4096) ∧
    (∃ (fn : Nat) (n : Nat) (f : Flight) (s : State), flightGet s n = some f ∧ f.applied = false ∧ f.intake < frameNo s ∧
      tabSorted s.mg.flights = true ∧ (∀ (e : Nat × Flight), e ∈ s.mg.flights → e.snd.p.parcel = f.p.parcel → e.fst = n) ∧ (∀ (r : PReq),
      r ∈ (parGet s f.p.parcel).reqs → isCcEn r = false) ∧ f.p.bufOk = true ∧ keyWaits s n = false ∧ s.ev.powerFail = false ∧
      s.fr.fatal = false ∧ replyLive s f.p f.tkEd = true ∧ (f.p.mctp = true ∨ (fnGet s 0).bme = true) ∧ f.op = 260 ∧
      (parGet s f.p.parcel).st = PState.provisioned ∧ (parGet s f.p.parcel).vf = some fn) ∧
    (∃ (n : Nat) (f : Flight) (s : State), flightGet s n = some f ∧ f.applied = false ∧ f.intake < frameNo s ∧
      tabSorted s.mg.flights = true ∧ (∀ (e : Nat × Flight), e ∈ s.mg.flights → e.snd.p.parcel = f.p.parcel → e.fst = n) ∧ (∀ (r : PReq),
      r ∈ (parGet s f.p.parcel).reqs → isCcEn r = false) ∧ f.p.bufOk = true ∧ keyWaits s n = false ∧ s.ev.powerFail = false ∧
      s.fr.fatal = false ∧ replyLive s f.p f.tkEd = true ∧ (f.p.mctp = true ∨ (fnGet s 0).bme = true) ∧ f.op = 266 ∧
      (parGet s f.p.parcel).st = PState.frozen ∧ parcelSaving s f.p.parcel = false ∧ (parGet s f.p.parcel).freezeW = Waiter.none) ∧
    (∃ (n : Nat) (f : Flight) (s : State), flightGet s n = some f ∧ f.applied = false ∧ f.intake < frameNo s ∧
      tabSorted s.mg.flights = true ∧ (∀ (e : Nat × Flight), e ∈ s.mg.flights → e.snd.p.parcel = f.p.parcel → e.fst = n) ∧ (∀ (r : PReq),
      r ∈ (parGet s f.p.parcel).reqs → isCcEn r = false) ∧ f.p.bufOk = true ∧ keyWaits s n = false ∧ s.ev.powerFail = false ∧
      s.fr.fatal = false ∧ replyLive s f.p f.tkEd = true ∧ (f.p.mctp = true ∨ (fnGet s 0).bme = true) ∧
      tabGet s.pc.saves f.p.parcel = none ∧ f.op = 267 ∧ (parGet s f.p.parcel).st = PState.frozen ∧ (parGet s f.p.parcel).drained = true ∧
      migrationKey s (pAt f.p 10 2) = true ∧ drbgError s = false) ∧
    (∃ (n : Nat) (f : Flight) (s : State), flightGet s n = some f ∧ f.applied = false ∧ f.intake < frameNo s ∧
      tabSorted s.mg.flights = true ∧ (∀ (e : Nat × Flight), e ∈ s.mg.flights → e.snd.p.parcel = f.p.parcel → e.fst = n) ∧ (∀ (r : PReq),
      r ∈ (parGet s f.p.parcel).reqs → isCcEn r = false) ∧ f.p.bufOk = true ∧ keyWaits s n = false ∧ s.ev.powerFail = false ∧
      s.fr.fatal = false ∧ replyLive s f.p f.tkEd = true ∧ (f.p.mctp = true ∨ (fnGet s 0).bme = true) ∧
      tabGet s.pc.saves f.p.parcel = none ∧ f.op = 268) :=
  ⟨⟨1, ((flightGet PM 1).get (by decide +kernel)), PM, by decide +kernel⟩,
   ⟨1, ((flightGet ((PF 0x102 (pk 17 cre))) 1).get (by decide +kernel)), (PF 0x102 (pk 17 cre)), by decide +kernel⟩,
   ⟨28, 1, ((flightGet ((PF 0x104 (pk 28 []))) 1).get (by decide +kernel)), (PF 0x104 (pk 28 [])), by decide +kernel⟩,
   ⟨1, ((flightGet ((PF 0x10A (pk 21 []))) 1).get (by decide +kernel)), (PF 0x10A (pk 21 [])), by decide +kernel⟩,
   ⟨1, ((flightGet ((PF 0x10B { pk 21 [0, 0, 7, 0] with bufLen := 4096 })) 1).get (by decide +kernel)),
      (PF 0x10B { pk 21 [0, 0, 7, 0] with bufLen := 4096 }), by decide +kernel⟩,
   ⟨1,
      ((flightGet ((PF 0x10C (withBuf (pk 16 [7, 0]) (zeros 4352 ++ [1, 0] ++ zeros 6 ++ leBytes 8 80 ++ zeros 64)))) 1).get (by decide +kernel)),
      (PF 0x10C (withBuf (pk 16 [7, 0]) (zeros 4352 ++ [1, 0] ++ zeros 6 ++ leBytes 8 80 ++ zeros 64))), by decide +kernel⟩⟩

/-- Cases of O46. Packets that take effect on a parcel. Part 2. -/
theorem witness_ParcelPackets_2 :
    (∃ (fn : Nat) (k n : Nat) (f : Flight) (s : State), Says.due s k n f ∧ f.op = 0x103 ∧ (parGet s k).st = .provisioned ∧
      (parGet s k).vf = none ∧ packetVf s f.p = some fn ∧ boundParcel s fn = none) ∧
    (∃ (h q : Bytes) (k n : Nat) (f : Flight) (s : State), Says.due s k n f ∧ f.op = 0x105 ∧ (parGet s k).st = .provisioned ∧
      f.p.bufLen = 512 ∧ nqnField (slice f.p.buf 0 256) = some h ∧ nqnField (slice f.p.buf 256 256) = some q ∧ bitOf f.p.flags 0 = false ∧
      pairParcel s h q = none ∧ (parGet s k).pairs.contains (h, q) = false) ∧
    (∃ (h q : Bytes) (j : Nat) (k n : Nat) (f : Flight) (s : State), Says.due s k n f ∧ f.op = 0x105 ∧ (parGet s k).st = .provisioned ∧
      f.p.bufLen = 512 ∧ nqnField (slice f.p.buf 0 256) = some h ∧ nqnField (slice f.p.buf 256 256) = some q ∧ bitOf f.p.flags 0 = false ∧
      pairParcel s h q = some j ∧ (parGet s k).pairs.contains (h, q) = false) ∧
    (∃ (v : Ns) (k n : Nat) (f : Flight) (s : State), Says.due s k n f ∧ f.op = 0x106 ∧ (parGet s k).st = .active ∧
      nsGet s (pAt f.p 8 4) = some v ∧ v.parcel = none ∧ bitOf f.p.flags 0 = false ∧
      (parcelNss s k).length < min 64 (parGet s k).lim.namespaces) ∧
    (∃ (k n : Nat) (f : Flight) (s : State), Says.due s k n f ∧ f.op = 0x107 ∧ (parGet s k).st = .provisioned ∧
      attached (parGet s k) = true) ∧
    (∃ (k n : Nat) (f : Flight) (s : State), Says.due s k n f ∧ f.op = 0x107 ∧ (parGet s k).st = .provisioned ∧
      attached (parGet s k) = false) :=
  ⟨⟨30, 20, 1, flt 0x103 (pk 20 [30, 0, 0]), PF 0x103 (pk 20 [30, 0, 0]), by unfold Says.due Says.canReply; decide +kernel, by decide +kernel⟩,
   ⟨[7], [8], 20, 1, flt 0x105 (withBuf (pk 20 []) (nq 7 ++ nq 8)), PF 0x105 (withBuf (pk 20 []) (nq 7 ++ nq 8)),
      by unfold Says.due Says.canReply; decide +kernel, by decide +kernel⟩,
   ⟨[1], [2], 17, 20, 1, flt 0x105 (withBuf (pk 20 []) (nq 1 ++ nq 2)), PF 0x105 (withBuf (pk 20 []) (nq 1 ++ nq 2)),
      by unfold Says.due Says.canReply; decide +kernel, by decide +kernel⟩,
   ⟨nsC, 17, 1, flt 0x106 (pk 17 (leBytes 4 5)), PF 0x106 (pk 17 (leBytes 4 5)), by unfold Says.due Says.canReply; decide +kernel,
      by decide +kernel⟩,
   ⟨28, 1, flt 0x107 (pk 28 []), PF 0x107 (pk 28 []), by unfold Says.due Says.canReply; decide +kernel, by decide +kernel⟩,
   ⟨20, 1, flt 0x107 (pk 20 []), PF 0x107 (pk 20 []), by unfold Says.due Says.canReply; decide +kernel, by decide +kernel⟩⟩

/-- Cases of O46. Packets that take effect on a parcel. Part 3. -/
theorem witness_ParcelPackets_3 :
    (∃ (k n : Nat) (f : Flight) (s : State), Says.due s k n f ∧ f.op = 0x107 ∧ (parGet s k).st = .resetting) ∧
    (∃ (k n : Nat) (f : Flight) (s : State), Says.due s k n f ∧ f.op = 0x107 ∧ (parGet s k).st = .vacant) ∧
    (∃ (s : State) (k n : Nat) (f : Flight), Says.due s k n f ∧ f.op = 0x10A ∧ (parGet s k).st = .frozen ∧ parcelSaving s k = true) ∧
    (∃ (k n : Nat) (f : Flight) (s : State), Says.due s k n f ∧ f.op = 0x10F ∧ k < 1024 ∧ (parGet s k).st = .active ∧ ∀ c, c < 4 →
      pAt f.p (12 + 8 * c) 4 < 2 ^ 24 ∧ pAt f.p (16 + 8 * c) 4 < 2 ^ 24) :=
  ⟨⟨19, 1, flt 0x107 (pk 19 []), PF 0x107 (pk 19 []), by unfold Says.due Says.canReply; decide +kernel, by decide +kernel⟩,
   ⟨16, 1, flt 0x107 (pk 16 []), PF 0x107 (pk 16 []), by unfold Says.due Says.canReply; decide +kernel, by decide +kernel⟩,
   ⟨saveP 21 0x10A (pk 21 []) false, 21, 1, flt 0x10A (pk 21 []), by unfold Says.due Says.canReply; decide +kernel, by decide +kernel⟩,
   ⟨17, 1, flt 0x10F (pk 17 shr), PF 0x10F (pk 17 shr), by unfold Says.due Says.canReply; decide +kernel, by decide +kernel⟩⟩

/-- Cases of O47. Retirement, reset, freeze, save and restore of a parcel. Part 1. -/
theorem witness_ParcelEnds_1 :
    (∃ (n : Nat) (f : Flight) (s : State) (i : Instr), flightGet s n = some f ∧ f.applied = false ∧ f.intake < frameNo s ∧
      tabSorted s.mg.flights = true ∧ (∀ (e : Nat × Flight), e ∈ s.mg.flights → e.snd.p.parcel = f.p.parcel → e.fst = n) ∧ (∀ (r : PReq),
      r ∈ (parGet s f.p.parcel).reqs → isCcEn r = false) ∧ f.p.bufOk = true ∧ keyWaits s n = false ∧ s.ev.powerFail = false ∧
      s.fr.fatal = false ∧ replyLive s f.p f.tkEd = true ∧ (f.p.mctp = true ∨ (fnGet s 0).bme = true) ∧ f.op = 269 ∧
      tabSorted s.cq.tickets = true ∧ tabSorted s.host.conns = true ∧ tabSorted s.cs.invs = true ∧ tabSorted s.mg.flights = true ∧
      ((parGet s f.p.parcel).st = PState.provisioned ∨ (parGet s f.p.parcel).st = PState.frozen ∧ (parGet s f.p.parcel).drained = true ∧
      parcelSaving s f.p.parcel = false) ∧ (i = Instr.parcelRequestEffect f.p.parcel ∨ i = Instr.retirementEffect f.p.parcel)) ∧
    (∃ (k : Nat) (n : Nat) (f : Flight) (s : State), (parGet s k).st = PState.retiring ∧ (parGet s k).effect < frameNo s ∧
      parcelLive s k = false ∧ (parGet s k).waiters = [Waiter.packet n] ∧ flightGet s n = some f ∧ tabSorted s.mg.flights = true ∧
      s.pc.held = [] ∧ s.pc.ring.length < 65536 ∧ s.ev.powerFail = false ∧ s.fr.fatal = false ∧ replyLive s f.p f.tkEd = true ∧
      (f.p.mctp = true ∨ (fnGet s 0).bme = true)) ∧
    (∃ (k : Nat) (c : Nat) (h : Bool) (w : Waiter) (s : State) (i : Instr), ((parGet s k).st = PState.provisioned ∨
      (parGet s k).st = PState.active ∨ (parGet s k).st = PState.frozen) ∧ tabSorted s.cq.tickets = true ∧ tabSorted s.host.conns = true ∧
      tabSorted s.cs.invs = true ∧ tabSorted s.mg.flights = true ∧ c < 8 ∧ k < 1024 ∧ (parGet s k).freezeW = Waiter.none ∧
      tabGet s.pc.saves k = none ∧ (i = Instr.parcelResetEffect k ∧ (parGet s k).reqs = [PReq.reset c h w] ∨ i = Instr.queuedResetEffect k ∧
      (parGet s k).queued = some (c, h))) ∧
    (∃ (k : Nat) (c : Nat) (h : Bool) (w : Waiter) (s : State), (parGet s k).st = PState.resetting ∧ (parGet s k).reqs = [PReq.reset c h w]) ∧
    (∃ (k : Nat) (s : State), (parGet s k).effect < frameNo s ∧ parcelLive s k = false ∧ (parGet s k).waiters = [] ∧
      (parGet s k).st = PState.resetting) ∧
    (∃ (k : Nat) (s : State), (parGet s k).effect < frameNo s ∧ parcelLive s k = false ∧ (parGet s k).waiters = [] ∧
      (parGet s k).st = PState.active) :=
  ⟨⟨1, ((flightGet ((PF 0x10D (pk 21 []))) 1).get (by decide +kernel)), (PF 0x10D (pk 21 [])), (Instr.parcelRequestEffect 21),
      by decide +kernel⟩,
   ⟨22, 1, ((flightGet ((PF 0x101 (pk 16 cre))) 1).get (by decide +kernel)), (PF 0x101 (pk 16 cre)), by decide +kernel⟩,
   ⟨18, 0, true, (Waiter.packet 1), (PF 0x101 (pk 16 cre)), (Instr.parcelResetEffect 18), by decide +kernel⟩,
   ⟨26, 2, true, Waiter.none, (PF 0x101 (pk 16 cre)), by decide +kernel⟩,
   ⟨19, (PF 0x101 (pk 16 cre)), by decide +kernel⟩,
   ⟨27, (PF 0x101 (pk 16 cre)), by decide +kernel⟩⟩

/-- Cases of O47. Retirement, reset, freeze, save and restore of a parcel. Part 2. -/
theorem witness_ParcelEnds_2 :
    (∃ (k : Nat) (s : State), (parGet s k).effect < frameNo s ∧ parcelLive s k = false ∧ (parGet s k).waiters = [] ∧
      (parGet s k).st = PState.enabling ∧ (parGet s k).pend = some Waiter.none ∧ attached (parGet s k) = true) ∧
    (∃ (k : Nat) (n : Nat) (f : Flight) (s : State), flightGet s n = some f ∧ tabSorted s.mg.flights = true ∧
      (parGet s k).st = PState.active ∧ (parGet s k).reqs = [PReq.freeze n] ∧ pkBlocked s n = false) ∧
    (∃ (k : Nat) (n : Nat) (f : Flight) (s : State), flightGet s n = some f ∧ tabSorted s.mg.flights = true ∧
      (parGet s k).st = PState.frozen ∧ (parGet s k).drained = false ∧ (parGet s k).freezeW = Waiter.packet n ∧ s.ev.powerFail = false ∧
      s.fr.fatal = false ∧ replyLive s f.p f.tkEd = true ∧ (f.p.mctp = true ∨ (fnGet s 0).bme = true) ∧
      ((tksWhere s fun t => t.parcel == some k && !t.admin) = []) ∧ ((tabCount s.cs.invs fun i => i.parcel == k) = 0)) ∧
    (∃ (k : Nat) (v : SaveSt) (f : Flight) (s : State), tabGet s.pc.saves k = some v ∧ v.restore = false ∧ bitOf v.sections 4 = false ∧
      flightGet s v.packet = some f ∧ tabSorted s.mg.flights = true ∧ tabSorted s.pc.saves = true ∧ migrationKey s v.slot = true ∧
      f.p.bufOk = true ∧ (parGet s k).bal.length = 4 ∧ s.ev.powerFail = false ∧ s.fr.fatal = false ∧ replyLive s f.p f.tkEd = true ∧
      (f.p.mctp = true ∨ (fnGet s 0).bme = true)) ∧
    (∃ (k : Nat) (v : SaveSt) (f : Flight) (s : State), tabGet s.pc.saves k = some v ∧ v.restore = true ∧ flightGet s v.packet = some f ∧
      tabSorted s.mg.flights = true ∧ tabSorted s.pc.saves = true ∧ s.ev.powerFail = false ∧ s.fr.fatal = false ∧
      replyLive s f.p f.tkEd = true ∧ (f.p.mctp = true ∨ (fnGet s 0).bme = true)) :=
  ⟨⟨24, (PF 0x101 (pk 16 cre)), by decide +kernel⟩,
   ⟨27, 1, ((flightGet ((PF 0x105 (withBuf (pk 20 []) (nq 7 ++ nq 8)))) 1).get (by decide +kernel)),
      (PF 0x105 (withBuf (pk 20 []) (nq 7 ++ nq 8))), by decide +kernel⟩,
   ⟨23, 1, ((flightGet ((PF 0x105 (withBuf (pk 20 []) (nq 7 ++ nq 8)))) 1).get (by decide +kernel)),
      (PF 0x105 (withBuf (pk 20 []) (nq 7 ++ nq 8))), by decide +kernel⟩,
   ⟨21, ((tabGet ((saveP 21 0x10B { pk 21 [0, 0, 7, 0] with bufLen := 4096 } false)).pc.saves 21).get (by decide +kernel)),
      ((flightGet ((saveP 21 0x10B { pk 21 [0, 0, 7, 0] with bufLen := 4096 } false)) (((tabGet ((saveP 21 0x10B { pk 21 [0, 0, 7, 0] with bufLen := 4096 } false)).pc.saves 21).get (by decide +kernel))).packet).get (by decide +kernel)),
      (saveP 21 0x10B { pk 21 [0, 0, 7, 0] with bufLen := 4096 } false), by decide +kernel⟩,
   ⟨16,
      ((tabGet ((saveP 16 0x10C (withBuf (pk 16 [7, 0]) (zeros 4352 ++ [1, 0] ++ zeros 6 ++ leBytes 8 80 ++ zeros 64)) true)).pc.saves 16).get (by decide +kernel)),
      ((flightGet ((saveP 16 0x10C (withBuf (pk 16 [7, 0]) (zeros 4352 ++ [1, 0] ++ zeros 6 ++ leBytes 8 80 ++ zeros 64)) true)) (((tabGet ((saveP 16 0x10C (withBuf (pk 16 [7, 0]) (zeros 4352 ++ [1, 0] ++ zeros 6 ++ leBytes 8 80 ++ zeros 64)) true)).pc.saves 16).get (by decide +kernel))).packet).get (by decide +kernel)),
      (saveP 16 0x10C (withBuf (pk 16 [7, 0]) (zeros 4352 ++ [1, 0] ++ zeros 6 ++ leBytes 8 80 ++ zeros 64)) true), by decide +kernel⟩⟩

/-- Cases of O48. Mailboxes, shares, masks and meters. Part 1. -/
theorem witness_MailAndMeters_1 :
    (∃ (ten : Bool) (k : Nat) (o : Nat) (v : Nat) (s : State), k < 1024 ∧ o < 2048 ∧ o % 4 = 0 ∧ ten = true ↔ o < 1024 ∧ v < 2 ^ 32 ∧
      (ten = true → (parGet s k).vf.isSome = true) ∧
      (regBit s (if o < 1024 then PC_MB_IN_PENDING k else PC_MB_OUT_PENDING k) (o % 1024 / 64) = false)) ∧
    (∃ (ten : Bool) (k : Nat) (o : Nat) (v : Nat) (s : State), k < 1024 ∧ o < 2048 ∧ o % 4 = 0 ∧ ten = true ↔ o < 1024 ∧ v < 2 ^ 32 ∧
      (ten = true → (parGet s k).vf.isSome = true) ∧
      (regBit s (if o < 1024 then PC_MB_IN_PENDING k else PC_MB_OUT_PENDING k) (o % 1024 / 64) = true)) ∧
    (∃ (k : Nat) (m : Nat) (s : State), k < 1024 ∧ m < 65536 ∧ (parGet s k).vf.isSome = true ∧ mbReady s k = false) ∧
    (∃ (k : Nat) (m : Nat) (s : State), k < 1024 ∧ m < 65536 ∧ (parGet s k).vf.isSome = true ∧ mbReady s k = true ∧ (∀ (j : Nat), j < 16 →
      ¬(bitOf m j = true ∧ regBit s (PC_MB_OUT_PENDING k) j = true))) ∧
    (∃ (k : Nat) (m : Nat) (s : State), k < 1024 ∧ m < 65536 ∧ (parGet s k).vf.isSome = true ∧ mbReady s k = true ∧ (∀ (j : Nat), j < 16 →
      ¬(bitOf m j = true ∧ regBit s (PC_MB_IN_PENDING k) j = true))) ∧
    (∃ (k : Nat), k < 1024) :=
  ⟨⟨true, 17, 16, 4294967295, (PF 0x101 (pk 16 cre)), by decide +kernel⟩,
   ⟨true, 17, 100, 2147483648, (PF 0x106 (pk 17 (leBytes 4 5))), by decide +kernel⟩,
   ⟨18, 3, (PF 0x101 (pk 16 cre)), by decide +kernel⟩,
   ⟨17, 2, (PF 0x101 (pk 16 cre)), by decide +kernel⟩,
   ⟨25, 20, (PF 0x101 (pk 16 cre)), by decide +kernel⟩,
   ⟨1023, by decide +kernel⟩⟩

/-- Cases of O48. Mailboxes, shares, masks and meters. Part 2. -/
theorem witness_MailAndMeters_2 :
    (∃ (k : Nat) (m : Nat) (s : State), k < 1024 ∧ m < 65536 ∧ (parGet s k).inPost = 0 ∧ regNat s (PC_MB_IN_PENDING k) < 65536) ∧
    (∃ (k : Nat) (c : Nat) (v : Nat), k < 1024 ∧ c < 4 ∧ v < 2 ^ 24) ∧
    (∃ (k : Nat) (c : Nat) (v : Nat) (s : State), k < 1024 ∧ c < 4 ∧ v < 2 ^ 24 ∧ (parGet s k).maskDue = true) ∧
    (∃ (k : Nat) (c : Nat) (v : Nat) (s : State), k < 1024 ∧ c < 4 ∧ v < 2 ^ 24 ∧ (parGet s k).shareDue = true) ∧
    (∃ (k : Nat) (m : Nat) (s : State), k < 1024 ∧ m < 9 ∧ (parGet s k).meters.getD m 0 < 2 ^ 64 ∧ s.pc.lastEnd < 2 ^ 64) ∧
    (∃ (v : Nat) (s : State), v < 2 ^ 32 ∧ frameNo s < s.pc.lastEnd + s.pc.interval) :=
  ⟨⟨1023, 2, (PF 0x101 (pk 16 cre)), by decide +kernel⟩,
   ⟨1023, 0, 16, by decide +kernel⟩,
   ⟨24, 1, 65541, (PF 0x101 (pk 16 cre)), by decide +kernel⟩,
   ⟨24, 1, 65541, (PF 0x101 (pk 16 cre)), by decide +kernel⟩,
   ⟨1023, 7, (PF 0x101 (pk 16 cre)), by decide +kernel⟩,
   ⟨2147484415, PR, by decide +kernel⟩⟩

/-- Cases of O48. Mailboxes, shares, masks and meters. Part 3. -/
theorem witness_MailAndMeters_3 :
    (∃ (v : Nat), v < 2 ^ 32) ∧
    (∃ (v : Nat) (s : State), v < 2 ^ 32 ∧ s.pc.lastEnd + s.pc.interval ≤ frameNo s) ∧
    (∃ (b : Nat) (s : State), s.pc.due = some b ∧ s.pc.held = [] ∧ (snapParcels s).length + 1 ≤ 65536 - s.pc.ring.length) ∧
    (∃ (b : Nat) (s : State), s.pc.due = some b ∧ 65536 - s.pc.ring.length < (snapParcels s).length + 1) :=
  ⟨⟨1, by decide +kernel⟩,
   ⟨1, (PF 0x101 (pk 16 cre)), by decide +kernel⟩,
   ⟨2000, (PF 0x101 (pk 16 cre)), by decide +kernel⟩,
   ⟨2000, PH, by decide +kernel⟩⟩

/-- Cases of O49. Stripes, conversions and folds of the map. Part 1. -/
theorem witness_MapUpkeep_1 :
    (∃ (k : Nat) (s : State) (st : Stripe), tabGet s.atl.stripes k = some st ∧ (st.issued = true ∨ st.frags = [] ∨ st.stream = Stream.fold ∨
      frameNo s < st.first + 200 ∧ st.stream = Stream.cold)) ∧
    (∃ (k : Nat) (s : State) (st : Stripe), tabGet s.atl.stripes k = some st ∧ stripeOk st = false) ∧
    (∃ (k : Nat) (s : State) (st : Stripe), tabGet s.atl.stripes k = some st ∧ stripeOk st = true ∧ st.stream ≠ Stream.fold ∧
      tabSorted s.atl.stripes = true) ∧
    (∃ (d : Nat) (b : Nat) (s : State), (blockValid s d b ≠ [] ∨ readInFlight s d b = true ∨ baseNamed s d b = true ∨
      stripeInto s d b = true ∨ (blkGet s d b).released = true)) ∧
    (∃ (q : Nat) (s : State), qForm (dirGet s q) = formPage) ∧
    (∃ (q : Nat) (sh : Nat) (s : State) (o : Overlay), qForm (dirGet s q) = formSheet ∧ sOv (sheetGet s q sh) = true ∧
      tabGet s.atl.overlays (sOverlay (sheetGet s q sh)) = some o ∧ ppb s * 7 ≤ o.prog * 8 ∧ s.atl.folds = [] ∧
      s.atl.foldGroup.isSome = true ∧ (¬(q, sh) ∈ s.atl.foldWait)) :=
  ⟨⟨2, L0, ((tabGet L0.atl.stripes 2).get (by decide +kernel)), by decide +kernel⟩,
   ⟨1, L0, ((tabGet L0.atl.stripes 1).get (by decide +kernel)), by decide +kernel⟩,
   ⟨2, L0, ((tabGet L0.atl.stripes 2).get (by decide +kernel)), by decide +kernel⟩,
   ⟨0, 10, L4, by decide +kernel⟩,
   ⟨6, L6, by decide +kernel⟩,
   ⟨7, 0, L12, ((tabGet L12.atl.overlays (sOverlay (sheetGet L12 7 0))).get (by decide +kernel)), by decide +kernel⟩⟩

/-- Cases of O49. Stripes, conversions and folds of the map. Part 2. -/
theorem witness_MapUpkeep_2 :
    (∃ (s : State) (f : Fold) (w : Overlay), foldGet s w.quad w.sheet = some f ∧ f.done = true ∧ f.viaPage = false ∧
      f.base = sheetGet s w.quad w.sheet ∧ sOv (sheetGet s w.quad w.sheet) = true ∧
      tabGet s.atl.overlays (sOverlay (sheetGet s w.quad w.sheet)) = some w ∧ f.copied = w.words ∧ tabSorted w.words = true ∧ f.die < 1016 ∧
      f.block < 8192 ∧ tabSorted s.atl.overlays = true) ∧
    (∃ (s : State), frameNo s % 16777216 ≠ 0) ∧
    (∃ (s : State), frameNo s ≠ 0 ∧ frameNo s % 16777216 = 0 ∧ s.atl.windowAt ≠ frameNo s) ∧
    (∃ (q : Nat) (s : State), qForm (dirGet s q) ≠ formToPage) ∧
    (∃ (q : Nat) (s : State) (p : PageTab), qForm (dirGet s q) = formToPage ∧ tabGet s.atl.tabs (qTable (dirGet s q)) = some p) ∧
    (∃ (q : Nat) (s : State) (c : Conv) (p : PageTab), (List.find? (fun c => c.quad == q && !c.toPage) s.atl.convs = some c) ∧
      tabGet s.atl.tabs (qTable (dirGet s q)) = some p ∧ foldsOf s q = false ∧ 4096 < c.writes) :=
  ⟨⟨L1,
      ((foldGet L1 ({ quad := 7, sheet := 0, primDie := 2, primBlk := 30, mirDie := 3, mirBlk := 30, words := [(2, 0xff8000000#36)], pages := 4, prog := 0, lastWrite := 0, folds := 0 } : Overlay).quad ({ quad := 7, sheet := 0, primDie := 2, primBlk := 30, mirDie := 3, mirBlk := 30, words := [(2, 0xff8000000#36)], pages := 4, prog := 0, lastWrite := 0, folds := 0 } : Overlay).sheet).get (by decide +kernel)),
      { quad := 7, sheet := 0, primDie := 2, primBlk := 30, mirDie := 3, mirBlk := 30, words := [(2, 0xff8000000#36)], pages := 4, prog := 0, lastWrite := 0, folds := 0 },
      by decide +kernel⟩,
   ⟨L0, by decide +kernel⟩,
   ⟨L2, by decide +kernel⟩,
   ⟨0, L0, by decide +kernel⟩,
   ⟨8, L11, ((tabGet L11.atl.tabs (qTable (dirGet L11 8))).get (by decide +kernel)), by decide +kernel⟩,
   ⟨9, L10, ((List.find? (fun c => c.quad == 9 && !c.toPage) L10.atl.convs).get (by decide +kernel)),
      ((tabGet L10.atl.tabs (qTable (dirGet L10 9))).get (by decide +kernel)), by decide +kernel⟩⟩

/-- Cases of O49. Stripes, conversions and folds of the map. Part 3. -/
theorem witness_MapUpkeep_3 :
    (∃ (q : Nat) (s : State) (c : Conv) (p : PageTab), (List.find? (fun c => c.quad == q && !c.toPage) s.atl.convs = some c) ∧
      tabGet s.atl.tabs (qTable (dirGet s q)) = some p ∧ foldsOf s q = false ∧ c.writes ≤ 4096 ∧ p.fill = wElse ∧ (∀ (e : Nat × Word),
      e ∈ p.words → wDie e.snd = 1020) ∧ tabSorted s.atl.tabs = true) ∧
    (∃ (q : Nat) (s : State) (c : Conv) (p : PageTab) (sh : Nat), (List.find? (fun c => c.quad == q && !c.toPage) s.atl.convs = some c) ∧
      tabGet s.atl.tabs (qTable (dirGet s q)) = some p ∧ foldsOf s q = false ∧ c.writes ≤ 4096 ∧ c.pass = 1 ∧
      sh < quadTiles / sheetTiles s ∧ tableClear p (sh * sheetTiles s) (sheetTiles s) = false ∧ qForm (dirGet s q) = formToSheet) :=
  ⟨⟨9, L0, ((List.find? (fun c => c.quad == 9 && !c.toPage) L0.atl.convs).get (by decide +kernel)),
      ((tabGet L0.atl.tabs (qTable (dirGet L0 9))).get (by decide +kernel)), by decide +kernel⟩,
   ⟨9, L3, ((List.find? (fun c => c.quad == 9 && !c.toPage) L3.atl.convs).get (by decide +kernel)),
      ((tabGet L3.atl.tabs (qTable (dirGet L3 9))).get (by decide +kernel)), 0, by decide +kernel⟩⟩

/-- Cases of O50. Reclaiming, rebuilding and the media registers. Part 1. -/
theorem witness_MediaUpkeep_1 :
    (∃ (s : State), s.atl.rebuild = none) ∧
    (∃ (s : State), s.atl.rebuild ≠ none ∧ (∀ (d : Nat), d ∈ rebuildDies s → dieTiles s d = [])) ∧
    (∃ (s : State), (regBit s AT_MEDIA_STATE 31 = false ∨ s.atl.reserveUsed ≠ 0 ∨ canForm s 2 = false)) ∧
    (∃ (s : State), (sealDue s = false ∨ regBit s AT_MEDIA_STATE 31 = true)) ∧
    (∃ (s : State), sealDue s = true ∧ regBit s AT_MEDIA_STATE 31 = false) ∧
    (∃ (s : State), regBit s AT_MEDIA_STATE 31 = true ∧ s.atl.reserveUsed = 0 ∧ canForm s 2 = true) :=
  ⟨⟨L0, by decide +kernel⟩,
   ⟨L3, by decide +kernel⟩,
   ⟨L0, by decide +kernel⟩,
   ⟨L0, by decide +kernel⟩,
   ⟨L4, by decide +kernel⟩,
   ⟨L7, by decide +kernel⟩⟩

/-- Cases of O50. Reclaiming, rebuilding and the media registers. Part 2. -/
theorem witness_MediaUpkeep_2 :
    (∃ (l : Nat) (s : State), (¬l ∈ s.atl.mapLines)) ∧
    (∃ (l : Nat) (s : State), l ∈ s.atl.mapLines ∧ journalKept s ≠ s.atl.journal) ∧
    (∃ (l : Nat) (s : State), l ∈ s.atl.mapLines ∧ journalKept s = s.atl.journal ∧ (∀ (e : Nat × Ticket), e ∈ s.cq.tickets →
      e.snd.busy = false)) ∧
    (∃ (s : State) (m : Nat × Nat), failing s = some m) ∧
    (∃ (s : State) (g : Nat) (x : Group), victim s = some (g, x) ∧ failing s = none ∧ s.atl.fmt ≠ none ∧ hotGroups s < 12 ∧
      groupValid s x = 0) ∧
    (∃ (s : State) (g : Nat) (x : Group), victim s = some (g, x) ∧ failing s = none ∧ s.atl.fmt ≠ none ∧ hotGroups s < 12 ∧
      0 < groupValid s x) :=
  ⟨⟨0, L0, by decide +kernel⟩,
   ⟨4, L13, by decide +kernel⟩,
   ⟨9, L0, by decide +kernel⟩,
   ⟨L13, (0, 10), by decide +kernel⟩,
   ⟨L4, ((victim L4).get (by decide +kernel)).1, ((victim L4).get (by decide +kernel)).2, (Option.some_get (by decide +kernel)).symm,
      by decide +kernel⟩,
   ⟨L5, ((victim L5).get (by decide +kernel)).1, ((victim L5).get (by decide +kernel)).2, (Option.some_get (by decide +kernel)).symm,
      by decide +kernel⟩⟩

/-- Cases of O50. Reclaiming, rebuilding and the media registers. Part 3. -/
theorem witness_MediaUpkeep_3 :
    ∃ (s : State) (g : Nat) (x : Group), victim s = some (g, x) :=
  ⟨L4, ((victim L4).get (by decide +kernel)).1, ((victim L4).get (by decide +kernel)).2, (Option.some_get (by decide +kernel)).symm⟩

/-- Cases of O51. Dies and channels. Part 1. -/
theorem witness_FlashChannels_1 :
    (∃ (ch : Nat) (s : State), ch < 32 ∧ chState s ch ≠ chTraining) ∧
    (∃ (ch : Nat) (r : TrainResult) (s : State), ch < 32 ∧ chState s ch = chTraining ∧ r.answered = false) ∧
    (∃ (ch : Nat) (r : TrainResult) (s : State), ch < 32 ∧ chState s ch = chTraining ∧ r.answered = true ∧ r.ok = true ∧ r.dies ≠ [] ∧
      (∀ (d : Nat × Nat), d ∈ r.dies → d.fst < 32) ∧ (chanGet s ch).retireReq = none ∧ r.rate < 8) ∧
    (∃ (ch : Nat) (r : TrainResult) (s : State), ch < 32 ∧ chState s ch = chTraining ∧ r.answered = true ∧ (r.ok = false ∨ r.dies = []) ∧
      s.atl.foldGroup = none ∧ tabSorted s.fl.dies = true ∧ (∀ (e : Nat × Die), e ∈ s.fl.dies → e.snd.ch = ch → Says.idleDie e.snd)) ∧
    (∃ (ch : Nat), ch < 32) ∧
    (∃ (ch : Nat) (s : State), ch < 32 ∧ chState s ch ≠ chRetraining) :=
  ⟨⟨5, F0, by decide +kernel⟩,
   ⟨12, { answered := false, ok := false, toggle := false, rate := 0, dies := [] }, F2, by decide +kernel⟩,
   ⟨24, { answered := true, ok := true, toggle := true, rate := 3, dies := [(0, 0), (3, 0)] }, F0, by decide +kernel⟩,
   ⟨27, { answered := true, ok := false, toggle := false, rate := 0, dies := [] }, F1, by decide +kernel, by decide +kernel,
      by decide +kernel, by decide +kernel, by decide +kernel, by decide +kernel, (by unfold Says.idleDie; decide +kernel)⟩,
   ⟨24, by decide +kernel⟩,
   ⟨24, F0, by decide +kernel⟩⟩

/-- Cases of O51. Dies and channels. Part 2. -/
theorem witness_FlashChannels_2 :
    (∃ (ch : Nat) (s : State), ch < 32 ∧ chState s ch = chRetraining ∧ (chanGet s ch).retireReq = none) ∧
    (∃ (ch : Nat) (s : State), ch < 32 ∧ (chState s ch ≠ chActive ∨ retrainDue s ch = false)) ∧
    (∃ (ch : Nat) (s : State), ch < 32 ∧ chState s ch = chActive ∧ ((chanGet s ch).retrainReq = true ∨ 64 ≤ (chanGet s ch).retries ∨
      (chanGet s ch).temp + 20 ≤ composite s ∨ composite s + 20 ≤ (chanGet s ch).temp)) ∧
    (∃ (ch : Nat) (s : State), ch < 32 ∧ chState s ch = chRetraining ∧ s.atl.foldGroup = none ∧ tabSorted s.fl.dies = true ∧
      (∀ (e : Nat × Die), e ∈ s.fl.dies → e.snd.ch = ch → Says.idleDie e.snd)) ∧
    (∃ (d : Nat) (s : State) (x : Die), dieGet s d = some x ∧ x.suspending = false) ∧
    (∃ (d : Nat) (s : State) (x : Die) (o : FOp) (r : FOp) (q : List FOp), dieGet s d = some x ∧ x.lost = false ∧ x.suspending = true ∧
      x.run = some o ∧ x.served = 0 ∧ x.readQ = r :: q ∧ x.moveQ = []) :=
  ⟨⟨20, F4, by decide +kernel⟩,
   ⟨24, F0, by decide +kernel⟩,
   ⟨5, F0, by decide +kernel⟩,
   ⟨20, F4, by decide +kernel, by decide +kernel, by decide +kernel, by decide +kernel, (by unfold Says.idleDie; decide +kernel)⟩,
   ⟨0, F0, ((dieGet F0 0).get (by decide +kernel)), by decide +kernel⟩,
   ⟨3, F3, ((dieGet F3 3).get (by decide +kernel)), (((((dieGet F3 3).get (by decide +kernel))).run).get (by decide +kernel)),
      (FOp.read 0 5 0 40 1), [FOp.read 1 5 0 40 1], by decide +kernel⟩⟩

/-- Cases of O51. Dies and channels. Part 3. -/
theorem witness_FlashChannels_3 :
    (∃ (d : Nat) (r : DecodeResult) (s : State) (x : Die), dieGet s d = some x ∧ x.soft = false ∧ r.ok = false ∧ ((∃ mv page,
      x.run = some (FOp.move mv page)) ∨ ∃ tk e i page k, x.run = some (FOp.read tk e i page k)) ∧ x.retry < (profileOf s x).retry) ∧
    (∃ (d : Nat) (r : DecodeResult) (s : State) (x : Die), dieGet s d = some x ∧ x.soft = false ∧ r.ok = false ∧ ((∃ mv page,
      x.run = some (FOp.move mv page)) ∨ ∃ tk e i page k, x.run = some (FOp.read tk e i page k)) ∧ (profileOf s x).retry ≤ x.retry) ∧
    (∃ (d : Nat) (r : DecodeResult) (s : State) (x : Die) (mv : Nat) (m : Move) (page : Nat) (raw : Bool) (im : Bytes),
      dieGet s d = some x ∧ x.soft = false ∧ x.retry = 0 ∧ r.ok = true ∧ r.refresh = false ∧ x.more = [] ∧ x.ch < 32 ∧
      x.run = some (FOp.move mv page) ∧ tabGet s.atl.moves mv = some m ∧ storedTile s d page (wSlot m.word) m.tile = some (raw, im)) ∧
    (∃ (d : Nat) (r : DecodeResult) (s : State) (x : Die) (tk : Nat) (e : Nat) (p : Nat) (n : Ns) (rd : TileRead) (page : Nat) (k : Nat) (raw : Bool) (im : Bytes) (c : Bytes) (sp : TileSpan),
      dieGet s d = some x ∧ x.soft = false ∧ r.ok = true ∧ r.refresh = false ∧ x.run = some (FOp.read tk e rd.idx page k) ∧
      readStale s tk e = false ∧ (tkGet s tk).busy = true ∧ (tkGet s tk).admin = false ∧ (tkGet s tk).phase = TkPhase.started ∧
      (tkGet s tk).cmd.opc = 2 ∧ (tkGet s tk).parcel = some p ∧ nsGet s (tkGet s tk).cmd.nsid = some n ∧ (tkGet s tk).waitProg = [] ∧
      (tkGet s tk).r2t = false ∧ tkXform s tk = false ∧ (∀ (f q : Nat), (tkGet s tk).src = Src.pcie f q → (fnGet s f).bme = true) ∧
      (tkGet s tk).reads = [rd] ∧ rd.idx = 0 ∧ quadNs s rd.quad = some n ∧ storedTile s d page k rd.tile = some (raw, im) ∧
      tileDecode s n rd.tile raw im = some c ∧ Says.tilesOf s tk n = [sp] ∧ (transforms n = 0 ∨ (tkGet s tk).xdec ≠ XStage.idle)) ∧
    (∃ (d : Nat) (r : DecodeResult) (s : State) (x : Die) (mv : Nat) (page : Nat), dieGet s d = some x ∧ x.ch < 32 ∧
      x.run = some (FOp.move mv page) ∧ x.soft = true ∧ r.ok = false) ∧
    (∃ (d : Nat) (s : State) (x : Die) (mv : Nat) (page : Nat), dieGet s d = some x ∧ x.ch < 32 ∧ x.run = some (FOp.move mv page) ∧
      x.soft = false) :=
  ⟨⟨0, { ok := false, bits := 0, refresh := false }, F0, ((dieGet F0 0).get (by decide +kernel)), by decide +kernel, by decide +kernel,
      by decide +kernel, readRuns (by decide +kernel), by decide +kernel⟩,
   ⟨4, { ok := false, bits := 0, refresh := false }, F1, ((dieGet F1 4).get (by decide +kernel)), by decide +kernel, by decide +kernel,
      by decide +kernel, readRuns (by decide +kernel), by decide +kernel⟩,
   ⟨0, { ok := true, bits := 5, refresh := false }, F3, ((dieGet F3 0).get (by decide +kernel)), 1,
      ((tabGet F3.atl.moves 1).get (by decide +kernel)), 40, true, [], by decide +kernel⟩,
   ⟨0, { ok := true, bits := 5, refresh := false }, F1, ((dieGet F1 0).get (by decide +kernel)), 0, 5, 17,
      ((nsGet F1 (tkGet F1 0).cmd.nsid).get (by decide +kernel)),
      { idx := 0, quad := 5, tile := 1310724, die := some 0, got := none, bad := false, stored := none }, 40, 1, true, [],
      ((tileDecode F1 (((nsGet F1 (tkGet F1 0).cmd.nsid).get (by decide +kernel))) ({ idx := 0, quad := 5, tile := 1310724, die := some 0, got := none, bad := false, stored := none } : TileRead).tile true ([] : Bytes)).get (by decide +kernel)),
      { tile := 1310724, off := 0, len := 4096, pos := 0 }, by decide +kernel, by decide +kernel, by decide +kernel, by decide +kernel,
      by decide +kernel, by decide +kernel, by decide +kernel, by decide +kernel, by decide +kernel, by decide +kernel, by decide +kernel,
      by decide +kernel, by decide +kernel, by decide +kernel, by decide +kernel, busMasterOf (by decide +kernel), by decide +kernel⟩,
   ⟨5, { ok := false, bits := 0, refresh := false }, F0, ((dieGet F0 5).get (by decide +kernel)), 1, 40, by decide +kernel⟩,
   ⟨0, F0, ((dieGet F0 0).get (by decide +kernel)), 1, 40, by decide +kernel⟩⟩

/-- Cases of O51. Dies and channels. Part 4. -/
theorem witness_FlashChannels_4 :
    (∃ (d : Nat) (r : DecodeResult) (s : State) (x : Die) (mv : Nat) (page : Nat), dieGet s d = some x ∧ x.ch < 32 ∧
      x.run = some (FOp.move mv page) ∧ x.soft = true ∧ r.ok = true ∧ r.refresh = false) ∧
    (∃ (d : Nat) (s : State) (x : Die) (k : Nat) (m : Nat) (page : Nat) (st : Stripe), dieGet s d = some x ∧
      x.run = some (FOp.prog k m page) ∧ tabGet s.atl.stripes k = some st ∧ k < s.atl.nextStripe ∧ st.stream ≠ Stream.fold ∧
      tabSorted s.atl.stripes = true) ∧
    (∃ (d : Nat) (s : State) (x : Die) (b : Nat), dieGet s d = some x ∧ x.run = some (FOp.erase b)) ∧
    (∃ (d : Nat) (s : State) (x : Die), dieGet s d = some x ∧ x.run = none) ∧
    (∃ (d : Nat) (s : State) (x : Die), dieGet s d = some x ∧ x.run ≠ none) ∧
    (∃ (d : Nat) (s : State) (x : Die), dieGet s d = some x ∧ x.ch < 32 ∧ x.pos < 32 ∧ d < 1024 ∧ s.atl.foldGroup = none ∧
      tabSorted s.fl.dies = true ∧ (∀ (e : Nat × Die), e ∈ s.fl.dies → e.snd.ch = x.ch → Says.idleDie e.snd) ∧ x.lost = true) :=
  ⟨⟨5, { ok := true, bits := 5, refresh := false }, F0, ((dieGet F0 5).get (by decide +kernel)), 1, 40, by decide +kernel⟩,
   ⟨3, F3, ((dieGet F3 3).get (by decide +kernel)), 7, 0, 48, ((tabGet F3.atl.stripes 7).get (by decide +kernel)), by decide +kernel⟩,
   ⟨2, F1, ((dieGet F1 2).get (by decide +kernel)), 25, by decide +kernel⟩,
   ⟨7, F0, ((dieGet F0 7).get (by decide +kernel)), by decide +kernel⟩,
   ⟨0, F0, ((dieGet F0 0).get (by decide +kernel)), by decide +kernel⟩,
   ⟨6, F4, ((dieGet F4 6).get (by decide +kernel)), by decide +kernel, by decide +kernel, by decide +kernel, by decide +kernel,
      by decide +kernel, by decide +kernel, (by unfold Says.idleDie; decide +kernel), by decide +kernel⟩⟩

/-- Cases of O51. Dies and channels. Part 5. -/
theorem witness_FlashChannels_5 :
    (∃ (d : Nat) (s : State) (x : Die), dieGet s d = some x ∧ x.ch < 32 ∧ x.pos < 32 ∧ d < 1024 ∧ s.atl.foldGroup = none ∧
      tabSorted s.fl.dies = true ∧ (∀ (e : Nat × Die), e ∈ s.fl.dies → e.snd.ch = x.ch → Says.idleDie e.snd) ∧ x.lost = false ∧
      regFld s (FC_STATUS x.ch) 11 6 + 1 < 4) ∧
    (∃ (d : Nat) (s : State) (x : Die), dieGet s d = some x ∧ x.ch < 32 ∧ x.pos < 32 ∧ d < 1024 ∧ s.atl.foldGroup = none ∧
      tabSorted s.fl.dies = true ∧ (∀ (e : Nat × Die), e ∈ s.fl.dies → e.snd.ch = x.ch → Says.idleDie e.snd) ∧ x.lost = false ∧
      regFld s (FC_STATUS x.ch) 11 6 = 3) ∧
    (∃ (s : State) (d : Nat) (x : Die) (k m page : Nat) (st : Stripe) (pg : Page), dieGet s d = some x ∧ x.run = some (.prog k m page) ∧
      tabGet s.atl.stripes k = some st ∧ (stripePages s st (st.group.getD (st.overlay.getD 0)) st.mem)[m]? = some (d, page, pg)) :=
  ⟨⟨6, F0, ((dieGet F0 6).get (by decide +kernel)), by decide +kernel, by decide +kernel, by decide +kernel, by decide +kernel,
      by decide +kernel, by decide +kernel, (by unfold Says.idleDie; decide +kernel), by decide +kernel⟩,
   ⟨7, F2, ((dieGet F2 7).get (by decide +kernel)), by decide +kernel, by decide +kernel, by decide +kernel, by decide +kernel,
      by decide +kernel, by decide +kernel, (by unfold Says.idleDie; decide +kernel), by decide +kernel⟩,
   ⟨progState, 1, (dieGet progState 1).get (by decide +kernel), 5, 1, 49, progStripe, progPage, (Option.some_get _).symm, by decide +kernel⟩⟩

/-- Cases of O52. Engine jobs: compression and digests. Part 1. -/
theorem witness_CompressionAndDigest_1 :
    (∃ (n : Nat) (s : State) (j : Job), jobGet s n = some j ∧ tabSorted s.en.jobs = true ∧ j.eng = Eng.cp ∧ dOp j = 2 ∧
      j.phase = JPhase.waiting ∧ j.ranAt ≠ some (frameNo s) ∧ (∀ (p : Nat), j.parcel = some p → tokenOk s p 2 = true) ∧ (∀ (e : Nat × Job),
      e ∈ s.en.jobs → e.fst ≠ n → e.snd.eng = Eng.cp → e.snd.phase = JPhase.ended) ∧ freeLane s j ≠ none ∧ (Eng.cp = Eng.cp →
      s.ks.grace = false ∧ (cpIvGen j = true → drbgError s = false)) ∧ j.pos = 0 ∧ j.written = 0 ∧ j.input = [] ∧
      Memory.wf s.dr.mem = true ∧ jobCheck s j ≠ esOk) ∧
    (∃ (n : Nat) (s : State), (∀ (j : Job), jobGet s n = some j → j.eng ≠ Eng.cz ∨ dOp j ≠ 1 ∨ j.phase ≠ JPhase.waiting ∧
      j.phase ≠ JPhase.running)) ∧
    (∃ (n : Nat) (s : State) (j : Job) (c : Nat), jobGet s n = some j ∧ tabSorted s.en.jobs = true ∧ j.eng = Eng.cz ∧ dOp j = 1 ∧
      j.phase = JPhase.waiting ∧ j.ranAt ≠ some (frameNo s) ∧ (∀ (p : Nat), j.parcel = some p → tokenOk s p 2 = true) ∧ (∀ (e : Nat × Job),
      e ∈ s.en.jobs → e.fst ≠ n → e.snd.eng = Eng.cz → e.snd.phase = JPhase.ended) ∧ freeLane s j ≠ none ∧ (Eng.cz = Eng.cp →
      s.ks.grace = false ∧ (cpIvGen j = true → drbgError s = false)) ∧ j.pos = 0 ∧ j.written = 0 ∧ j.input = [] ∧
      Memory.wf s.dr.mem = true ∧ jobCheck s j = esOk ∧ j.gran = granNeed j ∧ czStream j = false ∧ dSrcLen j ≤ 8 * periodNs s ∧
      isScratch (dSrc j) = false ∧ spanClass s (dSrc j) (dSrcLen j) = some c ∧ c ≠ classW ∧ (∀ (l : Nat),
      l ∈ spanLines (dSrc j) (dSrcLen j) → poisoned s l = false)) ∧
    (∃ (n : Nat) (s : State) (j : Job) (c : Nat), jobGet s n = some j ∧ tabSorted s.en.jobs = true ∧ j.eng = Eng.cz ∧ dOp j = 2 ∧
      j.phase = JPhase.waiting ∧ j.ranAt ≠ some (frameNo s) ∧ (∀ (p : Nat), j.parcel = some p → tokenOk s p 2 = true) ∧ (∀ (e : Nat × Job),
      e ∈ s.en.jobs → e.fst ≠ n → e.snd.eng = Eng.cz → e.snd.phase = JPhase.ended) ∧ freeLane s j ≠ none ∧ (Eng.cz = Eng.cp →
      s.ks.grace = false ∧ (cpIvGen j = true → drbgError s = false)) ∧ j.pos = 0 ∧ j.written = 0 ∧ j.input = [] ∧
      Memory.wf s.dr.mem = true ∧ jobCheck s j = esOk ∧ j.gran = granNeed j ∧ czStream j = false ∧ isScratch (dSrc j) = false ∧
      spanClass s (dSrc j) (dSrcLen j) = some c ∧ c ≠ classW ∧ (∀ (l : Nat), l ∈ spanLines (dSrc j) (dSrcLen j) → poisoned s l = false)) ∧
    (∃ (n : Nat) (s : State) (j : Job) (c : DgCtx) (c1 : Nat), jobGet s n = some j ∧ tabSorted s.en.jobs = true ∧ j.eng = Eng.dg ∧
      dOp j = 2 ∧ j.phase = JPhase.waiting ∧ j.ranAt ≠ some (frameNo s) ∧ (∀ (p : Nat), j.parcel = some p → tokenOk s p 2 = true) ∧
      (∀ (e : Nat × Job), e ∈ s.en.jobs → e.fst ≠ n → e.snd.eng = Eng.dg → e.snd.phase = JPhase.ended) ∧ freeLane s j ≠ none ∧
      (Eng.dg = Eng.cp → s.ks.grace = false ∧ (cpIvGen j = true → drbgError s = false)) ∧ j.pos = 0 ∧ j.written = 0 ∧ j.input = [] ∧
      Memory.wf s.dr.mem = true ∧ jobCheck s j = esOk ∧ j.gran = granNeed j ∧ tabGet s.en.dg (dCtx j) = some c ∧ c.st = CState.opened ∧
      c.declared = 0 ∧ dLen j ≤ 4 * periodNs s ∧ 0 < dLen j ∧ isScratch (dSrc j) = false ∧ spanClass s (dSrc j) (dLen j) = some c1 ∧
      c1 ≠ classW ∧ (∀ (l : Nat), l ∈ spanLines (dSrc j) (dLen j) → poisoned s l = false) ∧ (∀ (e : Nat × Tap), e ∈ s.en.taps →
      e.snd.ctx ≠ dCtx j) ∧ dgFinish j = true ∧ c.hmac = false ∧ dgToMem j = false) ∧
    (∃ (n : Nat) (s : State) (j : Job) (c : DgCtx) (c1 : Nat) (k : Capture) (c2 : Nat), jobGet s n = some j ∧ tabSorted s.en.jobs = true ∧
      j.eng = Eng.dg ∧ dOp j = 2 ∧ j.phase = JPhase.waiting ∧ j.ranAt ≠ some (frameNo s) ∧ (∀ (p : Nat), j.parcel = some p →
      tokenOk s p 2 = true) ∧ (∀ (e : Nat × Job), e ∈ s.en.jobs → e.fst ≠ n → e.snd.eng = Eng.dg → e.snd.phase = JPhase.ended) ∧
      freeLane s j ≠ none ∧ (Eng.dg = Eng.cp → s.ks.grace = false ∧ (cpIvGen j = true → drbgError s = false)) ∧ j.pos = 0 ∧ j.written = 0 ∧
      j.input = [] ∧ Memory.wf s.dr.mem = true ∧ jobCheck s j = esOk ∧ j.gran = granNeed j ∧ tabGet s.en.dg (dCtx j) = some c ∧
      c.st = CState.opened ∧ c.declared = 0 ∧ dLen j ≤ 4 * periodNs s ∧ 0 < dLen j ∧ isScratch (dSrc j) = false ∧
      spanClass s (dSrc j) (dLen j) = some c1 ∧ c1 ≠ classW ∧ (∀ (l : Nat), l ∈ spanLines (dSrc j) (dLen j) → poisoned s l = false) ∧
      (∀ (e : Nat × Tap), e ∈ s.en.taps → e.snd.ctx ≠ dCtx j) ∧ dgFinish j = true ∧ c.hmac = true ∧ c.cap = some k ∧
      isScratch (dOut j) = false ∧ spanClass s (dOut j) (dByte j 13) = some c2 ∧ c2 ≠ classW ∧ (∀ (l : Nat),
      l ∈ spanLines (dOut j) (dByte j 13) → poisoned s l = false)) :=
  ⟨⟨3, (EJ (J .cp (cpD 2 0x00 5 33))), ((jobGet ((EJ (J .cp (cpD 2 0x00 5 33)))) 3).get (by decide +kernel)), by decide +kernel⟩,
   ⟨256, (EJ (J .cz (czD 1 0xC0 0 0xFFFF 4096 4096))), by decide +kernel⟩,
   ⟨3, (EJ (J .cz (czD 1 0x03 0 0xFFFF 300 4096))), ((jobGet ((EJ (J .cz (czD 1 0x03 0 0xFFFF 300 4096)))) 3).get (by decide +kernel)), 1,
      by decide +kernel⟩,
   ⟨3, (EJ (J .cz (czD 2 0x03 0 0xFFFF 300 4096))), ((jobGet ((EJ (J .cz (czD 2 0x03 0 0xFFFF 300 4096)))) 3).get (by decide +kernel)), 1,
      by decide +kernel⟩,
   ⟨3, (EJ (J .dg (dgD 2 8 5 100))), ((jobGet ((EJ (J .dg (dgD 2 8 5 100)))) 3).get (by decide +kernel)),
      ((tabGet ((EJ (J .dg (dgD 2 8 5 100)))).en.dg (dCtx (((jobGet ((EJ (J .dg (dgD 2 8 5 100)))) 3).get (by decide +kernel))))).get (by decide +kernel)),
      1, by decide +kernel⟩,
   ⟨3, (EJ (J .dg (dgD 2 8 6 100 0x1000200 32))), ((jobGet ((EJ (J .dg (dgD 2 8 6 100 0x1000200 32)))) 3).get (by decide +kernel)),
      ((tabGet ((EJ (J .dg (dgD 2 8 6 100 0x1000200 32)))).en.dg (dCtx (((jobGet ((EJ (J .dg (dgD 2 8 6 100 0x1000200 32)))) 3).get (by decide +kernel))))).get (by decide +kernel)),
      1,
      (((((tabGet ((EJ (J .dg (dgD 2 8 6 100 0x1000200 32)))).en.dg (dCtx (((jobGet ((EJ (J .dg (dgD 2 8 6 100 0x1000200 32)))) 3).get (by decide +kernel))))).get (by decide +kernel))).cap).get (by decide +kernel)),
      1, by decide +kernel⟩⟩

/-- Cases of O52. Engine jobs: compression and digests. Part 2. -/
theorem witness_CompressionAndDigest_2 :
    (∃ (n : Nat) (s : State) (j : Job) (c : DgCtx) (c1 : Nat), jobGet s n = some j ∧ tabSorted s.en.jobs = true ∧ j.eng = Eng.dg ∧
      dOp j = 2 ∧ j.phase = JPhase.waiting ∧ j.ranAt ≠ some (frameNo s) ∧ (∀ (p : Nat), j.parcel = some p → tokenOk s p 2 = true) ∧
      (∀ (e : Nat × Job), e ∈ s.en.jobs → e.fst ≠ n → e.snd.eng = Eng.dg → e.snd.phase = JPhase.ended) ∧ freeLane s j ≠ none ∧
      (Eng.dg = Eng.cp → s.ks.grace = false ∧ (cpIvGen j = true → drbgError s = false)) ∧ j.pos = 0 ∧ j.written = 0 ∧ j.input = [] ∧
      Memory.wf s.dr.mem = true ∧ jobCheck s j = esOk ∧ j.gran = granNeed j ∧ tabGet s.en.dg (dCtx j) = some c ∧ c.st = CState.opened ∧
      c.declared = 0 ∧ dLen j ≤ 4 * periodNs s ∧ 0 < dLen j ∧ isScratch (dSrc j) = false ∧ spanClass s (dSrc j) (dLen j) = some c1 ∧
      c1 ≠ classW ∧ (∀ (l : Nat), l ∈ spanLines (dSrc j) (dLen j) → poisoned s l = false) ∧ (∀ (e : Nat × Tap), e ∈ s.en.taps →
      e.snd.ctx ≠ dCtx j) ∧ dgFinish j = false) ∧
    (∃ (n : Nat) (s : State) (j : Job) (c : DgCtx) (c1 : Nat) (c2 : Nat), jobGet s n = some j ∧ tabSorted s.en.jobs = true ∧
      j.eng = Eng.dg ∧ dOp j = 2 ∧ j.phase = JPhase.waiting ∧ j.ranAt ≠ some (frameNo s) ∧ (∀ (p : Nat), j.parcel = some p →
      tokenOk s p 2 = true) ∧ (∀ (e : Nat × Job), e ∈ s.en.jobs → e.fst ≠ n → e.snd.eng = Eng.dg → e.snd.phase = JPhase.ended) ∧
      freeLane s j ≠ none ∧ (Eng.dg = Eng.cp → s.ks.grace = false ∧ (cpIvGen j = true → drbgError s = false)) ∧ j.pos = 0 ∧ j.written = 0 ∧
      j.input = [] ∧ Memory.wf s.dr.mem = true ∧ jobCheck s j = esOk ∧ j.gran = granNeed j ∧ tabGet s.en.dg (dCtx j) = some c ∧
      c.st = CState.opened ∧ c.declared = 0 ∧ dLen j ≤ 4 * periodNs s ∧ 0 < dLen j ∧ isScratch (dSrc j) = false ∧
      spanClass s (dSrc j) (dLen j) = some c1 ∧ c1 ≠ classW ∧ (∀ (l : Nat), l ∈ spanLines (dSrc j) (dLen j) → poisoned s l = false) ∧
      (∀ (e : Nat × Tap), e ∈ s.en.taps → e.snd.ctx ≠ dCtx j) ∧ dgFinish j = true ∧ c.hmac = false ∧ dgToMem j = true ∧
      isScratch (dOut j) = false ∧ spanClass s (dOut j) (dgSize c.alg) = some c2 ∧ c2 ≠ classW) ∧
    (∃ (n : Nat) (s : State) (j : Job), jobGet s n = some j ∧ j.phase ≠ JPhase.done) ∧
    (∃ (n : Nat) (s : State) (j : Job) (c : Nat), jobGet s n = some j ∧ j.phase = JPhase.done ∧ isScratch (dResult j) = false ∧
      spanClass s (dResult j) (List.length (jobRecord j)) = some c ∧ c ≠ classW ∧ Memory.wf s.dr.mem = true ∧ j.gran ≤ s.fr.eng) ∧
    (∃ (n : Nat) (s : State) (j : Job) (c : Nat), Says.startsWell s n j .cz 3 ∧ (czOpenTarget s j).2 = some c) ∧
    (∃ (n : Nat) (s : State) (j : Job), Says.startsWell s n j .cz 4 ∧ tabSorted s.en.cz = true) :=
  ⟨⟨3, (EJ (J .dg (dgD 2 0 5 100))), ((jobGet ((EJ (J .dg (dgD 2 0 5 100)))) 3).get (by decide +kernel)),
      ((tabGet ((EJ (J .dg (dgD 2 0 5 100)))).en.dg (dCtx (((jobGet ((EJ (J .dg (dgD 2 0 5 100)))) 3).get (by decide +kernel))))).get (by decide +kernel)),
      1, by decide +kernel⟩,
   ⟨3, (EJ (J .dg (dgD 2 12 5 100))), ((jobGet ((EJ (J .dg (dgD 2 12 5 100)))) 3).get (by decide +kernel)),
      ((tabGet ((EJ (J .dg (dgD 2 12 5 100)))).en.dg (dCtx (((jobGet ((EJ (J .dg (dgD 2 12 5 100)))) 3).get (by decide +kernel))))).get (by decide +kernel)),
      1, 1, by decide +kernel⟩,
   ⟨3, (EJ (J .cz (czD 1 0x03 0 0xFFFF 300 4096))), ((jobGet ((EJ (J .cz (czD 1 0x03 0 0xFFFF 300 4096)))) 3).get (by decide +kernel)),
      by decide +kernel⟩,
   ⟨3, (EJ { J .cp cp2 with phase := .done, status := 11, gran := 2 }),
      ((jobGet ((EJ { J .cp cp2 with phase := .done, status := 11, gran := 2 })) 3).get (by decide +kernel)),
      ((spanClass ((EJ { J .cp cp2 with phase := .done, status := 11, gran := 2 })) (dResult (((jobGet ((EJ { J .cp cp2 with phase := .done, status := 11, gran := 2 })) 3).get (by decide +kernel)))) (List.length (jobRecord (((jobGet ((EJ { J .cp cp2 with phase := .done, status := 11, gran := 2 })) 3).get (by decide +kernel)))))).get (by decide +kernel)),
      by decide +kernel⟩,
   ⟨3, EJ (J .cz (czD 3 0 0x80 9 0 0)), J .cz (czD 3 0 0x80 9 0 0), 9, by unfold Says.startsWell Says.waits; decide +kernel,
      by decide +kernel⟩,
   ⟨3, EJ (J .cz (czD 4 0 0x80 5 0 0)), J .cz (czD 4 0 0x80 5 0 0), by unfold Says.startsWell Says.waits; decide +kernel, by decide +kernel⟩⟩

/-- Cases of O52. Engine jobs: compression and digests. Part 3. -/
theorem witness_CompressionAndDigest_3 :
    (∃ (n : Nat) (s : State) (j : Job) (c : Nat), Says.startsWell s n j .dg 1 ∧ (dgOpenTarget s j).2 = some c) ∧
    (∃ (n : Nat) (s : State) (j : Job), Says.startsWell s n j .dg 3 ∧ tabSorted s.en.dg = true) :=
  ⟨⟨3, EJ (J .dg (dgD 1 0x20 0xFFFF 0)), J .dg (dgD 1 0x20 0xFFFF 0), 2, by unfold Says.startsWell Says.waits; decide +kernel,
      by decide +kernel⟩,
   ⟨3, EJ (J .dg (dgD 3 0 5 0)), J .dg (dgD 3 0 5 0), by unfold Says.startsWell Says.waits; decide +kernel, by decide +kernel⟩⟩

/-- Cases of O53. Cipher jobs, keys and entropy. Part 1. -/
theorem witness_Ciphers_1 :
    (∃ (n : Nat) (s : State) (j : Job) (k : KSlot) (c : Nat) (enc : Bool), tabGet s.ks.slots (cpKey j) = some k ∧ cpMode j < 4 ∧
      cpLen j ≤ 8 * periodNs s ∧ isScratch (dSrc j) = false ∧ spanClass s (dSrc j) (cpLen j) = some c ∧ c ≠ classW ∧ (∀ (l : Nat),
      l ∈ spanLines (dSrc j) (cpLen j) → poisoned s l = false) ∧ jobGet s n = some j ∧ tabSorted s.en.jobs = true ∧ j.eng = Eng.cp ∧
      (dOp j = if enc = true then 1 else 2) ∧ j.phase = JPhase.waiting ∧ j.ranAt ≠ some (frameNo s) ∧ (∀ (p : Nat), j.parcel = some p →
      tokenOk s p 2 = true) ∧ (∀ (e : Nat × Job), e ∈ s.en.jobs → e.fst ≠ n → e.snd.eng = Eng.cp → e.snd.phase = JPhase.ended) ∧
      freeLane s j ≠ none ∧ (Eng.cp = Eng.cp → s.ks.grace = false ∧ (cpIvGen j = true → drbgError s = false)) ∧ j.pos = 0 ∧ j.written = 0 ∧
      j.input = [] ∧ Memory.wf s.dr.mem = true ∧ jobCheck s j = esOk ∧ j.gran = granNeed j) ∧
    (∃ (n : Nat) (s : State) (j : Job) (k : KSlot) (c : Nat), jobGet s n = some j ∧ tabSorted s.en.jobs = true ∧ j.eng = Eng.cp ∧
      dOp j = 1 ∧ j.phase = JPhase.waiting ∧ j.ranAt ≠ some (frameNo s) ∧ (∀ (p : Nat), j.parcel = some p → tokenOk s p 2 = true) ∧
      (∀ (e : Nat × Job), e ∈ s.en.jobs → e.fst ≠ n → e.snd.eng = Eng.cp → e.snd.phase = JPhase.ended) ∧ freeLane s j ≠ none ∧
      (Eng.cp = Eng.cp → s.ks.grace = false ∧ (cpIvGen j = true → drbgError s = false)) ∧ j.pos = 0 ∧ j.written = 0 ∧ j.input = [] ∧
      Memory.wf s.dr.mem = true ∧ jobCheck s j = esOk ∧ j.gran = granNeed j ∧ cpMode j = modeGcm ∧ cpIvGen j = false ∧
      tabGet s.ks.slots (cpKey j) = some k ∧ cpTotal j ≤ 8 * periodNs s ∧ isScratch (dSrc j) = false ∧
      spanClass s (dSrc j) (cpAad j + cpLen j) = some c ∧ c ≠ classW ∧ (∀ (l : Nat), l ∈ spanLines (dSrc j) (cpAad j + cpLen j) →
      poisoned s l = false)) ∧
    (∃ (n : Nat) (s : State) (j : Job) (k : KSlot) (c : Nat), jobGet s n = some j ∧ tabSorted s.en.jobs = true ∧ j.eng = Eng.cp ∧
      dOp j = 2 ∧ j.phase = JPhase.waiting ∧ j.ranAt ≠ some (frameNo s) ∧ (∀ (p : Nat), j.parcel = some p → tokenOk s p 2 = true) ∧
      (∀ (e : Nat × Job), e ∈ s.en.jobs → e.fst ≠ n → e.snd.eng = Eng.cp → e.snd.phase = JPhase.ended) ∧ freeLane s j ≠ none ∧
      (Eng.cp = Eng.cp → s.ks.grace = false ∧ (cpIvGen j = true → drbgError s = false)) ∧ j.pos = 0 ∧ j.written = 0 ∧ j.input = [] ∧
      Memory.wf s.dr.mem = true ∧ jobCheck s j = esOk ∧ j.gran = granNeed j ∧ cpMode j = modeGcm ∧ cpIvGen j = false ∧
      tabGet s.ks.slots (cpKey j) = some k ∧ cpTotal j ≤ 8 * periodNs s ∧ isScratch (dSrc j) = false ∧
      spanClass s (dSrc j) (cpTotal j) = some c ∧ c ≠ classW ∧ (∀ (l : Nat), l ∈ spanLines (dSrc j) (cpTotal j) → poisoned s l = false)) ∧
    (∃ (n : Nat) (s : State) (j : Job), jobGet s n = some j ∧ j.phase ≠ JPhase.writeout) ∧
    (∃ (n : Nat) (s : State) (j : Job) (c : Nat) (c1 : Nat), jobGet s n = some j ∧ j.phase = JPhase.writeout ∧ j.written = 0 ∧
      j.output ≠ [] ∧ isScratch (dDst j) = false ∧ spanClass s (dDst j) (List.length j.output) = some c ∧ c ≠ classW ∧
      isScratch (dResult j) = false ∧ spanClass s (dResult j) 32 = some c1 ∧ c1 ≠ classW ∧ Memory.wf s.dr.mem = true ∧ j.eng = Eng.cp ∧
      (dDst j + List.length j.output ≤ dResult j ∨ dResult j + 32 ≤ dDst j)) ∧
    (∃ (n : Nat) (s : State) (j : Job), jobGet s n = some j ∧ j.phase = JPhase.waiting ∧ j.gran = 0 ∧ 0 < granNeed j ∧ jobCheck s j = esOk ∧
      granNeed j ≤ s.fr.pool) :=
  ⟨⟨3, (EJ (J .cp (cpD 1 0x20 5 33))), ((jobGet ((EJ (J .cp (cpD 1 0x20 5 33)))) 3).get (by decide +kernel)),
      ((tabGet ((EJ (J .cp (cpD 1 0x20 5 33)))).ks.slots (cpKey (((jobGet ((EJ (J .cp (cpD 1 0x20 5 33)))) 3).get (by decide +kernel))))).get (by decide +kernel)),
      1, true, by decide +kernel⟩,
   ⟨3, (EJ (J .cp (cpD 1 0x80 5 32 12 4))), ((jobGet ((EJ (J .cp (cpD 1 0x80 5 32 12 4)))) 3).get (by decide +kernel)),
      ((tabGet ((EJ (J .cp (cpD 1 0x80 5 32 12 4)))).ks.slots (cpKey (((jobGet ((EJ (J .cp (cpD 1 0x80 5 32 12 4)))) 3).get (by decide +kernel))))).get (by decide +kernel)),
      1, by decide +kernel⟩,
   ⟨3, (EJ { J .cp cp2 with gran := 1 }), ((jobGet ((EJ { J .cp cp2 with gran := 1 })) 3).get (by decide +kernel)),
      ((tabGet ((EJ { J .cp cp2 with gran := 1 })).ks.slots (cpKey (((jobGet ((EJ { J .cp cp2 with gran := 1 })) 3).get (by decide +kernel))))).get (by decide +kernel)),
      1, by decide +kernel⟩,
   ⟨3, (EJ (J .cz (czD 1 0x03 0 0xFFFF 300 4096))), ((jobGet ((EJ (J .cz (czD 1 0x03 0 0xFFFF 300 4096)))) 3).get (by decide +kernel)),
      by decide +kernel⟩,
   ⟨3, (EJ { J .cp cp2 with phase := .writeout, gran := 1, output := tile4 4 |>.take 32 }),
      ((jobGet ((EJ { J .cp cp2 with phase := .writeout, gran := 1, output := tile4 4 |>.take 32 })) 3).get (by decide +kernel)),
      ((spanClass ((EJ { J .cp cp2 with phase := .writeout, gran := 1, output := tile4 4 |>.take 32 })) (dDst (((jobGet ((EJ { J .cp cp2 with phase := .writeout, gran := 1, output := tile4 4 |>.take 32 })) 3).get (by decide +kernel)))) (List.length (((jobGet ((EJ { J .cp cp2 with phase := .writeout, gran := 1, output := tile4 4 |>.take 32 })) 3).get (by decide +kernel))).output)).get (by decide +kernel)),
      ((spanClass ((EJ { J .cp cp2 with phase := .writeout, gran := 1, output := tile4 4 |>.take 32 })) (dResult (((jobGet ((EJ { J .cp cp2 with phase := .writeout, gran := 1, output := tile4 4 |>.take 32 })) 3).get (by decide +kernel)))) 32).get (by decide +kernel)),
      by decide +kernel⟩,
   ⟨3, (EJ (J .cp cp2)), ((jobGet ((EJ (J .cp cp2))) 3).get (by decide +kernel)), by decide +kernel⟩⟩

/-- Cases of O53. Cipher jobs, keys and entropy. Part 2. -/
theorem witness_Ciphers_2 :
    (∃ (n : Nat) (s : State) (j : Job), jobGet s n = some j ∧ j.phase = JPhase.waiting ∧ j.gran = 0 ∧ 0 < granNeed j ∧ jobCheck s j = esOk ∧
      s.fr.pool < granNeed j) ∧
    (∃ (n : Nat) (s : State) (j : Job) (k : KSlot) (c : Nat), jobGet s n = some j ∧ tabSorted s.en.jobs = true ∧ j.eng = Eng.cp ∧
      dOp j = 5 ∧ j.phase = JPhase.waiting ∧ j.ranAt ≠ some (frameNo s) ∧ (∀ (p : Nat), j.parcel = some p → tokenOk s p 2 = true) ∧
      (∀ (e : Nat × Job), e ∈ s.en.jobs → e.fst ≠ n → e.snd.eng = Eng.cp → e.snd.phase = JPhase.ended) ∧ freeLane s j ≠ none ∧
      (Eng.cp = Eng.cp → s.ks.grace = false ∧ (cpIvGen j = true → drbgError s = false)) ∧ j.pos = 0 ∧ j.written = 0 ∧ j.input = [] ∧
      Memory.wf s.dr.mem = true ∧ jobCheck s j = esOk ∧ j.gran = granNeed j ∧ tabGet s.ks.slots (cpKey j) = some k ∧
      cpLen j ≤ 8 * periodNs s ∧ isScratch (dSrc j) = false ∧ spanClass s (dSrc j) (cpLen j) = some c ∧ c ≠ classW ∧ (∀ (l : Nat),
      l ∈ spanLines (dSrc j) (cpLen j) → poisoned s l = false)) ∧
    (∃ (k : Nat) (s : State) (v : Nat), k < 16 ∧ v < 2 ^ 32 ∧ bitOf v 31 = true ∧ tapInvalid s v = false) ∧
    (∃ (k : Nat) (s : State) (v : Nat), k < 16 ∧ bitOf v 31 = true ∧ tapInvalid s v = true) ∧
    (∃ (k : Nat) (s : State) (x : Tap) (f : Nat), k < 16 ∧ tabGet s.en.taps k = some x ∧ x.heldSince = some f ∧ frameNo s = f + 64) ∧
    (∃ (k : Nat) (s : State), k < 16 ∧ tabGet s.en.taps k = none ∧ regBit s (DG_NS_TAP k) 31 = true ∧
      tapInvalid s (regNat s (DG_NS_TAP k)) = true) :=
  ⟨⟨3, ({ EJ (J .cp cp2) with fr := { EB.fr with pool := 0 } }),
      ((jobGet (({ EJ (J .cp cp2) with fr := { EB.fr with pool := 0 } })) 3).get (by decide +kernel)), by decide +kernel⟩,
   ⟨3, (EJ { J .cp (cpD 5 0xA0 8 24) with parcel := none }),
      ((jobGet ((EJ { J .cp (cpD 5 0xA0 8 24) with parcel := none })) 3).get (by decide +kernel)),
      ((tabGet ((EJ { J .cp (cpD 5 0xA0 8 24) with parcel := none })).ks.slots (cpKey (((jobGet ((EJ { J .cp (cpD 5 0xA0 8 24) with parcel := none })) 3).get (by decide +kernel))))).get (by decide +kernel)),
      1, by decide +kernel⟩,
   ⟨0, TapS, 2147484165, by decide +kernel⟩,
   ⟨1, (EJ (J .cz (czD 1 0xC0 0 0xFFFF 4096 4096))), 2147484161, by decide +kernel⟩,
   ⟨0, TapS, ((tabGet TapS.en.taps 0).get (by decide +kernel)), 1984, by decide +kernel⟩,
   ⟨5, TapS, by decide +kernel⟩⟩

/-- Cases of O53. Cipher jobs, keys and entropy. Part 3. -/
theorem witness_Ciphers_3 :
    (∃ (k : Nat) (s : State) (x : Tap) (f : Nat), k < 16 ∧ tabGet s.en.taps k = some x ∧ x.heldSince = some f ∧ frameNo s ≠ f + 64) ∧
    (∃ (k : Nat) (s : State) (x : Tap), k < 16 ∧ tabGet s.en.taps k = some x ∧ regBit s (DG_NS_TAP k) 31 = false) ∧
    (∃ (k : Nat) (s : State) (c : DgCtx), k < 16 ∧ tabGet s.en.taps k = none ∧ regBit s (DG_NS_TAP k) 31 = true ∧
      tabGet s.en.dg (regFld s (DG_NS_TAP k) 7 0) = some c ∧ tapInvalid s (regNat s (DG_NS_TAP k)) = false) ∧
    (∃ (s : State) (p : Packet), p.bufOk = true ∧ (p.mctp = true ∨ onTicket s p = true ∧ c1Fields (tkGet s p.id).cmd = true ∧
      (tkGet s p.id).cmd.dok = true) ∧ (List.length s.mg.flights < if fevoum s = true then 4 else 64) ∧ (∀ (e : Nat × Flight),
      e ∈ s.mg.flights → carrier e.snd.p = carrier p → e.snd.p.seq ≠ p.seq) ∧ (∀ (c : CachedReply), c ∈ tabGetD s.mg.caches (carrier p) [] →
      c.op = 515 → samePacket c.p p = false) ∧ s.ev.powerFail = false ∧ s.pw.halted = false ∧ s.fr.fatal = false ∧
      packetCheck s 515 p = none ∧ tabSorted s.mg.flights = true) ∧
    (∃ (n : Nat) (f : Flight) (s : State),
      (List.find? (fun r => reqSlot r == pAt f.p 8 2) s.ks.reqs = some (KeyReq.packet n (pAt f.p 8 2))) ∧ flightGet s n = some f ∧
      f.op = 513 ∧ tabSorted s.mg.flights = true ∧ s.ev.powerFail = false ∧ s.fr.fatal = false ∧ replyLive s f.p f.tkEd = true ∧
      (f.p.mctp = true ∨ (fnGet s 0).bme = true) ∧ pAt f.p 8 2 < 4096 ∧ (slotGet s (pAt f.p 8 2)).valid = false ∧ pAt f.p 10 2 < 4096 ∧
      (slotGet s (pAt f.p 10 2)).valid = true ∧ bitOf (slotGet s (pAt f.p 10 2)).uses 5 = true ∧ ((slotGet s (pAt f.p 10 2)).device = true ∨
      destDevice f.p = false ∧ (slotGet s (pAt f.p 10 2)).owner = f.p.parcel) ∧ (destDevice f.p = true ∨
      tabGet s.pc.saves f.p.parcel = none)) ∧
    (∃ (n : Nat) (f : Flight) (s : State),
      (List.find? (fun r => reqSlot r == pAt f.p 8 2) s.ks.reqs = some (KeyReq.packet n (pAt f.p 8 2))) ∧ flightGet s n = some f ∧
      f.op = 514 ∧ tabSorted s.mg.flights = true ∧ s.ev.powerFail = false ∧ s.fr.fatal = false ∧ replyLive s f.p f.tkEd = true ∧
      (f.p.mctp = true ∨ (fnGet s 0).bme = true) ∧ pAt f.p 8 2 < 4096 ∧ (slotGet s (pAt f.p 8 2)).valid = false ∧ pAt f.p 10 1 = 0 ∧
      f.p.bufLen = 0 ∧ keyLenOk (pAt f.p 11 1) (pAt f.p 13 1) = true ∧ usesOk (pAt f.p 11 1) (pAt f.p 12 1) (destDevice f.p) = true ∧
      slotRoom s (destDevice f.p) f.p.parcel (pAt f.p 8 2) = true) :=
  ⟨⟨1, TapS, ((tabGet TapS.en.taps 1).get (by decide +kernel)), 2000, by decide +kernel⟩,
   ⟨0, TapS, ((tabGet TapS.en.taps 0).get (by decide +kernel)), by decide +kernel⟩,
   ⟨3, TapS, ((tabGet TapS.en.dg (regFld TapS (DG_NS_TAP 3) 7 0)).get (by decide +kernel)), by decide +kernel⟩,
   ⟨(regPut { EB with fr := { EB.fr with count := 70000 }, ks := { EB.ks with failedAt := some 100, retries := 0 } } KS_ENTROPY 0x80FF0003),
      { mctp := true, id := 9, seq := 5, parcel := 17, params := zeros 40 }, by decide +kernel⟩,
   ⟨1, ((flightGet ((KF 0x201 (withBuf (kp 9 (leBytes 2 8)) (zeros 40)))) 1).get (by decide +kernel)),
      (KF 0x201 (withBuf (kp 9 (leBytes 2 8)) (zeros 40))), by decide +kernel⟩,
   ⟨1, ((flightGet ((KF 0x202 (kp 9 ([0, 1, 3, 32] ++ zeros 0)))) 1).get (by decide +kernel)), (KF 0x202 (kp 9 ([0, 1, 3, 32] ++ zeros 0))),
      by decide +kernel⟩⟩

/-- Cases of O53. Cipher jobs, keys and entropy. Part 4. -/
theorem witness_Ciphers_4 :
    (∃ (n : Nat) (f : Flight) (s : State),
      (List.find? (fun r => reqSlot r == pAt f.p 8 2) s.ks.reqs = some (KeyReq.packet n (pAt f.p 8 2))) ∧ flightGet s n = some f ∧
      f.op = 515 ∧ tabSorted s.mg.flights = true ∧ s.ev.powerFail = false ∧ s.fr.fatal = false ∧ replyLive s f.p f.tkEd = true ∧
      (f.p.mctp = true ∨ (fnGet s 0).bme = true) ∧ pAt f.p 8 2 < 4096 ∧ s.en.xjobs = [] ∧ (slotGet s (pAt f.p 8 2)).valid = false) ∧
    (∃ (n : Nat) (f : Flight) (s : State),
      (List.find? (fun r => reqSlot r == pAt f.p 8 2) s.ks.reqs = some (KeyReq.packet n (pAt f.p 8 2))) ∧ flightGet s n = some f ∧
      f.op = 515 ∧ tabSorted s.mg.flights = true ∧ s.ev.powerFail = false ∧ s.fr.fatal = false ∧ replyLive s f.p f.tkEd = true ∧
      (f.p.mctp = true ∨ (fnGet s 0).bme = true) ∧ pAt f.p 8 2 < 4096 ∧ s.en.xjobs = [] ∧ slotIs (slotGet s (pAt f.p 8 2)) f.p = true ∧
      (slotGet s (pAt f.p 8 2)).valid = true ∧ (bitOf (slotGet s (pAt f.p 8 2)).uses 4 = false ∨ slotBound s (pAt f.p 8 2) = false) ∧
      slotSaving s (slotGet s (pAt f.p 8 2)) = false) ∧
    (∃ (n : Nat) (f : Flight) (s : State),
      (List.find? (fun r => reqSlot r == pAt f.p 8 2) s.ks.reqs = some (KeyReq.packet n (pAt f.p 8 2))) ∧ flightGet s n = some f ∧
      f.op = 515 ∧ tabSorted s.mg.flights = true ∧ s.ev.powerFail = false ∧ s.fr.fatal = false ∧ replyLive s f.p f.tkEd = true ∧
      (f.p.mctp = true ∨ (fnGet s 0).bme = true) ∧ pAt f.p 8 2 < 4096 ∧ s.en.xjobs = [] ∧ (slotGet s (pAt f.p 8 2)).valid = true ∧
      slotIs (slotGet s (pAt f.p 8 2)) f.p = true ∧ bitOf (slotGet s (pAt f.p 8 2)).uses 4 = true ∧ slotBound s (pAt f.p 8 2) = true) ∧
    (∃ (k : Nat) (s : State) (c : Nat) (x : DgCtx), (List.find? (fun r => reqSlot r == k) s.ks.reqs = some (KeyReq.erase k)) ∧
      (slotGet s k).valid = true ∧ s.en.jobs = [] ∧ s.en.dg = [(c, x)] ∧ x.st = CState.opened ∧
      (Option.map (fun x => x.slot) x.cap = some k)) ∧
    (∃ (k : Nat) (s : State) (n : Nat) (j : Job) (p : Nat), (List.find? (fun r => reqSlot r == k) s.ks.reqs = some (KeyReq.erase k)) ∧
      (slotGet s k).valid = true ∧ s.en.jobs = [(n, j)] ∧ j.phase = JPhase.running ∧ (Option.map (fun x => x.slot) j.cap = some k) ∧
      j.parcel = some p ∧ (parGet s p).cancelDue = true) ∧
    (∃ (k : Nat) (s : State) (n : Nat) (j : Job), (List.find? (fun r => reqSlot r == k) s.ks.reqs = some (KeyReq.erase k)) ∧
      (slotGet s k).valid = true ∧ s.en.jobs = [(n, j)] ∧ j.phase = JPhase.running ∧ (Option.map (fun x => x.slot) j.cap = some k) ∧
      (∀ (p : Nat), j.parcel = some p → (parGet s p).cancelDue = false)) :=
  ⟨⟨1, ((flightGet ((KF 0x203 (kp 9 []))) 1).get (by decide +kernel)), (KF 0x203 (kp 9 [])), by decide +kernel⟩,
   ⟨1, ((flightGet ((KF 0x203 (kp 5 []))) 1).get (by decide +kernel)), (KF 0x203 (kp 5 [])), by decide +kernel⟩,
   ⟨1, ((flightGet ((KF 0x203 (kp 10 [] 0xFFFF))) 1).get (by decide +kernel)), (KF 0x203 (kp 10 [] 0xFFFF)), by decide +kernel⟩,
   ⟨5,
      (KE fun s => { s with en := { s.en with dg := [(6, { parcel := some 17, pEdition := 6, hmac := true, cap := some ⟨5, 4, [1,2]⟩ })] } }),
      6,
      { st := CState.opened, parcel := some 17, pEdition := 6, alg := 0, cap := some { slot := 5, edition := 4, key := [1, 2] }, hmac := true, declared := 0, data := [], result := [], restarts := 0, restarted := false, tap := false },
      by decide +kernel⟩,
   ⟨5,
      (KE fun s => { s with pc := { s.pc with parcels := [(17, { parcel17 with cancelDue := true })] }, en := { s.en with jobs := [(3, { J .cp (cpD 1 0x20 5 33) with phase := .running, cap := some ⟨5, 4, zeros 16⟩, lane := some 2 })] } }),
      3,
      { eng := Eng.cp, desc := [1, 32, 5, 0, 255, 255, 0, 0, 0, 0, 0, 0, 0, 0, 0, 0, 0, 0, 0, 1, 0, 0, 0, 0, 0, 0, 1, 1, 0, 0, 0, 0, 33, 0, 0, 0, 0, 0, 0, 0, 0, 0, 2, 1] ++ zeros 20, parcel := some 17, pEdition := 6, ticket := 2, tEdition := 0, inv := some 5, order := 0, phase := JPhase.running, lane := some 2, ranAt := none, row := 0, ctx := 65535, pos := 0, written := 0, input := [], output := [], cap := some { slot := 5, edition := 4, key := zeros 16 }, gran := 0, iv := [], vEnt := none, status := 0, flags := 0, consumed := 0, produced := 0, aux0 := 0, aux1 := 0, handle := 0x000000000#36, awaits := [] },
      17, by decide +kernel⟩,
   ⟨5,
      (KE fun s => { s with en := { s.en with jobs := [(3, { J .cp (cpD 1 0x20 5 33) with phase := .running, cap := some ⟨5, 4, zeros 16⟩, lane := some 2 })] } }),
      3,
      { eng := Eng.cp, desc := [1, 32, 5, 0, 255, 255, 0, 0, 0, 0, 0, 0, 0, 0, 0, 0, 0, 0, 0, 1, 0, 0, 0, 0, 0, 0, 1, 1, 0, 0, 0, 0, 33, 0, 0, 0, 0, 0, 0, 0, 0, 0, 2, 1] ++ zeros 20, parcel := some 17, pEdition := 6, ticket := 2, tEdition := 0, inv := some 5, order := 0, phase := JPhase.running, lane := some 2, ranAt := none, row := 0, ctx := 65535, pos := 0, written := 0, input := [], output := [], cap := some { slot := 5, edition := 4, key := zeros 16 }, gran := 0, iv := [], vEnt := none, status := 0, flags := 0, consumed := 0, produced := 0, aux0 := 0, aux1 := 0, handle := 0x000000000#36, awaits := [] },
      by decide +kernel⟩⟩

/-- Cases of O53. Cipher jobs, keys and entropy. Part 5. -/
theorem witness_Ciphers_5 :
    (∃ (s : State) (p : Packet), (p.mctp = true ∨ onTicket s p = true ∧ c1Fields (tkGet s p.id).cmd = true ∧
      (tkGet s p.id).cmd.dok = true) ∧ (List.length s.mg.flights < if fevoum s = true then 4 else 64) ∧ (∀ (e : Nat × Flight),
      e ∈ s.mg.flights → carrier e.snd.p = carrier p → e.snd.p.seq ≠ p.seq) ∧ (∀ (c : CachedReply), c ∈ tabGetD s.mg.caches (carrier p) [] →
      c.op = 516 → samePacket c.p p = false) ∧ s.ev.powerFail = false ∧ s.pw.halted = false ∧ s.fr.fatal = false ∧
      packetCheck s 516 p = none ∧ tabSorted s.mg.flights = true ∧ (∀ (e : Nat × Flight), e ∈ s.mg.flights → e.snd.p.parcel = p.parcel →
      e.snd.applied = true) ∧ p.bufOk = true ∧ (p.mctp = true ∨ (fnGet s 0).bme = true) ∧ pFlag p 0 = false ∧ pAt p 8 2 < 4096) ∧
    (∃ (s : State), retryDue s = false) ∧
    (∃ (s : State) (f : Nat), s.ks.failedAt = some f ∧ regFld s KS_ENTROPY 31 30 = 2 ∧ f + 1048576 ≤ frameNo s) ∧
    (∃ (s : State) (f : Nat), s.ks.failedAt = some f ∧ regFld s KS_ENTROPY 31 30 = 2 ∧ s.ks.retries < 3 ∧
      f + 20000 * (s.ks.retries + 1) ≤ frameNo s) ∧
    (∃ (s : State) (f : Nat), s.ks.failedAt = some f ∧ regFld s KS_ENTROPY 31 30 = 2 ∧ frameNo s < f + 1048576) ∧
    (∃ (s : State) (l : Nat), (tabGetD s.ks.blocks l 0 < 65536 ∨ regFld s KS_ENTROPY 31 30 ≠ 1)) :=
  ⟨⟨(regPut { EB with fr := { EB.fr with count := 70000 }, ks := { EB.ks with failedAt := some 100, retries := 0 } } KS_ENTROPY 0x80FF0003),
      { mctp := true, id := 9, seq := 5, parcel := 17, params := zeros 40 }, by decide +kernel⟩,
   ⟨(KF 0x201 (withBuf (kp 9 (leBytes 2 8)) (zeros 40))), by decide +kernel⟩,
   ⟨(regPut { EB with fr := { EB.fr with count := 2000000 }, ks := { EB.ks with failedAt := some 100, retries := 2 } } KS_ENTROPY 0x80FF0003),
      100, by decide +kernel⟩,
   ⟨(regPut { EB with fr := { EB.fr with count := 2000000 }, ks := { EB.ks with failedAt := some 100, retries := 2 } } KS_ENTROPY 0x80FF0003),
      100, by decide +kernel⟩,
   ⟨(regPut { EB with fr := { EB.fr with count := 70000 }, ks := { EB.ks with failedAt := some 100, retries := 0 } } KS_ENTROPY 0x80FF0003),
      100, by decide +kernel⟩,
   ⟨(KF 0x201 (withBuf (kp 9 (leBytes 2 8)) (zeros 40))), 0, by decide +kernel⟩⟩

/-- Cases of O53. Cipher jobs, keys and entropy. Part 6. -/
theorem witness_Ciphers_6 :
    (∃ (s : State), (regFld s KS_ENTROPY 31 30 ≠ 1 ∨ frameNo s < s.ks.reseeded + 1048576)) ∧
    (∃ (s : State), regFld s KS_ENTROPY 31 30 = 1 ∧ s.ks.reseeded + 1048576 ≤ frameNo s) ∧
    (∃ (s : State) (l : Nat), l < 16 ∧ regFld s KS_ENTROPY 31 30 = 1 ∧ 65536 ≤ tabGetD s.ks.blocks l 0) ∧
    (∃ (s : State) (v : Nat) (n : Nat) (f : Flight), s.ks.blowing = some (v, n) ∧ flightGet s n = some f ∧ v ≤ 64 ∧ s.ks.fuses ≤ 64 ∧
      tabSorted s.mg.flights = true ∧ s.ev.powerFail = false ∧ s.fr.fatal = false ∧ replyLive s f.p f.tkEd = true ∧ (f.p.mctp = true ∨
      (fnGet s 0).bme = true)) ∧
    (∃ (n : Nat) (s : State) (j : Job) (k : KSlot) (d : Bytes), Says.gcmReads s n j 3 k d) ∧
    (∃ (n : Nat) (s : State) (j : Job) (k : KSlot) (d : Bytes) (v : Verified), Says.gcmReads s n j 4 k d ∧ verifiedFor s j = some v) :=
  ⟨⟨(KF 0x201 (withBuf (kp 9 (leBytes 2 8)) (zeros 40))), by decide +kernel⟩,
   ⟨(regPut { EB with fr := { EB.fr with count := 2000000 }, ks := { EB.ks with blocks := [(0, 70000), (3, 65536), (4, 65535)] } } KS_ENTROPY 0x4000FFFF),
      by decide +kernel⟩,
   ⟨(regPut { EB with fr := { EB.fr with count := 2000000 }, ks := { EB.ks with blocks := [(0, 70000), (3, 65536), (4, 65535)] } } KS_ENTROPY 0x4000FFFF),
      0, by decide +kernel⟩,
   ⟨({ KF 0x203 (kp 5 []) with ks := { EB.ks with blowing := some (7, 1), fuses := 3 } }), 7, 1,
      ((flightGet (({ KF 0x203 (kp 5 []) with ks := { EB.ks with blowing := some (7, 1), fuses := 3 } })) 1).get (by decide +kernel)),
      by decide +kernel⟩,
   ⟨3, EJ (gcmJob 3), gcmJob 3, gcmSlot, memRead (EJ (gcmJob 3)) 0x1000000 (cpTotal (gcmJob 3)),
      by unfold Says.gcmReads Says.startsWell Says.waits Says.readsAs Says.inRegion; decide +kernel⟩,
   ⟨3, EJ (gcmJob 4), gcmJob 4, gcmSlot, memRead (EJ (gcmJob 4)) 0x1000000 (cpTotal (gcmJob 4)), _,
      by unfold Says.gcmReads Says.startsWell Says.waits Says.readsAs Says.inRegion; decide +kernel,
      (Option.some_get (by decide +kernel)).symm⟩⟩

/-- Cases of O54. Search, scan and the Cascade. Part 1. -/
theorem witness_Gazetteer_1 :
    (∃ (n : Nat) (s : State) (j : Job), jobGet s n = some j ∧ j.eng = Eng.gz ∧ dOp j = 2 ∧ j.phase = JPhase.waiting ∧
      j.ranAt ≠ some (frameNo s) ∧ (∀ (p : Nat), j.parcel = some p → tokenOk s p 2 = true) ∧ gzBefore s n j = false ∧
      gzPlaceFor s j ≠ none ∧ j.pos = 0 ∧ j.written = 0 ∧ j.input = [] ∧ j.produced = 0 ∧ j.consumed = 0 ∧ j.aux0 = 0 ∧ j.aux1 = 0 ∧
      j.status = esOk ∧ j.flags = 0 ∧ j.awaits = [] ∧ Memory.wf s.dr.mem = true ∧ tabSorted s.gz.entries = true ∧ gzCheck s n j ≠ esOk) ∧
    (∃ (n : Nat) (s : State) (j : Job) (t : GzTab) (c : Nat) (c1 : Nat) (e : Nat) (x : GzEntry), jobGet s n = some j ∧ j.eng = Eng.gz ∧
      dOp j = 1 ∧ j.phase = JPhase.waiting ∧ j.ranAt ≠ some (frameNo s) ∧ (∀ (p : Nat), j.parcel = some p → tokenOk s p 2 = true) ∧
      gzBefore s n j = false ∧ gzPlaceFor s j ≠ none ∧ j.pos = 0 ∧ j.written = 0 ∧ j.input = [] ∧ j.produced = 0 ∧ j.consumed = 0 ∧
      j.aux0 = 0 ∧ j.aux1 = 0 ∧ j.status = esOk ∧ j.flags = 0 ∧ j.awaits = [] ∧ Memory.wf s.dr.mem = true ∧ tabSorted s.gz.entries = true ∧
      gzCheck s n j = esOk ∧ gzCount j = 1 ∧ gzTab s (gzObj j) = some t ∧ t.casc = 0 ∧ isScratch (dSrc j) = false ∧
      spanClass s (dSrc j) 20 = some c ∧ c ≠ classW ∧ (∀ (l : Nat), l ∈ spanLines (dSrc j) 20 → poisoned s l = false) ∧
      isScratch (dDst j) = false ∧ spanClass s (dDst j) 16 = some c1 ∧ c1 ≠ classW ∧ gzWinner s t (gzKey (memRead s (dSrc j) 20)) = some (e,
      x) ∧ x.parityBad = false ∧ gzFits x.sval x.smask (gzKey (memRead s (dSrc j) 20)) = true) ∧
    (∃ (n : Nat) (s : State) (j : Job) (t : GzTab) (c : Nat) (c1 : Nat), jobGet s n = some j ∧ j.eng = Eng.gz ∧ dOp j = 1 ∧
      j.phase = JPhase.waiting ∧ j.ranAt ≠ some (frameNo s) ∧ (∀ (p : Nat), j.parcel = some p → tokenOk s p 2 = true) ∧
      gzBefore s n j = false ∧ gzPlaceFor s j ≠ none ∧ j.pos = 0 ∧ j.written = 0 ∧ j.input = [] ∧ j.produced = 0 ∧ j.consumed = 0 ∧
      j.aux0 = 0 ∧ j.aux1 = 0 ∧ j.status = esOk ∧ j.flags = 0 ∧ j.awaits = [] ∧ Memory.wf s.dr.mem = true ∧ tabSorted s.gz.entries = true ∧
      gzCheck s n j = esOk ∧ gzCount j = 1 ∧ gzTab s (gzObj j) = some t ∧ t.casc = 0 ∧ isScratch (dSrc j) = false ∧
      spanClass s (dSrc j) 20 = some c ∧ c ≠ classW ∧ (∀ (l : Nat), l ∈ spanLines (dSrc j) 20 → poisoned s l = false) ∧
      isScratch (dDst j) = false ∧ spanClass s (dDst j) 16 = some c1 ∧ c1 ≠ classW ∧ gzWinner s t (gzKey (memRead s (dSrc j) 20)) = none) ∧
    (∃ (n : Nat) (s : State) (j : Job) (t : GzTab) (c : Nat) (e : Nat) (y : GzEntry), jobGet s n = some j ∧ j.eng = Eng.gz ∧ dOp j = 2 ∧
      j.phase = JPhase.waiting ∧ j.ranAt ≠ some (frameNo s) ∧ (∀ (p : Nat), j.parcel = some p → tokenOk s p 2 = true) ∧
      gzBefore s n j = false ∧ gzPlaceFor s j ≠ none ∧ j.pos = 0 ∧ j.written = 0 ∧ j.input = [] ∧ j.produced = 0 ∧ j.consumed = 0 ∧
      j.aux0 = 0 ∧ j.aux1 = 0 ∧ j.status = esOk ∧ j.flags = 0 ∧ j.awaits = [] ∧ Memory.wf s.dr.mem = true ∧ tabSorted s.gz.entries = true ∧
      gzCheck s n j = esOk ∧ gzCount j = 1 ∧ gzTab s (gzObj j) = some t ∧ isScratch (dSrc j) = false ∧ spanClass s (dSrc j) 48 = some c ∧
      c ≠ classW ∧ (∀ (l : Nat), l ∈ spanLines (dSrc j) 48 → poisoned s l = false) ∧
      gzSame s t (gzImage (memRead s (dSrc j) 48)).value (gzImage (memRead s (dSrc j) 48)).mask = some e ∧ gzEntry s e = some y) ∧
    (∃ (n : Nat) (s : State) (j : Job) (t : GzTab) (c : Nat) (e : Nat), jobGet s n = some j ∧ j.eng = Eng.gz ∧ dOp j = 2 ∧
      j.phase = JPhase.waiting ∧ j.ranAt ≠ some (frameNo s) ∧ (∀ (p : Nat), j.parcel = some p → tokenOk s p 2 = true) ∧
      gzBefore s n j = false ∧ gzPlaceFor s j ≠ none ∧ j.pos = 0 ∧ j.written = 0 ∧ j.input = [] ∧ j.produced = 0 ∧ j.consumed = 0 ∧
      j.aux0 = 0 ∧ j.aux1 = 0 ∧ j.status = esOk ∧ j.flags = 0 ∧ j.awaits = [] ∧ Memory.wf s.dr.mem = true ∧ tabSorted s.gz.entries = true ∧
      gzCheck s n j = esOk ∧ gzCount j = 1 ∧ gzTab s (gzObj j) = some t ∧ isScratch (dSrc j) = false ∧ spanClass s (dSrc j) 48 = some c ∧
      c ≠ classW ∧ (∀ (l : Nat), l ∈ spanLines (dSrc j) 48 → poisoned s l = false) ∧
      gzSame s t (gzImage (memRead s (dSrc j) 48)).value (gzImage (memRead s (dSrc j) 48)).mask = none ∧
      gzPlace s t (gzImage (memRead s (dSrc j) 48)) = some (e, 0, 0, true)) ∧
    (∃ (n : Nat) (s : State) (j : Job) (t : GzTab) (c : Nat), jobGet s n = some j ∧ j.eng = Eng.gz ∧ dOp j = 2 ∧ j.phase = JPhase.waiting ∧
      j.ranAt ≠ some (frameNo s) ∧ (∀ (p : Nat), j.parcel = some p → tokenOk s p 2 = true) ∧ gzBefore s n j = false ∧
      gzPlaceFor s j ≠ none ∧ j.pos = 0 ∧ j.written = 0 ∧ j.input = [] ∧ j.produced = 0 ∧ j.consumed = 0 ∧ j.aux0 = 0 ∧ j.aux1 = 0 ∧
      j.status = esOk ∧ j.flags = 0 ∧ j.awaits = [] ∧ Memory.wf s.dr.mem = true ∧ tabSorted s.gz.entries = true ∧ gzCheck s n j = esOk ∧
      gzCount j = 1 ∧ gzTab s (gzObj j) = some t ∧ isScratch (dSrc j) = false ∧ spanClass s (dSrc j) 48 = some c ∧ c ≠ classW ∧
      (∀ (l : Nat), l ∈ spanLines (dSrc j) 48 → poisoned s l = false) ∧
      gzSame s t (gzImage (memRead s (dSrc j) 48)).value (gzImage (memRead s (dSrc j) 48)).mask = none ∧
      gzPlace s t (gzImage (memRead s (dSrc j) 48)) = none) :=
  ⟨⟨3, (GJ (gzD 2 0 3 0xFFFF 1 0x1000000 47 0)), ((jobGet ((GJ (gzD 2 0 3 0xFFFF 1 0x1000000 47 0))) 3).get (by decide +kernel)),
      by decide +kernel⟩,
   ⟨3, (GJ (gzD 1 0 3 0xFFFF 1 0x1000200 20 16)), ((jobGet ((GJ (gzD 1 0 3 0xFFFF 1 0x1000200 20 16))) 3).get (by decide +kernel)),
      ((gzTab ((GJ (gzD 1 0 3 0xFFFF 1 0x1000200 20 16))) (gzObj (((jobGet ((GJ (gzD 1 0 3 0xFFFF 1 0x1000200 20 16))) 3).get (by decide +kernel))))).get (by decide +kernel)),
      1, 1, 64,
      { value := 0x0000000001000000000000000000000000000000#160, mask := 0xffffffffffffffffffffffffffffffffffffffff#160, prio := 5, result := 0x00000006f#36, suspect := false, sval := 0x0000000001000000000000000000000000000000#160, smask := 0xffffffffffffffffffffffffffffffffffffffff#160, parityBad := false },
      by decide +kernel⟩,
   ⟨3, (GJ (gzD 1 0 4 0xFFFF 1 0x1001000 20 16)), ((jobGet ((GJ (gzD 1 0 4 0xFFFF 1 0x1001000 20 16))) 3).get (by decide +kernel)),
      ((gzTab ((GJ (gzD 1 0 4 0xFFFF 1 0x1001000 20 16))) (gzObj (((jobGet ((GJ (gzD 1 0 4 0xFFFF 1 0x1001000 20 16))) 3).get (by decide +kernel))))).get (by decide +kernel)),
      1, 1, by decide +kernel⟩,
   ⟨3, (GJ (gzD 2 0 3 0xFFFF 1 0x1000000 48 0)), ((jobGet ((GJ (gzD 2 0 3 0xFFFF 1 0x1000000 48 0))) 3).get (by decide +kernel)),
      ((gzTab ((GJ (gzD 2 0 3 0xFFFF 1 0x1000000 48 0))) (gzObj (((jobGet ((GJ (gzD 2 0 3 0xFFFF 1 0x1000000 48 0))) 3).get (by decide +kernel))))).get (by decide +kernel)),
      1, 65, ((gzEntry ((GJ (gzD 2 0 3 0xFFFF 1 0x1000000 48 0))) 65).get (by decide +kernel)), by decide +kernel⟩,
   ⟨3, (GJ (gzD 2 0 3 0xFFFF 1 0x1000100 48 0)), ((jobGet ((GJ (gzD 2 0 3 0xFFFF 1 0x1000100 48 0))) 3).get (by decide +kernel)),
      ((gzTab ((GJ (gzD 2 0 3 0xFFFF 1 0x1000100 48 0))) (gzObj (((jobGet ((GJ (gzD 2 0 3 0xFFFF 1 0x1000100 48 0))) 3).get (by decide +kernel))))).get (by decide +kernel)),
      1, 83, by decide +kernel⟩,
   ⟨3, (GJ (gzD 2 0 4 0xFFFF 1 0x1000000 48 0)), ((jobGet ((GJ (gzD 2 0 4 0xFFFF 1 0x1000000 48 0))) 3).get (by decide +kernel)),
      ((gzTab ((GJ (gzD 2 0 4 0xFFFF 1 0x1000000 48 0))) (gzObj (((jobGet ((GJ (gzD 2 0 4 0xFFFF 1 0x1000000 48 0))) 3).get (by decide +kernel))))).get (by decide +kernel)),
      1, by decide +kernel⟩⟩

/-- Cases of O54. Search, scan and the Cascade. Part 2. -/
theorem witness_Gazetteer_2 :
    (∃ (n : Nat) (s : State) (j : Job) (t : GzTab) (c : Nat), gzTab s (gzObj j) = some t ∧ jobGet s n = some j ∧ j.eng = Eng.gz ∧
      dOp j = 4 ∧ j.phase = JPhase.waiting ∧ j.ranAt ≠ some (frameNo s) ∧ (∀ (p : Nat), j.parcel = some p → tokenOk s p 2 = true) ∧
      gzBefore s n j = false ∧ gzPlaceFor s j ≠ none ∧ j.pos = 0 ∧ j.written = 0 ∧ j.input = [] ∧ j.produced = 0 ∧ j.consumed = 0 ∧
      j.aux0 = 0 ∧ j.aux1 = 0 ∧ j.status = esOk ∧ j.flags = 0 ∧ j.awaits = [] ∧ Memory.wf s.dr.mem = true ∧ tabSorted s.gz.entries = true ∧
      gzCheck s n j = esOk ∧ dSrcLen j = 0 ∧ List.take (dDstCap j / 48) (gzValid s t) ≠ [] ∧
      (List.take (dDstCap j / 48) (gzValid s t)).length ≤ gzRate s 125 ∧ isScratch (dDst j) = false ∧
      (spanClass s (dDst j) (List.flatMap (fun e => gzOut e.snd) (List.take (dDstCap j / 48) (gzValid s t))).length = some c) ∧ c ≠ classW) ∧
    (∃ (n : Nat) (s : State) (j : Job), jobGet s n = some j ∧ j.eng = Eng.gz ∧ dOp j = 5 ∧ j.phase = JPhase.waiting ∧
      j.ranAt ≠ some (frameNo s) ∧ (∀ (p : Nat), j.parcel = some p → tokenOk s p 2 = true) ∧ gzBefore s n j = false ∧
      gzPlaceFor s j ≠ none ∧ j.pos = 0 ∧ j.written = 0 ∧ j.input = [] ∧ j.produced = 0 ∧ j.consumed = 0 ∧ j.aux0 = 0 ∧ j.aux1 = 0 ∧
      j.status = esOk ∧ j.flags = 0 ∧ j.awaits = [] ∧ Memory.wf s.dr.mem = true ∧ tabSorted s.gz.entries = true ∧ gzCheck s n j = esOk) ∧
    (∃ (n : Nat) (s : State) (j : Job) (c : Nat), jobGet s n = some j ∧ j.eng = Eng.gz ∧ dOp j = 8 ∧ j.phase = JPhase.waiting ∧
      j.ranAt ≠ some (frameNo s) ∧ (∀ (p : Nat), j.parcel = some p → tokenOk s p 2 = true) ∧ gzBefore s n j = false ∧
      gzPlaceFor s j ≠ none ∧ j.pos = 0 ∧ j.written = 0 ∧ j.input = [] ∧ j.produced = 0 ∧ j.consumed = 0 ∧ j.aux0 = 0 ∧ j.aux1 = 0 ∧
      j.status = esOk ∧ j.flags = 0 ∧ j.awaits = [] ∧ Memory.wf s.dr.mem = true ∧ tabSorted s.gz.entries = true ∧ gzCheck s n j = esOk ∧
      dSrcLen j ≤ gzRate s 16384 ∧ isScratch (dSrc j) = false ∧ spanClass s (dSrc j) (dSrcLen j) = some c ∧ c ≠ classW ∧ (∀ (l : Nat),
      l ∈ spanLines (dSrc j) (dSrcLen j) → poisoned s l = false) ∧ auCheck (memRead s (dSrc j) (dSrcLen j)) = esOk) ∧
    (∃ (n : Nat) (s : State) (j : Job) (l : Nat), jobGet s n = some j ∧ j.eng = Eng.gz ∧ dOp j = 6 ∧ j.phase = JPhase.waiting ∧
      j.ranAt ≠ some (frameNo s) ∧ (∀ (p : Nat), j.parcel = some p → tokenOk s p 2 = true) ∧ gzBefore s n j = false ∧
      gzPlaceFor s j ≠ none ∧ j.pos = 0 ∧ j.written = 0 ∧ j.input = [] ∧ j.produced = 0 ∧ j.consumed = 0 ∧ j.aux0 = 0 ∧ j.aux1 = 0 ∧
      j.status = esOk ∧ j.flags = 0 ∧ j.awaits = [] ∧ Memory.wf s.dr.mem = true ∧ tabSorted s.gz.entries = true ∧ gzCheck s n j = esOk ∧
      gzOneShot j = true ∧ gzPlaceFor s j = some l ∧ gzHolds s l (gzObj j) = false ∧ (gzSlot s (gzObj j)).loaded = true ∧
      List.length (gzSlot s (gzObj j)).image ≤ gzRate s 16384) ∧
    (∃ (e : Nat) (s : State) (x : GzEntry), gzEntry s e = some x ∧ x.value = x.sval ∧ x.mask = x.smask) ∧
    (∃ (e : Nat) (s : State) (x : GzEntry), gzEntry s e = some x ∧ x.suspect = true ∧ x.parityBad = false) :=
  ⟨⟨3, (GJ (gzD 4 0 4 0xFFFF 0 0 0 4096)), ((jobGet ((GJ (gzD 4 0 4 0xFFFF 0 0 0 4096))) 3).get (by decide +kernel)),
      ((gzTab ((GJ (gzD 4 0 4 0xFFFF 0 0 0 4096))) (gzObj (((jobGet ((GJ (gzD 4 0 4 0xFFFF 0 0 0 4096))) 3).get (by decide +kernel))))).get (by decide +kernel)),
      ((spanClass ((GJ (gzD 4 0 4 0xFFFF 0 0 0 4096))) (dDst (((jobGet ((GJ (gzD 4 0 4 0xFFFF 0 0 0 4096))) 3).get (by decide +kernel)))) (List.flatMap (fun e => gzOut e.snd) (List.take (dDstCap (((jobGet ((GJ (gzD 4 0 4 0xFFFF 0 0 0 4096))) 3).get (by decide +kernel))) / 48) (gzValid ((GJ (gzD 4 0 4 0xFFFF 0 0 0 4096))) (((gzTab ((GJ (gzD 4 0 4 0xFFFF 0 0 0 4096))) (gzObj (((jobGet ((GJ (gzD 4 0 4 0xFFFF 0 0 0 4096))) 3).get (by decide +kernel))))).get (by decide +kernel)))))).length).get (by decide +kernel)),
      by decide +kernel⟩,
   ⟨3, (GJ (gzD 5 0 2 5 0 0 0 0)), ((jobGet ((GJ (gzD 5 0 2 5 0 0 0 0))) 3).get (by decide +kernel)), by decide +kernel⟩,
   ⟨3, loadState, loadJob, 1, by simp only [loadChecks]; decide +kernel⟩,
   ⟨3, ({ GJ (gzD 6 0 2 0xFFFF 0 0x1000000 48 4096) with gz := { GB.gz with lanes := [] } }),
      ((jobGet (({ GJ (gzD 6 0 2 0xFFFF 0 0x1000000 48 4096) with gz := { GB.gz with lanes := [] } })) 3).get (by decide +kernel)), 8,
      by decide +kernel⟩,
   ⟨256, (GJ (gzD 1 0 3 0xFFFF 1 0x1000200 20 16)), ((gzEntry ((GJ (gzD 1 0 3 0xFFFF 1 0x1000200 20 16))) 256).get (by decide +kernel)),
      by decide +kernel⟩,
   ⟨80, (GJ (gzD 1 0 3 0xFFFF 1 0x1000300 20 16)), ((gzEntry ((GJ (gzD 1 0 3 0xFFFF 1 0x1000300 20 16))) 80).get (by decide +kernel)),
      by decide +kernel⟩⟩

/-- Cases of O54. Search, scan and the Cascade. Part 3. -/
theorem witness_Gazetteer_3 :
    (∃ (e : Nat) (s : State) (x : GzEntry), gzEntry s e = some x ∧ (x.value ≠ x.sval ∨ x.mask ≠ x.smask) ∧ x.parityBad = true) ∧
    (∃ (e : Nat) (s : State) (x : GzEntry), gzEntry s e = some x ∧ (x.suspect = false ∨ x.parityBad = true)) ∧
    (∃ (pos : Nat) (present : Nat) (s : State), pos < 8 ∧ present < 256 ∧ s.gz.casc.role = 0) ∧
    (∃ (pos : Nat) (present : Nat) (s : State), pos < 8 ∧ present < 256 ∧ s.gz.casc.role ≠ 0) ∧
    (∃ (s : State), s.gz.casc.role = 0) ∧
    (∃ (s : State), gzLinkUp s = false) :=
  ⟨⟨82, (GJ (gzD 1 0 3 0xFFFF 1 0x1000200 20 16)), ((gzEntry ((GJ (gzD 1 0 3 0xFFFF 1 0x1000200 20 16))) 82).get (by decide +kernel)),
      by decide +kernel⟩,
   ⟨256, (GJ (gzD 1 0 3 0xFFFF 1 0x1000200 20 16)), ((gzEntry ((GJ (gzD 1 0 3 0xFFFF 1 0x1000200 20 16))) 256).get (by decide +kernel)),
      by decide +kernel⟩,
   ⟨0, 255, (GJ (gzD 1 0 3 0xFFFF 1 0x1000200 20 16)), by decide +kernel⟩,
   ⟨5, 7, (CA (fun c => { c with role := 1, open_ := some (mk 0) }) 0x81070600), by decide +kernel⟩,
   ⟨(GJ (gzD 1 0 3 0xFFFF 1 0x1000200 20 16)), by decide +kernel⟩,
   ⟨(GJ (gzD 1 0 3 0xFFFF 1 0x1000200 20 16)), by decide +kernel⟩⟩

/-- Cases of O54. Search, scan and the Cascade. Part 4. -/
theorem witness_Gazetteer_4 :
    (∃ (s : State), gzLinkUp s = true) ∧
    (∃ (d : Bytes) (c : Nat) (s : State), (List.length d ≠ 16 ∨ crc32 d ≠ c) ∧ s.gz.casc.role ≠ 0 ∧ gzLinkUp s = true) ∧
    (∃ (m : Mark) (s : State), gzLinkUp s = true ∧ s.gz.casc.searched = false ∧ s.gz.casc.open_ = some m ∧ 1 ≤ m.batch ∧
      bitOf m.members (cascPos s) = false) ∧
    (∃ (k : CascKey) (m : Mark) (s : State) (t : GzTab) (e : Nat) (x : GzEntry), gzLinkUp s = true ∧ s.gz.casc.searched = false ∧
      s.gz.casc.open_ = some m ∧ 1 ≤ m.batch ∧ bitOf m.members (cascPos s) = true ∧ cascTable s k.casc = some t ∧
      gzWinner s t k.key = some (e, x) ∧ x.parityBad = false ∧ gzFits x.sval x.smask k.key = true) ∧
    (∃ (k : CascKey) (s : State) (rest : List (List (CascKey × Option (Nat × Nat × Word)))), k.origin ≠ cascPos s ∧ cascPos s ≠ 0 ∧
      s.gz.casc.batches = [(k, none)] :: rest) ∧
    (∃ (k : CascKey) (s : State) (rest : List (List (CascKey × Option (Nat × Nat × Word)))) (e : Nat) (p : Nat) (r : Word),
      k.origin ≠ cascPos s ∧ cascPos s ≠ 0 ∧ s.gz.casc.batches = [(k, some (e, p, r))] :: rest) :=
  ⟨⟨(CA (fun c => { c with role := 1, open_ := some (mk 0) }) 0x81070600), by decide +kernel⟩,
   ⟨[0, 0, 0, 0, 40, 0, 0, 0, 0, 0, 0, 0, 0, 0, 0, 0, 0, 0, 0, 0, 255, 255, 255, 255, 255, 255, 255, 255, 255, 255, 255, 255, 255, 255, 255, 255, 255, 255, 255, 255],
      1024, (CA (fun c => { c with role := 1, open_ := some (mk 0) }) 0x81070600), by decide +kernel⟩,
   ⟨((((CA (fun c => { c with role := 1, open_ := some (mk 0) }) 0x83070600)).gz.casc.open_).get (by decide +kernel)),
      (CA (fun c => { c with role := 1, open_ := some (mk 0) }) 0x83070600), by decide +kernel⟩,
   ⟨{ origin := 0, job := 3, idx := 0, casc := 3, key := 0x0000000001000000000000000000000000000000#160 },
      ((((CA (fun c => { c with role := 1, open_ := some (mk 0) }) 0x81070600)).gz.casc.open_).get (by decide +kernel)),
      (CA (fun c => { c with role := 1, open_ := some (mk 0) }) 0x81070600),
      ((cascTable ((CA (fun c => { c with role := 1, open_ := some (mk 0) }) 0x81070600)) ({ origin := 0, job := 3, idx := 0, casc := 3, key := 0x0000000001000000000000000000000000000000#160 } : CascKey).casc).get (by decide +kernel)),
      64,
      { value := 0x0000000001000000000000000000000000000000#160, mask := 0xffffffffffffffffffffffffffffffffffffffff#160, prio := 5, result := 0x00000006f#36, suspect := false, sval := 0x0000000001000000000000000000000000000000#160, smask := 0xffffffffffffffffffffffffffffffffffffffff#160, parityBad := false },
      by decide +kernel⟩,
   ⟨{ origin := 0, job := 3, idx := 0, casc := 3, key := 0x0000000001000000000000000000000000000000#160 },
      (CA (fun c => { c with role := 1, open_ := some (mk 0), batches := [[(ck 0, none)], []] }) 0x82070600), [[]], by decide +kernel⟩,
   ⟨{ origin := 0, job := 3, idx := 0, casc := 3, key := 0x0000000001000000000000000000000000000000#160 },
      (CA (fun c => { c with role := 1, open_ := some (mk 0), batches := [[(ck 0, some (64, 5, 111))], []] }) 0x81070600), [[]], 64, 5,
      0x00000006f#36, by decide +kernel⟩⟩

/-- Cases of O54. Search, scan and the Cascade. Part 5. -/
theorem witness_Gazetteer_5 :
    (∃ (a : CascAnswer) (s : State), a.origin ≠ cascPos s) ∧
    (∃ (s : State) (mask : Nat) (ep : Nat) (h : Nat), s.gz.casc.change = some (mask, ep, h) ∧ s.gz.casc.role = 2 ∧ mask < 256 ∧ ep < 256 ∧
      2 ^ 31 ≤ (frameNo s + 2 ^ 32 - h) % 2 ^ 32) ∧
    (∃ (s : State) (mask : Nat) (ep : Nat) (h : Nat), s.gz.casc.change = some (mask, ep, h) ∧ s.gz.casc.role = 2 ∧ mask < 256 ∧ ep < 256 ∧
      (frameNo s + 2 ^ 32 - h) % 2 ^ 32 < 2 ^ 31 ∧ s.gz.casc.changePacket = none) ∧
    (∃ (s : State) (p : Packet) (t : Nat) (b : Nat) (base : Nat), (p.mctp = true ∨ onTicket s p = true ∧
      c1Fields (tkGet s p.id).cmd = true ∧ (tkGet s p.id).cmd.dok = true) ∧ (List.length s.mg.flights < if fevoum s = true then 4 else 64) ∧
      (∀ (e : Nat × Flight), e ∈ s.mg.flights → carrier e.snd.p = carrier p → e.snd.p.seq ≠ p.seq) ∧ (∀ (c : CachedReply),
      c ∈ tabGetD s.mg.caches (carrier p) [] → c.op = 1281 → samePacket c.p p = false) ∧ s.ev.powerFail = false ∧ s.pw.halted = false ∧
      s.fr.fatal = false ∧ packetCheck s 1281 p = none ∧ tabSorted s.mg.flights = true ∧ (∀ (e : Nat × Flight), e ∈ s.mg.flights →
      e.snd.p.parcel = p.parcel → e.snd.applied = true) ∧ p.bufOk = true ∧ (p.mctp = true ∨ (fnGet s 0).bme = true) ∧
      ownerThere s p = true ∧ pAt p 8 4 % 64 = 0 ∧ 64 ≤ pAt p 8 4 ∧ pAt p 8 4 ≤ 65536 ∧ (3 ≤ if pAt p 12 1 = 0 then 6 else pAt p 12 1) ∧
      ((if pAt p 12 1 = 0 then 6 else pAt p 12 1) ≤ 10) ∧ pAt p 13 1 ≤ 15 ∧ (pAt p 13 1 = 0 ∨ p.parcel = 65535) ∧ (p.parcel = 65535 ∨
      (tabCount s.gz.tabs fun t => t.owner == some p.parcel) < (gzQuota s p.parcel).snd.snd) ∧ tabFree s.gz.tabs 0 1024 = some t ∧
      gzSpan s (pAt p 8 4) = some (b, base)) ∧
    (∃ (s : State) (p : Packet), (p.mctp = true ∨ onTicket s p = true ∧ c1Fields (tkGet s p.id).cmd = true ∧
      (tkGet s p.id).cmd.dok = true) ∧ (List.length s.mg.flights < if fevoum s = true then 4 else 64) ∧ (∀ (e : Nat × Flight),
      e ∈ s.mg.flights → carrier e.snd.p = carrier p → e.snd.p.seq ≠ p.seq) ∧ (∀ (c : CachedReply), c ∈ tabGetD s.mg.caches (carrier p) [] →
      c.op = 1283 → samePacket c.p p = false) ∧ s.ev.powerFail = false ∧ s.pw.halted = false ∧ s.fr.fatal = false ∧
      packetCheck s 1283 p = none ∧ tabSorted s.mg.flights = true ∧ (∀ (e : Nat × Flight), e ∈ s.mg.flights → e.snd.p.parcel = p.parcel →
      e.snd.applied = true) ∧ p.bufOk = true ∧ (p.mctp = true ∨ (fnGet s 0).bme = true) ∧ ownerThere s p = true ∧ pAt p 10 2 ≤ 1024) ∧
    (∃ (s : State) (p : Packet), (p.mctp = true ∨ onTicket s p = true ∧ c1Fields (tkGet s p.id).cmd = true ∧
      (tkGet s p.id).cmd.dok = true) ∧ (List.length s.mg.flights < if fevoum s = true then 4 else 64) ∧ (∀ (e : Nat × Flight),
      e ∈ s.mg.flights → carrier e.snd.p = carrier p → e.snd.p.seq ≠ p.seq) ∧ (∀ (c : CachedReply), c ∈ tabGetD s.mg.caches (carrier p) [] →
      c.op = 1284 → samePacket c.p p = false) ∧ s.ev.powerFail = false ∧ s.pw.halted = false ∧ s.fr.fatal = false ∧
      packetCheck s 1284 p = none ∧ tabSorted s.mg.flights = true ∧ (∀ (e : Nat × Flight), e ∈ s.mg.flights → e.snd.p.parcel = p.parcel →
      e.snd.applied = true) ∧ p.bufOk = true ∧ (p.mctp = true ∨ (fnGet s 0).bme = true) ∧ cascHead s = false) :=
  ⟨⟨{ origin := 2, job := 3, idx := 0, position := 2, entry := some 70, prio := 4, result := 0x00000014d#36 },
      (GJ (gzD 1 0 3 0xFFFF 1 0x1000200 20 16)), by decide +kernel⟩,
   ⟨(CA (fun c => { c with role := 2, change := some (5, 7, 2049) }) 0x40070601), 5, 7, 2049, by decide +kernel⟩,
   ⟨(CA (fun c => { c with role := 2, change := some (5, 7, 2048) }) 0xC0070601), 5, 7, 2048, by decide +kernel⟩,
   ⟨(GJ (gzD 1 0 3 0xFFFF 1 0x1000200 20 16)), { mctp := true, id := 9, seq := 5, parcel := 17, params := [64] ++ zeros 39 }, 0, 0, 0,
      by decide +kernel⟩,
   ⟨(GJ (gzD 1 0 3 0xFFFF 1 0x1000200 20 16)), { mctp := true, id := 9, seq := 5, parcel := 17, params := [64] ++ zeros 39 },
      by decide +kernel⟩,
   ⟨(GJ (gzD 1 0 3 0xFFFF 1 0x1000200 20 16)),
      { mctp := true, id := 9, seq := 5, parcel := 65535, params := [9, 0, 0, 0, 0, 0, 0, 0, 0, 16] ++ zeros 30 }, by decide +kernel⟩⟩

/-- Cases of O54. Search, scan and the Cascade. Part 6. -/
theorem witness_Gazetteer_6 :
    (∃ (s : State) (p : Packet), (p.mctp = true ∨ onTicket s p = true ∧ c1Fields (tkGet s p.id).cmd = true ∧
      (tkGet s p.id).cmd.dok = true) ∧ (List.length s.mg.flights < if fevoum s = true then 4 else 64) ∧ (∀ (e : Nat × Flight),
      e ∈ s.mg.flights → carrier e.snd.p = carrier p → e.snd.p.seq ≠ p.seq) ∧ (∀ (c : CachedReply), c ∈ tabGetD s.mg.caches (carrier p) [] →
      c.op = 1284 → samePacket c.p p = false) ∧ s.ev.powerFail = false ∧ s.pw.halted = false ∧ s.fr.fatal = false ∧
      packetCheck s 1284 p = none ∧ tabSorted s.mg.flights = true ∧ (∀ (e : Nat × Flight), e ∈ s.mg.flights → e.snd.p.parcel = p.parcel →
      e.snd.applied = true) ∧ p.bufOk = true ∧ (p.mctp = true ∨ (fnGet s 0).bme = true) ∧ cascHead s = true ∧ frameNo s + 16 ≤ pAt p 16 8 ∧
      pAt p 8 1 &&& regFld s GZ_CASCADE 23 16 = pAt p 8 1 ∧ s.gz.casc.change = none) ∧
    (∃ (s : State) (p : Packet) (x : GzTab), (p.mctp = true ∨ onTicket s p = true ∧ c1Fields (tkGet s p.id).cmd = true ∧
      (tkGet s p.id).cmd.dok = true) ∧ (List.length s.mg.flights < if fevoum s = true then 4 else 64) ∧ (∀ (e : Nat × Flight),
      e ∈ s.mg.flights → carrier e.snd.p = carrier p → e.snd.p.seq ≠ p.seq) ∧ (∀ (c : CachedReply), c ∈ tabGetD s.mg.caches (carrier p) [] →
      c.op = 1282 → samePacket c.p p = false) ∧ s.ev.powerFail = false ∧ s.pw.halted = false ∧ s.fr.fatal = false ∧
      packetCheck s 1282 p = none ∧ tabSorted s.mg.flights = true ∧ (∀ (e : Nat × Flight), e ∈ s.mg.flights → e.snd.p.parcel = p.parcel →
      e.snd.applied = true) ∧ p.bufOk = true ∧ (p.mctp = true ∨ (fnGet s 0).bme = true) ∧ gzTab s (pAt p 8 2) = some x ∧
      x.owner ≠ packetOwner p) ∧
    (∃ (s : State) (p : Packet) (x : GzTab), (p.mctp = true ∨ onTicket s p = true ∧ c1Fields (tkGet s p.id).cmd = true ∧
      (tkGet s p.id).cmd.dok = true) ∧ (List.length s.mg.flights < if fevoum s = true then 4 else 64) ∧ (∀ (e : Nat × Flight),
      e ∈ s.mg.flights → carrier e.snd.p = carrier p → e.snd.p.seq ≠ p.seq) ∧ (∀ (c : CachedReply), c ∈ tabGetD s.mg.caches (carrier p) [] →
      c.op = 1282 → samePacket c.p p = false) ∧ s.ev.powerFail = false ∧ s.pw.halted = false ∧ s.fr.fatal = false ∧
      packetCheck s 1282 p = none ∧ tabSorted s.mg.flights = true ∧ (∀ (e : Nat × Flight), e ∈ s.mg.flights → e.snd.p.parcel = p.parcel →
      e.snd.applied = true) ∧ p.bufOk = true ∧ (p.mctp = true ∨ (fnGet s 0).bme = true) ∧ gzTab s (pAt p 8 2) = some x ∧
      x.owner = packetOwner p ∧ x.deleting = none) ∧
    (∃ (s : State) (t : GzTab) (k : BitVec 160) (e : Nat) (x : GzEntry), tabSorted s.gz.entries = true ∧ gzWinner s t k = some (e, x)) ∧
    (∃ (s : State) (n : Nat) (j : Job) (t : GzTab) (d : Bytes) (e : Nat) (x : GzEntry), Says.gzWell s n j 1 ∧ gzCount j = 1 ∧
      gzTab s (gzObj j) = some t ∧ t.casc = 0 ∧ Says.readsAs s (dSrc j) 20 d ∧ Says.inRegion s (dDst j) 16 ∧
      gzWinner s t (gzKey d) = some (e, x) ∧ x.parityBad = false ∧ gzFits x.sval x.smask (gzKey d) = false ∧ ∀ y ∈ gzValid s t, y.1 ≠ e →
      y.2.suspect = true ∨ gzFits y.2.value y.2.mask (gzKey d) = false) ∧
    (∃ (s : State) (n : Nat) (j : Job) (t : GzTab) (d : Bytes), gzTab s (gzObj j) = some t ∧ Says.gzWell s n j 3 ∧ gzCount j = 1 ∧
      Says.readsAs s (dSrc j) 40 d ∧ gzSame s t (gzKey (d.take 20)) (gzKey (slice d 20 20)) = some 65) :=
  ⟨⟨GP0, { mctp := true, id := 9, seq := 5, parcel := 65535, params := [7, 0, 0, 0, 0, 0, 0, 0, 0, 16] ++ zeros 30 }, by decide +kernel⟩,
   ⟨(GJ (gzD 1 0 4 0xFFFF 1 0x1001000 20 16)), { mctp := true, id := 9, seq := 5, parcel := 18, params := [5] ++ zeros 39 },
      ((gzTab ((GJ (gzD 1 0 4 0xFFFF 1 0x1001000 20 16))) (pAt ({ mctp := true, id := 9, seq := 5, parcel := 18, params := [5] ++ zeros 39 } : Packet) 8 2)).get (by decide +kernel)),
      by decide +kernel⟩,
   ⟨(GJ (gzD 1 0 3 0xFFFF 1 0x1000300 20 16)), { mctp := true, id := 9, seq := 5, parcel := 17, params := [5] ++ zeros 39 },
      ((gzTab ((GJ (gzD 1 0 3 0xFFFF 1 0x1000300 20 16))) (pAt ({ mctp := true, id := 9, seq := 5, parcel := 17, params := [5] ++ zeros 39 } : Packet) 8 2)).get (by decide +kernel)),
      by decide +kernel⟩,
   ⟨GB, gzTable, val 1, 64, ent (val 1) FULL 5 111, by decide +kernel⟩,
   ⟨falseHit, 3, J .gz (gzD 1 0 3 0xFFFF 1 0x1000300 20 16), gzTable, gzKeyBytes (val 7), 75, { ent (val 7) FULL 9 1 with sval := val 8 },
      (by unfold Says.gzWell Says.gzWaits; decide +kernel), by decide +kernel, by decide +kernel, by decide +kernel,
      (by unfold Says.readsAs Says.inRegion; decide +kernel), (by unfold Says.inRegion; decide +kernel), by decide +kernel⟩,
   ⟨GJ (gzD 3 0 3 0xFFFF 1 0x1000000 40 0), 3, J .gz (gzD 3 0 3 0xFFFF 1 0x1000000 40 0), gzTable, memRead GB 0x1000000 40,
      by decide +kernel, (by unfold Says.gzWell Says.gzWaits; decide +kernel), by decide +kernel,
      (by unfold Says.readsAs Says.inRegion; decide +kernel), by decide +kernel⟩⟩

/-- Cases of O54. Search, scan and the Cascade. Part 7. -/
theorem witness_Gazetteer_7 :
    (∃ (s : State) (n : Nat) (j : Job) (t : GzTab) (d : Bytes), gzTab s (gzObj j) = some t ∧ Says.gzWell s n j 3 ∧ gzCount j = 1 ∧
      Says.readsAs s (dSrc j) 40 d ∧ gzSame s t (gzKey (d.take 20)) (gzKey (slice d 20 20)) = none) ∧
    (∃ (s : State) (n : Nat) (j : Job), Says.gzWell s n j 7 ∧ tabSorted s.gz.ctxs = true) ∧
    (∃ (s : State) (n : Nat) (j : Job), Says.gzWell s n j 9) ∧
    (∃ (s : State) (d : Bytes), d.length = 16 ∧ s.gz.casc.role = 1 ∧ (markOf d).period = regFld s FR_FRAME_PERIOD 1 0 ∧
      (markOf d).change = none ∧ s.gz.casc.change = none) ∧
    (∃ (s : State) (d : Bytes), d.length = 16 ∧ s.gz.casc.role = 2 ∧ (markOf d).period = regFld s FR_FRAME_PERIOD 1 0) ∧
    (∃ (s : State) (d : Bytes), d.length = 16 ∧ s.gz.casc.role ≠ 0 ∧ (markOf d).period ≠ regFld s FR_FRAME_PERIOD 1 0) :=
  ⟨⟨GJ (gzD 3 0 3 0xFFFF 1 0x1000100 40 0), 3, J .gz (gzD 3 0 3 0xFFFF 1 0x1000100 40 0), gzTable, memRead GB 0x1000100 40, by decide +kernel,
      (by unfold Says.gzWell Says.gzWaits; decide +kernel), by decide +kernel, (by unfold Says.readsAs Says.inRegion; decide +kernel),
      by decide +kernel⟩,
   ⟨GJ (gzD 7 0 0xFFFF 8 0 0 0 0), 3, J .gz (gzD 7 0 0xFFFF 8 0 0 0 0), (by unfold Says.gzWell Says.gzWaits; decide +kernel),
      by decide +kernel⟩,
   ⟨noScans (GJ (gzD 9 0 2 0xFFFF 0 0 0 0)), 3, J .gz (gzD 9 0 2 0xFFFF 0 0 0 0), (by unfold Says.gzWell Says.gzWaits; decide +kernel)⟩,
   ⟨CA (fun c => { c with role := 1 }) 0, markOctets (mk 2), by decide +kernel⟩,
   ⟨CA (fun c => { c with role := 2 }) 0, markOctets (mk 2), by decide +kernel⟩,
   ⟨CA (fun c => { c with role := 2 }) 0, markOctets (mk 1), by decide +kernel⟩⟩

/-- Cases of O55. DRAM, its protection and its survey. Part 1. -/
theorem witness_DramUpkeep_1 :
    (∃ (ch : Nat) (s : State), (4 ≤ ch ∨ regBit s DM_CONFIG 27 = false)) ∧
    (∃ (ch : Nat) (s : State), ch < 4 ∧ regBit s DM_CONFIG 27 = true) ∧
    (∃ (p : Nat) (v : Nat) (s : State), p < 12 ∧ v < 2 ^ 32 ∧ Says.minSum s - regFld s (DM_PORT_QOS p) 23 16 + bitsOf v 23 16 ≤ 80 ∧
      bitsOf v 23 16 ≤ 100) ∧
    (∃ (p : Nat) (v : Nat) (s : State), p < 12 ∧ v < 2 ^ 32 ∧ 80 < Says.minSum s - regFld s (DM_PORT_QOS p) 23 16 + bitsOf v 23 16 ∧
      regFld s (DM_PORT_QOS p) 23 16 < bitsOf v 23 16) ∧
    (∃ (k : Nat) (s : State), regBit s DM_DISTURB 31 = true ∧ (tabGet s.dr.banks k).isSome = true ∧ s.dr.rfmAt ≤ (Says.bankGet s k).acts) ∧
    (∃ (k : Nat) (s : State), (regBit s DM_DISTURB 31 = false ∨ (Says.bankGet s k).acts < s.dr.rfmAt)) :=
  ⟨⟨4, (withFrame 2048 DB), by decide +kernel⟩,
   ⟨3, (withFrame 2048 DB), by decide +kernel⟩,
   ⟨0, 536870912, (withFrame (2048 + 128) DB), by decide +kernel⟩,
   ⟨4, 4294967295, (withFrame 2048 DB), by decide +kernel⟩,
   ⟨0, (withFrame 2048 DB), by decide +kernel⟩,
   ⟨9, (setRegs (withFrame 4194304 DB) [(DM_CONFIG, 0), (DM_DISTURB, 6), (EC_SRAM_REMAP 3, 16)]), by decide +kernel⟩⟩

/-- Cases of O55. DRAM, its protection and its survey. Part 2. -/
theorem witness_DramUpkeep_2 :
    (∃ (ch : Nat) (s : State), ch < 4 ∧ frameNo s % 256 ≠ 64 * ch) ∧
    (∃ (ch : Nat) (codes : List Nat) (s : State), ch < 4 ∧ frameNo s % 256 = 64 * ch ∧ (∀ (c : Nat), c ∈ codes → c = 0) ∧
      regBit s (DM_REFRESH ch) 31 = true ∧ 1 ≤ tabGetD s.dr.mr4 ch 0) ∧
    (∃ (ch : Nat) (codes : List Nat) (s : State), ch < 4 ∧ frameNo s % 256 = 64 * ch ∧ (∀ (c : Nat), c ∈ codes → c = 0) ∧
      regBit s (DM_REFRESH ch) 31 = false) ∧
    (∃ (ch : Nat) (codes : List Nat) (s : State), ch < 4 ∧ frameNo s % 256 = 64 * ch ∧ 1 ∈ codes ∧ (∀ (c : Nat), c ∈ codes → c ≤ 1) ∧
      regBit s (DM_REFRESH ch) 31 = false) ∧
    (∃ (ch : Nat) (codes : List Nat) (s : State), ch < 4 ∧ frameNo s % 256 = 64 * ch ∧ (∀ (c : Nat), c ∈ codes → c = 0) ∧
      regBit s (DM_REFRESH ch) 31 = true ∧ tabGetD s.dr.mr4 ch 0 = 0) ∧
    (∃ (ch : Nat) (row : Nat) (s : State), (∀ (r : RowRepair), r ∈ s.dr.rows → ¬(r.ch = ch ∧ r.row = row))) :=
  ⟨⟨1, (withFrame 2048 DB), by decide +kernel⟩,
   ⟨3, [], (withFrame (2048+192) DB), by decide +kernel⟩,
   ⟨0, [0], (withFrame 2048 DB), by decide +kernel⟩,
   ⟨0, [1, 0], (setRegs (withFrame 4194304 DB) [(DM_CONFIG, 0), (DM_DISTURB, 6), (EC_SRAM_REMAP 3, 16)]), by decide +kernel⟩,
   ⟨1, [], (withFrame (2048 + 64) DB), by decide +kernel⟩,
   ⟨4, 77, (withFrame 2048 DB), by decide +kernel⟩⟩

/-- Cases of O55. DRAM, its protection and its survey. Part 3. -/
theorem witness_DramUpkeep_3 :
    (∃ (ch : Nat) (row : Nat) (s : State) (r : RowRepair), (List.find? (fun r => r.ch == ch && r.row == row) s.dr.rows = some r)) ∧
    (∃ (g : Nat) (n : Nat) (s : State), regBit s EC_SURVEY 31 = true ∧ s.ev.powerFail = false ∧ g < 14 ∧ 0 < n ∧ sramCorrects s 0 < n) ∧
    (∃ (g : Nat) (n : Nat) (s : State), regBit s EC_SURVEY 31 = true ∧ s.ev.powerFail = false ∧ g < 14 ∧ 0 < n ∧ n ≤ sramCorrects s g ∧
      regFld s (EC_SRAM_REMAP g) 4 0 < 16) ∧
    (∃ (g : Nat) (n : Nat) (s : State), regBit s EC_SURVEY 31 = true ∧ s.ev.powerFail = false ∧ g < 14 ∧ 0 < n ∧ n ≤ sramCorrects s g) ∧
    (∃ (s : State), regBit s EC_SURVEY 31 = true ∧ s.ev.powerFail = false ∧ surveyNext s s.dr.surveyAt ≠ none) ∧
    (∃ (s : State), regBit s EC_SURVEY 31 = true ∧ s.ev.powerFail = false ∧ surveyNext s s.dr.surveyAt = none) :=
  ⟨⟨1, 77, (withFrame (2048 + 64) DB),
      ((List.find? (fun r => r.ch == 1 && r.row == 77) ((withFrame (2048 + 64) DB)).dr.rows).get (by decide +kernel)), by decide +kernel⟩,
   ⟨6, 511, (withFrame 2048 DB), by decide +kernel⟩,
   ⟨3, 2, (withFrame (2048 + 64) DB), by decide +kernel⟩,
   ⟨3, 2, (withFrame (2048 + 64) DB), by decide +kernel⟩,
   ⟨(withFrame 2048 DB), by decide +kernel⟩,
   ⟨({ withFrame (2048+192) DB with dr := { DB.dr with mr4 := [], surveyAt := 0x100000 } }), by decide +kernel⟩⟩

/-- Cases of O55. DRAM, its protection and its survey. Part 4. -/
theorem witness_DramUpkeep_4 :
    (∃ (ch sub rank : Nat) (m : Bool) (s : State), ch < 4 ∧ sub < 2 ∧ (rank < if regBit s DM_CONFIG 26 = true then 2 else 1) ∧ m = true ∧
      Says.postpones s ch sub rank = true) ∧
    (∃ (ch sub rank : Nat) (m : Bool) (s : State), ch < 4 ∧ sub < 2 ∧ (rank < if regBit s DM_CONFIG 26 = true then 2 else 1) ∧ (m = false ∨
      Says.postpones s ch sub rank = false)) ∧
    (∃ (ch sub rank : Nat) (s : State), ch < 4 ∧ sub < 2 ∧ (rank < if regBit s DM_CONFIG 26 = true then 2 else 1) ∧
      owedGet s ch sub rank ≠ 0 ∧ urgentRank s ch sub rank (if regBit s (DM_REFRESH ch) 29 = true then 3 else 2) = false) ∧
    (∃ (ch sub rank : Nat) (s : State), ch < 4 ∧ sub < 2 ∧ (rank < if regBit s DM_CONFIG 26 = true then 2 else 1) ∧
      (owedGet s ch sub rank = 0 ∨ urgentRank s ch sub rank (if regBit s (DM_REFRESH ch) 29 = true then 3 else 2) = true)) ∧
    (∃ (s : State) (sub : Nat) (r : DramReq), chooseReq s sub = some r ∧ 1 < (subReqs s sub).length) ∧
    (∃ (s : State) (l : Nat) (e : Ecc) (d : Nat), (∀ x ∈ e.errs, x.1 ∈ deviceSymbols d) ∧ erasureOf s l = none ∧ (errSymbols e).length ≤ 4 ∧
      e.errs ≠ []) :=
  ⟨⟨0, 0, 0, true, withFrame 2048 DB, by decide +kernel⟩,
   ⟨2, 0, 0, true, withFrame 2048 DB, by decide +kernel⟩,
   ⟨2, 0, 0, regPut live1 (DM_REFRESH 2) 4, by decide +kernel⟩,
   ⟨2, 1, 0, withFrame 2048 DB, by decide +kernel⟩,
   ⟨DB, 1, dramRequest 1025, by decide +kernel⟩,
   ⟨State.reset, 0, wrongBits [(1, 3), (2, 1)], 0, by decide +kernel⟩⟩

/-- Cases of O55. DRAM, its protection and its survey. Part 5. -/
theorem witness_DramUpkeep_5 :
    (∃ (s : State) (l : Nat) (e : Ecc) (d : Nat), (∀ x ∈ e.errs, x.1 ∈ deviceSymbols d) ∧ erasureOf s l = some d ∧ e.errs ≠ []) ∧
    (∃ (l : Nat) (s : State), Says.surveyAt s l ∧ poisoned s l = false ∧ coded s l ((spanClass s (64 * l) 1).getD 1) .clean = .clean ∧
      (∃ e sy dv, coded s l ((spanClass s (64 * l) 1).getD 1) e = .corrected sy dv) ∧ ∃ e,
      coded s l ((spanClass s (64 * l) 1).getD 1) e = .uncorrectable) ∧
    (∃ (s : State) (g n : Nat), regBit s EC_SURVEY 31 = true ∧ s.ev.powerFail = false ∧ g < 14 ∧ 0 < n ∧ n ≤ sramCorrects s g ∧
      16 ≤ regFld s (EC_SRAM_REMAP g) 4 0) :=
  ⟨⟨regPut State.reset (EC_ERASURE 0) 0x80, 0, wrongBits [(1, 3), (2, 1)], 0, by decide +kernel⟩,
   ⟨0x40000, surveyState, by unfold Says.surveyAt; decide +kernel, by decide +kernel, by decide +kernel, ⟨wrongBits [(1, 1)], 1, some 0,
      by decide +kernel⟩, bad, by decide +kernel⟩,
   ⟨regPut surveyState (EC_SRAM_REMAP 1) 16, 1, 1, by decide +kernel⟩⟩

/-- Cases of O56. DMA descriptors and events. Part 1. -/
theorem witness_DmaAndEvents_1 :
    (∃ (c : Nat) (s : State), 32 ≤ c ∧ c < 64 ∧ s.ev.powerFail = false ∧ dmaRunning s c = false ∧ cqOk s c = true ∧
      regFld s (DX_COUNT c) 24 0 ≠ 0 ∧ dmaFull s c = false) ∧
    (∃ (c : Nat) (v : Nat) (s : State), 32 ≤ c ∧ c < 64 ∧ s.ev.powerFail = false ∧ dmaRunning s c = false ∧ cqOk s c = true ∧
      regFld s (DX_COUNT c) 24 0 = 0 ∧ bitOf v 29 = true ∧ v < 2 ^ 32 ∧ dmaFull s c = false) ∧
    (∃ (c : Nat) (s : State), 32 ≤ c ∧ c < 64 ∧ s.ev.powerFail = false ∧ dmaRunning s c = false ∧ cqOk s c = true ∧
      regFld s (DX_COUNT c) 24 0 ≠ 0 ∧ dmaFull s c = true) ∧
    (∃ (c : Nat) (s : State), 32 ≤ c ∧ c < 64 ∧ s.ev.powerFail = false ∧ dmaRunning s c = false ∧ cqOk s c = false) ∧
    (∃ (c : Nat) (s : State), 32 ≤ c ∧ c < 64 ∧ dmaRunning s c = true) ∧
    (∃ (c : Nat) (v : Nat) (s : State), 32 ≤ c ∧ c < 64 ∧ s.ev.powerFail = true ∧ dmaRunning s c = false ∧ v < 2 ^ 32) :=
  ⟨⟨32, XB, by decide +kernel⟩,
   ⟨34, 4294967295, XE, by decide +kernel⟩,
   ⟨40, XB, by decide +kernel⟩,
   ⟨56, XB, by decide +kernel⟩,
   ⟨38, ({ XB with ev := { XB.ev with powerFail := true } }), by decide +kernel⟩,
   ⟨60, 65541, ({ XB with ev := { XB.ev with powerFail := true } }), by decide +kernel⟩⟩

/-- Cases of O56. DMA descriptors and events. Part 2. -/
theorem witness_DmaAndEvents_2 :
    (∃ (c : Nat) (s : State), 32 ≤ c ∧ c < 64 ∧ dmaRunning s c = true ∧ (dmaGet s c).cur = none) ∧
    (∃ (c : Nat) (s : State), 32 ≤ c ∧ c < 64 ∧ dmaRunning s c = true ∧ (dmaGet s c).cur ≠ none) ∧
    (∃ (c : Nat) (s : State), 32 ≤ c ∧ c < 64 ∧ dmaRunning s c = false) ∧
    (∃ (c : Nat) (s : State) (off : Nat), 32 ≤ c ∧ c < 64 ∧ off ∈ [40, 44, 48] ∧ dmaRunning s c = true) ∧
    (∃ (c : Nat) (s : State) (v : Nat), 32 ≤ c ∧ c < 64 ∧ v < cqRing s c ∧ v < 65536) ∧
    (∃ (c : Nat) (s : State) (v : Nat), 32 ≤ c ∧ c < 64 ∧ cqRing s c ≤ v % 65536) :=
  ⟨⟨36, ({ XB with ev := { XB.ev with powerFail := true } }), by decide +kernel⟩,
   ⟨39, XE, by decide +kernel⟩,
   ⟨56, XB, by decide +kernel⟩,
   ⟨35, XB, 40, by decide +kernel⟩,
   ⟨61, XE, 0, by decide +kernel⟩,
   ⟨56, XB, 773, by decide +kernel⟩⟩

/-- Cases of O56. DMA descriptors and events. Part 3. -/
theorem witness_DmaAndEvents_3 :
    (∃ (c : Nat) (s : State) (off : Nat), 32 ≤ c ∧ c < 64 ∧ off ∈ [40, 44, 48] ∧ dmaRunning s c = false) ∧
    (∃ (c : Nat) (s : State), 32 ≤ c ∧ c < 64 ∧ dmaState s c = dmaBusy ∧ (dmaGet s c).cur = none ∧ (dmaGet s c).ended = none ∧
      (dmaGet s c).since < frameNo s ∧ (dmaGet s c).next = none) ∧
    (∃ (c : Nat) (s : State), 32 ≤ c ∧ c < 64 ∧ dmaState s c = dmaBusy ∧ (dmaGet s c).cur = none ∧ (dmaGet s c).ended = none ∧
      (dmaGet s c).since < frameNo s ∧ (dmaGet s c).next = some DmaNext.register ∧ dmaWhy s (dmaRegDesc s c) true = 0) ∧
    (∃ (c : Nat) (s : State) (a : Nat), 32 ≤ c ∧ c < 64 ∧ dmaState s c = dmaBusy ∧ (dmaGet s c).cur = none ∧ (dmaGet s c).ended = none ∧
      (dmaGet s c).since < frameNo s ∧ (dmaGet s c).next = some (DmaNext.memory a) ∧ octetRegion s a 64 = false ∧ cqHost s c = true ∧
      (fnGet s 0).bme = true) ∧
    (∃ (c : Nat) (s : State), 32 ≤ c ∧ c < 64 ∧ dmaState s c = dmaBusy ∧ (dmaGet s c).cur = none ∧ (dmaGet s c).ended = none ∧
      (dmaGet s c).since < frameNo s ∧ (dmaGet s c).next = some DmaNext.register ∧ dmaWhy s (dmaRegDesc s c) true ≠ 0 ∧ cqHost s c = true ∧
      (fnGet s 0).bme = true) ∧
    (∃ (c : Nat) (s : State) (a : Nat) (c1 : Nat), 32 ≤ c ∧ c < 64 ∧ dmaState s c = dmaBusy ∧ (dmaGet s c).cur = none ∧
      (dmaGet s c).ended = none ∧ (dmaGet s c).since < frameNo s ∧ (dmaGet s c).next = some (DmaNext.memory a) ∧ a % 64 = 0 ∧
      octetRegion s a 64 = true ∧ isScratch a = false ∧ spanClass s a 64 = some c1 ∧ c1 ≠ classW ∧ (∀ (l : Nat), l ∈ spanLines a 64 →
      poisoned s l = false) ∧ bitsOf (leAt (memRead s a 64) 26 1) 7 2 = 0 ∧ leAt (memRead s a 64) 27 5 = 0 ∧
      leAt (memRead s a 64) 48 16 = 0 ∧ dmaWhy s (dmaMemDesc a (memRead s a 64)) true = 0) :=
  ⟨⟨56, XB, 40, by decide +kernel⟩,
   ⟨38, XE, by decide +kernel⟩,
   ⟨35, XB, by decide +kernel⟩,
   ⟨37, ({ XB with ev := { XB.ev with powerFail := true } }), 150994944, by decide +kernel⟩,
   ⟨42, ({ XB with ev := { XB.ev with powerFail := true } }), by decide +kernel⟩,
   ⟨36, ({ XB with ev := { XB.ev with powerFail := true } }), 16777280,
      ((spanClass (({ XB with ev := { XB.ev with powerFail := true } })) 16777280 64).get (by decide +kernel)), by decide +kernel⟩⟩

/-- Cases of O56. DMA descriptors and events. Part 4. -/
theorem witness_DmaAndEvents_4 :
    (∃ (c : Nat) (s : State) (d : Desc) (c1 : Nat) (c2 : Nat), 32 ≤ c ∧ c < 64 ∧ (dmaGet s c).cur = some d ∧ (dmaGet s c).ended = none ∧
      regFld s (DX_DONE c) 24 0 = 0 ∧ attrSrcHost d.attr = false ∧ attrDstHost d.attr = false ∧ attrWords d.attr = false ∧
      attrSnoop d.attr = false ∧ 1 ≤ d.count ∧ d.count ≤ 16777216 ∧ d.count ≤ (dmaGet s c).room ∧ isScratch d.src = false ∧
      spanClass s d.src d.count = some c1 ∧ c1 ≠ classW ∧ (∀ (l : Nat), l ∈ spanLines d.src d.count → poisoned s l = false) ∧
      isScratch d.dst = false ∧ spanClass s d.dst d.count = some c2 ∧ c2 ≠ classW ∧ Memory.wf s.dr.mem = true ∧ cqHost s c = true ∧
      (fnGet s 0).bme = true ∧ regBit s (DX_STATUS c) 29 = false) ∧
    (∃ (c : Nat) (s : State) (d : Desc) (h : Bytes) (c1 : Nat), 32 ≤ c ∧ c < 64 ∧ (dmaGet s c).cur = some d ∧ (dmaGet s c).ended = none ∧
      regFld s (DX_DONE c) 24 0 = 0 ∧ attrSrcHost d.attr = true ∧ attrDstHost d.attr = false ∧ attrWords d.attr = false ∧
      attrSnoop d.attr = false ∧ 1 ≤ d.count ∧ d.count ≤ 16777216 ∧ d.count ≤ (dmaGet s c).room ∧ d.count ≤ List.length h ∧
      isScratch d.dst = false ∧ spanClass s d.dst d.count = some c1 ∧ c1 ≠ classW ∧ Memory.wf s.dr.mem = true ∧ cqHost s c = true ∧
      (fnGet s 0).bme = true) ∧
    (∃ (c : Nat) (s : State) (d : Desc) (h : Bytes), (dmaGet s c).cur = some d ∧ (dmaGet s c).ended = none ∧ ((dmaGet s c).room < d.count ∨
      (attrSrcHost d.attr || attrDstHost d.attr) = true ∧ (fnGet s 0).bme = false ∨ attrSrcHost d.attr = true ∧ List.length h < d.count)) ∧
    (∃ (c : Nat) (s : State) (d : Desc), 32 ≤ c ∧ c < 64 ∧ (dmaGet s c).cur = some d ∧ (dmaGet s c).ended = none ∧ cqHost s c = true ∧
      (fnGet s 0).bme = true) ∧
    (∃ (n : Nat) (s : State), (¬n ∈ s.ev.send)) ∧
    (∃ (n : Nat) (s : State), n ∈ s.ev.send ∧ msixOpen s (evRouted s n).fst (evRouted s n).snd = false) :=
  ⟨⟨33, ({ XB with ev := { XB.ev with powerFail := true } }),
      (((dmaGet (({ XB with ev := { XB.ev with powerFail := true } })) 33).cur).get (by decide +kernel)), 1, 1, by decide +kernel⟩,
   ⟨45, XE, (((dmaGet XE 45).cur).get (by decide +kernel)),
      [0, 0, 0, 0, 3, 0, 0, 0, 0, 0, 0, 0, 0, 0, 0, 0, 0, 0, 0, 0, 255, 255, 255, 255, 255, 255, 255, 255, 255, 255, 255, 255, 255, 255, 255, 255, 255, 255, 255, 255],
      1, by decide +kernel⟩,
   ⟨44, XB, (((dmaGet XB 44).cur).get (by decide +kernel)), [], by decide +kernel⟩,
   ⟨45, XE, (((dmaGet XE 45).cur).get (by decide +kernel)), by decide +kernel⟩,
   ⟨256, XB, by decide +kernel⟩,
   ⟨5, XE, by decide +kernel⟩⟩

/-- Cases of O56. DMA descriptors and events. Part 5. -/
theorem witness_DmaAndEvents_5 :
    (∃ (n : Nat) (s : State), n ∈ s.ev.send ∧ msixOpen s (evRouted s n).fst (evRouted s n).snd = true) ∧
    (∃ (k : Nat), 16 ≤ k) ∧
    (∃ (k : Nat) (v : Nat), k < 16 ∧ v < 2 ^ 32) ∧
    (∃ (v : Nat), (bitOf v 31 = false ∨ eventInUse (bitsOf v 8 0) = false)) ∧
    (∃ (v : Nat), bitOf v 31 = true ∧ eventInUse (bitsOf v 8 0) = true) ∧
    (∃ (n : Nat) (v : Nat) (s : State), n < 512 ∧ v < 2 ^ 32 ∧ routeInvalid s v = false) :=
  ⟨⟨353, XE, by decide +kernel⟩,
   ⟨17, by decide +kernel⟩,
   ⟨9, 5, by decide +kernel⟩,
   ⟨5, by decide +kernel⟩,
   ⟨2147483648, by decide +kernel⟩,
   ⟨261, 1, XB, by decide +kernel⟩⟩

/-- Cases of O56. DMA descriptors and events. Part 6. -/
theorem witness_DmaAndEvents_6 :
    (∃ (n : Nat) (v : Nat) (s : State), n < 512 ∧ v < 2 ^ 32 ∧ routeInvalid s v = true) ∧
    (∃ (s : State) (n : Nat), n < 512 ∧ eventInUse n = true ∧ evPending s n = false ∧ regBit s (EV_MASK (n / 32)) (n % 32) = false ∧
      regBit s (EV_ROUTE n) 31 = true) ∧
    (∃ n : Nat, n < 512 ∧ eventInUse n = false) :=
  ⟨⟨261, 4294967295, XB, by decide +kernel⟩,
   ⟨setRegs State.reset [(EV_MASK 0, 0), (EV_ROUTE 1, 0x80000000)], 1, by decide +kernel⟩,
   ⟨511, by decide +kernel⟩⟩

/-- Cases of O57. Media packets and operators. Part 1. -/
theorem witness_MediaPackets_1 :
    (∃ (s : State) (p : Packet) (w : Nat), (p.mctp = true ∨ onTicket s p = true ∧ c1Fields (tkGet s p.id).cmd = true ∧
      (tkGet s p.id).cmd.dok = true) ∧ (List.length s.mg.flights < if fevoum s = true then 4 else 64) ∧ (∀ (e : Nat × Flight),
      e ∈ s.mg.flights → carrier e.snd.p = carrier p → e.snd.p.seq ≠ p.seq) ∧ (∀ (c : CachedReply), c ∈ tabGetD s.mg.caches (carrier p) [] →
      c.op = 769 → samePacket c.p p = false) ∧ s.ev.powerFail = false ∧ s.pw.halted = false ∧ s.fr.fatal = false ∧
      packetCheck s 769 p = none ∧ tabSorted s.mg.flights = true ∧ (∀ (e : Nat × Flight), e ∈ s.mg.flights → e.snd.p.parcel = p.parcel →
      e.snd.applied = true) ∧ p.bufOk = true ∧ (p.mctp = true ∨ (fnGet s 0).bme = true) ∧ stripeN (pAt p 8 1) = some w ∧
      ((if pAt p 9 1 = 0 then 4 else pAt p 9 1) ≤ 25) ∧ 1 ≤ pAt p 12 4 ∧ s.atl.nss ≠ []) ∧
    (∃ (s : State) (p : Packet), (p.mctp = true ∨ onTicket s p = true ∧ c1Fields (tkGet s p.id).cmd = true ∧
      (tkGet s p.id).cmd.dok = true) ∧ (List.length s.mg.flights < if fevoum s = true then 4 else 64) ∧ (∀ (e : Nat × Flight),
      e ∈ s.mg.flights → carrier e.snd.p = carrier p → e.snd.p.seq ≠ p.seq) ∧ (∀ (c : CachedReply), c ∈ tabGetD s.mg.caches (carrier p) [] →
      c.op = 770 → samePacket c.p p = false) ∧ s.ev.powerFail = false ∧ s.pw.halted = false ∧ s.fr.fatal = false ∧
      packetCheck s 770 p = none ∧ tabSorted s.mg.flights = true ∧ (∀ (e : Nat × Flight), e ∈ s.mg.flights → e.snd.p.parcel = p.parcel →
      e.snd.applied = true) ∧ p.bufOk = true ∧ (p.mctp = true ∨ (fnGet s 0).bme = true) ∧ pAt p 8 4 < 262144 ∧ pFlag p 0 = true ∧
      qForm (dirGet s (pAt p 8 4)) ≠ formFree) ∧
    (∃ (s : State) (p : Packet), (p.mctp = true ∨ onTicket s p = true ∧ c1Fields (tkGet s p.id).cmd = true ∧
      (tkGet s p.id).cmd.dok = true) ∧ (List.length s.mg.flights < if fevoum s = true then 4 else 64) ∧ (∀ (e : Nat × Flight),
      e ∈ s.mg.flights → carrier e.snd.p = carrier p → e.snd.p.seq ≠ p.seq) ∧ (∀ (c : CachedReply), c ∈ tabGetD s.mg.caches (carrier p) [] →
      c.op = 770 → samePacket c.p p = false) ∧ s.ev.powerFail = false ∧ s.pw.halted = false ∧ s.fr.fatal = false ∧
      packetCheck s 770 p = none ∧ tabSorted s.mg.flights = true ∧ (∀ (e : Nat × Flight), e ∈ s.mg.flights → e.snd.p.parcel = p.parcel →
      e.snd.applied = true) ∧ p.bufOk = true ∧ (p.mctp = true ∨ (fnGet s 0).bme = true) ∧ pAt p 8 4 < 262144 ∧ pFlag p 0 = false ∧
      (¬qForm (dirGet s (pAt p 8 4)) ∈ [formFree, formSheet, formToSheet])) ∧
    (∃ (s : State) (p : Packet), (p.mctp = true ∨ onTicket s p = true ∧ c1Fields (tkGet s p.id).cmd = true ∧
      (tkGet s p.id).cmd.dok = true) ∧ (List.length s.mg.flights < if fevoum s = true then 4 else 64) ∧ (∀ (e : Nat × Flight),
      e ∈ s.mg.flights → carrier e.snd.p = carrier p → e.snd.p.seq ≠ p.seq) ∧ (∀ (c : CachedReply), c ∈ tabGetD s.mg.caches (carrier p) [] →
      c.op = 770 → samePacket c.p p = false) ∧ s.ev.powerFail = false ∧ s.pw.halted = false ∧ s.fr.fatal = false ∧
      packetCheck s 770 p = none ∧ tabSorted s.mg.flights = true ∧ (∀ (e : Nat × Flight), e ∈ s.mg.flights → e.snd.p.parcel = p.parcel →
      e.snd.applied = true) ∧ p.bufOk = true ∧ (p.mctp = true ∨ (fnGet s 0).bme = true) ∧ pAt p 8 4 < 262144 ∧ pFlag p 0 = false ∧
      qForm (dirGet s (pAt p 8 4)) = formSheet ∧ 0 < tablesFree s ∧ s.atl.convs = []) ∧
    (∃ (s : State) (p : Packet), (p.mctp = true ∨ onTicket s p = true ∧ c1Fields (tkGet s p.id).cmd = true ∧
      (tkGet s p.id).cmd.dok = true) ∧ (List.length s.mg.flights < if fevoum s = true then 4 else 64) ∧ (∀ (e : Nat × Flight),
      e ∈ s.mg.flights → carrier e.snd.p = carrier p → e.snd.p.seq ≠ p.seq) ∧ (∀ (c : CachedReply), c ∈ tabGetD s.mg.caches (carrier p) [] →
      c.op = 770 → samePacket c.p p = false) ∧ s.ev.powerFail = false ∧ s.pw.halted = false ∧ s.fr.fatal = false ∧
      packetCheck s 770 p = none ∧ tabSorted s.mg.flights = true ∧ (∀ (e : Nat × Flight), e ∈ s.mg.flights → e.snd.p.parcel = p.parcel →
      e.snd.applied = true) ∧ p.bufOk = true ∧ (p.mctp = true ∨ (fnGet s 0).bme = true) ∧ pAt p 8 4 < 262144 ∧ pFlag p 0 = false ∧
      qForm (dirGet s (pAt p 8 4)) = formSheet ∧ tablesFree s = 0) ∧
    (∃ (s : State) (p : Packet), (p.mctp = true ∨ onTicket s p = true ∧ c1Fields (tkGet s p.id).cmd = true ∧
      (tkGet s p.id).cmd.dok = true) ∧ (List.length s.mg.flights < if fevoum s = true then 4 else 64) ∧ (∀ (e : Nat × Flight),
      e ∈ s.mg.flights → carrier e.snd.p = carrier p → e.snd.p.seq ≠ p.seq) ∧ (∀ (c : CachedReply), c ∈ tabGetD s.mg.caches (carrier p) [] →
      c.op = 771 → samePacket c.p p = false) ∧ s.ev.powerFail = false ∧ s.pw.halted = false ∧ s.fr.fatal = false ∧
      packetCheck s 771 p = none ∧ tabSorted s.mg.flights = true ∧ (∀ (e : Nat × Flight), e ∈ s.mg.flights → e.snd.p.parcel = p.parcel →
      e.snd.applied = true) ∧ p.bufOk = true ∧ (p.mctp = true ∨ (fnGet s 0).bme = true) ∧ pAt p 8 1 < 32 ∧
      chState s (pAt p 8 1) = chActive ∧ regBit s AT_REBUILD 31 = true) :=
  ⟨⟨K3, { mctp := true, id := 9, seq := 5, parcel := 65535, params := [1, 0, 0, 0, 184, 11] ++ zeros 34 }, 16, by decide +kernel⟩,
   ⟨K0, { mctp := true, id := 9, seq := 5, flags := 1, parcel := 65535, params := [5] ++ zeros 39 }, by decide +kernel⟩,
   ⟨K4, { mctp := true, id := 9, seq := 5, parcel := 65535, params := [5] ++ zeros 39 }, by decide +kernel⟩,
   ⟨K2, { mctp := true, id := 9, seq := 5, parcel := 65535, params := [7] ++ zeros 39 }, by decide +kernel⟩,
   ⟨K3, { mctp := true, id := 9, seq := 5, parcel := 65535, params := [7] ++ zeros 39 }, by decide +kernel⟩,
   ⟨K1, { mctp := true, id := 9, seq := 5, parcel := 65535, params := zeros 40 }, by decide +kernel⟩⟩

/-- Cases of O57. Media packets and operators. Part 2. -/
theorem witness_MediaPackets_2 :
    (∃ (s : State) (p : Packet), (p.mctp = true ∨ onTicket s p = true ∧ c1Fields (tkGet s p.id).cmd = true ∧
      (tkGet s p.id).cmd.dok = true) ∧ (List.length s.mg.flights < if fevoum s = true then 4 else 64) ∧ (∀ (e : Nat × Flight),
      e ∈ s.mg.flights → carrier e.snd.p = carrier p → e.snd.p.seq ≠ p.seq) ∧ (∀ (c : CachedReply), c ∈ tabGetD s.mg.caches (carrier p) [] →
      c.op = 771 → samePacket c.p p = false) ∧ s.ev.powerFail = false ∧ s.pw.halted = false ∧ s.fr.fatal = false ∧
      packetCheck s 771 p = none ∧ tabSorted s.mg.flights = true ∧ (∀ (e : Nat × Flight), e ∈ s.mg.flights → e.snd.p.parcel = p.parcel →
      e.snd.applied = true) ∧ p.bufOk = true ∧ (p.mctp = true ∨ (fnGet s 0).bme = true) ∧ pAt p 8 1 < 32 ∧
      chState s (pAt p 8 1) = chActive ∧ regBit s AT_REBUILD 31 = false) ∧
    (∃ (s : State) (p : Packet), (p.mctp = true ∨ onTicket s p = true ∧ c1Fields (tkGet s p.id).cmd = true ∧
      (tkGet s p.id).cmd.dok = true) ∧ (List.length s.mg.flights < if fevoum s = true then 4 else 64) ∧ (∀ (e : Nat × Flight),
      e ∈ s.mg.flights → carrier e.snd.p = carrier p → e.snd.p.seq ≠ p.seq) ∧ (∀ (c : CachedReply), c ∈ tabGetD s.mg.caches (carrier p) [] →
      c.op = 771 → samePacket c.p p = false) ∧ s.ev.powerFail = false ∧ s.pw.halted = false ∧ s.fr.fatal = false ∧
      packetCheck s 771 p = none ∧ tabSorted s.mg.flights = true ∧ (∀ (e : Nat × Flight), e ∈ s.mg.flights → e.snd.p.parcel = p.parcel →
      e.snd.applied = true) ∧ p.bufOk = true ∧ (p.mctp = true ∨ (fnGet s 0).bme = true) ∧ pAt p 8 1 < 32 ∧
      (chState s (pAt p 8 1) = chAbsent ∨ chState s (pAt p 8 1) = chRetired)) ∧
    (∃ (s : State) (p : Packet), (p.mctp = true ∨ onTicket s p = true ∧ c1Fields (tkGet s p.id).cmd = true ∧
      (tkGet s p.id).cmd.dok = true) ∧ (List.length s.mg.flights < if fevoum s = true then 4 else 64) ∧ (∀ (e : Nat × Flight),
      e ∈ s.mg.flights → carrier e.snd.p = carrier p → e.snd.p.seq ≠ p.seq) ∧ (∀ (c : CachedReply), c ∈ tabGetD s.mg.caches (carrier p) [] →
      c.op = 771 → samePacket c.p p = false) ∧ s.ev.powerFail = false ∧ s.pw.halted = false ∧ s.fr.fatal = false ∧
      packetCheck s 771 p = none ∧ tabSorted s.mg.flights = true ∧ (∀ (e : Nat × Flight), e ∈ s.mg.flights → e.snd.p.parcel = p.parcel →
      e.snd.applied = true) ∧ p.bufOk = true ∧ (p.mctp = true ∨ (fnGet s 0).bme = true) ∧ pAt p 8 1 < 32 ∧
      (chState s (pAt p 8 1) = chTraining ∨ chState s (pAt p 8 1) = chRetraining)) ∧
    (∃ (s : State) (p : Packet) (v : Ns), (p.mctp = true ∨ onTicket s p = true ∧ c1Fields (tkGet s p.id).cmd = true ∧
      (tkGet s p.id).cmd.dok = true) ∧ (List.length s.mg.flights < if fevoum s = true then 4 else 64) ∧ (∀ (e : Nat × Flight),
      e ∈ s.mg.flights → carrier e.snd.p = carrier p → e.snd.p.seq ≠ p.seq) ∧ (∀ (c : CachedReply), c ∈ tabGetD s.mg.caches (carrier p) [] →
      c.op = 773 → samePacket c.p p = false) ∧ s.ev.powerFail = false ∧ s.pw.halted = false ∧ s.fr.fatal = false ∧
      packetCheck s 773 p = none ∧ tabSorted s.mg.flights = true ∧ (∀ (e : Nat × Flight), e ∈ s.mg.flights → e.snd.p.parcel = p.parcel →
      e.snd.applied = true) ∧ p.bufOk = true ∧ (p.mctp = true ∨ (fnGet s 0).bme = true) ∧ nsGet s (pAt p 8 4) = some v ∧ pAt p 13 1 ≤ 1 ∧
      1 ≤ pAt p 14 1 ∧ pAt p 14 1 ≤ 4 ∧ bitOf (pAt p 12 1) 1 ≠ v.encrypt) ∧
    (∃ (s : State) (p : Packet), (p.mctp = true ∨ onTicket s p = true ∧ c1Fields (tkGet s p.id).cmd = true ∧
      (tkGet s p.id).cmd.dok = true) ∧ (List.length s.mg.flights < if fevoum s = true then 4 else 64) ∧ (∀ (e : Nat × Flight),
      e ∈ s.mg.flights → carrier e.snd.p = carrier p → e.snd.p.seq ≠ p.seq) ∧ (∀ (c : CachedReply), c ∈ tabGetD s.mg.caches (carrier p) [] →
      c.op = 774 → samePacket c.p p = false) ∧ s.ev.powerFail = false ∧ s.pw.halted = false ∧ s.fr.fatal = false ∧
      packetCheck s 774 p = none ∧ tabSorted s.mg.flights = true ∧ (∀ (e : Nat × Flight), e ∈ s.mg.flights → e.snd.p.parcel = p.parcel →
      e.snd.applied = true) ∧ p.bufOk = true ∧ (p.mctp = true ∨ (fnGet s 0).bme = true) ∧ pAt p 8 1 = 1) ∧
    (∃ (s : State) (p : Packet), (p.mctp = true ∨ onTicket s p = true ∧ c1Fields (tkGet s p.id).cmd = true ∧
      (tkGet s p.id).cmd.dok = true) ∧ (List.length s.mg.flights < if fevoum s = true then 4 else 64) ∧ (∀ (e : Nat × Flight),
      e ∈ s.mg.flights → carrier e.snd.p = carrier p → e.snd.p.seq ≠ p.seq) ∧ (∀ (c : CachedReply), c ∈ tabGetD s.mg.caches (carrier p) [] →
      c.op = 774 → samePacket c.p p = false) ∧ s.ev.powerFail = false ∧ s.pw.halted = false ∧ s.fr.fatal = false ∧
      packetCheck s 774 p = none ∧ tabSorted s.mg.flights = true ∧ (∀ (e : Nat × Flight), e ∈ s.mg.flights → e.snd.p.parcel = p.parcel →
      e.snd.applied = true) ∧ p.bufOk = true ∧ (p.mctp = true ∨ (fnGet s 0).bme = true) ∧ pAt p 8 1 = 0) :=
  ⟨⟨K3, { mctp := true, id := 9, seq := 5, parcel := 65535, params := [1] ++ zeros 39 }, by decide +kernel⟩,
   ⟨K2, { mctp := true, id := 9, seq := 5, parcel := 65535, params := [11] ++ zeros 39 }, by decide +kernel⟩,
   ⟨K9, { mctp := true, id := 9, seq := 5, parcel := 65535, params := [9] ++ zeros 39 }, by decide +kernel⟩,
   ⟨K7, { mctp := true, id := 9, seq := 5, parcel := 65535, params := [3, 0, 0, 0, 3, 1, 2] ++ zeros 33 },
      ((nsGet K7 (pAt ({ mctp := true, id := 9, seq := 5, parcel := 65535, params := [3, 0, 0, 0, 3, 1, 2] ++ zeros 33 } : Packet) 8 4)).get (by decide +kernel)),
      by decide +kernel⟩,
   ⟨K3, { mctp := true, id := 9, seq := 5, parcel := 65535, params := [1] ++ zeros 39 }, by decide +kernel⟩,
   ⟨K1, { mctp := true, id := 9, seq := 5, parcel := 65535, params := zeros 40 }, by decide +kernel⟩⟩

/-- Cases of O57. Media packets and operators. Part 3. -/
theorem witness_MediaPackets_3 :
    (∃ (s : State) (p : Packet), (p.mctp = true ∨ onTicket s p = true ∧ c1Fields (tkGet s p.id).cmd = true ∧
      (tkGet s p.id).cmd.dok = true) ∧ (List.length s.mg.flights < if fevoum s = true then 4 else 64) ∧ (∀ (e : Nat × Flight),
      e ∈ s.mg.flights → carrier e.snd.p = carrier p → e.snd.p.seq ≠ p.seq) ∧ (∀ (c : CachedReply), c ∈ tabGetD s.mg.caches (carrier p) [] →
      c.op = 774 → samePacket c.p p = false) ∧ s.ev.powerFail = false ∧ s.pw.halted = false ∧ s.fr.fatal = false ∧
      packetCheck s 774 p = none ∧ tabSorted s.mg.flights = true ∧ (∀ (e : Nat × Flight), e ∈ s.mg.flights → e.snd.p.parcel = p.parcel →
      e.snd.applied = true) ∧ p.bufOk = true ∧ (p.mctp = true ∨ (fnGet s 0).bme = true) ∧ 3 ≤ pAt p 8 1) ∧
    (∃ (s : State) (p : Packet), (p.mctp = true ∨ onTicket s p = true ∧ c1Fields (tkGet s p.id).cmd = true ∧
      (tkGet s p.id).cmd.dok = true) ∧ (List.length s.mg.flights < if fevoum s = true then 4 else 64) ∧ (∀ (e : Nat × Flight),
      e ∈ s.mg.flights → carrier e.snd.p = carrier p → e.snd.p.seq ≠ p.seq) ∧ (∀ (c : CachedReply), c ∈ tabGetD s.mg.caches (carrier p) [] →
      c.op = 1027 → samePacket c.p p = false) ∧ s.ev.powerFail = false ∧ s.pw.halted = false ∧ s.fr.fatal = false ∧
      packetCheck s 1027 p = none ∧ tabSorted s.mg.flights = true ∧ (∀ (e : Nat × Flight), e ∈ s.mg.flights → e.snd.p.parcel = p.parcel →
      e.snd.applied = true) ∧ p.bufOk = true ∧ (p.mctp = true ∨ (fnGet s 0).bme = true) ∧ parcelThere s p.parcel = true ∧ pAt p 8 1 ≤ 63 ∧
      (imgLength p.buf = false ∨ imgHeader p.buf = false)) ∧
    (∃ (s : State) (p : Packet), (p.mctp = true ∨ onTicket s p = true ∧ c1Fields (tkGet s p.id).cmd = true ∧
      (tkGet s p.id).cmd.dok = true) ∧ (List.length s.mg.flights < if fevoum s = true then 4 else 64) ∧ (∀ (e : Nat × Flight),
      e ∈ s.mg.flights → carrier e.snd.p = carrier p → e.snd.p.seq ≠ p.seq) ∧ (∀ (c : CachedReply), c ∈ tabGetD s.mg.caches (carrier p) [] →
      c.op = 1027 → samePacket c.p p = false) ∧ s.ev.powerFail = false ∧ s.pw.halted = false ∧ s.fr.fatal = false ∧
      packetCheck s 1027 p = none ∧ tabSorted s.mg.flights = true ∧ (∀ (e : Nat × Flight), e ∈ s.mg.flights → e.snd.p.parcel = p.parcel →
      e.snd.applied = true) ∧ p.bufOk = true ∧ (p.mctp = true ∨ (fnGet s 0).bme = true) ∧ parcelThere s p.parcel = true ∧ pAt p 8 1 ≤ 63 ∧
      imgLength p.buf = true ∧ imgHeader p.buf = true ∧ progActive s p.parcel (pAt p 8 1) = true) ∧
    (∃ (s : State) (p : Packet) (v : State), progInstall (Says.inHand s 1027 p) p.parcel (pAt p 8 1) p.buf = some v ∧ (p.mctp = true ∨
      onTicket s p = true ∧ c1Fields (tkGet s p.id).cmd = true ∧ (tkGet s p.id).cmd.dok = true) ∧
      (List.length s.mg.flights < if fevoum s = true then 4 else 64) ∧ (∀ (e : Nat × Flight), e ∈ s.mg.flights →
      carrier e.snd.p = carrier p → e.snd.p.seq ≠ p.seq) ∧ (∀ (c : CachedReply), c ∈ tabGetD s.mg.caches (carrier p) [] → c.op = 1027 →
      samePacket c.p p = false) ∧ s.ev.powerFail = false ∧ s.pw.halted = false ∧ s.fr.fatal = false ∧ packetCheck s 1027 p = none ∧
      tabSorted s.mg.flights = true ∧ (∀ (e : Nat × Flight), e ∈ s.mg.flights → e.snd.p.parcel = p.parcel → e.snd.applied = true) ∧
      p.bufOk = true ∧ (p.mctp = true ∨ (fnGet s 0).bme = true) ∧ parcelThere s p.parcel = true ∧ pAt p 8 1 ≤ 63 ∧ imgLength p.buf = true ∧
      imgHeader p.buf = true ∧ progActive s p.parcel (pAt p 8 1) = false ∧ progsFull s p.parcel (pAt p 8 1) = false) ∧
    (∃ (s : State) (p : Packet), (p.mctp = true ∨ onTicket s p = true ∧ c1Fields (tkGet s p.id).cmd = true ∧
      (tkGet s p.id).cmd.dok = true) ∧ (List.length s.mg.flights < if fevoum s = true then 4 else 64) ∧ (∀ (e : Nat × Flight),
      e ∈ s.mg.flights → carrier e.snd.p = carrier p → e.snd.p.seq ≠ p.seq) ∧ (∀ (c : CachedReply), c ∈ tabGetD s.mg.caches (carrier p) [] →
      c.op = 1028 → samePacket c.p p = false) ∧ s.ev.powerFail = false ∧ s.pw.halted = false ∧ s.fr.fatal = false ∧
      packetCheck s 1028 p = none ∧ tabSorted s.mg.flights = true ∧ (∀ (e : Nat × Flight), e ∈ s.mg.flights → e.snd.p.parcel = p.parcel →
      e.snd.applied = true) ∧ p.bufOk = true ∧ (p.mctp = true ∨ (fnGet s 0).bme = true) ∧ (parGet s p.parcel).st ≠ PState.active) ∧
    (∃ (s : State) (p : Packet), (p.mctp = true ∨ onTicket s p = true ∧ c1Fields (tkGet s p.id).cmd = true ∧
      (tkGet s p.id).cmd.dok = true) ∧ (List.length s.mg.flights < if fevoum s = true then 4 else 64) ∧ (∀ (e : Nat × Flight),
      e ∈ s.mg.flights → carrier e.snd.p = carrier p → e.snd.p.seq ≠ p.seq) ∧ (∀ (c : CachedReply), c ∈ tabGetD s.mg.caches (carrier p) [] →
      c.op = 1537 → samePacket c.p p = false) ∧ s.ev.powerFail = false ∧ s.pw.halted = false ∧ s.fr.fatal = false ∧
      packetCheck s 1537 p = none ∧ tabSorted s.mg.flights = true ∧ (∀ (e : Nat × Flight), e ∈ s.mg.flights → e.snd.p.parcel = p.parcel →
      e.snd.applied = true) ∧ p.bufOk = true ∧ (p.mctp = true ∨ (fnGet s 0).bme = true)) :=
  ⟨⟨K2, { mctp := true, id := 9, seq := 5, parcel := 65535, params := [11] ++ zeros 39 }, by decide +kernel⟩,
   ⟨K5, { mctp := true, id := 9, seq := 5, parcel := 17, params := zeros 40 }, by decide +kernel⟩,
   ⟨K0,
      { mctp := true, id := 9, seq := 5, parcel := 17, params := [1] ++ zeros 39, bufLen := 82, buf := [83, 86, 80, 82, 1, 0, 0, 0, 2, 0, 0, 0, 1, 0, 0, 0, 3, 0, 0, 0, 64, 0, 0, 0, 0, 0, 0, 0, 232, 3, 0, 0, 4, 0, 0, 0, 0, 0, 0, 0, 0, 0, 0, 0, 0, 0, 0, 0, 0, 0, 0, 0, 0, 0, 0, 0, 0, 0, 0, 0, 0, 0, 0, 0, 0, 1, 2, 3, 4, 5, 6, 7, 8, 9, 10, 11, 12, 13, 14, 15, 16, 17] },
      by decide +kernel⟩,
   ⟨K4,
      { mctp := true, id := 9, seq := 5, parcel := 17, params := [3] ++ zeros 39, bufLen := 82, buf := [83, 86, 80, 82, 1, 0, 0, 0, 2, 0, 0, 0, 1, 0, 0, 0, 3, 0, 0, 0, 64, 0, 0, 0, 0, 0, 0, 0, 232, 3, 0, 0, 4, 0, 0, 0, 0, 0, 0, 0, 0, 0, 0, 0, 0, 0, 0, 0, 0, 0, 0, 0, 0, 0, 0, 0, 0, 0, 0, 0, 0, 0, 0, 0, 0, 1, 2, 3, 4, 5, 6, 7, 8, 9, 10, 11, 12, 13, 14, 15, 16, 17] },
      ((progInstall (Says.inHand K4 1027 ({ mctp := true, id := 9, seq := 5, parcel := 17, params := [3] ++ zeros 39, bufLen := 82, buf := [83, 86, 80, 82, 1, 0, 0, 0, 2, 0, 0, 0, 1, 0, 0, 0, 3, 0, 0, 0, 64, 0, 0, 0, 0, 0, 0, 0, 232, 3, 0, 0, 4, 0, 0, 0, 0, 0, 0, 0, 0, 0, 0, 0, 0, 0, 0, 0, 0, 0, 0, 0, 0, 0, 0, 0, 0, 0, 0, 0, 0, 0, 0, 0, 0, 1, 2, 3, 4, 5, 6, 7, 8, 9, 10, 11, 12, 13, 14, 15, 16, 17] } : Packet)) ({ mctp := true, id := 9, seq := 5, parcel := 17, params := [3] ++ zeros 39, bufLen := 82, buf := [83, 86, 80, 82, 1, 0, 0, 0, 2, 0, 0, 0, 1, 0, 0, 0, 3, 0, 0, 0, 64, 0, 0, 0, 0, 0, 0, 0, 232, 3, 0, 0, 4, 0, 0, 0, 0, 0, 0, 0, 0, 0, 0, 0, 0, 0, 0, 0, 0, 0, 0, 0, 0, 0, 0, 0, 0, 0, 0, 0, 0, 0, 0, 0, 0, 1, 2, 3, 4, 5, 6, 7, 8, 9, 10, 11, 12, 13, 14, 15, 16, 17] } : Packet).parcel (pAt ({ mctp := true, id := 9, seq := 5, parcel := 17, params := [3] ++ zeros 39, bufLen := 82, buf := [83, 86, 80, 82, 1, 0, 0, 0, 2, 0, 0, 0, 1, 0, 0, 0, 3, 0, 0, 0, 64, 0, 0, 0, 0, 0, 0, 0, 232, 3, 0, 0, 4, 0, 0, 0, 0, 0, 0, 0, 0, 0, 0, 0, 0, 0, 0, 0, 0, 0, 0, 0, 0, 0, 0, 0, 0, 0, 0, 0, 0, 0, 0, 0, 0, 1, 2, 3, 4, 5, 6, 7, 8, 9, 10, 11, 12, 13, 14, 15, 16, 17] } : Packet) 8 1) ({ mctp := true, id := 9, seq := 5, parcel := 17, params := [3] ++ zeros 39, bufLen := 82, buf := [83, 86, 80, 82, 1, 0, 0, 0, 2, 0, 0, 0, 1, 0, 0, 0, 3, 0, 0, 0, 64, 0, 0, 0, 0, 0, 0, 0, 232, 3, 0, 0, 4, 0, 0, 0, 0, 0, 0, 0, 0, 0, 0, 0, 0, 0, 0, 0, 0, 0, 0, 0, 0, 0, 0, 0, 0, 0, 0, 0, 0, 0, 0, 0, 0, 1, 2, 3, 4, 5, 6, 7, 8, 9, 10, 11, 12, 13, 14, 15, 16, 17] } : Packet).buf).get (by decide +kernel)),
      (Option.some_get _).symm, by decide +kernel⟩,
   ⟨K2', { mctp := true, id := 9, seq := 5, parcel := 18, params := [1, 0, 3] ++ zeros 37, bufLen := 1, buf := [1] }, by decide +kernel⟩,
   ⟨K1, { mctp := true, id := 9, seq := 5, parcel := 65535, params := zeros 40 }, by decide +kernel⟩⟩

/-- Cases of O57. Media packets and operators. Part 4. -/
theorem witness_MediaPackets_4 :
    (∃ (s : State) (p : Packet), (p.mctp = true ∨ onTicket s p = true ∧ c1Fields (tkGet s p.id).cmd = true ∧
      (tkGet s p.id).cmd.dok = true) ∧ (List.length s.mg.flights < if fevoum s = true then 4 else 64) ∧ (∀ (e : Nat × Flight),
      e ∈ s.mg.flights → carrier e.snd.p = carrier p → e.snd.p.seq ≠ p.seq) ∧ (∀ (c : CachedReply), c ∈ tabGetD s.mg.caches (carrier p) [] →
      c.op = 1538 → samePacket c.p p = false) ∧ s.ev.powerFail = false ∧ s.pw.halted = false ∧ s.fr.fatal = false ∧
      packetCheck s 1538 p = none ∧ tabSorted s.mg.flights = true ∧ (∀ (e : Nat × Flight), e ∈ s.mg.flights → e.snd.p.parcel = p.parcel →
      e.snd.applied = true) ∧ p.bufOk = true ∧ (p.mctp = true ∨ (fnGet s 0).bme = true) ∧ s.pc.ring.length < pAt p 8 4) ∧
    (∃ (s : State) (p : Packet), (p.mctp = true ∨ onTicket s p = true ∧ c1Fields (tkGet s p.id).cmd = true ∧
      (tkGet s p.id).cmd.dok = true) ∧ (List.length s.mg.flights < if fevoum s = true then 4 else 64) ∧ (∀ (e : Nat × Flight),
      e ∈ s.mg.flights → carrier e.snd.p = carrier p → e.snd.p.seq ≠ p.seq) ∧ (∀ (c : CachedReply), c ∈ tabGetD s.mg.caches (carrier p) [] →
      c.op = 1538 → samePacket c.p p = false) ∧ s.ev.powerFail = false ∧ s.pw.halted = false ∧ s.fr.fatal = false ∧
      packetCheck s 1538 p = none ∧ tabSorted s.mg.flights = true ∧ (∀ (e : Nat × Flight), e ∈ s.mg.flights → e.snd.p.parcel = p.parcel →
      e.snd.applied = true) ∧ p.bufOk = true ∧ (p.mctp = true ∨ (fnGet s 0).bme = true) ∧ s.pc.held = [] ∧ pAt p 8 4 ≤ s.pc.ring.length) ∧
    (∃ (s : State) (p : Packet) (w : Nat), Says.acts s 0x301 p ∧ stripeN (pAt p 8 1) = some w ∧ pAt p 9 1 ≤ 25 ∧ 1 ≤ pAt p 12 4 ∧
      s.atl.nss = [] ∧ (∀ ch, ch < 32 → chState s ch ≠ chTraining ∧ chState s ch ≠ chRetired) ∧
      (mediaFormat (Says.inHand s 0x301 p) w (if pAt p 9 1 = 0 then 4 else pAt p 9 1) (pAt p 12 4)).isSome = true) ∧
    (∃ (s : State) (p : Packet) (w : Nat), Says.acts s 0x301 p ∧ stripeN (pAt p 8 1) = some w ∧ pAt p 9 1 ≤ 25 ∧ 1 ≤ pAt p 12 4 ∧
      s.atl.nss = [] ∧ (∀ ch, ch < 32 → chState s ch ≠ chTraining ∧ chState s ch ≠ chRetired) ∧
      (mediaFormat (Says.inHand s 0x301 p) w (if pAt p 9 1 = 0 then 4 else pAt p 9 1) (pAt p 12 4)).isSome = false) ∧
    (∃ (s : State) (p : Packet) (v : Ns), Says.acts s 0x305 p ∧ nsGet s (pAt p 8 4) = some v ∧ pAt p 13 1 ≤ 1 ∧ 1 ≤ pAt p 14 1 ∧
      pAt p 14 1 ≤ 4 ∧ bitOf (pAt p 12 1) 1 = v.encrypt ∧ bitOf (pAt p 12 1) 0 ≠ v.compress ∧ ∃ q ∈ v.quads, qForm (dirGet s q) ≠ formEmpty) ∧
    (∃ (k n : Nat) (f : Flight) (s : State) (v : Ns), (s.ks.reqs.find? fun r => reqSlot r == k) = some (.packet n k) ∧
      flightGet s n = some f ∧ f.op = 0x305 ∧ tabSorted s.mg.flights = true ∧ Says.canReply s f ∧ s.en.xjobs = [] ∧
      nsGet s (pAt f.p 8 4) = some v ∧ pAt f.p 13 1 ≤ 1 ∧ 1 ≤ pAt f.p 14 1 ∧ pAt f.p 14 1 ≤ 4 ∧ Says.canTransform s v f.p ∧
      bitOf (pAt f.p 12 1) 1 = true ∧ v.encrypt = false ∧ drbgError s = false ∧ (slotGet s 1).valid = false) :=
  ⟨⟨K2, { mctp := true, id := 9, seq := 5, parcel := 65535, params := [11] ++ zeros 39 }, by decide +kernel⟩,
   ⟨K1, { mctp := true, id := 9, seq := 5, parcel := 65535, params := zeros 40 }, by decide +kernel⟩,
   ⟨formatState, pf ([0, 4, 0, 0] ++ leBytes 4 3000), 8, (by unfold Says.acts Says.arrives; decide +kernel), by decide +kernel⟩,
   ⟨bareState, pf ([0, 4, 0, 0] ++ leBytes 4 3000), 8, (by unfold Says.acts Says.arrives; decide +kernel), by decide +kernel⟩,
   ⟨K0, pf (leBytes 4 4 ++ [3, 0, 1]), nsB, (by unfold Says.acts Says.arrives; decide +kernel), by decide +kernel⟩,
   ⟨4096, 1, flt 0x305 (pk 17 (leBytes 4 3 ++ [2, 1, 2])), turnState (leBytes 4 3 ++ [2, 1, 2]), nsE,
      by unfold Says.canReply Says.canTransform; decide +kernel⟩⟩

/-- Cases of O57. Media packets and operators. Part 5. -/
theorem witness_MediaPackets_5 :
    (∃ (k n : Nat) (f : Flight) (s : State) (v : Ns), (s.ks.reqs.find? fun r => reqSlot r == k) = some (.packet n k) ∧
      flightGet s n = some f ∧ f.op = 0x305 ∧ tabSorted s.mg.flights = true ∧ Says.canReply s f ∧ s.en.xjobs = [] ∧
      nsGet s (pAt f.p 8 4) = some v ∧ pAt f.p 13 1 ≤ 1 ∧ 1 ≤ pAt f.p 14 1 ∧ pAt f.p 14 1 ≤ 4 ∧ Says.canTransform s v f.p ∧
      bitOf (pAt f.p 12 1) 1 = false ∧ v.encrypt = true ∧ v.media = some 4) ∧
    (∃ (k n : Nat) (f : Flight) (s : State) (v : Ns), (s.ks.reqs.find? fun r => reqSlot r == k) = some (.packet n k) ∧
      flightGet s n = some f ∧ f.op = 0x305 ∧ tabSorted s.mg.flights = true ∧ Says.canReply s f ∧ s.en.xjobs = [] ∧
      nsGet s (pAt f.p 8 4) = some v ∧ pAt f.p 13 1 ≤ 1 ∧ 1 ≤ pAt f.p 14 1 ∧ pAt f.p 14 1 ≤ 4 ∧ Says.canTransform s v f.p ∧
      bitOf (pAt f.p 12 1) 1 = true ∧ v.encrypt = false ∧ drbgError s = true) ∧
    (∃ (s : State) (p : Packet) (g : Prog) (rs : List Nat) (tk : Nat) (u v : State), Says.acts s 0x404 p ∧
      (parGet s p.parcel).st = .active ∧ pAt p 8 1 ≤ 63 ∧ tabGet s.cs.progs (progKey p.parcel (pAt p 8 1)) = some g ∧
      setRanges s p.parcel (pAt p 10 2) = some rs ∧ p.buf.length ≤ 4096 ∧ tkAlloc (flightAdd s 0x404 p) true = (some tk, u) ∧
      invStart (tkMod u tk fun x => { x with busy := true, admin := true, parcel := some p.parcel, pEdition := (parGet s p.parcel).edition, phase := .started, begun := true }) (.packet s.mg.next) p.parcel tk (pAt p 8 1) g true rs p.buf = some v) :=
  ⟨⟨4096, 1, flt 0x305 (pk 17 (leBytes 4 6 ++ [0, 1, 2])), turnState (leBytes 4 6 ++ [0, 1, 2]), nsF,
      by unfold Says.canReply Says.canTransform; decide +kernel⟩,
   ⟨4096, 1, flt 0x305 (pk 17 (leBytes 4 3 ++ [2, 1, 2])), regPut (turnState (leBytes 4 3 ++ [2, 1, 2])) KS_ENTROPY 0x80000000, nsE,
      by unfold Says.canReply Says.canTransform; decide +kernel⟩,
   ⟨K0, invokePacket, (tabGet K0.cs.progs (progKey 17 1)).get (by decide +kernel), [], 16129, _, _,
      (by unfold Says.acts Says.arrives; decide +kernel), by decide +kernel, by decide +kernel, (Option.some_get _).symm, by decide +kernel,
      by decide +kernel, Prod.ext (by decide +kernel) rfl, (Option.some_get (by decide +kernel)).symm⟩⟩

/-- Cases of O58. Firmware, configuration, diagnostics and events by packet. Part 1. -/
theorem witness_FirmwarePackets_1 :
    (∃ (s : State) (p : Packet), 1 ≤ pAt p 8 1 ∧ pAt p 8 1 ≤ 2 ∧ (p.mctp = true ∨ onTicket s p = true ∧ c1Fields (tkGet s p.id).cmd = true ∧
      (tkGet s p.id).cmd.dok = true) ∧ (List.length s.mg.flights < if fevoum s = true then 4 else 64) ∧ (∀ (e : Nat × Flight),
      e ∈ s.mg.flights → carrier e.snd.p = carrier p → e.snd.p.seq ≠ p.seq) ∧ (∀ (c : CachedReply), c ∈ tabGetD s.mg.caches (carrier p) [] →
      c.op = 1794 → samePacket c.p p = false) ∧ s.ev.powerFail = false ∧ s.pw.halted = false ∧ s.fr.fatal = false ∧
      packetCheck s 1794 p = none ∧ tabSorted s.mg.flights = true ∧ (∀ (e : Nat × Flight), e ∈ s.mg.flights → e.snd.p.parcel = p.parcel →
      e.snd.applied = true) ∧ p.bufOk = true ∧ (p.mctp = true ∨ (fnGet s 0).bme = true)) ∧
    (∃ (s : State) (p : Packet), 1 ≤ pAt p 8 1 ∧ pAt p 8 1 ≤ 2 ∧ (p.mctp = true ∨ onTicket s p = true ∧ c1Fields (tkGet s p.id).cmd = true ∧
      (tkGet s p.id).cmd.dok = true) ∧ (List.length s.mg.flights < if fevoum s = true then 4 else 64) ∧ (∀ (e : Nat × Flight),
      e ∈ s.mg.flights → carrier e.snd.p = carrier p → e.snd.p.seq ≠ p.seq) ∧ (∀ (c : CachedReply), c ∈ tabGetD s.mg.caches (carrier p) [] →
      c.op = 1793 → samePacket c.p p = false) ∧ s.ev.powerFail = false ∧ s.pw.halted = false ∧ s.fr.fatal = false ∧
      packetCheck s 1793 p = none ∧ tabSorted s.mg.flights = true ∧ (∀ (e : Nat × Flight), e ∈ s.mg.flights → e.snd.p.parcel = p.parcel →
      e.snd.applied = true) ∧ p.bufOk = true ∧ (p.mctp = true ∨ (fnGet s 0).bme = true) ∧ pAt p 12 4 % 4 = 0 ∧ List.length p.buf % 4 = 0 ∧
      pAt p 12 4 + List.length p.buf ≤ 33554432 ∧ pAt p 8 1 ≠ s.pw.running) ∧
    (∃ (s : State) (p : Packet), 1 ≤ pAt p 8 1 ∧ pAt p 8 1 ≤ 2 ∧ (p.mctp = true ∨ onTicket s p = true ∧ c1Fields (tkGet s p.id).cmd = true ∧
      (tkGet s p.id).cmd.dok = true) ∧ (List.length s.mg.flights < if fevoum s = true then 4 else 64) ∧ (∀ (e : Nat × Flight),
      e ∈ s.mg.flights → carrier e.snd.p = carrier p → e.snd.p.seq ≠ p.seq) ∧ (∀ (c : CachedReply), c ∈ tabGetD s.mg.caches (carrier p) [] →
      c.op = 1793 → samePacket c.p p = false) ∧ s.ev.powerFail = false ∧ s.pw.halted = false ∧ s.fr.fatal = false ∧
      packetCheck s 1793 p = none ∧ tabSorted s.mg.flights = true ∧ (∀ (e : Nat × Flight), e ∈ s.mg.flights → e.snd.p.parcel = p.parcel →
      e.snd.applied = true) ∧ p.bufOk = true ∧ (p.mctp = true ∨ (fnGet s 0).bme = true) ∧ pAt p 12 4 % 4 = 0 ∧ List.length p.buf % 4 = 0 ∧
      pAt p 12 4 + List.length p.buf ≤ 33554432 ∧ pAt p 8 1 = s.pw.running) ∧
    (∃ (s : State) (p : Packet), (p.mctp = true ∨ onTicket s p = true ∧ c1Fields (tkGet s p.id).cmd = true ∧
      (tkGet s p.id).cmd.dok = true) ∧ (List.length s.mg.flights < if fevoum s = true then 4 else 64) ∧ (∀ (e : Nat × Flight),
      e ∈ s.mg.flights → carrier e.snd.p = carrier p → e.snd.p.seq ≠ p.seq) ∧ (∀ (c : CachedReply), c ∈ tabGetD s.mg.caches (carrier p) [] →
      c.op = 1795 → samePacket c.p p = false) ∧ s.ev.powerFail = false ∧ s.pw.halted = false ∧ s.fr.fatal = false ∧
      packetCheck s 1795 p = none ∧ tabSorted s.mg.flights = true ∧ (∀ (e : Nat × Flight), e ∈ s.mg.flights → e.snd.p.parcel = p.parcel →
      e.snd.applied = true) ∧ p.bufOk = true ∧ (p.mctp = true ∨ (fnGet s 0).bme = true) ∧ regBit s PW_STATUS 28 = false ∧
      s.ks.blowing = none ∧ min 64 (fwSvn (fwSlot s s.pw.running)) ≤ s.ks.fuses) ∧
    (∃ (s : State) (p : Packet), (p.mctp = true ∨ onTicket s p = true ∧ c1Fields (tkGet s p.id).cmd = true ∧
      (tkGet s p.id).cmd.dok = true) ∧ (List.length s.mg.flights < if fevoum s = true then 4 else 64) ∧ (∀ (e : Nat × Flight),
      e ∈ s.mg.flights → carrier e.snd.p = carrier p → e.snd.p.seq ≠ p.seq) ∧ (∀ (c : CachedReply), c ∈ tabGetD s.mg.caches (carrier p) [] →
      c.op = 1795 → samePacket c.p p = false) ∧ s.ev.powerFail = false ∧ s.pw.halted = false ∧ s.fr.fatal = false ∧
      packetCheck s 1795 p = none ∧ tabSorted s.mg.flights = true ∧ (∀ (e : Nat × Flight), e ∈ s.mg.flights → e.snd.p.parcel = p.parcel →
      e.snd.applied = true) ∧ p.bufOk = true ∧ (p.mctp = true ∨ (fnGet s 0).bme = true) ∧ regBit s PW_STATUS 28 = true) ∧
    (∃ (s : State) (p : Packet), (p.mctp = true ∨ onTicket s p = true ∧ c1Fields (tkGet s p.id).cmd = true ∧
      (tkGet s p.id).cmd.dok = true) ∧ (List.length s.mg.flights < if fevoum s = true then 4 else 64) ∧ (∀ (e : Nat × Flight),
      e ∈ s.mg.flights → carrier e.snd.p = carrier p → e.snd.p.seq ≠ p.seq) ∧ (∀ (c : CachedReply), c ∈ tabGetD s.mg.caches (carrier p) [] →
      c.op = 1795 → samePacket c.p p = false) ∧ s.ev.powerFail = false ∧ s.pw.halted = false ∧ s.fr.fatal = false ∧
      packetCheck s 1795 p = none ∧ tabSorted s.mg.flights = true ∧ (∀ (e : Nat × Flight), e ∈ s.mg.flights → e.snd.p.parcel = p.parcel →
      e.snd.applied = true) ∧ p.bufOk = true ∧ (p.mctp = true ∨ (fnGet s 0).bme = true) ∧ regBit s PW_STATUS 28 = false ∧
      s.ks.blowing = none ∧ s.ks.fuses < min 64 (fwSvn (fwSlot s s.pw.running))) :=
  ⟨⟨K3, { mctp := true, id := 9, seq := 5, parcel := 65535, params := [1] ++ zeros 39 }, by decide +kernel⟩,
   ⟨K1, { mctp := true, id := 9, seq := 5, parcel := 65535, params := [2] ++ zeros 39 }, by decide +kernel⟩,
   ⟨K3, { mctp := true, id := 9, seq := 5, parcel := 65535, params := [1] ++ zeros 39 }, by decide +kernel⟩,
   ⟨K1, { mctp := true, id := 9, seq := 5, parcel := 65535, params := zeros 40 }, by decide +kernel⟩,
   ⟨K5, { mctp := true, id := 9, seq := 5, parcel := 65535, params := zeros 40 }, by decide +kernel⟩,
   ⟨K6, { mctp := true, id := 9, seq := 5, parcel := 65535, params := zeros 40 }, by decide +kernel⟩⟩

/-- Cases of O58. Firmware, configuration, diagnostics and events by packet. Part 2. -/
theorem witness_FirmwarePackets_2 :
    (∃ (s : State) (p : Packet), (p.mctp = true ∨ onTicket s p = true ∧ c1Fields (tkGet s p.id).cmd = true ∧
      (tkGet s p.id).cmd.dok = true) ∧ (List.length s.mg.flights < if fevoum s = true then 4 else 64) ∧ (∀ (e : Nat × Flight),
      e ∈ s.mg.flights → carrier e.snd.p = carrier p → e.snd.p.seq ≠ p.seq) ∧ (∀ (c : CachedReply), c ∈ tabGetD s.mg.caches (carrier p) [] →
      c.op = 1796 → samePacket c.p p = false) ∧ s.ev.powerFail = false ∧ s.pw.halted = false ∧ s.fr.fatal = false ∧
      packetCheck s 1796 p = none ∧ tabSorted s.mg.flights = true ∧ (∀ (e : Nat × Flight), e ∈ s.mg.flights → e.snd.p.parcel = p.parcel →
      e.snd.applied = true) ∧ p.bufOk = true ∧ (p.mctp = true ∨ (fnGet s 0).bme = true) ∧ bitOf (pAt p 14 1) 0 = false ∧ (2 < pAt p 8 1 ∨
      1 < pAt p 9 1 ∨ 2 < pAt p 10 1 ∨ 2 < pAt p 11 1)) ∧
    (∃ (s : State) (p : Packet), (p.mctp = true ∨ onTicket s p = true ∧ c1Fields (tkGet s p.id).cmd = true ∧
      (tkGet s p.id).cmd.dok = true) ∧ (List.length s.mg.flights < if fevoum s = true then 4 else 64) ∧ (∀ (e : Nat × Flight),
      e ∈ s.mg.flights → carrier e.snd.p = carrier p → e.snd.p.seq ≠ p.seq) ∧ (∀ (c : CachedReply), c ∈ tabGetD s.mg.caches (carrier p) [] →
      c.op = 1796 → samePacket c.p p = false) ∧ s.ev.powerFail = false ∧ s.pw.halted = false ∧ s.fr.fatal = false ∧
      packetCheck s 1796 p = none ∧ tabSorted s.mg.flights = true ∧ (∀ (e : Nat × Flight), e ∈ s.mg.flights → e.snd.p.parcel = p.parcel →
      e.snd.applied = true) ∧ p.bufOk = true ∧ (p.mctp = true ∨ (fnGet s 0).bme = true) ∧ bitOf (pAt p 14 1) 0 = false ∧ pAt p 8 1 ≤ 2 ∧
      pAt p 9 1 ≤ 1 ∧ pAt p 10 1 ≤ 2 ∧ pAt p 11 1 ≤ 2) ∧
    (∃ (s : State) (p : Packet), (p.mctp = true ∨ onTicket s p = true ∧ c1Fields (tkGet s p.id).cmd = true ∧
      (tkGet s p.id).cmd.dok = true) ∧ (List.length s.mg.flights < if fevoum s = true then 4 else 64) ∧ (∀ (e : Nat × Flight),
      e ∈ s.mg.flights → carrier e.snd.p = carrier p → e.snd.p.seq ≠ p.seq) ∧ (∀ (c : CachedReply), c ∈ tabGetD s.mg.caches (carrier p) [] →
      c.op = 1796 → samePacket c.p p = false) ∧ s.ev.powerFail = false ∧ s.pw.halted = false ∧ s.fr.fatal = false ∧
      packetCheck s 1796 p = none ∧ tabSorted s.mg.flights = true ∧ (∀ (e : Nat × Flight), e ∈ s.mg.flights → e.snd.p.parcel = p.parcel →
      e.snd.applied = true) ∧ p.bufOk = true ∧ (p.mctp = true ∨ (fnGet s 0).bme = true) ∧ bitOf (pAt p 14 1) 0 = true) ∧
    (∃ (s : State) (p : Packet), (p.mctp = true ∨ onTicket s p = true ∧ c1Fields (tkGet s p.id).cmd = true ∧
      (tkGet s p.id).cmd.dok = true) ∧ (List.length s.mg.flights < if fevoum s = true then 4 else 64) ∧ (∀ (e : Nat × Flight),
      e ∈ s.mg.flights → carrier e.snd.p = carrier p → e.snd.p.seq ≠ p.seq) ∧ (∀ (c : CachedReply), c ∈ tabGetD s.mg.caches (carrier p) [] →
      c.op = 1797 → samePacket c.p p = false) ∧ s.ev.powerFail = false ∧ s.pw.halted = false ∧ s.fr.fatal = false ∧
      packetCheck s 1797 p = none ∧ tabSorted s.mg.flights = true ∧ (∀ (e : Nat × Flight), e ∈ s.mg.flights → e.snd.p.parcel = p.parcel →
      e.snd.applied = true) ∧ p.bufOk = true ∧ (p.mctp = true ∨ (fnGet s 0).bme = true)) ∧
    (∃ (s : State) (p : Packet), (p.mctp = true ∨ onTicket s p = true ∧ c1Fields (tkGet s p.id).cmd = true ∧
      (tkGet s p.id).cmd.dok = true) ∧ (List.length s.mg.flights < if fevoum s = true then 4 else 64) ∧ (∀ (e : Nat × Flight),
      e ∈ s.mg.flights → carrier e.snd.p = carrier p → e.snd.p.seq ≠ p.seq) ∧ (∀ (c : CachedReply), c ∈ tabGetD s.mg.caches (carrier p) [] →
      c.op = 1798 → samePacket c.p p = false) ∧ s.ev.powerFail = false ∧ s.pw.halted = false ∧ s.fr.fatal = false ∧
      packetCheck s 1798 p = none ∧ tabSorted s.mg.flights = true ∧ (∀ (e : Nat × Flight), e ∈ s.mg.flights → e.snd.p.parcel = p.parcel →
      e.snd.applied = true) ∧ p.bufOk = true ∧ (p.mctp = true ∨ (fnGet s 0).bme = true) ∧ pAt p 8 1 ≤ 10) :=
  ⟨⟨K2, { mctp := true, id := 9, seq := 5, parcel := 65535, params := [11] ++ zeros 39 }, by decide +kernel⟩,
   ⟨K1, { mctp := true, id := 9, seq := 5, parcel := 65535, params := zeros 40 }, by decide +kernel⟩,
   ⟨K5, { mctp := true, id := 9, seq := 5, parcel := 65535, params := [0, 0, 0, 0, 0, 0, 1] ++ zeros 33 }, by decide +kernel⟩,
   ⟨K1, { mctp := true, id := 9, seq := 5, parcel := 65535, params := zeros 40 }, by decide +kernel⟩,
   ⟨K0, { mctp := true, id := 9, seq := 5, flags := 1, parcel := 65535, params := [5] ++ zeros 39 }, by decide +kernel⟩⟩

/-- Cases of O59. Resets, the stages of boot and cluster resets. Part 1. -/
theorem witness_BootAndResets_1 :
    (∃ (s : State), (stage s = 5 ∨ s.pw.stop = false ∧ s.pw.dumping = false)) ∧
    (∃ (s : State), stage s ≠ 5 ∧ (s.pw.stop = true ∨ s.pw.dumping = true)) ∧
    (∃ (s : State), s.pw.halted = false) ∧
    (∃ (s : State), s.pw.halted = true) ∧
    (∃ (s : State), stage s = 4 ∧ s.pw.dumping = false) ∧
    (∃ (s : State), (stage s ≠ 4 ∨ s.pw.dumping = true)) :=
  ⟨⟨K0, by decide +kernel⟩,
   ⟨(Y 3 (fun p => { p with stop := true }) (withFl T0)), by decide +kernel⟩,
   ⟨K0, by decide +kernel⟩,
   ⟨(Y 2 (fun p => { p with halted := true })), by decide +kernel⟩,
   ⟨(Y 4 (fun p => { p with dump := some (dmp K0 true) })), by decide +kernel⟩,
   ⟨K0, by decide +kernel⟩⟩

/-- Cases of O59. Resets, the stages of boot and cluster resets. Part 2. -/
theorem witness_BootAndResets_2 :
    (∃ (r : RomResult) (s : State), stage s = 1 ∧ s.pw.rom = RomSt.waiting ∧ s.pw.halted = false ∧ (r.cold = false ∨ s.pw.warm = true) ∧
      r.failedCh % 16 ≠ 0) ∧
    (∃ (r : RomResult) (s : State), stage s = 1 ∧ s.pw.rom = RomSt.waiting ∧ s.pw.halted = false ∧ (r.cold = false ∨ s.pw.warm = true) ∧
      r.failedCh % 16 = 0) ∧
    (∃ (s : State), (stage s ≠ 1 ∨ s.pw.rom ≠ RomSt.done ∨ s.pw.halted = true)) ∧
    (∃ (s : State), stage s = 1 ∧ s.pw.rom = RomSt.done ∧ s.pw.halted = false) ∧
    (∃ (s : State), (stage s ≠ 2 ∨ s.pw.halted = true)) ∧
    (∃ (s : State), stage s = 2 ∧ s.pw.halted = false) :=
  ⟨⟨{ entropyOk := true, failedCh := 3, dmConfig := 0, dmUnits := 0, overrideOk := true, entry := 0, regions := [], repairOk := true, rfmAt := 0, cold := false, late := false },
      State.reset, by decide +kernel⟩,
   ⟨{ entropyOk := true, failedCh := 0, dmConfig := 0, dmUnits := 0, overrideOk := true, entry := 0, regions := [], repairOk := true, rfmAt := 0, cold := false, late := false },
      ({ State.reset with pw := { State.reset.pw with warm := true } }), by decide +kernel⟩,
   ⟨K0, by decide +kernel⟩,
   ⟨(Y 1 (fun p => { p with rom := .done })), by decide +kernel⟩,
   ⟨K0, by decide +kernel⟩,
   ⟨(regPut (Y 2 (fun p => { p with dump := none, kept := { atl := K0.atl, pc := P0.pc } })) (TC_STATUS 3) 0x80000000), by decide +kernel⟩⟩

/-- Cases of O59. Resets, the stages of boot and cluster resets. Part 3. -/
theorem witness_BootAndResets_3 :
    (∃ (s : State), (frameNo s < s.pw.lifeAt + hourFrames s ∨ stage s < 2)) ∧
    (∃ (s : State), s.pw.lifeAt + hourFrames s ≤ frameNo s ∧ 2 ≤ stage s) ∧
    (∃ (cl : Nat) (s : State), ((clusterGet s cl).resetReq = false ∨ cl < 2 ∨ 8 ≤ cl)) ∧
    (∃ (cl : Nat) (s : State), (clusterGet s cl).resetReq = true ∧ 2 ≤ cl ∧ cl < 8 ∧ tabSorted (clusterGet s cl).lines = true) ∧
    (∃ (cl : Nat) (s : State) (f : Nat), (clusterGet s cl).resetAt = some f ∧ f < frameNo s) ∧
    (∃ (cl : Nat) (s : State), ((clusterGet s cl).resetAt = none ∨ ∃ f, (clusterGet s cl).resetAt = some f ∧ frameNo s ≤ f)) :=
  ⟨⟨K0, by decide +kernel⟩,
   ⟨({ Y 3 (fun p => { p with life := 100, hot := 25 }) with fr := { K0.fr with count := 2 ^ 33 } }), by decide +kernel⟩,
   ⟨11900, K0, by decide +kernel⟩,
   ⟨2, (clusterMod (clusterMod T0 2 fun k => { k with resetReq := true }) 3 fun k => { k with resetAt := some 2000 }), by decide +kernel⟩,
   ⟨3, (clusterMod (clusterMod T0 2 fun k => { k with resetReq := true }) 3 fun k => { k with resetAt := some 2000 }), 2000,
      by decide +kernel⟩,
   ⟨11900, K0, by decide +kernel⟩⟩

/-- Cases of O60. Power failure, the dump and the energy test. Part 1. -/
theorem witness_PowerFailure_1 :
    (∃ (s : State) (i : Instr), (i = Instr.pwrFailSeen ∨ i = Instr.railUndervoltage) ∧ regBit s PW_STATUS 28 = false) ∧
    (∃ (s : State) (i : Instr), (i = Instr.pwrFailSeen ∨ i = Instr.railUndervoltage) ∧ regBit s PW_STATUS 28 = true) ∧
    (∃ (s : State), s.pw.stop = false) ∧
    (∃ (s : State), s.pw.stop = true ∧ s.pw.dumping = false ∧ tabSorted s.cq.tickets = true ∧ tabSorted s.host.conns = true ∧
      tabSorted s.cs.invs = true ∧ tabSorted s.mg.flights = true) ∧
    (∃ (s : State) (d : Dump), s.pw.dump = some d ∧ s.pw.dumping = true ∧ s.pw.sysReset = true) ∧
    (∃ (s : State) (d : Dump), s.pw.dump = some d ∧ s.pw.dumping = true ∧ s.pw.sysReset = false) :=
  ⟨⟨K0, Instr.pwrFailSeen, by decide +kernel⟩,
   ⟨(regPut K0 PW_STATUS 0x70000000), Instr.pwrFailSeen, by decide +kernel⟩,
   ⟨K0, by decide +kernel⟩,
   ⟨(Y 3 (fun p => { p with stop := true }) (withFl T0)), by decide +kernel⟩,
   ⟨(Y 4 (fun p => { p with dumping := true, sysReset := true, dump := some (dmp K0 false) })),
      ((((Y 4 (fun p => { p with dumping := true, sysReset := true, dump := some (dmp K0 false) }))).pw.dump).get (by decide +kernel)),
      by decide +kernel⟩,
   ⟨(Y 4 (fun p => { p with dumping := true, dump := some (dmp K0 false) })),
      ((((Y 4 (fun p => { p with dumping := true, dump := some (dmp K0 false) }))).pw.dump).get (by decide +kernel)), by decide +kernel⟩⟩

/-- Cases of O60. Power failure, the dump and the energy test. Part 2. -/
theorem witness_PowerFailure_2 :
    (∃ (s : State) (d : Dump), s.pw.dump = some d ∧ s.pw.dumping = false) ∧
    (∃ (s : State) (x : ETest), s.pw.test = some x ∧ x.phase = TestPhase.settling) ∧
    (∃ (s : State), (armed s = false ∨ s.pw.test ≠ none ∨ frameNo s < s.pw.lastTest + 2 ^ retestExp s)) ∧
    (∃ (s : State), armed s = true ∧ s.pw.test = none ∧ s.pw.lastTest + 2 ^ retestExp s ≤ frameNo s) ∧
    (∃ (s : State) (x : ETest), s.pw.test = some x ∧ (x.phase ≠ TestPhase.settling ∨ frameNo s < x.start + framesOf s 10000000000)) ∧
    (∃ (s : State) (x : ETest) (v1 : Nat) (f : Nat), s.pw.test = some x ∧ x.phase = TestPhase.running v1 f ∧ f + 500 ≤ frameNo s) :=
  ⟨⟨(Y 2 (fun p => { p with dump := some (dmp K0 true) })),
      ((((Y 2 (fun p => { p with dump := some (dmp K0 true) }))).pw.dump).get (by decide +kernel)), by decide +kernel⟩,
   ⟨(withFl (Y 3 (tst id))), ((((withFl (Y 3 (tst id)))).pw.test).get (by decide +kernel)), by decide +kernel⟩,
   ⟨K0, by decide +kernel⟩,
   ⟨(regPut { K0 with fr := { K0.fr with count := 2 ^ 34 } } HQ_DURABILITY 0x80000000), by decide +kernel⟩,
   ⟨(withFl (Y 3 (tst fun x => { x with phase := .running 12000 100 }))),
      ((((withFl (Y 3 (tst fun x => { x with phase := .running 12000 100 })))).pw.test).get (by decide +kernel)), by decide +kernel⟩,
   ⟨(withFl (Y 3 (tst fun x => { x with phase := .running 12000 100 }))),
      ((((withFl (Y 3 (tst fun x => { x with phase := .running 12000 100 })))).pw.test).get (by decide +kernel)), 12000, 100,
      by decide +kernel⟩⟩

/-- Cases of O60. Power failure, the dump and the energy test. Part 3. -/
theorem witness_PowerFailure_3 :
    (∃ (s : State) (x : ETest) (v1 : Nat) (f : Nat), s.pw.test = some x ∧ x.phase = TestPhase.running v1 f ∧ frameNo s < f + 500) ∧
    (∃ (s : State) (v1 v2 : Nat), vMin s ≤ v2 ∧ v2 < v1) ∧
    (∃ (v1 v2 : Nat), v1 ≤ v2) :=
  ⟨⟨(Y 3 (tst fun x => { x with phase := .running 12000 2000, retest := true })),
      ((((Y 3 (tst fun x => { x with phase := .running 12000 2000, retest := true }))).pw.test).get (by decide +kernel)), 12000, 2000,
      by decide +kernel⟩,
   ⟨K0, 12000, 11900, by decide +kernel⟩,
   ⟨11900, 12000, by decide⟩⟩

end Sys2Proof.Tests
end

section
/-! SUPPORT. What the operations of a frame leave of the Graticule's own record `fr`: most leave all of it (`f_fr`); those that move granules or
tokens leave the frame number, the release, FATAL and the number of staging granules (`f_steady`). One lemma a function of the model, callees
first and in the order of the model's files; each proof opens that one function and rests on the lemmas of those it calls. -/
namespace Sys2Proof.Proofs
open Sys2Proof Sys2Proof.Machine Sys2Proof.Laws

/-- What stands while granules and tokens move: the frame number, whether the Graticule is released, whether the device stands in FATAL,
and how many staging granules there are (R22, R32, R43). -/
def steady (x : FrameSt) : BitVec 64 × Bool × Bool × Nat := (x.count, x.released, x.fatal, x.pool + x.tick + x.eng + x.disc)

/-- An operation on granules that keeps their sum leaves `steady` where it leaves the rest of it. -/
theorem steady_of {s t : State} (clock : (t.fr.count, t.fr.released, t.fr.fatal) = (s.fr.count, s.fr.released, s.fr.fatal))
    (sum : granSum t = granSum s) : steady t.fr = steady s.fr := by
  simp only [Prod.mk.injEq] at clock
  obtain ⟨count, released, fatal⟩ := clock
  simp only [granSum] at sum
  simp only [steady, count, released, fatal, sum]

theorem served_fr {s t : State} (h : Served s t) : t.fr = s.fr := by rw [h.rest]

@[simp] theorem fr_ite (c : Prop) [Decidable c] (s t : State) : (if c then s else t).fr = if c then s.fr else t.fr := by
  split <;> rfl
@[simp] theorem steady_ite (c : Prop) [Decidable c] (x y : FrameSt) :
    steady (if c then x else y) = if c then steady x else steady y := by
  split <;> rfl
@[simp] theorem fr_fst_ite {β : Type} (c : Prop) [Decidable c] (x y : State × β) :
    (if c then x else y).1.fr = if c then x.1.fr else y.1.fr := by
  split <;> rfl
@[simp] theorem fr_snd_ite {β : Type} (c : Prop) [Decidable c] (x y : β × State) :
    (if c then x else y).2.fr = if c then x.2.fr else y.2.fr := by
  split <;> rfl

@[simp] theorem foldl_fr {α : Type} {f : State → α → State} (h : ∀ s a, (f s a).fr = s.fr) (l : List α) (s : State) :
    (l.foldl f s).fr = s.fr := by
  induction l generalizing s with
  | nil => rfl
  | cons a l ih => exact (ih _).trans (h s a)

@[simp] theorem foldl_steady {α : Type} {f : State → α → State} (h : ∀ s a, steady (f s a).fr = steady s.fr) (l : List α) (s : State) :
    steady (l.foldl f s).fr = steady s.fr := by
  induction l generalizing s with
  | nil => rfl
  | cons a l ih => exact (ih _).trans (h s a)

theorem foldl_fst_fr {α β : Type} {f : State × β → α → State × β} (h : ∀ r a, (f r a).1.fr = r.1.fr) (l : List α) (r : State × β) :
    (l.foldl f r).1.fr = r.1.fr := by
  induction l generalizing r with
  | nil => rfl
  | cons a l ih => exact (ih _).trans (h r a)


/-! ## Ops -/

@[simp] theorem regWrite_fr (s a v) : (regWrite s a v).fr = s.fr := by
  unfold regWrite
  split <;> simp

@[simp] theorem takeFree_fr (s) : (takeFree s).2.fr = s.fr := by simp [takeFree]
@[simp] theorem drbgBytes_fr (s len) : (drbgBytes s len).2.fr = s.fr := by simp [drbgBytes]
@[simp] theorem msixDue_fr (s f vec) : (msixDue s f vec).fr = s.fr := by simp [msixDue]
@[simp] theorem msixDeliver_fr (s f vec) : (msixDeliver s f vec).fr = s.fr := by simp [msixDeliver]
@[simp] theorem evArm_fr (s n) : (evArm s n).fr = s.fr := by simp [evArm]
@[simp] theorem raiseManager_fr (s n) : (raiseManager s n).fr = s.fr := by simp [raiseManager]
@[simp] theorem raise_fr (s n) : (raise s n).fr = s.fr := by simp [raise]
@[simp] theorem evDeliver_fr (s n) : (evDeliver s n).fr = s.fr := by simp [evDeliver]

@[simp] theorem granToTick_steady (s i n) : steady (granToTick s i n).fr = steady s.fr :=
  steady_of rfl (granSum_granToTick ..)

@[simp] theorem granFromTick_steady (s i n) : steady (granFromTick s i n).fr = steady s.fr :=
  steady_of rfl (granSum_granFromTick ..)

@[simp] theorem granToEng_steady (s j n) : steady (granToEng s j n).fr = steady s.fr :=
  steady_of rfl (granSum_granToEng ..)

@[simp] theorem granFromEng_steady (s j n) : steady (granFromEng s j n).fr = steady s.fr :=
  steady_of rfl (granSum_granFromEng ..)

@[simp] theorem granDiscardTick_steady (s i n) : steady (granDiscardTick s i n).fr = steady s.fr :=
  steady_of (by simp only [granDiscardTick]; split <;> rfl) (granSum_granDiscardTick ..)

@[simp] theorem granDiscardEng_steady (s j n) : steady (granDiscardEng s j n).fr = steady s.fr :=
  steady_of (by simp only [granDiscardEng]; split <;> rfl) (granSum_granDiscardEng ..)

@[simp] theorem granReturn_steady (s n) : steady (granReturn s n).fr = steady s.fr :=
  steady_of rfl (granSum_granReturn ..)

@[simp] theorem granDue_steady (s) : steady (granDue s).fr = steady s.fr := by simp [granDue]
@[simp] theorem meterAdd_fr (s p m n) : (meterAdd s p m n).fr = s.fr := by simp [meterAdd]
@[simp] theorem tokenSpendRaw_steady (s p cls n) : steady (tokenSpendRaw s p cls n).fr = steady s.fr := (rfl)
@[simp] theorem tokenGrantRaw_steady (s p cls n) : steady (tokenGrantRaw s p cls n).fr = steady s.fr := (rfl)
@[simp] theorem tokenSpend_steady (s p cls n) : steady (tokenSpend s p cls n).fr = steady s.fr := by simp [tokenSpend]
@[simp] theorem grantClass_steady (s p cls) : steady (grantClass s p cls).fr = steady s.fr := by simp [grantClass]
@[simp] theorem grantAll_steady (s) : steady (grantAll s).fr = steady s.fr := by simp [grantAll]

@[simp] theorem tkAlloc_fr (s adm) : (tkAlloc s adm).2.fr = s.fr := by
  simp only [tkAlloc]
  repeat' split
  all_goals simp

@[simp] theorem tkFree_fr (s i) : (tkFree s i).fr = s.fr := by simp [tkFree]
@[simp] theorem tkFinish_fr (s i st) : (tkFinish s i st).fr = s.fr := by simp [tkFinish]
@[simp] theorem tkFinishW_fr (s i st d0) : (tkFinishW s i st d0).fr = s.fr := by simp [tkFinishW]
@[simp] theorem tkGranTake_steady (s i n) : steady (tkGranTake s i n).fr = steady s.fr := by simp [tkGranTake]
@[simp] theorem tkGranPool_steady (s i) : steady (tkGranPool s i).fr = steady s.fr := by simp [tkGranPool]
@[simp] theorem tkGranFree_steady (s i) : steady (tkGranFree s i).fr = steady s.fr := by simp [tkGranFree]

@[simp] theorem cqInterrupt_fr (s fn qid vec) : (cqInterrupt s fn qid vec).fr = s.fr := by
  simp only [cqInterrupt]
  repeat' split
  all_goals simp

@[simp] theorem cqPost_fr (s fn cqid e) : (cqPost s fn cqid e).fr = s.fr := by
  simp only [cqPost]
  repeat' split
  all_goals simp

@[simp] theorem tkCount_fr (s i int) : (tkCount s i int).fr = s.fr := by
  simp only [tkCount]
  split <;> simp

@[simp] theorem r2tWithdraw_fr (s i) : (r2tWithdraw s i).fr = s.fr := by
  simp only [r2tWithdraw]
  split <;> simp

@[simp] theorem tkInternal_steady (s i) : steady (tkInternal s i).fr = steady s.fr := by simp [tkInternal]
@[simp] theorem mctpSend_fr (s eid kind status d) : (mctpSend s eid kind status d).fr = s.fr := by simp [mctpSend]

@[simp] theorem tkPost_steady (s i) : steady (tkPost s i).fr = steady s.fr := by
  simp only [tkPost]
  repeat' split
  all_goals simp

@[simp] theorem connClose_steady (s c) : steady (connClose s c).fr = steady s.fr := by
  unfold connClose
  split <;> simp

@[simp] theorem msgDiscard_steady (s m) : steady (msgDiscard s m).fr = steady s.fr := by
  simp only [msgDiscard]
  split <;> simp

@[simp] theorem dataSend_fr (s i d) : (dataSend s i d).fr = s.fr := by simp [dataSend]

@[simp] theorem aenRaise_fr (s c code) : (aenRaise s c code).fr = s.fr := by
  simp only [aenRaise]
  repeat' split
  all_goals simp

@[simp] theorem reqReset_fr (s p cause hold w) : (reqReset s p cause hold w).fr = s.fr := by simp [reqReset]

/-! ## Graticule -/

@[simp] theorem frameMarkTest_fr (s) : (frameMarkTest s).fr = s.fr := by simp [frameMarkTest]
@[simp] theorem overrun_fr (s cls unit frame synth) : (overrun s cls unit frame synth).fr = s.fr := by simp [overrun]

theorem synthRecord_fr (s) : (synthRecord s).fr = { s.fr with synth := [] } := by
  unfold synthRecord
  exact foldl_fr (fun _ _ => overrun_fr ..) _ _

@[simp] theorem synthRecord_steady (s) : steady (synthRecord s).fr = steady s.fr := by rw [synthRecord_fr]; rfl

@[simp] theorem auditTake_steady (s) : steady (auditTake s).fr = steady s.fr := by
  simp only [auditTake]
  split <;> rfl

@[simp] theorem auditCompare_steady (s) : steady (auditCompare s).fr = steady s.fr := by
  simp only [auditCompare]
  split
  · rfl
  · simp
    split <;> simp [steady]

/-! ## Dram -/

@[simp] theorem memStore_fr (s a d) : (memStore s a d).fr = s.fr := by simp [memStore]

@[simp] theorem wordsStore_fr (s a l) : (wordsStore s a l).fr = s.fr := by
  induction l generalizing s a with
  | nil => rfl
  | cons w l ih => exact ih ..

@[simp] theorem neighbourRefresh_fr (s) : (neighbourRefresh s).fr = s.fr := by simp [neighbourRefresh]
@[simp] theorem bankAccess_fr (s l) : (bankAccess s l).fr = s.fr := by simp [bankAccess]
@[simp] theorem rankBanks_fr (s ch sub rank f) : (rankBanks s ch sub rank f).fr = s.fr := by simp [rankBanks]
@[simp] theorem refreshIssue_fr (s ch sub rank) : (refreshIssue s ch sub rank).fr = s.fr := by simp [refreshIssue]
@[simp] theorem owedPut_fr (s ch sub rank n) : (owedPut s ch sub rank n).fr = s.fr := by simp [owedPut]
@[simp] theorem paydownEnd_fr (s ch) : (paydownEnd s ch).fr = s.fr := by simp [paydownEnd]
@[simp] theorem owedTake_fr (s ch sub rank) : (owedTake s ch sub rank).fr = s.fr := by simp [owedTake]

@[simp] theorem dramServe_fr (s sub) : (dramServe s sub).fr = s.fr := by
  unfold dramServe
  split <;> simp

@[simp] theorem dramDrain_fr (s sub n) : (dramDrain s sub n).fr = s.fr := served_fr (served_dramDrain ..)
@[simp] theorem dramPost_fr (s r) : (dramPost s r).fr = s.fr := by simp [dramPost]
@[simp] theorem dramTouch_fr (s l port) : (dramTouch s l port).fr = s.fr := by simp [dramTouch]
@[simp] theorem dramServes_fr (s sub n) : (dramServes s sub n).fr = s.fr := served_fr (served_dramServes ..)
@[simp] theorem dramEpoch_fr (s) : (dramEpoch s).fr = s.fr := by simp [dramEpoch]
@[simp] theorem tagPut_fr (s a n tag) : (tagPut s a n tag).fr = s.fr := by simp [tagPut]
@[simp] theorem lineWrites_fr (s a n tag) : (lineWrites s a n tag).fr = s.fr := by simp [lineWrites]

@[simp] theorem lastErr_fr (s a ue poison cls dev symbols src) : (lastErr s a ue poison cls dev symbols src).fr = s.fr := by
  simp [lastErr]

@[simp] theorem uncorrected_fr (s a src) : (uncorrected s a src).fr = s.fr := by simp [uncorrected]
@[simp] theorem wrongKind_fr (s) : (wrongKind s).fr = s.fr := by simp [wrongKind]
@[simp] theorem dramTouchAll_fr (s a n port) : (dramTouchAll s a n port).fr = s.fr := by simp [dramTouchAll]
@[simp] theorem dramPostAll_fr (s a n port) : (dramPostAll s a n port).fr = s.fr := by simp [dramPostAll]

@[simp] theorem octetsIn_fr (s a n src) : (octetsIn s a n src).1.fr = s.fr := by
  simp only [octetsIn]
  repeat' split
  all_goals simp

@[simp] theorem octetsOut_fr (s w a d) : (octetsOut s w a d).1.fr = s.fr := by
  simp only [octetsOut]
  repeat' split
  all_goals simp

@[simp] theorem wordsIn_fr (s a n src) : (wordsIn s a n src).1.fr = s.fr := by
  simp only [wordsIn]
  repeat' split
  all_goals simp

@[simp] theorem spanTake_fr (s a n) : (spanTake s a n).fr = s.fr := by simp [spanTake]
@[simp] theorem spanGive_fr (s a) : (spanGive s a).fr = s.fr := by simp [spanGive]

/-! ## Map -/

@[simp] theorem journalAdd_fr (s kind idx w) : (journalAdd s kind idx w).fr = s.fr := by simp [journalAdd]
@[simp] theorem dirPut_fr (s q w) : (dirPut s q w).fr = s.fr := by simp [dirPut]
@[simp] theorem sheetPut_fr (s q sh w) : (sheetPut s q sh w).fr = s.fr := by simp [sheetPut]
@[simp] theorem pagePut_fr (s q t w) : (pagePut s q t w).fr = s.fr := by simp [pagePut]
@[simp] theorem overlayPut_fr (s o i w) : (overlayPut s o i w).fr = s.fr := by simp [overlayPut]
@[simp] theorem tilePut_fr (s d w) : (tilePut s d w).fr = s.fr := by simp [tilePut]
@[simp] theorem queueRead_fr (s d o) : (queueRead s d o).fr = s.fr := by simp [queueRead]
@[simp] theorem queueMove_fr (s d o) : (queueMove s d o).fr = s.fr := by simp [queueMove]
@[simp] theorem queueProg_fr (s d o) : (queueProg s d o).fr = s.fr := by simp [queueProg]
@[simp] theorem queueErase_fr (s d o) : (queueErase s d o).fr = s.fr := by simp [queueErase]
@[simp] theorem blkMod_fr (s die block f) : (blkMod s die block f).fr = s.fr := by simp [blkMod]

theorem takeBlock_fr {s d b t} (h : takeBlock s d = some (b, t)) : t.fr = s.fr := by
  simp only [takeBlock] at h
  split at h
  · cases h
  · split at h
    · cases h; rfl
    · split at h
      · cases h
      · cases h; rfl

@[simp] theorem capacityUpdate_fr (s) : (capacityUpdate s).fr = s.fr := by simp [capacityUpdate]
@[simp] theorem spareUpdate_fr (s) : (spareUpdate s).fr = s.fr := by simp [spareUpdate]

@[simp] theorem retireBlock_fr (s d b) : (retireBlock s d b).fr = s.fr := by
  simp only [retireBlock]
  split <;> simp

theorem pickMembers_fr {s ms n ms' t} (h : pickMembers s ms n = some (ms', t)) : t.fr = s.fr := by
  induction n generalizing s ms with
  | zero => cases h; rfl
  | succ n ih =>
    simp only [pickMembers] at h
    split at h
    · cases h
    · split at h
      · cases h
      · next taken => exact (ih h).trans (takeBlock_fr taken)

@[simp] theorem degradedUpdate_fr (s) : (degradedUpdate s).fr = s.fr := by simp [degradedUpdate]
@[simp] theorem groupNew_fr (s st ms) : (groupNew s st ms).2.fr = s.fr := by simp [groupNew]

theorem pickReserve_fr {s ms n ms' t} (h : pickReserve s ms n = some (ms', t)) : t.fr = s.fr := by
  induction n generalizing s ms with
  | zero => cases h; rfl
  | succ n ih =>
    simp only [pickReserve] at h
    split at h
    · cases h
    · split at h
      · cases h
      · exact (ih h).trans (dieMod_fr ..)

theorem openGroup_fr {s st g t} (h : openGroup s st = some (g, t)) : t.fr = s.fr := by
  unfold openGroup at h
  split at h
  · cases h; rfl
  · split at h
    · obtain ⟨⟨ms, u⟩, picked, e⟩ := Option.map_eq_some_iff.1 h
      cases e
      simp [pickReserve_fr picked]
    · obtain ⟨⟨ms, u⟩, picked, e⟩ := Option.map_eq_some_iff.1 h
      cases e
      simp [pickMembers_fr picked]

@[simp] theorem groupClose_fr (s g) : (groupClose s g).fr = s.fr := by simp [groupClose]
@[simp] theorem atBudget_fr (s before) : (atBudget s before).fr = s.fr := by simp [atBudget]
@[simp] theorem wbufDrop_fr (s slot) : (wbufDrop s slot).fr = s.fr := by simp [wbufDrop]
@[simp] theorem fragDrop_fr (s slot) : (fragDrop s slot).fr = s.fr := by simp [fragDrop]

@[simp] theorem wbufSupersede_fr (s w) : (wbufSupersede s w).fr = s.fr := by
  simp only [wbufSupersede]
  repeat' split
  all_goals simp

@[simp] theorem tableTake_fr (s q form fill) : (tableTake s q form fill).fr = s.fr := by
  unfold tableTake
  split <;> simp

@[simp] theorem convToPage_fr (s q) : (convToPage s q).fr = s.fr := by simp [convToPage]

theorem overlayAttach_fr {s q sh t} (h : overlayAttach s q sh = some t) : t.fr = s.fr := by
  simp only [overlayAttach] at h
  split at h
  · cases h
  · split at h
    · cases h
    · split at h
      · cases h
      · next taken =>
        split at h
        · cases h
        · split at h
          · cases h
          · next taken' =>
            cases h
            simp [takeBlock_fr taken', takeBlock_fr taken]

@[simp] theorem sheetReady_fr (s q sh) : (sheetReady s q sh).1.fr = s.fr := by
  simp only [sheetReady]
  split
  · rfl
  · split
    · next attached => exact overlayAttach_fr attached
    · rfl

@[simp] theorem quadReady_fr (s d) : (quadReady s d).1.fr = s.fr := by simp [quadReady]
@[simp] theorem quadBlocked_fr (s d) : (quadBlocked s d).fr = s.fr := by simp [quadBlocked]

@[simp] theorem stripeAdd_fr (s st ov raw packedNs len tile move src) :
    (stripeAdd s st ov raw packedNs len tile move src).fr = s.fr := by
  simp only [stripeAdd]
  repeat' split
  all_goals simp

@[simp] theorem enterTile_fr (s d parcel order raw packedNs image ack) :
    (enterTile s d parcel order raw packedNs image ack).fr = s.fr := by
  simp only [enterTile]
  repeat' split
  all_goals simp

@[simp] theorem markTile_fr (s d w) : (markTile s d w).fr = s.fr := by simp [markTile]

@[simp] theorem stripeQueue_fr (s k st) : (stripeQueue s k st).fr = s.fr := by
  unfold stripeQueue
  refine foldl_fr (fun s i => ?_) _ _
  split <;> simp

@[simp] theorem stripeSend_fr (s k st ms need) : (stripeSend s k st ms need).fr = s.fr := by simp [stripeSend]

@[simp] theorem stripeIssue_fr (s k) : (stripeIssue s k).fr = s.fr := by
  unfold stripeIssue
  split
  · rfl
  · split
    · rfl
    · split
      · split
        · rfl
        · simp
      · split
        · rfl
        · next opened => simp [openGroup_fr opened]

@[simp] theorem tileLost_fr (s) : (tileLost s).fr = s.fr := by simp [tileLost]
@[simp] theorem eraseRelease_fr (s die block) : (eraseRelease s die block).fr = s.fr := by simp [eraseRelease]
@[simp] theorem foldAsk_fr (s q sh) : (foldAsk s q sh).fr = s.fr := by simp [foldAsk]

@[simp] theorem moveStart_fr (s tile) : (moveStart s tile).fr = s.fr := by
  simp only [moveStart]
  repeat' split
  all_goals simp

/-! ## Transform -/

@[simp] theorem quadsClear_fr (s n k form) : (quadsClear s n k form).fr = s.fr := by simp [quadsClear]
@[simp] theorem stripePrune_fr (s) : (stripePrune s).fr = s.fr := by simp [stripePrune]
@[simp] theorem xformAdd_fr (s i p steps) : (xformAdd s i p steps).fr = s.fr := by simp [xformAdd]

@[simp] theorem xformStage_fr (s i p st put jobs) : (xformStage s i p st put jobs).2.fr = s.fr := by
  simp only [xformStage]
  repeat' split
  all_goals simp

/-! ## Engines -/

@[simp] theorem jobDone_fr (s j st) : (jobDone s j st).fr = s.fr := by simp [jobDone]
@[simp] theorem czMod_fr (s c f) : (czMod s c f).fr = s.fr := by simp [czMod]
@[simp] theorem compressEnd_fr (s n j) : (compressEnd s n j).fr = s.fr := by simp [compressEnd]
@[simp] theorem decompressEnd_fr (s n j) : (decompressEnd s n j).fr = s.fr := by simp [decompressEnd]

@[simp] theorem czOpen_fr (s n j) : (czOpen s n j).fr = s.fr := by
  unfold czOpen
  split <;> simp

@[simp] theorem czClose_fr (s n j) : (czClose s n j).fr = s.fr := by simp [czClose]
@[simp] theorem dgMod_fr (s c f) : (dgMod s c f).fr = s.fr := by simp [dgMod]

@[simp] theorem dgFeed_fr (s c d tapFed) : (dgFeed s c d tapFed).1.fr = s.fr := by
  simp only [dgFeed]
  repeat' split
  all_goals simp

@[simp] theorem dgDeliver_fr (s n j) : (dgDeliver s n j).fr = s.fr := by
  simp only [dgDeliver]
  repeat' split
  all_goals simp

@[simp] theorem updateEnd_fr (s n j) : (updateEnd s n j).fr = s.fr := by simp [updateEnd]

@[simp] theorem dgOpen_fr (s n j) : (dgOpen s n j).fr = s.fr := by
  unfold dgOpen
  split <;> simp

@[simp] theorem tapGone_fr (s t) : (tapGone s t).fr = s.fr := by
  unfold tapGone
  split <;> simp

@[simp] theorem dgClose_fr (s n j) : (dgClose s n j).fr = s.fr := by simp [dgClose]

/-! ## Firmware -/

@[simp] theorem fwPut_fr (s k off d) : (fwPut s k off d).fr = s.fr := by simp [fwPut]

/-! ## Cipher -/

@[simp] theorem finishStart_fr (s j) : (finishStart s j).fr = s.fr := by simp [finishStart]

@[simp] theorem jobRelease_steady (s n) : steady (jobRelease s n).fr = steady s.fr := by
  unfold jobRelease
  split <;> simp

@[simp] theorem jobMemory_steady (s n j) : steady (jobMemory s n j).fr = steady s.fr := by simp [jobMemory]
@[simp] theorem verifiedAdd_fr (s v) : (verifiedAdd s v).fr = s.fr := by simp [verifiedAdd]

@[simp] theorem cipherEnd_steady (s n j) : steady (cipherEnd s n j).fr = steady s.fr := by
  simp only [cipherEnd]
  repeat' split
  all_goals simp

@[simp] theorem cipherWrite_fr (s n j) : (cipherWrite s n j).fr = s.fr := by simp [cipherWrite]

@[simp] theorem jobStart_fr (s n j) : (jobStart s n j).fr = s.fr := by
  simp only [jobStart]
  repeat' split
  all_goals simp

@[simp] theorem jobRead_steady (s n j k) : steady (jobRead s n j k).1.fr = steady s.fr := by
  simp only [jobRead]
  split <;> simp

@[simp] theorem jobWork_steady (s n cap) : steady (jobWork s n cap).1.fr = steady s.fr := by
  simp only [jobWork]
  repeat' split
  all_goals simp

@[simp] theorem jobSlice_steady (s n lane spend ns) : steady (jobSlice s n lane spend ns).1.fr = steady s.fr := by
  simp only [jobSlice]
  repeat' split
  all_goals simp

@[simp] theorem laneFill_steady (s j lane fuel ns) : steady (laneFill s j lane fuel ns).fr = steady s.fr := by
  induction fuel generalizing s ns with
  | zero => rfl
  | succ fuel ih =>
    simp only [laneFill]
    split
    · rfl
    · split <;> simp [ih]

@[simp] theorem ranPut_fr (s g l) : (ranPut s g l).fr = s.fr := by simp [ranPut]

@[simp] theorem laneRun_steady (s n lane) : steady (laneRun s n lane).fr = steady s.fr := by
  simp only [laneRun]
  repeat' split
  all_goals simp

@[simp] theorem cpStates_fr (s) : (cpStates s).fr = s.fr := by simp [cpStates]
@[simp] theorem jobWake_fr (s n) : (jobWake s n).fr = s.fr := by simp [jobWake]

@[simp] theorem jobCounts_fr (s j) : (jobCounts s j).fr = s.fr := by
  simp only [jobCounts]
  split <;> simp

@[simp] theorem jobEnd_steady (s n) : steady (jobEnd s n).fr = steady s.fr := by
  unfold jobEnd
  split <;> simp

@[simp] theorem jobsEnd_steady (s g) : steady (jobsEnd s g).fr = steady s.fr := by simp [jobsEnd]

@[simp] theorem takeLanes_steady (s l n) : steady (takeLanes s l n).fr = steady s.fr := by
  induction l generalizing s n with
  | nil => rfl
  | cons a l ih =>
    cases n with
    | zero => rfl
    | succ n =>
      simp only [takeLanes]
      split
      · exact ih ..
      · split
        · split <;> simp [ih]
        · exact ih ..

@[simp] theorem rotNext_fr (s g) : (rotNext s g).fr = s.fr := by simp [rotNext]
@[simp] theorem lanesLeave_fr (s g) : (lanesLeave s g).fr = s.fr := by simp [lanesLeave]

@[simp] theorem xformOne_steady (s g k) : steady (xformOne s g k).fr = steady s.fr := by
  simp only [xformOne]
  split
  · split
    · rfl
    · split
      · refine congrArg steady (foldl_fr (fun _ _ => by rfl) _ _) |>.trans ?_
        simp
      · simp
  · rfl

@[simp] theorem xformLanes_steady (s g) : steady (xformLanes s g).fr = steady s.fr := by simp [xformLanes]
@[simp] theorem xformEnd_fr (s) : (xformEnd s).fr = s.fr := by simp [xformEnd]
@[simp] theorem engineBoundary_steady (s g) : steady (engineBoundary s g).fr = steady s.fr := by simp [engineBoundary]

@[simp] theorem gcmGranules_steady (s n) : steady (gcmGranules s n).fr = steady s.fr := by
  unfold gcmGranules
  split <;> simp

@[simp] theorem gcmWrite_steady (s n k) : steady (gcmWrite s n k).fr = steady s.fr := by
  unfold gcmWrite
  split <;> simp

@[simp] theorem gcmBoundary_steady (s) : steady (gcmBoundary s).fr = steady s.fr := by simp [gcmBoundary]
@[simp] theorem tapMod_fr (s t f) : (tapMod s t f).fr = s.fr := by simp [tapMod]

@[simp] theorem tapAttach_fr (s t) : (tapAttach s t).fr = s.fr := by
  unfold tapAttach
  split <;> simp

@[simp] theorem tapFeed_steady (s t) : steady (tapFeed s t).fr = steady s.fr := by
  simp only [tapFeed]
  repeat' split
  all_goals simp

@[simp] theorem tapTimeout_fr (s t) : (tapTimeout s t).fr = s.fr := by
  unfold tapTimeout
  split <;> simp

@[simp] theorem tapsBoundary_steady (s) : steady (tapsBoundary s).fr = steady s.fr := by simp [tapsBoundary]

/-! ## Events -/

@[simp] theorem evClear_fr (s k v) : (evClear s k v).fr = s.fr := by simp [evClear]
@[simp] theorem msixFlush_fr (s fn) : (msixFlush s fn).fr = s.fr := by simp [msixFlush]
@[simp] theorem eventsBoundary_fr (s) : (eventsBoundary s).fr = s.fr := by simp [eventsBoundary]

/-! ## Ports -/

@[simp] theorem ctrlReady_fr (s fn) : (ctrlReady s fn).fr = s.fr := by simp [ctrlReady]
@[simp] theorem fnDropQueues_fr (s fn) : (fnDropQueues s fn).fr = s.fr := by simp [fnDropQueues]

@[simp] theorem heldResume_steady (s i) : steady (heldResume s i).fr = steady s.fr := by
  simp only [heldResume]
  repeat' split
  all_goals simp

@[simp] theorem fecCount_fr (s port n) : (fecCount s port n).fr = s.fr := by simp [fecCount]

@[simp] theorem bufferRepost_fr (s n) : (bufferRepost s n).fr = s.fr := by
  unfold bufferRepost
  split <;> simp

@[simp] theorem buffersRepost_fr (s n) : (buffersRepost s n).fr = s.fr := by simp [buffersRepost]

@[simp] theorem pullSend_fr (s i) : (pullSend s i).fr = s.fr := by
  simp only [pullSend]
  split <;> simp

@[simp] theorem pullNext_fr (s c) : (pullNext s c).fr = s.fr := by
  simp only [pullNext]
  split <;> simp

@[simp] theorem discScan_fr (s) : (discScan s).fr = s.fr := by
  simp only [discScan]
  refine foldl_fr (fun s n => ?_) _ _
  split
  · split <;> simp
  · rfl

@[simp] theorem discNotify_fr (s) : (discNotify s).fr = s.fr := by
  simp only [discNotify]
  split
  · refine (raise_fr ..).trans (foldl_fr (fun s n => ?_) _ _)
    split <;> simp
  · rfl

/-! ## PacketOps -/

@[simp] theorem flightApplied_fr (s n) : (flightApplied s n).fr = s.fr := by simp [flightApplied]

@[simp] theorem replySend_fr (s fev op p tkEd st result data) : (replySend s fev op p tkEd st result data).fr = s.fr := by
  simp [replySend]

@[simp] theorem cachePut_fr (s fev c) : (cachePut s fev c).fr = s.fr := by simp [cachePut]

@[simp] theorem pkReply_fr (s n st result data) : (pkReply s n st result data).fr = s.fr := by
  unfold pkReply
  split <;> simp

@[simp] theorem pkFail_fr (s n st) : (pkFail s n st).fr = s.fr := by simp [pkFail]

/-! ## Queue -/

@[simp] theorem tkStart_fr (s i) : (tkStart s i).fr = s.fr := by simp [tkStart]
@[simp] theorem tkTryStart_fr (s i) : (tkTryStart s i).fr = s.fr := by simp [tkTryStart]

@[simp] theorem accept_fr (s i p c src qno ordq e cap) : (accept s i p c src qno ordq e cap).fr = s.fr := by
  simp only [accept]
  split <;> simp

@[simp] theorem connTake_fr (s n rest) : (connTake s n rest).fr = s.fr := by simp [connTake]
@[simp] theorem sqTake_fr (s k q rest) : (sqTake s k q rest).fr = s.fr := by simp [sqTake]

@[simp] theorem fetchOne_steady (s p q) : steady (fetchOne s p q).2.fr = steady s.fr := by
  simp only [fetchOne]
  repeat' split
  all_goals simp

@[simp] theorem fetchBurst_steady (s p q n) : steady (fetchBurst s p q n).2.fr = steady s.fr := by
  induction n generalizing s with
  | zero => rfl
  | succ n ih =>
    simp only [fetchBurst]
    split
    · rfl
    · split <;> simp [ih]

@[simp] theorem fetchRound_steady (s l slots pr) : steady (fetchRound s l slots pr).2.2.fr = steady s.fr := by
  induction l generalizing s slots pr with
  | nil => rfl
  | cons p l ih =>
    simp only [fetchRound]
    split
    · rfl
    · split
      · exact ih ..
      · split
        · exact ih ..
        · split <;> simp [ih]

@[simp] theorem fetchRounds_steady (s ps k slots) : steady (fetchRounds s ps k slots).fr = steady s.fr := by
  induction k generalizing s slots with
  | zero => rfl
  | succ k ih =>
    simp only [fetchRounds]
    split <;> simp [ih]

@[simp] theorem hostFetch_steady (s) : steady (hostFetch s).fr = steady s.fr := by simp [hostFetch]

@[simp] theorem adminTake_fr (s i c src e cap) : (adminTake s i c src e cap).fr = s.fr := by
  simp only [adminTake]
  repeat' split
  all_goals simp

@[simp] theorem adminOne_fr (s q) : (adminOne s q).fr = s.fr := by
  simp only [adminOne]
  repeat' split
  all_goals simp

@[simp] theorem adminFetch_fr (s) : (adminFetch s).fr = s.fr := by simp [adminFetch]

@[simp] theorem durabilityChange_fr (s) : (durabilityChange s).fr = s.fr := by
  unfold durabilityChange
  split <;> simp

@[simp] theorem budgetApply_fr (s) : (budgetApply s).fr = s.fr := by
  unfold budgetApply
  split <;> simp

/-! ## Keys -/

@[simp] theorem keyInstall_fr (s k x) : (keyInstall s k x).fr = s.fr := by simp [keyInstall]

@[simp] theorem jobRevoke_steady (s n) : steady (jobRevoke s n).fr = steady s.fr := by
  unfold jobRevoke
  split <;> simp

@[simp] theorem ctxRevoke_steady (s c) : steady (ctxRevoke s c).fr = steady s.fr := by simp [ctxRevoke]
@[simp] theorem jobErase_steady (s n) : steady (jobErase s n).fr = steady s.fr := by simp [jobErase]
@[simp] theorem xformsRevoke_fr (s k) : (xformsRevoke s k).fr = s.fr := by simp [xformsRevoke]
@[simp] theorem keyErase_steady (s k) : steady (keyErase s k).fr = steady s.fr := by simp [keyErase]
@[simp] theorem drbgReseed_fr (s) : (drbgReseed s).fr = s.fr := by simp [drbgReseed]
@[simp] theorem freshKey_fr (s label len) : (freshKey s label len).2.fr = s.fr := by simp [freshKey]

@[simp] theorem keyUnwrapFx_fr (s n p) : (keyUnwrapFx s n p).fr = s.fr := by
  simp only [keyUnwrapFx]
  repeat' split
  all_goals simp

theorem deriveKey_fr {s p len k t} (h : deriveKey s p len = some (k, t)) : t.fr = s.fr := by
  simp only [deriveKey] at h
  split at h
  · cases h; rfl
  · cases h; rfl
  · obtain ⟨z, -, e⟩ := Option.map_eq_some_iff.1 h
    cases e
    rfl

@[simp] theorem keyDeriveFx_fr (s n p) : (keyDeriveFx s n p).fr = s.fr := by
  have derived {k t} := deriveKey_fr (s := s) (p := p) (len := pAt p 13 1) (k := k) (t := t)
  simp only [keyDeriveFx]
  generalize deriveKey s p _ = r at derived ⊢
  cases r with
  | none => simp
  | some r => simp [derived rfl]

@[simp] theorem keyEraseFx_steady (s n p) : steady (keyEraseFx s n p).fr = steady s.fr := by simp [keyEraseFx]
@[simp] theorem keyQueryFx_fr (s n p) : (keyQueryFx s n p).fr = s.fr := by simp [keyQueryFx]

theorem mediaSlotPick_fr {s k t} (h : mediaSlotPick s = some (k, t)) : t.fr = s.fr := by
  unfold mediaSlotPick at h
  extract_lets free at h
  clear_value free
  cases free with
  | nil => cases h
  | cons => cases h; rfl

@[simp] theorem nsEncrypt_steady (s id v on) : steady (nsEncrypt s id v on).2.fr = steady s.fr := by
  simp only [nsEncrypt]
  repeat' split
  · rfl
  · simp
  · rfl
  · rfl
  · rfl
  · next h => simp [mediaSlotPick_fr h]

@[simp] theorem nsTransformFx_steady (s n p) : steady (nsTransformFx s n p).fr = steady s.fr := by
  simp only [nsTransformFx]
  split
  · simp
  · next v _ =>
    have encrypted := nsEncrypt_steady s (pAt p 8 4) v (bitOf (pAt p 12 1) 1)
    generalize nsEncrypt s _ v _ = r at encrypted ⊢
    obtain ⟨st, t⟩ := r
    cases st <;> simp_all

@[simp] theorem keyAsk_fr (s r) : (keyAsk s r).fr = s.fr := by simp [keyAsk]

@[simp] theorem mediaRenew_steady (s i edition nsid k) : steady (mediaRenew s i edition nsid k).fr = steady s.fr := by
  unfold mediaRenew
  split <;> simp

@[simp] theorem keyReqRun_steady (s x) : steady (keyReqRun s x).fr = steady s.fr := by
  simp only [keyReqRun]
  repeat' split
  all_goals simp

@[simp] theorem keysBoundary_steady (s) : steady (keysBoundary s).fr = steady s.fr := by simp [keysBoundary]

@[simp] theorem graceExpiry_fr (s) : (graceExpiry s).fr = s.fr := by
  unfold graceExpiry
  split <;> simp

@[simp] theorem reseedPeriodic_fr (s) : (reseedPeriodic s).fr = s.fr := by simp [reseedPeriodic]
@[simp] theorem maskReseed_fr (s lane) : (maskReseed s lane).fr = s.fr := by simp [maskReseed]
@[simp] theorem entropyBoundary_fr (s) : (entropyBoundary s).fr = s.fr := by simp [entropyBoundary]

/-! ## Nvm -/

@[simp] theorem readTile_fr (s i n idx tile) : (readTile s i n idx tile).fr = s.fr := by
  simp only [readTile]
  repeat' split
  all_goals simp

theorem readTiles_steady {s i p n ts t} (h : readTiles s i p n ts = some t) : steady t.fr = steady s.fr := by
  simp only [readTiles] at h
  split at h
  · cases h
  · cases h
    simp

@[simp] theorem decodeStage_fr (s i p n) : (decodeStage s i p n).2.fr = s.fr := by simp [decodeStage]
@[simp] theorem tapPush_fr (s n ns tile w d) : (tapPush s n ns tile w d).fr = s.fr := by simp [tapPush]
@[simp] theorem tapHold_fr (s ns) : (tapHold s ns).fr = s.fr := by simp [tapHold]

@[simp] theorem applyOp_fr (s i p n ack k o) : (applyOp s i p n ack k o).fr = s.fr := by
  simp only [applyOp]
  repeat' split
  all_goals simp

@[simp] theorem allReady_fr (s l) : (allReady s l).1.fr = s.fr := by
  induction l generalizing s with
  | nil => rfl
  | cons o l ih =>
    have ready := quadReady_fr s o.tile
    simp only [allReady]
    split
    · exact ih s
    · generalize quadReady s o.tile = r at ready ⊢
      obtain ⟨t, b⟩ := r
      cases b
      · simpa using ready
      · simpa [ih] using ready

@[simp] theorem encodeStage_fr (s i p n ops) : (encodeStage s i p n ops).2.fr = s.fr := by simp [encodeStage]
@[simp] theorem writeEffect_steady (s i p n ops) : steady (writeEffect s i p n ops).fr = steady s.fr := by simp [writeEffect]

@[simp] theorem mergeReads_steady (s i p n ops) : steady (mergeReads s i p n ops).2.fr = steady s.fr := by
  simp only [mergeReads]
  repeat' split
  · rfl
  · rfl
  · rfl
  · next asked => exact readTiles_steady asked

@[simp] theorem writeRun_steady (s i p n) : steady (writeRun s i p n).fr = steady s.fr := by simp [writeRun]

@[simp] theorem readRun_steady (s i p n base sp) {k : State → Bytes → State} (h : ∀ s d, steady (k s d).fr = steady s.fr) :
    steady (readRun s i p n base sp k).fr = steady s.fr := by
  have started : steady ((readTiles s i p n (numbered base (sp.map (·.tile)))).getD s).fr = steady s.fr := by
    cases e : readTiles s i p n (numbered base (sp.map (·.tile))) with
    | none => rfl
    | some t => exact readTiles_steady e
  simp [readRun, h, started]

@[simp] theorem heldPut_fr (s i d) : (heldPut s i d).fr = s.fr := by simp [heldPut]
@[simp] theorem fusedGo_steady (s i j p n ok) : steady (fusedGo s i j p n ok).fr = steady s.fr := by simp [fusedGo]

@[simp] theorem flushPush_fr (s i p) : (flushPush s i p).fr = s.fr := by
  unfold flushPush
  extract_lets cov t mine
  exact (foldl_fr stripeIssue_fr _ _).trans (foldl_fr (fun _ _ => by rfl) _ _)

@[simp] theorem flushRun_fr (s i p) : (flushRun s i p).fr = s.fr := by simp [flushRun]

@[simp] theorem nvmRun_steady (s i) : steady (nvmRun s i).fr = steady s.fr := by
  simp only [nvmRun]
  repeat' split
  all_goals simp

@[simp] theorem progWaitCheck_fr (s i) : (progWaitCheck s i).fr = s.fr := by simp [progWaitCheck]
@[simp] theorem nvmBoundary_steady (s) : steady (nvmBoundary s).fr = steady s.fr := by simp [nvmBoundary]

/-! ## Admin -/

@[simp] theorem catchTk_steady (s i st) : steady (catchTk s i st).fr = steady s.fr := by simp [catchTk]

@[simp] theorem sqDeleteEnd_fr (s i) : (sqDeleteEnd s i).fr = s.fr := by
  simp only [sqDeleteEnd]
  split
  · rfl
  · split
    · simp
    · rfl

@[simp] theorem warnTell_fr (s c) : (warnTell s c).fr = s.fr := by simp [warnTell]
@[simp] theorem warnAll_fr (s) : (warnAll s).fr = s.fr := by simp [warnAll]
@[simp] theorem abortEnd_fr (s i j) : (abortEnd s i j).fr = s.fr := by simp [abortEnd]

@[simp] theorem abortRun_steady (s i) : steady (abortRun s i).fr = steady s.fr := by
  simp only [abortRun]
  repeat' split
  all_goals simp

@[simp] theorem abortsRun_steady (s) : steady (abortsRun s).fr = steady s.fr := by simp [abortsRun]

@[simp] theorem nsDeleteEffect_fr (s nsid) : (nsDeleteEffect s nsid).fr = s.fr := by
  simp only [nsDeleteEffect]
  repeat' split
  all_goals simp

@[simp] theorem nsChanged_fr (s p) : (nsChanged s p).fr = s.fr := by
  unfold nsChanged
  exact foldl_fr (fun _ _ => aenRaise_fr ..) _ _

@[simp] theorem nsAssign_fr (s nsid p) : (nsAssign s nsid p).fr = s.fr := by simp [nsAssign]
@[simp] theorem nsWithdraw_fr (s nsid p) : (nsWithdraw s nsid p).fr = s.fr := by simp [nsWithdraw]

@[simp] theorem nsLeave_fr (s) : (nsLeave s).fr = s.fr := by
  unfold nsLeave
  refine foldl_fr (fun s e => ?_) _ _
  split <;> simp

@[simp] theorem nsSettings_fr (s) : (nsSettings s).fr = s.fr := by simp [nsSettings]

@[simp] theorem formatRun_fr (s i crypto) : (formatRun s i crypto).fr = s.fr := by
  simp only [formatRun]
  repeat' split
  all_goals simp

@[simp] theorem adminRest_fr (s) : (adminRest s).fr = s.fr := by simp [adminRest]

/-! ## Fatal -/

@[simp] theorem stagePut_fr (s n) : (stagePut s n).fr = s.fr := by simp [stagePut]
@[simp] theorem dumpBegin_fr (s) : (dumpBegin s).fr = s.fr := by simp [dumpBegin]
@[simp] theorem jobsDrop_steady (s) : steady (jobsDrop s).fr = steady s.fr := by simp [jobsDrop]
@[simp] theorem slicesStop_fr (s) : (slicesStop s).fr = s.fr := by simp [slicesStop]

/-! ## Clusters -/

@[simp] theorem linePut_fr (s cl l x) : (linePut s cl l x).fr = s.fr := by simp [linePut]
@[simp] theorem lineDrop_fr (s cl l) : (lineDrop s cl l).fr = s.fr := by simp [lineDrop]

@[simp] theorem dramPut_fr (s cl l d) : (dramPut s cl l d).fr = s.fr := by
  unfold dramPut
  split <;> simp

@[simp] theorem lineClean_fr (s cl l) : (lineClean s cl l).fr = s.fr := by
  unfold lineClean
  split <;> simp

@[simp] theorem wayTake_fr (s cl l) : (wayTake s cl l).1.fr = s.fr := by
  simp only [wayTake]
  repeat' split
  all_goals simp

@[simp] theorem lineInstall_fr (s cl l d dirty) : (lineInstall s cl l d dirty).fr = s.fr := by
  unfold lineInstall
  split <;> simp

@[simp] theorem lockDiscard_fr (s cl) : (lockDiscard s cl).fr = s.fr := by simp [lockDiscard]

@[simp] theorem lineInval_fr (s cl l) : (lineInval s cl l).fr = s.fr := by
  unfold lineInval
  split <;> simp

@[simp] theorem lineCleanInval_fr (s cl l) : (lineCleanInval s cl l).fr = s.fr := by
  simp only [lineCleanInval]
  split <;> simp

@[simp] theorem lineZero_fr (s cl l) : (lineZero s cl l).fr = s.fr := by simp [lineZero]

@[simp] theorem lineUnlock_fr (s cl l) : (lineUnlock s cl l).fr = s.fr := by
  unfold lineUnlock
  split <;> simp

@[simp] theorem lineDo_fr (s cl l x) : (lineDo s cl l x).fr = s.fr := by
  unfold lineDo
  split <;> simp

@[simp] theorem fillInstall_fr (s cl l) : (fillInstall s cl l).fr = s.fr := by
  unfold fillInstall
  split <;> simp

@[simp] theorem fillsInstall_fr (s cl) : (fillsInstall s cl).fr = s.fr := by simp [fillsInstall]

@[simp] theorem lineOp_fr (s cl l o) : (lineOp s cl l o).fr = s.fr := by
  unfold lineOp
  split <;> simp

@[simp] theorem lineForget_fr (s cl l) : (lineForget s cl l).fr = s.fr := by simp [lineForget]
@[simp] theorem spanCleanInval_fr (s cl phys n) : (spanCleanInval s cl phys n).fr = s.fr := by simp [spanCleanInval]
@[simp] theorem wayWrite_fr (s cl v) : (wayWrite s cl v).fr = s.fr := by simp [wayWrite]
@[simp] theorem wayEmpty_fr (s cl w) : (wayEmpty s cl w).fr = s.fr := by simp [wayEmpty]
@[simp] theorem wayBegin_fr (s cl x) : (wayBegin s cl x).fr = s.fr := by simp [wayBegin]
@[simp] theorem wayStart_fr (s cl) : (wayStart s cl).fr = s.fr := by simp [wayStart]

@[simp] theorem wayComplete_fr (s cl) : (wayComplete s cl).fr = s.fr := by
  simp only [wayComplete]
  split
  · rfl
  · rw [raise_fr, foldl_fr fun _ _ => regPutBit_fr .., clusterMod_fr]

@[simp] theorem waysReturn_fr (s p) : (waysReturn s p).fr = s.fr := by simp [waysReturn]

/-! ## Tasks -/

@[simp] theorem seqNext_fr (s) : (seqNext s).2.fr = s.fr := by simp [seqNext]

@[simp] theorem taskReady_fr (s n) : (taskReady s n).fr = s.fr := by
  unfold taskReady
  split <;> simp

@[simp] theorem flowRelease_fr (s f n) : (flowRelease s f n).fr = s.fr := by simp [flowRelease]

@[simp] theorem flowHandoff_fr (s f) : (flowHandoff s f).fr = s.fr := by
  simp only [flowHandoff]
  repeat' split
  all_goals simp

@[simp] theorem taskNew_fr (s t) : (taskNew s t).1.fr = s.fr := by
  simp only [taskNew]
  repeat' split
  all_goals simp

@[simp] theorem taskFree_fr (s n) : (taskFree s n).fr = s.fr := by
  simp only [taskFree]
  repeat' split
  all_goals simp

@[simp] theorem coreTake_fr (s c n) : (coreTake s c n).fr = s.fr := by
  unfold coreTake
  split <;> simp

@[simp] theorem stallEnd_fr (s p) : (stallEnd s p).fr = s.fr := by simp [stallEnd]

@[simp] theorem dispatch_steady (s c n) : steady (dispatch s c n).fr = steady s.fr := by
  unfold dispatch
  split <;> simp

@[simp] theorem takeTrap_fr (s c vec det tepc taddr) : (takeTrap s c vec det tepc taddr).fr = s.fr := by simp [takeTrap]
@[simp] theorem pairUndo_fr (s c) : (pairUndo s c).fr = s.fr := by simp [pairUndo]
@[simp] theorem partCycles_fr (s p) : (partCycles s p).fr = s.fr := by simp [partCycles]

@[simp] theorem invEnd_fr (s i st d0 d1) : (invEnd s i st d0 d1).fr = s.fr := by
  unfold invEnd
  split <;> simp

@[simp] theorem invClear_fr (s i) : (invClear s i).fr = s.fr := by simp [invClear]

@[simp] theorem invGone_fr (s i) : (invGone s i).fr = s.fr := by
  unfold invGone
  split <;> simp

@[simp] theorem budgetEnd_fr (s i) : (budgetEnd s i).fr = s.fr := by
  unfold budgetEnd
  split <;> simp

@[simp] theorem taskWake_fr (s n) : (taskWake s n).fr = s.fr := by
  unfold taskWake
  split <;> simp

@[simp] theorem taskUnblock_fr (s n) : (taskUnblock s n).fr = s.fr := by
  unfold taskUnblock
  split <;> simp

@[simp] theorem affinityTake_fr (s) : (affinityTake s).fr = s.fr := by simp [affinityTake]
@[simp] theorem idleNote_fr (s) : (idleNote s).fr = s.fr := by simp [idleNote]

@[simp] theorem taskMove_fr (s n) : (taskMove s n).fr = s.fr := by
  simp only [taskMove]
  repeat' split
  all_goals simp

@[simp] theorem coreSave_fr (s c x) : (coreSave s c x).fr = s.fr := by
  unfold coreSave
  split <;> simp

@[simp] theorem sliceClose_fr (s c) : (sliceClose s c).fr = s.fr := by
  unfold sliceClose
  extract_lets k t x
  split
  · rfl
  · next n _ =>
    extract_lets t' oper t''
    have metered : t'.fr = s.fr := by
      simp only [t']
      split <;> simp [t]
    split
    · rfl
    · exact (coreMod_fr ..).trans ((overrun_fr ..).trans metered)

@[simp] theorem slicePreempt_fr (s c) : (slicePreempt s c).fr = s.fr := by
  simp only [slicePreempt]
  split <;> simp

@[simp] theorem coreYieldUp_fr (s c) : (coreYieldUp s c).fr = s.fr := by
  simp only [coreYieldUp]
  repeat' split
  all_goals simp

@[simp] theorem poolEffect_fr (s cl) : (poolEffect s cl).fr = s.fr := by simp [poolEffect]
@[simp] theorem stallCheck_fr (s) : (stallCheck s).fr = s.fr := by simp [stallCheck]

@[simp] theorem dispatchCluster_steady (s cl) : steady (dispatchCluster s cl).fr = steady s.fr := by
  unfold dispatchCluster
  refine foldl_steady (fun s k => ?_) _ _
  simp only
  split
  · split <;> simp
  · rfl

/-! ## Flash -/

@[simp] theorem chanMod_fr (s ch f) : (chanMod s ch f).fr = s.fr := by simp [chanMod]
@[simp] theorem chAttn_fr (s ch) : (chAttn s ch).fr = s.fr := by simp [chAttn]

@[simp] theorem moveGot_fr (s mv raw im) : (moveGot s mv raw im).fr = s.fr := by
  unfold moveGot
  split <;> simp

@[simp] theorem moveLost_fr (s mv) : (moveLost s mv).fr = s.fr := by
  unfold moveLost
  split <;> simp

@[simp] theorem moveRead_fr (s die page mv) : (moveRead s die page mv).fr = s.fr := by
  simp only [moveRead]
  repeat' split
  all_goals simp

@[simp] theorem moveRebuild_fr (s tile) : (moveRebuild s tile).fr = s.fr := by
  simp only [moveRebuild]
  repeat' split
  all_goals simp

@[simp] theorem rebuildStart_fr (s chan target dies) : (rebuildStart s chan target dies).fr = s.fr := by simp [rebuildStart]
@[simp] theorem rebuildEnd_fr (s) : (rebuildEnd s).fr = s.fr := by simp [rebuildEnd]

@[simp] theorem readAnswer_steady (s tk idx c stored) : steady (readAnswer s tk idx c stored).fr = steady s.fr := by
  simp [readAnswer]

@[simp] theorem readDiscard_steady (s tk edition) : steady (readDiscard s tk edition).fr = steady s.fr := by simp [readDiscard]

@[simp] theorem pageMove_fr (s d page) : (pageMove s d page).fr = s.fr := by
  unfold pageMove
  split <;> simp

@[simp] theorem pageBad_fr (s d page) : (pageBad s d page).fr = s.fr := by simp [pageBad]
@[simp] theorem tileFailed_fr (s d page im) : (tileFailed s d page im).fr = s.fr := by simp [tileFailed]

@[simp] theorem readDeliver_steady (s die tk edition idx page slot) :
    steady (readDeliver s die tk edition idx page slot).fr = steady s.fr := by
  simp only [readDeliver]
  repeat' split
  all_goals simp

@[simp] theorem readRebuilt_steady (s die o) : steady (readRebuilt s die o).fr = steady s.fr := by
  unfold readRebuilt
  split <;> simp

@[simp] theorem foldClose_fr (s g) : (foldClose s g).fr = s.fr := by simp [foldClose]

@[simp] theorem foldRestart_fr (s) : (foldRestart s).fr = s.fr := by
  unfold foldRestart
  split <;> simp

@[simp] theorem progFail_fr (s k) : (progFail s k).fr = s.fr := by
  simp only [progFail]
  repeat' split
  all_goals simp

@[simp] theorem dieGroupsClose_fr (s d) : (dieGroupsClose s d).fr = s.fr := by
  simp only [dieGroupsClose]
  split
  · split <;> simp
  · simp

@[simp] theorem dieDrain_steady (s d) : steady (dieDrain s d).fr = steady s.fr := by
  simp only [dieDrain]
  split
  · rfl
  · refine (foldl_steady (fun s o => ?_) _ _).trans (by simp)
    split <;> simp

@[simp] theorem chanPins_fr (s ch wp ceHeld) : (chanPins s ch wp ceHeld).fr = s.fr := by simp [chanPins]
@[simp] theorem chRetire_steady (s ch cause) : steady (chRetire s ch cause).fr = steady s.fr := by simp [chRetire]
@[simp] theorem chRetrain_fr (s ch) : (chRetrain s ch).fr = s.fr := by simp [chRetrain]
@[simp] theorem dieGo_fr (s d x o q put) : (dieGo s d x o q put).fr = s.fr := by simp [dieGo]

@[simp] theorem dieIssue_fr (s d) : (dieIssue s d).fr = s.fr := by
  simp only [dieIssue]
  repeat' split
  all_goals simp

@[simp] theorem flashIssue_fr (s) : (flashIssue s).fr = s.fr := by
  unfold flashIssue
  refine foldl_fr (fun s d => ?_) _ _
  split
  · split <;> simp
  · rfl

@[simp] theorem issueCut_fr (s ch) : (issueCut s ch).fr = s.fr := by
  simp only [issueCut]
  repeat' split
  all_goals simp

theorem mediaFormat_fr {s n spare cycles t} (h : mediaFormat s n spare cycles = some t) : t.fr = s.fr := by
  unfold mediaFormat at h
  extract_lets ps prof at h
  clear_value ps
  cases ps with
  | nil => cases h
  | cons q ps =>
    simp only at h
    split at h
    · cases h
    · rw [← Option.some.inj h, regPut_fr, regPut_fr, foldl_fr fun _ _ => regPut_fr .., foldl_fr fun _ _ => regPut_fr .., atlSet_fr,
        flSet_fr]

/-! ## Fold -/

@[simp] theorem foldHave_fr (s tile w im) : (foldHave s tile w im).fr = s.fr := by simp [foldHave]

@[simp] theorem foldCopy_fr (s tile w) : (foldCopy s tile w).fr = s.fr := by
  unfold foldCopy
  split <;> simp

@[simp] theorem foldTile_fr (s f i) : (foldTile s f i).1.fr = s.fr := by simp [foldTile]

@[simp] theorem foldStripe_fr (s g k) : (foldStripe s g k).fr = s.fr := by
  unfold foldStripe
  extract_lets r n st
  have folded : r.1.fr = s.fr := by
    refine foldl_fst_fr (fun r f => ?_) _ (s, [])
    refine foldl_fst_fr (fun r j => ?_) _ r
    exact foldTile_fr ..
  exact (atlSet_fr ..).trans folded

@[simp] theorem foldLost_fr (s f) : (foldLost s f).fr = s.fr := by simp [foldLost]

@[simp] theorem foldIssue_fr (s) : (foldIssue s).fr = s.fr := by
  simp only [foldIssue]
  repeat' split
  all_goals simp

@[simp] theorem foldOpen_fr (s) : (foldOpen s).fr = s.fr := by
  simp only [foldOpen]
  split
  · rfl
  · split
    · rfl
    · next picked => simp [pickMembers_fr picked]

@[simp] theorem foldNext_fr (s k) : (foldNext s k).fr = s.fr := by
  unfold foldNext
  split <;> simp

/-! ## Atlas -/

@[simp] theorem stripesIssue_fr (s) : (stripesIssue s).fr = s.fr := by simp [stripesIssue]

@[simp] theorem fragDone_fr (s st f) : (fragDone s st f).fr = s.fr := by
  simp only [fragDone]
  repeat' split
  all_goals simp

@[simp] theorem overlayCount_fr (s st) : (overlayCount s st).fr = s.fr := by
  unfold overlayCount
  split <;> simp

@[simp] theorem stripeDone_fr (s k) : (stripeDone s k).fr = s.fr := by
  unfold stripeDone
  split <;> simp

@[simp] theorem groupsPrune_fr (s) : (groupsPrune s).fr = s.fr := by simp [groupsPrune]

@[simp] theorem overlayFree_fr (s o) : (overlayFree s o).fr = s.fr := by
  unfold overlayFree
  split <;> simp

@[simp] theorem foldWords_fr (s f) : (foldWords s f).fr = s.fr := by simp [foldWords]

@[simp] theorem foldAgain_fr (s f) : (foldAgain s f).fr = s.fr := by
  simp only [foldAgain]
  repeat' split
  all_goals simp

@[simp] theorem foldEnd_fr (s q sh) : (foldEnd s q sh).fr = s.fr := by
  unfold foldEnd
  split <;> simp

@[simp] theorem convToSheet_fr (s q) : (convToSheet s q).fr = s.fr := by
  simp only [convToSheet]
  split
  · rfl
  · rw [foldOpen_fr, foldl_fr fun _ _ => foldAsk_fr .., atlSet_fr, dirPut_fr]

@[simp] theorem coolOne_steady (s) : steady (coolOne s).fr = steady s.fr := by
  unfold coolOne
  split <;> simp

@[simp] theorem windowEnd_steady (s) : steady (windowEnd s).fr = steady s.fr := by simp [windowEnd]
@[simp] theorem windowTurn_steady (s) : steady (windowTurn s).fr = steady s.fr := by simp [windowTurn]
@[simp] theorem budgetFit_steady (s) : steady (budgetFit s).fr = steady s.fr := by simp [budgetFit]

@[simp] theorem convBoundary_fr (s) : (convBoundary s).fr = s.fr := by
  unfold convBoundary
  exact foldl_fr (fun s c => by simp) _ _

@[simp] theorem toPageFill_fr (s q) : (toPageFill s q).fr = s.fr := by
  simp only [toPageFill]
  split <;> simp

@[simp] theorem toPageEnd_fr (s q) : (toPageEnd s q).fr = s.fr := by simp [toPageEnd]

@[simp] theorem toSheetEnd_fr (s q) : (toSheetEnd s q).fr = s.fr := by
  simp only [toSheetEnd]
  repeat' split
  all_goals simp

@[simp] theorem convsEnd_fr (s) : (convsEnd s).fr = s.fr := by simp [convsEnd]
@[simp] theorem resurveyMode_fr (s) : (resurveyMode s).fr = s.fr := by simp [resurveyMode]
@[simp] theorem failingRetire_fr (s) : (failingRetire s).fr = s.fr := by simp [failingRetire]
@[simp] theorem wearUpdate_fr (s) : (wearUpdate s).fr = s.fr := by simp [wearUpdate]
@[simp] theorem sealEnter_fr (s) : (sealEnter s).fr = s.fr := by simp [sealEnter]
@[simp] theorem sealExit_fr (s) : (sealExit s).fr = s.fr := by simp [sealExit]

@[simp] theorem reserveRefill_fr (s) : (reserveRefill s).fr = s.fr := by
  simp only [reserveRefill]
  split
  · split
    · rfl
    · next picked => simp [pickMembers_fr picked]
  · rfl

@[simp] theorem atlasBoundary_steady (s) : steady (atlasBoundary s).fr = steady s.fr := by simp [atlasBoundary]

/-! ## Gaz -/

@[simp] theorem gzEntryMod_fr (s e f) : (gzEntryMod s e f).fr = s.fr := by simp [gzEntryMod]

@[simp] theorem gzLookup_fr (t k fuel s) : (gzLookup t k fuel s).1.fr = s.fr := by
  induction fuel generalizing s with
  | zero => rfl
  | succ fuel ih =>
    simp only [gzLookup]
    split
    · rfl
    · split
      · rfl
      · simp [ih]

@[simp] theorem gzSearch_fr (s t k) : (gzSearch s t k).1.fr = s.fr := by simp [gzSearch]

@[simp] theorem gzRepair_fr (s e) : (gzRepair s e).fr = s.fr := by
  unfold gzRepair
  split <;> simp

@[simp] theorem gzAnswerPut_fr (s n i hit inc pos) : (gzAnswerPut s n i hit inc pos).fr = s.fr := by
  unfold gzAnswerPut
  split <;> simp

@[simp] theorem gzSearchEnd_fr (s n) : (gzSearchEnd s n).fr = s.fr := by
  unfold gzSearchEnd
  split <;> simp

@[simp] theorem gzTake_fr (s n i t k) : (gzTake s n i t k).fr = s.fr := by simp [gzTake]
@[simp] theorem gzShift_fr (s a n up) : (gzShift s a n up).fr = s.fr := by simp [gzShift]
@[simp] theorem gzSpreadDue_fr (s k t n) : (gzSpreadDue s k t n).fr = s.fr := by simp [gzSpreadDue]

@[simp] theorem gzInsertOne_fr (s k t x) : (gzInsertOne s k t x).1.fr = s.fr := by
  simp only [gzInsertOne]
  repeat' split
  all_goals simp

@[simp] theorem gzInsertGo_fr (n k fuel left s) : (gzInsertGo n k fuel left s).fr = s.fr := by
  induction fuel generalizing left s with
  | zero => rfl
  | succ fuel ih =>
    simp only [gzInsertGo]
    split
    · split
      · simp
      · split
        · simp
        · split
          · simp
          · split <;> simp [ih]
    · rfl

@[simp] theorem gzDeleteGo_fr (n k fuel s) : (gzDeleteGo n k fuel s).fr = s.fr := by
  induction fuel generalizing s with
  | zero =>
    simp only [gzDeleteGo]
    split
    · split <;> simp
    · rfl
  | succ fuel ih =>
    simp only [gzDeleteGo]
    split
    · split
      · simp
      · split
        · simp
        · rw [ih]
          split <;> simp
    · rfl

@[simp] theorem gzWalkGo_fr (s n j t) : (gzWalkGo s n j t).fr = s.fr := by
  simp only [gzWalkGo]
  split <;> simp

@[simp] theorem gzSpread_fr (s k t) : (gzSpread s k t).fr = s.fr := by simp [gzSpread]

theorem gzRespread_fr {s k t} (h : gzRespread s k = some t) : t.fr = s.fr := by
  simp only [gzRespread] at h
  split at h
  · cases h
  · split at h
    · split at h
      · cases h
      · cases h
        simp
    · cases h

@[simp] theorem gzRespreads_fr (s l n) : (gzRespreads s l n).1.fr = s.fr := by
  induction l generalizing s n with
  | nil => rfl
  | cons k l ih =>
    cases n with
    | zero => rfl
    | succ n =>
      simp only [gzRespreads]
      split
      · next spread => exact (ih ..).trans (gzRespread_fr spread)
      · exact ih ..

@[simp] theorem gzLoadFail_fr (s n j st) : (gzLoadFail s n j st).fr = s.fr := by simp [gzLoadFail]
@[simp] theorem gzLoadEnd_fr (s n j) : (gzLoadEnd s n j).fr = s.fr := by simp [gzLoadEnd]

@[simp] theorem gzLoadGo_fr (s n j) : (gzLoadGo s n j).fr = s.fr := by
  simp only [gzLoadGo]
  repeat' split
  all_goals simp

@[simp] theorem gzScanKeep_fr (s n j a) : (gzScanKeep s n j a).fr = s.fr := by simp [gzScanKeep]

@[simp] theorem gzScanGo_fr (s n j) : (gzScanGo s n j).fr = s.fr := by
  simp only [gzScanGo]
  split <;> simp

@[simp] theorem gzScanSlice_fr (s n lane j) : (gzScanSlice s n lane j).fr = s.fr := by simp [gzScanSlice]

@[simp] theorem gzSearchGo_fr (n k fuel left s) : (gzSearchGo n k fuel left s).fr = s.fr := by
  induction fuel generalizing left s with
  | zero => simp [gzSearchGo]
  | succ fuel ih =>
    cases left with
    | zero => simp [gzSearchGo]
    | succ left =>
      simp only [gzSearchGo]
      split
      · split
        · simp
        · split
          · simp
          · split <;> simp [ih]
      · rfl

@[simp] theorem gzWork_fr (s n lane j) : (gzWork s n lane j).fr = s.fr := by
  simp only [gzWork]
  repeat' split
  all_goals simp

@[simp] theorem gzSlice_steady (s n lane) : steady (gzSlice s n lane).fr = steady s.fr := by
  simp only [gzSlice]
  repeat' split
  all_goals simp

@[simp] theorem gzTakeAll_steady (s l n) : steady (gzTakeAll s l n).fr = steady s.fr := by
  induction l generalizing s n with
  | nil => rfl
  | cons a l ih =>
    cases n with
    | zero => rfl
    | succ n =>
      simp only [gzTakeAll]
      split
      · exact ih ..
      · split
        · exact ih ..
        · simp [ih]

@[simp] theorem gzPasses_steady (s l) : steady (gzPasses s l).fr = steady s.fr := by
  induction l generalizing s with
  | nil => rfl
  | cons n l ih => simp [gzPasses, ih]

@[simp] theorem gzBoundary_steady (s) : steady (gzBoundary s).fr = steady s.fr := by simp [gzBoundary]

@[simp] theorem gzDropFinish_fr (s n) : (gzDropFinish s n).fr = s.fr := by
  simp only [gzDropFinish]
  repeat' split
  all_goals simp

@[simp] theorem gzTemp_fr (s reading) : (gzTemp s reading).fr = s.fr := by
  unfold gzTemp
  split <;> simp

@[simp] theorem gzZeroize_fr (s t) : (gzZeroize s t).fr = s.fr := by simp [gzZeroize]

@[simp] theorem gzTableGone_fr (s k) : (gzTableGone s k).fr = s.fr := by
  unfold gzTableGone
  split <;> simp

@[simp] theorem gzRetire_fr (s p) : (gzRetire s p).fr = s.fr := by simp [gzRetire]

/-! ## Cascade -/

@[simp] theorem markSend_fr (s m) : (markSend s m).fr = s.fr := by simp [markSend]
@[simp] theorem cascMod_fr (s f) : (cascMod s f).fr = s.fr := by simp [cascMod]
@[simp] theorem cascIncomplete_fr (s) : (cascIncomplete s).fr = s.fr := by simp [cascIncomplete]
@[simp] theorem cascMissing_fr (s) : (cascMissing s).fr = s.fr := by simp [cascMissing]

@[simp] theorem cascEffect_fr (s) : (cascEffect s).fr = s.fr := by
  simp only [cascEffect]
  repeat' split
  all_goals simp

@[simp] theorem cascMark_fr (s) : (cascMark s).fr = s.fr := by simp [cascMark]
@[simp] theorem cascBoundary_fr (s) : (cascBoundary s).fr = s.fr := by simp [cascBoundary]

/-! ## Dma -/

@[simp] theorem dmaStatePut_fr (s c v) : (dmaStatePut s c v).fr = s.fr := by simp [dmaStatePut]
@[simp] theorem dmaReady_fr (s c) : (dmaReady s c).fr = s.fr := by simp [dmaReady]

@[simp] theorem dmaToIdle_fr (s c) : (dmaToIdle s c).fr = s.fr := by
  rw [dmaToIdle, raise_fr, regPutBit_fr, dmaMod_fr, regPutBit_fr, dmaStatePut_fr]

@[simp] theorem dmaToHalt_fr (s c why) : (dmaToHalt s c why).fr = s.fr := by simp [dmaToHalt]

@[simp] theorem dmaRecordWrite_fr (s c) : (dmaRecordWrite s c).fr = s.fr := by
  simp only [dmaRecordWrite]
  split <;> simp

@[simp] theorem dmaEnd_fr (s c st why) : (dmaEnd s c st why).fr = s.fr := by simp [dmaEnd]

@[simp] theorem dmaMove_fr (s c k host) : (dmaMove s c k host).fr = s.fr := by
  unfold dmaMove
  split
  · extract_lets done n words m r ws t t' m' r' o f o' u u'
    have read : r'.1.fr = s.fr := by simp [r']
    have fed : f.1.fr = s.fr := by
      simp only [f]
      split
      · split <;> simp [read]
      · exact read
    have moved : u'.fr = s.fr := by simp [u', u, fed]
    simp [moved, t', t, r]
  · rfl

@[simp] theorem dmaBegin_fr (s c d why) : (dmaBegin s c d why).fr = s.fr := by simp [dmaBegin]

@[simp] theorem dmaStart_fr (s c) : (dmaStart s c).fr = s.fr := by
  simp only [dmaStart]
  repeat' split
  all_goals simp

@[simp] theorem dmaMoveTo_fr (s c n) : (dmaMoveTo s c n).fr = s.fr := by simp [dmaMoveTo]

@[simp] theorem dmaCut_fr (s c st why) : (dmaCut s c st why).fr = s.fr := by
  unfold dmaCut
  split <;> simp

@[simp] theorem dmaParcelReset_fr (s p) : (dmaParcelReset s p).fr = s.fr := by simp [dmaParcelReset]
@[simp] theorem dmaPowerFail_fr (s) : (dmaPowerFail s).fr = s.fr := by simp [dmaPowerFail]
@[simp] theorem dmaLinkReset_fr (s) : (dmaLinkReset s).fr = s.fr := by simp [dmaLinkReset]

@[simp] theorem dmaStep_fr (s c) : (dmaStep s c).fr = s.fr := by
  simp only [dmaStep]
  split <;> simp

@[simp] theorem dmaBoundary_fr (s) : (dmaBoundary s).fr = s.fr := by simp [dmaBoundary]

/-! ## Supervisor -/

@[simp] theorem entryCtx_fr (s pc arg) : (entryCtx s pc arg).1.fr = s.fr := by simp [entryCtx]

/-! ## Compute -/

@[simp] theorem spanFresh_fr (s a n) : (spanFresh s a n).fr = s.fr := by simp [spanFresh]

theorem progInstall_fr {s p idx d t} (h : progInstall s p idx d = some t) : t.fr = s.fr := by
  simp only [progInstall] at h
  split at h
  · cases h
  · cases h
    split <;> simp

theorem invStart_fr {s ow p tk idx g oper rs param t} (h : invStart s ow p tk idx g oper rs param = some t) : t.fr = s.fr := by
  simp only [invStart] at h
  split at h
  · cases h
  · split at h
    · cases h
    · split at h
      · cases h
      · cases h
        simp

@[simp] theorem executeProgram_fr (s i p param) : (executeProgram s i p param).fr = s.fr := by
  simp only [executeProgram]
  split
  · split
    · simp
    · split
      · simp
      · next started => simp [invStart_fr started]
  · simp
  · simp

@[simp] theorem invRetry_fr (s) : (invRetry s).fr = s.fr := by
  unfold invRetry
  refine foldl_fr (fun s i => ?_) _ _
  split <;> simp

@[simp] theorem invPost_fr (s i) : (invPost s i).fr = s.fr := by
  simp only [invPost]
  repeat' split
  all_goals simp

@[simp] theorem rangeClean_fr (s p a n) : (rangeClean s p a n).fr = s.fr := by simp [rangeClean]

@[simp] theorem slmRead_fr (s i p) : (slmRead s i p).fr = s.fr := by
  simp only [slmRead]
  repeat' split
  all_goals simp

@[simp] theorem slmBoundary_fr (s) : (slmBoundary s).fr = s.fr := by simp [slmBoundary]

@[simp] theorem memCopy_steady (s i p) : steady (memCopy s i p).fr = steady s.fr := by
  simp only [memCopy]
  split
  · simp
  · repeat' split
    all_goals simp

@[simp] theorem copyBoundary_steady (s) : steady (copyBoundary s).fr = steady s.fr := by
  unfold copyBoundary
  refine foldl_steady (fun s i => ?_) _ _
  split <;> simp

@[simp] theorem invBoundary_fr (s) : (invBoundary s).fr = s.fr := by simp [invBoundary]

/-! ## Parcels -/

@[simp] theorem invStop_steady (s i) : steady (invStop s i).fr = steady s.fr := by
  simp only [invStop]
  repeat' split
  all_goals simp

@[simp] theorem parcelTasksEnd_steady (s p) : steady (parcelTasksEnd s p).fr = steady s.fr := by simp [parcelTasksEnd]
@[simp] theorem parcelJobsDrop_steady (s p) : steady (parcelJobsDrop s p).fr = steady s.fr := by simp [parcelJobsDrop]
@[simp] theorem parcelTksEnd_steady (s p) : steady (parcelTksEnd s p).fr = steady s.fr := by simp [parcelTksEnd]

@[simp] theorem saveAbort_fr (s p) : (saveAbort s p).fr = s.fr := by
  unfold saveAbort
  split <;> simp

@[simp] theorem freezeAnswer_fr (s p st) : (freezeAnswer s p st).fr = s.fr := by
  unfold freezeAnswer
  split <;> simp

@[simp] theorem mailboxClear_fr (s p) : (mailboxClear s p).fr = s.fr := by simp [mailboxClear]
@[simp] theorem editionAdvance_fr (s p) : (editionAdvance s p).fr = s.fr := by simp [editionAdvance]
@[simp] theorem teardownBegin_fr (s p cause) : (teardownBegin s p cause).fr = s.fr := by simp [teardownBegin]

@[simp] theorem vfUnready_fr (s p) : (vfUnready s p).fr = s.fr := by
  unfold vfUnready
  split <;> simp

@[simp] theorem resetStart_fr (s p cause hold ws) : (resetStart s p cause hold ws).fr = s.fr := by
  rw [resetStart, vfUnready_fr, mailboxClear_fr, parMod_fr, teardownBegin_fr, editionAdvance_fr, saveAbort_fr, freezeAnswer_fr]

@[simp] theorem parcelCancel_steady (s p) : steady (parcelCancel s p).fr = steady s.fr := by simp [parcelCancel]

@[simp] theorem waiterRefuse_fr (s x) : (waiterRefuse s x).fr = s.fr := by
  unfold waiterRefuse
  split <;> simp

@[simp] theorem waiterApplied_fr (s x) : (waiterApplied s x).fr = s.fr := by
  unfold waiterApplied
  split <;> simp

@[simp] theorem resetRequest_fr (s p cause hold w) : (resetRequest s p cause hold w).fr = s.fr := by
  unfold resetRequest
  split <;> simp

@[simp] theorem freezeEffect_fr (s p n) : (freezeEffect s p n).fr = s.fr := by simp [freezeEffect]

@[simp] theorem reqRun_fr (s p x) : (reqRun s p x).fr = s.fr := by
  unfold reqRun
  split <;> simp

@[simp] theorem reqsRun_fr (s p sel) : (reqsRun s p sel).fr = s.fr := by simp [reqsRun]

@[simp] theorem queuedReset_fr (s p) : (queuedReset s p).fr = s.fr := by
  simp only [queuedReset]
  split <;> simp

@[simp] theorem parcelActivate_fr (s p) : (parcelActivate s p).fr = s.fr := by
  simp only [parcelActivate]
  split <;> simp

@[simp] theorem ctxTapsEnd_fr (s p) : (ctxTapsEnd s p).fr = s.fr := by simp [ctxTapsEnd]
@[simp] theorem ctxsInvalid_fr (s p) : (ctxsInvalid s p).fr = s.fr := by simp [ctxsInvalid]

@[simp] theorem waitersAnswer_fr (s ws) : (waitersAnswer s ws).fr = s.fr := by
  unfold waitersAnswer
  refine foldl_fr (fun s w => ?_) _ _
  split <;> simp

@[simp] theorem teardownStatus_fr (s p) : (teardownStatus s p).fr = s.fr := by simp [teardownStatus]

@[simp] theorem teardownClear_fr (s p) : (teardownClear s p).fr = s.fr := by
  unfold teardownClear
  split <;> simp

@[simp] theorem pendingEnable_fr (s p) : (pendingEnable s p).fr = s.fr := by
  simp only [pendingEnable]
  repeat' split
  all_goals simp

@[simp] theorem resetTarget_fr (s p) : (resetTarget s p).fr = s.fr := by simp [resetTarget]
@[simp] theorem teardown_fr (s p) : (teardown s p).fr = s.fr := by simp [teardown]
@[simp] theorem drainCheck_fr (s p) : (drainCheck s p).fr = s.fr := by simp [drainCheck]
@[simp] theorem vfUnbind_fr (s p f) : (vfUnbind s p f).fr = s.fr := by simp [vfUnbind]
@[simp] theorem tkCancel_steady (s i) : steady (tkCancel s i).fr = steady s.fr := by simp [tkCancel]
@[simp] theorem vfLost_steady (s p f) : steady (vfLost s p f).fr = steady s.fr := by simp [vfLost]

@[simp] theorem linkLossParcel_steady (s l p) : steady (linkLossParcel s l p).fr = steady s.fr := by
  simp only [linkLossParcel]
  split <;> simp

@[simp] theorem linkLoss_steady (s l) : steady (linkLoss s l).fr = steady s.fr := by simp [linkLoss]
@[simp] theorem finalRecord_fr (s p) : (finalRecord s p).fr = s.fr := by simp [finalRecord]
@[simp] theorem heldWrite_fr (s) : (heldWrite s).fr = s.fr := by simp [heldWrite]
@[simp] theorem intervalEnd_fr (s) : (intervalEnd s).fr = s.fr := by simp [intervalEnd]

@[simp] theorem snapWrite_fr (s) : (snapWrite s).fr = s.fr := by
  unfold snapWrite
  split <;> simp

@[simp] theorem rangeGone_fr (s p n) : (rangeGone s p n).fr = s.fr := by
  unfold rangeGone
  split <;> simp

@[simp] theorem progGone_fr (s p idx) : (progGone s p idx).fr = s.fr := by
  unfold progGone
  split <;> simp

@[simp] theorem retireStart_steady (s p w) : steady (retireStart s p w).fr = steady s.fr := by
  unfold retireStart
  extract_lets began retiring closed unbound host told unpaired ended asked unranged unprogged unset bare unctx
  have halted : steady unbound.fr = steady s.fr := by
    have closes : steady closed.fr = steady s.fr := by
      simp only [closed]
      rw [foldl_steady fun _ _ => connClose_steady .., parMod_fr, teardownBegin_fr, editionAdvance_fr]
    simp only [unbound]
    split
    · rw [vfUnbind_fr, closes]
    · exact closes
  have drops : steady asked.fr = steady s.fr := by
    simp only [asked]
    rw [foldl_fr fun _ _ => keyAsk_fr .., parcelTksEnd_steady, parcelJobsDrop_steady, parcelTasksEnd_steady, parMod_fr]
    exact halted
  rw [gzRetire_fr, waysReturn_fr, mailboxClear_fr, enMod_fr, ctxTapsEnd_fr, atlSet_fr, csMod_fr]
  simp only [unprogged, unranged]
  rw [foldl_fr fun _ _ => progGone_fr .., foldl_fr fun _ _ => rangeGone_fr .., drops]

@[simp] theorem retireEnd_steady (s p) : steady (retireEnd s p).fr = steady s.fr := by simp [retireEnd]
@[simp] theorem mbVisible_fr (s p) : (mbVisible s p).fr = s.fr := by simp [mbVisible]
@[simp] theorem shareWrite_fr (s p cls depth v) : (shareWrite s p cls depth v).fr = s.fr := by simp [shareWrite]
@[simp] theorem shareEffect_fr (s p) : (shareEffect s p).fr = s.fr := by simp [shareEffect]
@[simp] theorem maskEffect_fr (s p) : (maskEffect s p).fr = s.fr := by simp [maskEffect]

/-! ## Cadastre -/

@[simp] theorem maskSet_fr (s p m) : (maskSet s p m).fr = s.fr := by simp [maskSet]
@[simp] theorem parcelCreateFx_fr (s n p) : (parcelCreateFx s n p).fr = s.fr := by simp [parcelCreateFx]
@[simp] theorem parcelConfigureFx_fr (s n p) : (parcelConfigureFx s n p).fr = s.fr := by simp [parcelConfigureFx]

@[simp] theorem parcelBindVfFx_fr (s n p) : (parcelBindVfFx s n p).fr = s.fr := by
  unfold parcelBindVfFx
  split <;> simp

@[simp] theorem parcelUnbindVfFx_fr (s n p) : (parcelUnbindVfFx s n p).fr = s.fr := by
  simp only [parcelUnbindVfFx]
  repeat' split
  all_goals simp

@[simp] theorem pairWithdraw_steady (s k h q) : steady (pairWithdraw s k h q).fr = steady s.fr := by simp [pairWithdraw]

@[simp] theorem parcelHostPairFx_steady (s n p) : steady (parcelHostPairFx s n p).fr = steady s.fr := by
  simp only [parcelHostPairFx]
  repeat' split
  all_goals simp

@[simp] theorem parcelAssignNsFx_fr (s n p) : (parcelAssignNsFx s n p).fr = s.fr := by
  simp only [parcelAssignNsFx]
  repeat' split
  all_goals simp

@[simp] theorem parcelEnableFx_fr (s n p) : (parcelEnableFx s n p).fr = s.fr := by
  simp only [parcelEnableFx]
  split <;> simp

@[simp] theorem parcelThawFx_fr (s n p) : (parcelThawFx s n p).fr = s.fr := by simp [parcelThawFx]
@[simp] theorem parcelRetireFx_steady (s n p) : steady (parcelRetireFx s n p).fr = steady s.fr := by simp [parcelRetireFx]
@[simp] theorem parcelShareFx_fr (s n p) : (parcelShareFx s n p).fr = s.fr := by simp [parcelShareFx]
@[simp] theorem parcelQueryFx_fr (s n p) : (parcelQueryFx s n p).fr = s.fr := by simp [parcelQueryFx]
@[simp] theorem parcelSaveFx_fr (s n p) : (parcelSaveFx s n p).fr = s.fr := by simp [parcelSaveFx]

theorem installProgs_fr {k l s t} (h : installProgs k l s = some t) : t.fr = s.fr := by
  induction l generalizing s with
  | nil => cases h; rfl
  | cons e l ih =>
    simp only [installProgs] at h
    split at h
    · cases h
    · simpa using ih h

theorem installRanges_fr {k l s t} (h : installRanges k l s = some t) : t.fr = s.fr := by
  induction l generalizing s with
  | nil => cases h; rfl
  | cons e l ih =>
    simp only [installRanges] at h
    split at h
    · cases h
    · simpa using ih h

@[simp] theorem restoreFail_fr (s n st) : (restoreFail s n st).fr = s.fr := by simp [restoreFail]

@[simp] theorem restoreBegin_fr (s n p) : (restoreBegin s n p).fr = s.fr := by
  unfold restoreBegin
  split <;> simp

/-! ## Power -/

@[simp] theorem holdupArm_fr (s b) : (holdupArm s b).fr = s.fr := by simp [holdupArm]
@[simp] theorem holdupFail_fr (s) : (holdupFail s).fr = s.fr := by simp [holdupFail]
@[simp] theorem holdupReply_fr (s n b e) : (holdupReply s n b e).fr = s.fr := by simp [holdupReply]
@[simp] theorem testDone_fr (s x r) : (testDone s x r).fr = s.fr := by simp [testDone]

@[simp] theorem testAsk_fr (s ask retest) : (testAsk s ask retest).fr = s.fr := by
  simp only [testAsk]
  repeat' split
  all_goals simp

@[simp] theorem settleTimeout_fr (s) : (settleTimeout s).fr = s.fr := by
  unfold settleTimeout
  split <;> simp

@[simp] theorem holdupRetest_fr (s) : (holdupRetest s).fr = s.fr := by simp [holdupRetest]

@[simp] theorem bankVoltage_fr (s mv) : (bankVoltage s mv).fr = s.fr := by
  simp only [bankVoltage]
  split <;> simp

@[simp] theorem flightLost_fr (s n) : (flightLost s n).fr = s.fr := by
  simp only [flightLost]
  repeat' split
  all_goals simp

@[simp] theorem powerStop_steady (s) : steady (powerStop s).fr = steady s.fr := by simp [powerStop]
@[simp] theorem haltStop_fr (s) : (haltStop s).fr = s.fr := by simp [haltStop]

@[simp] theorem coreLeave_fr (s c) : (coreLeave s c).fr = s.fr := by
  simp only [coreLeave]
  repeat' split
  all_goals simp

@[simp] theorem clusterResetNow_fr (s cl) : (clusterResetNow s cl).fr = s.fr := by simp [clusterResetNow]

@[simp] theorem clusterResetEnd_fr (s cl) : (clusterResetEnd s cl).fr = s.fr := by
  unfold clusterResetEnd
  split <;> simp

@[simp] theorem lifeShow_fr (s) : (lifeShow s).fr = s.fr := by simp [lifeShow]
@[simp] theorem lifeUpdate_fr (s) : (lifeUpdate s).fr = s.fr := by simp [lifeUpdate]

/-! ## Trust -/

@[simp] theorem fwPoint_fr (s k) : (fwPoint s k).fr = s.fr := by simp [fwPoint]

/-! ## Packets -/

@[simp] theorem retiredTrain_fr (s) : (retiredTrain s).fr = s.fr := by simp [retiredTrain]
@[simp] theorem formatRegs_fr (s f) : (formatRegs s f).fr = s.fr := by simp [formatRegs]

@[simp] theorem mediaFormatFx_fr (s n p) : (mediaFormatFx s n p).fr = s.fr := by
  simp only [mediaFormatFx]
  split
  · simp
  · next w _ =>
    have formatted {t} := mediaFormat_fr (s := flightApplied (retiredTrain s) n) (n := w)
      (spare := if pAt p 9 1 = 0 then 4 else pAt p 9 1) (cycles := pAt p 12 4) (t := t)
    generalize mediaFormat _ w _ _ = r at formatted ⊢
    cases r with
    | none => simp
    | some r => simp [formatted rfl]

@[simp] theorem quadPinFx_fr (s n p) : (quadPinFx s n p).fr = s.fr := by
  unfold quadPinFx
  extract_lets q w pin put pinned
  have puts : (put s).fr = s.fr := dirPut_fr ..
  clear_value put
  repeat' split
  · exact pkFail_fr ..
  · exact pkFail_fr ..
  · rw [pkReply_fr, puts]
  · exact pkFail_fr ..
  · rw [convToPage_fr, puts]
  · exact puts
  · rw [pkReply_fr, atlSet_fr, puts]
  · rw [pkReply_fr, puts]

@[simp] theorem pinCheck_fr (s n p) : (pinCheck s n p).fr = s.fr := by simp [pinCheck]
@[simp] theorem chanRetireFx_steady (s n p) : steady (chanRetireFx s n p).fr = steady s.fr := by simp [chanRetireFx]
@[simp] theorem retireCheck_fr (s n p) : (retireCheck s n p).fr = s.fr := by simp [retireCheck]
@[simp] theorem mediaQueryFx_fr (s n) : (mediaQueryFx s n).fr = s.fr := by simp [mediaQueryFx]

@[simp] theorem holdupFx_fr (s n p) : (holdupFx s n p).fr = s.fr := by
  unfold holdupFx
  split <;> simp

@[simp] theorem computeRangeFx_fr (s n p) : (computeRangeFx s n p).fr = s.fr := by
  simp only [computeRangeFx]
  repeat' split
  all_goals simp

@[simp] theorem computeLimitsFx_fr (s n p) : (computeLimitsFx s n p).fr = s.fr := by simp [computeLimitsFx]

@[simp] theorem operatorLoadFx_fr (s n p) : (operatorLoadFx s n p).fr = s.fr := by
  have installed {t} := progInstall_fr (s := s) (p := p.parcel) (idx := pAt p 8 1) (d := p.buf) (t := t)
  simp only [operatorLoadFx]
  generalize progInstall s p.parcel _ p.buf = r at installed ⊢
  cases r with
  | none => simp
  | some t => simp [installed rfl]

@[simp] theorem operatorInvokeFx_fr (s n p) : (operatorInvokeFx s n p).fr = s.fr := by
  have alloc := tkAlloc_fr s true
  simp only [operatorInvokeFx]
  split
  · simp
  · split
    · split
      · simp
      · split
        · simp
        · next taken =>
          split
          · rfl
          · next started => simpa [taken, invStart_fr started] using alloc
    · simp

@[simp] theorem wayAssignFx_fr (s n p) : (wayAssignFx s n p).fr = s.fr := by simp [wayAssignFx]
@[simp] theorem wayCheck_fr (s n p) : (wayCheck s n p).fr = s.fr := by simp [wayCheck]
@[simp] theorem computeQueryFx_fr (s n p) : (computeQueryFx s n p).fr = s.fr := by simp [computeQueryFx]

@[simp] theorem gzCreateFx_fr (s n p) : (gzCreateFx s n p).fr = s.fr := by
  simp only [gzCreateFx]
  repeat' split
  all_goals simp

@[simp] theorem gzDeleteFx_fr (s n p) : (gzDeleteFx s n p).fr = s.fr := by
  simp only [gzDeleteFx]
  split <;> simp

@[simp] theorem gzDeleteCheck_fr (s n p) : (gzDeleteCheck s n p).fr = s.fr := by simp [gzDeleteCheck]
@[simp] theorem gzLimitsFx_fr (s n p) : (gzLimitsFx s n p).fr = s.fr := by simp [gzLimitsFx]
@[simp] theorem gzCascadeFx_fr (s n p) : (gzCascadeFx s n p).fr = s.fr := by simp [gzCascadeFx]
@[simp] theorem meterReadFx_fr (s n p) : (meterReadFx s n p).fr = s.fr := by simp [meterReadFx]
@[simp] theorem meterFreeFx_fr (s n p) : (meterFreeFx s n p).fr = s.fr := by simp [meterFreeFx]
@[simp] theorem fwDownloadFx_fr (s n p) : (fwDownloadFx s n p).fr = s.fr := by simp [fwDownloadFx]
@[simp] theorem fwCommitFx_fr (s n p) : (fwCommitFx s n p).fr = s.fr := by simp [fwCommitFx]
@[simp] theorem svnAdvanceFx_fr (s n) : (svnAdvanceFx s n).fr = s.fr := by simp [svnAdvanceFx]
@[simp] theorem bootcfgFx_fr (s n p) : (bootcfgFx s n p).fr = s.fr := by simp [bootcfgFx]
@[simp] theorem diagDumpFx_fr (s n p) : (diagDumpFx s n p).fr = s.fr := by simp [diagDumpFx]
@[simp] theorem eventReadFx_fr (s n p) : (eventReadFx s n p).fr = s.fr := by simp [eventReadFx]
@[simp] theorem deviceQueryFx_fr (s n) : (deviceQueryFx s n).fr = s.fr := by simp [deviceQueryFx]

@[simp] theorem packetFx_steady (s n op p) : steady (packetFx s n op p).fr = steady s.fr := by
  unfold packetFx
  split <;> simp

@[simp] theorem pkRun_steady (s n) : steady (pkRun s n).fr = steady s.fr := by
  unfold pkRun
  split <;> simp

@[simp] theorem flightTurn_steady (s n) : steady (flightTurn s n).fr = steady s.fr := by
  unfold flightTurn
  split <;> simp

@[simp] theorem flightFollow_fr (s n) : (flightFollow s n).fr = s.fr := by
  simp only [flightFollow]
  repeat' split
  all_goals simp

@[simp] theorem flightsBoundary_steady (s) : steady (flightsBoundary s).fr = steady s.fr := by simp [flightsBoundary]

/-! ## Sideband -/

@[simp] theorem i3cAssign_fr (s a) : (i3cAssign s a).fr = s.fr := by
  unfold i3cAssign
  split <;> simp

/-! ## Frame -/

theorem countUp_steady (s) : steady (countUp s).fr = (s.fr.count + 1, s.fr.released, s.fr.fatal, granSum s) := rfl
@[simp] theorem overrunsSeen_fr (s os) : (overrunsSeen s os).fr = s.fr := by simp [overrunsSeen]

@[simp] theorem ranShow_fr (s) : (ranShow s).fr = s.fr := by
  simp only [ranShow]
  exact (csMod_fr ..).trans (foldl_fr (fun _ _ => by rfl) _ _)

@[simp] theorem boundaryOne_steady (s env) :
    steady (boundaryOne s env).fr = (s.fr.count + 1, s.fr.released, s.fr.fatal, granSum s) := by
  simp [boundaryOne, countUp_steady]

@[simp] theorem tempBoundary_fr (s temps) : (tempBoundary s temps).fr = s.fr := by
  unfold tempBoundary
  split <;> simp

@[simp] theorem bankBoundary_fr (s mv) : (bankBoundary s mv).fr = s.fr := by
  unfold bankBoundary
  split <;> simp

@[simp] theorem forParcels_fr {f : State → Nat → State} (h : ∀ s p, (f s p).fr = s.fr) (s) : (forParcels s f).fr = s.fr :=
  foldl_fr h _ _

@[simp] theorem forParcels_steady {f : State → Nat → State} (h : ∀ s p, steady (f s p).fr = steady s.fr) (s) :
    steady (forParcels s f).fr = steady s.fr := foldl_steady h _ _

@[simp] theorem boundaryTwo_steady (s) : steady (boundaryTwo s).fr = steady s.fr := by simp [boundaryTwo]
@[simp] theorem boundaryThree_steady (s) : steady (boundaryThree s).fr = steady s.fr := by simp [boundaryThree]

@[simp] theorem boundaryFive_steady (s) : steady (boundaryFive s).fr = steady s.fr := by
  simp only [boundaryFive]
  split <;> simp

@[simp] theorem occupancyMeter_fr (s) : (occupancyMeter s).fr = s.fr := by simp [occupancyMeter]
@[simp] theorem boundarySeven_steady (s) : steady (boundarySeven s).fr = steady s.fr := by simp [boundarySeven]
@[simp] theorem clusterBoundary_fr (s cl) : (clusterBoundary s cl).fr = s.fr := by simp [clusterBoundary]
@[simp] theorem tasksBoundary_steady (s) : steady (tasksBoundary s).fr = steady s.fr := by simp [tasksBoundary]
@[simp] theorem enginesBoundary_steady (s env) : steady (enginesBoundary s env).fr = steady s.fr := by simp [enginesBoundary]
@[simp] theorem mediaBoundary_steady (s) : steady (mediaBoundary s).fr = steady s.fr := by simp [mediaBoundary]
@[simp] theorem hostBoundary_steady (s env) : steady (hostBoundary s env).fr = steady s.fr := by simp [hostBoundary]
@[simp] theorem selfTestEnd_fr (s) : (selfTestEnd s).fr = s.fr := by simp [selfTestEnd]
@[simp] theorem firmwareBoundary_fr (s) : (firmwareBoundary s).fr = s.fr := by simp [firmwareBoundary]
@[simp] theorem boundaryEight_steady (s env) : steady (boundaryEight s env).fr = steady s.fr := by simp [boundaryEight]
@[simp] theorem boundaryRun_steady (s env) : steady (boundaryRun s env).fr = steady s.fr := by simp [boundaryRun]

theorem frameStep_steady (s env) (h : s.fr.released = true) :
    steady (frameStep s env).fr = (s.fr.count + 1, s.fr.released, s.fr.fatal, granSum s) := by
  simp [frameStep, h]

end Sys2Proof.Proofs
end

section
/-! SUPPORT. Registers and events: what a register holds after a write to it and to another, bit by bit, and what raising an event changes. -/
namespace Sys2Proof.Proofs
open Sys2Proof Sys2Proof.Machine Sys2Proof.Laws

/-! ## Bits of numbers (R4) -/

theorem bitOf_eq_testBit (v i : Nat) : bitOf v i = v.testBit i := by
  rw [bitOf, Nat.testBit_eq_decide_div_mod_eq]
  rfl

theorem testBit_bitsOf (v hi lo i : Nat) : (bitsOf v hi lo).testBit i = (decide (i < hi + 1 - lo) && v.testBit (lo + i)) := by
  simp [bitsOf, Nat.testBit_mod_two_pow, Nat.testBit_div_two_pow, Nat.add_comm]

/-- A field put into a number stands in its bits, and every other bit is as it was. -/
theorem testBit_putBits {v hi lo n : Nat} (le : lo ≤ hi) (i : Nat) :
    (putBits v hi lo n).testBit i = if lo ≤ i ∧ i ≤ hi then n.testBit (i - lo) else v.testBit i := by
  have field : n % 2 ^ (hi + 1 - lo) < 2 ^ (hi + 1 - lo) := Nat.mod_lt _ (Nat.two_pow_pos _)
  have low : v % 2 ^ lo < 2 ^ lo := Nat.mod_lt _ (Nat.two_pow_pos _)
  have wide : 2 ^ (hi + 1) = 2 ^ lo * 2 ^ (hi + 1 - lo) := by rw [← Nat.pow_add]; congr 1; omega
  have cut : putBits v hi lo n =
      2 ^ lo * (2 ^ (hi + 1 - lo) * (v / 2 ^ (hi + 1)) + n % 2 ^ (hi + 1 - lo)) + v % 2 ^ lo := by
    have whole := Nat.div_add_mod v (2 ^ lo)
    have upper := Nat.div_add_mod (v / 2 ^ lo) (2 ^ (hi + 1 - lo))
    rw [Nat.div_div_eq_div_mul, ← wide] at upper
    simp only [putBits, bitsOf]
    generalize v / 2 ^ lo % 2 ^ (hi + 1 - lo) = f at *
    generalize v / 2 ^ (hi + 1) = u at *
    generalize n % 2 ^ (hi + 1 - lo) = m at *
    rw [← upper] at whole
    have : 2 ^ lo * (2 ^ (hi + 1 - lo) * u + f) = 2 ^ lo * (2 ^ (hi + 1 - lo) * u) + f * 2 ^ lo := by
      rw [Nat.mul_add, Nat.mul_comm (2 ^ lo) f]
    have : 2 ^ lo * (2 ^ (hi + 1 - lo) * u + m) = 2 ^ lo * (2 ^ (hi + 1 - lo) * u) + m * 2 ^ lo := by
      rw [Nat.mul_add, Nat.mul_comm (2 ^ lo) m]
    omega
  rw [cut, Nat.testBit_two_pow_mul_add _ low, Nat.testBit_two_pow_mul_add _ field]
  by_cases below : i < lo
  · rw [if_pos below, if_neg (by omega), Nat.testBit_mod_two_pow]
    simp [below]
  · rw [if_neg below]
    by_cases above : i ≤ hi
    · rw [if_pos (by omega), if_pos (by omega), Nat.testBit_mod_two_pow]
      rw [decide_eq_true (show i - lo < hi + 1 - lo by omega), Bool.true_and]
    · rw [if_neg (by omega), if_neg (by omega), Nat.testBit_div_two_pow]
      congr 1
      omega

/-! ## A register after a write (R10, R14) -/

theorem regRaw_congr {s t : State} (h : t.regs = s.regs) (a : Nat) : regRaw t a = regRaw s a := by simp only [regRaw, h]

theorem regNat_lt (s : State) (a : Nat) : regNat s a < 2 ^ 32 := (regRaw s a).isLt

@[simp] theorem regNat_regPut (s : State) (a v : Nat) : regNat (regPut s a v) a = v % 2 ^ 32 := by
  simp [regNat, regRaw, regPut]

theorem regRaw_regPut_ne (s : State) {a b : Nat} (v : Nat) (h : b ≠ a) : regRaw (regPut s a v) b = regRaw s b :=
  tabGetD_tabSet_ne _ _ _ h

theorem regNat_regPut_ne (s : State) {a b : Nat} (v : Nat) (h : b ≠ a) : regNat (regPut s a v) b = regNat s b :=
  congrArg BitVec.toNat (regRaw_regPut_ne s v h)

@[simp] theorem regNat_regInc (s : State) (a : Nat) : regNat (regInc s a) a = (regNat s a + 1) % 2 ^ 32 := regNat_regPut ..

theorem regRaw_regInc_ne (s : State) {a b : Nat} (h : b ≠ a) : regRaw (regInc s a) b = regRaw s b := regRaw_regPut_ne s _ h

theorem regRaw_regPutFld_ne (s : State) {a b : Nat} (hi lo n : Nat) (h : b ≠ a) : regRaw (regPutFld s a hi lo n) b = regRaw s b :=
  regRaw_regPut_ne s _ h

theorem regRaw_regPutBit_ne (s : State) {a b : Nat} (i : Nat) (v : Bool) (h : b ≠ a) :
    regRaw (regPutBit s a i v) b = regRaw s b :=
  regRaw_regPut_ne s _ h

theorem testBit_regNat_regPutFld (s : State) (a : Nat) {hi lo : Nat} (n : Nat) (le : lo ≤ hi) (lt : hi < 32) (i : Nat) :
    (regNat (regPutFld s a hi lo n) a).testBit i = if lo ≤ i ∧ i ≤ hi then n.testBit (i - lo) else (regNat s a).testBit i := by
  rw [regPutFld, regNat_regPut, Nat.testBit_mod_two_pow, testBit_putBits le]
  by_cases wide : i < 32
  · simp [wide]
  · rw [if_neg (by omega), Nat.testBit_lt_two_pow (Nat.lt_of_lt_of_le (regNat_lt s a) (Nat.pow_le_pow_right (by omega) (by omega)))]
    simp

theorem regFld_regPutFld (s : State) (a : Nat) {hi lo : Nat} (n : Nat) (le : lo ≤ hi) (lt : hi < 32) :
    regFld (regPutFld s a hi lo n) a hi lo = n % 2 ^ (hi + 1 - lo) := by
  refine Nat.eq_of_testBit_eq fun i => ?_
  rw [regFld, testBit_bitsOf, testBit_regNat_regPutFld s a n le lt, Nat.testBit_mod_two_pow]
  by_cases inside : i < hi + 1 - lo
  · rw [if_pos (by omega), Nat.add_sub_cancel_left]
  · simp [inside]

theorem regBit_regPutFld_ne (s : State) (a : Nat) {hi lo i : Nat} (n : Nat) (le : lo ≤ hi) (lt : hi < 32) (h : i < lo ∨ hi < i) :
    regBit (regPutFld s a hi lo n) a i = regBit s a i := by
  rw [regBit, regBit, bitOf_eq_testBit, bitOf_eq_testBit, testBit_regNat_regPutFld s a n le lt, if_neg (by omega)]

theorem regBit_regPutBit (s : State) (a : Nat) {i : Nat} (v : Bool) (lt : i < 32) : regBit (regPutBit s a i v) a i = v := by
  rw [regBit, bitOf_eq_testBit, regPutBit, testBit_regNat_regPutFld s a _ (Nat.le_refl _) lt, if_pos ⟨(Nat.le_refl _), (Nat.le_refl _)⟩]
  cases v <;> simp [b2n]

theorem regBit_regPutBit_ne (s : State) (a : Nat) {i j : Nat} (v : Bool) (lt : i < 32) (h : j ≠ i) :
    regBit (regPutBit s a i v) a j = regBit s a j :=
  regBit_regPutFld_ne s a _ (Nat.le_refl _) lt (by omega)

/-! ## Raising an event (R686, R687) -/

theorem eventInUse_lt {n : Nat} (h : eventInUse n = true) : n < 512 := by
  simp only [eventInUse, Bool.or_eq_true, Bool.and_eq_true, decide_eq_true_eq] at h
  omega

@[simp] theorem evArm_regs (s : State) (n : Nat) : (evArm s n).regs = s.regs := by
  unfold evArm
  split <;> rfl

@[simp] theorem evArm_fwLatch (s : State) (n : Nat) : (evArm s n).ev.fwLatch = s.ev.fwLatch := by
  unfold evArm
  split <;> rfl

/-- Arming an event changes at most what waits to be sent. -/
theorem evArm_only (s : State) (n : Nat) : evArm s n = { s with ev := (evArm s n).ev } := by
  unfold evArm
  split <;> rfl

theorem raiseManager_only (s : State) (n : Nat) :
    raiseManager s n = { s with regs := (raiseManager s n).regs, ev := (raiseManager s n).ev } := by
  unfold raiseManager
  split
  · rw [evArm_only]
    rfl
  · rfl

/-- Raising an event changes registers and the event unit alone. -/
theorem raise_only (s : State) (n : Nat) : raise s n = { s with regs := (raise s n).regs, ev := (raise s n).ev } := by
  unfold raise
  split
  · rw [raiseManager_only]
  · rfl

@[simp] theorem raise_host (s : State) (n : Nat) : (raise s n).host = s.host := by rw [raise_only]
@[simp] theorem raise_dr (s : State) (n : Nat) : (raise s n).dr = s.dr := by rw [raise_only]
@[simp] theorem raise_mg (s : State) (n : Nat) : (raise s n).mg = s.mg := by rw [raise_only]

theorem regRaw_raiseManager_ne (s : State) {n a : Nat} (h : a ≠ EV_PENDING (n / 32)) : regRaw (raiseManager s n) a = regRaw s a := by
  unfold raiseManager
  split
  · rw [regRaw_congr (evArm_regs ..), regRaw_regPutBit_ne _ _ _ h]
  · rfl

/-- No register but the event's EV_PENDING word changes (R686). -/
theorem regRaw_raise_ne (s : State) {n a : Nat} (h : a ≠ EV_PENDING (n / 32)) : regRaw (raise s n) a = regRaw s a := by
  unfold raise
  split
  · exact (regRaw_raiseManager_ne _ h).trans (regRaw_congr rfl a)
  · rfl

theorem evPending_congr {s t : State} {n : Nat} (h : regRaw t (EV_PENDING (n / 32)) = regRaw s (EV_PENDING (n / 32))) :
    evPending t n = evPending s n := by
  simp only [evPending, regBit, regNat, h]

theorem evPending_raiseManager (s : State) {n : Nat} (use : eventInUse n = true) : evPending (raiseManager s n) n = true := by
  unfold raiseManager
  split
  · rw [evPending_congr (regRaw_congr (evArm_regs ..) _)]
    exact regBit_regPutBit _ _ _ (Nat.mod_lt _ (by decide))
  · simp_all

theorem evPending_raiseManager_ne (s : State) {n m : Nat} (h : m ≠ n) : evPending (raiseManager s n) m = evPending s m := by
  unfold raiseManager
  split
  · rw [evPending_congr (regRaw_congr (evArm_regs ..) _)]
    by_cases word : m / 32 = n / 32
    · rw [evPending, word]
      exact (regBit_regPutBit_ne _ _ _ (Nat.mod_lt _ (by decide)) (by omega)).trans (by rw [evPending, word])
    · exact evPending_congr (regRaw_regPutBit_ne _ _ _ (by simp only [EV_PENDING]; omega))
  · rfl

/-- An event that is raised shows in both latches, and no other event changes (R686). -/
theorem raised_raise (s : State) {n : Nat} (use : eventInUse n = true) : Says.raised s (raise s n) n := by
  have latch : (raise s n).ev.fwLatch = s.ev.fwLatch ||| (1#512 <<< n) := by
    simp only [raise, use, if_true, raiseManager]
    split <;> simp
  have lt := eventInUse_lt use
  refine ⟨?_, ?_, fun m ne hm => ⟨?_, ?_⟩⟩
  · simp only [raise, use, if_true]
    exact evPending_raiseManager _ use
  · simp [latch, lt]
  · simp only [raise, use, if_true]
    exact (evPending_raiseManager_ne _ ne).trans (evPending_congr (regRaw_congr rfl _))
  · simp [latch, hm]
    omega

/-- What is raised over a state is raised over one with the same EV_PENDING words and latch. -/
theorem raised_of_same {r s t : State} {n : Nat} (h : Says.raised s t n) (ev : s.ev = r.ev)
    (regs : ∀ i, i < 16 → regRaw s (EV_PENDING i) = regRaw r (EV_PENDING i)) : Says.raised r t n := by
  obtain ⟨pending, latch, others⟩ := h
  refine ⟨pending, latch, fun m ne hm => ?_⟩
  obtain ⟨same, kept⟩ := others m ne hm
  exact ⟨same.trans (evPending_congr (regs _ (by omega))), kept.trans (by rw [ev])⟩

end Sys2Proof.Proofs
end

section
/-! SUPPORT. The frame counter, its mark, and overruns (R22-R42). -/
namespace Sys2Proof.Proofs
open Sys2Proof Sys2Proof.Machine Sys2Proof.Laws

/-! ## The boundary and its mark (R22, R23, R28) -/

/-- Of all that a boundary does, step 1 alone counts the frame (R23). -/
theorem frameStep_count (s : State) (env : FrameEnv) (h : s.fr.released = true) : (frameStep s env).fr.count = s.fr.count + 1 :=
  congrArg Prod.fst (frameStep_steady s env h)

theorem frameStep_unreleased (s : State) (env : FrameEnv) (h : s.fr.released = false) : frameStep s env = s := by
  simp [frameStep, h]

theorem boundaryCounts_holds : Says.boundaryCounts := fun env s =>
  ⟨fun h => ⟨_, rfl, frameStep_count s env h⟩, fun h => ⟨_, rfl, frameStep_unreleased s env h⟩⟩

theorem marks_holds : Says.marks := by
  refine fun s => ⟨fun en due => ⟨_, rfl, ?_⟩, fun h => ⟨_, rfl, ?_⟩⟩
  · simpa [frameMarkTest, en, due] using raised_raise s (n := 0) rfl
  · rcases h with off | between
    · simp [frameMarkTest, off]
    · simp [frameMarkTest, between]

/-! ## Overruns (R37, R40, R42) -/

theorem diagFires_holds : Says.diagFires := by
  refine fun v s => ⟨fun set few => ⟨_, rfl, ?_⟩, fun h => ⟨_, rfl, ?_⟩⟩
  · simp [set, few]
  · rcases h with clear | many
    · simp [clear]
    · simp [Nat.not_lt.2 many]

/-- FR_OVERRUN_LAST's fields (R40). -/
theorem overrunLast_fields (synth : Bool) {c unit : Nat} (f : Nat) (hc : c < 8) (hu : unit < 64) :
    let v := (b2n synth * 2 ^ 31 + c % 8 * 2 ^ 28 + unit % 64 * 2 ^ 22 + f % 2 ^ 22) % 2 ^ 32
    bitOf v 31 = synth ∧ bitsOf v 30 28 = c ∧ bitsOf v 27 22 = unit ∧ bitsOf v 21 0 = f % 2 ^ 22 := by
  have one : b2n synth ≤ 1 := by cases synth <;> simp [b2n]
  simp only [bitOf, bitsOf]
  refine ⟨?_, by omega, by omega, by omega⟩
  cases synth
  · simp only [b2n, beq_eq_false_iff_ne] at *
    simp
    omega
  · simp only [b2n, beq_iff_eq] at *
    simp
    omega

theorem countedReg_ne_pending {c i : Nat} (h : c < 8) : FR_OVERRUN_COUNT c ≠ EV_PENDING i ∧ FR_OVERRUN_COUNT c ≠ FR_OVERRUN_LAST := by
  simp only [FR_OVERRUN_COUNT, EV_PENDING, FR_OVERRUN_LAST]
  omega

/-- An overrun counts in its class, whether or not its event is enabled. -/
theorem regNat_overrun_count (s : State) {c : Nat} (unit f : Nat) (synth : Bool) (hc : c < 8) :
    regNat (overrun s c unit f synth) (FR_OVERRUN_COUNT c) = (regNat s (FR_OVERRUN_COUNT c) + 1) % 2 ^ 32 := by
  have recorded (v : Nat) : regNat (regPut (regInc s (FR_OVERRUN_COUNT c)) FR_OVERRUN_LAST v) (FR_OVERRUN_COUNT c) =
      (regNat s (FR_OVERRUN_COUNT c) + 1) % 2 ^ 32 := by
    rw [regNat_regPut_ne _ _ (countedReg_ne_pending (i := 0) hc).2, regNat_regInc]
  simp only [overrun]
  split
  · rw [regNat, regRaw_raise_ne _ (countedReg_ne_pending hc).1]
    exact recorded _
  · exact recorded _

theorem overrunTold_overrun (s : State) {c unit : Nat} (f : Nat) (synth : Bool) (hc : c < 8) (hu : unit < 64) :
    Says.overrunTold s (overrun s c unit f synth) c unit f synth := by
  obtain ⟨synthAt, classAt, unitAt, frameAt⟩ := overrunLast_fields synth f hc hu
  have last : regNat (overrun s c unit f synth) FR_OVERRUN_LAST =
      (b2n synth * 2 ^ 31 + c % 8 * 2 ^ 28 + unit % 64 * 2 ^ 22 + f % 2 ^ 22) % 2 ^ 32 := by
    simp only [overrun]
    split
    · rw [regNat, regRaw_raise_ne _ (by decide)]
      exact regNat_regPut ..
    · exact regNat_regPut ..
  refine ⟨regNat_overrun_count s unit f synth hc, ?_, ?_, ?_, ?_, fun en => ?_⟩
  · rw [regBit, last, synthAt]
  · rw [regFld, last, classAt]
  · rw [regFld, last, unitAt]
  · rw [regFld, last, frameAt]
  · have enabled : regBit (regPut (regInc s (FR_OVERRUN_COUNT c)) FR_OVERRUN_LAST
        (b2n synth * 2 ^ 31 + c % 8 * 2 ^ 28 + unit % 64 * 2 ^ 22 + f % 2 ^ 22)) FR_OVERRUN_EVENT_EN c = true := by
      rw [regBit, regNat_regPut_ne _ _ (by decide), regNat, regRaw_regInc_ne _ (by simp only [FR_OVERRUN_COUNT, FR_OVERRUN_EVENT_EN]; omega)]
      exact en
    simp only [overrun, enabled, if_true]
    refine raised_of_same (raised_raise _ rfl) rfl fun i hi => ?_
    rw [regRaw_regPut_ne _ _ (by simp only [EV_PENDING, FR_OVERRUN_LAST]; omega), regRaw_regInc_ne _ (countedReg_ne_pending hc).1.symm]

theorem synthetic_holds : Says.synthetic := by
  refine fun s c hc => ⟨fun one => ⟨_, rfl, ?_, by rw [synthRecord_fr]⟩, fun two => ⟨_, rfl, by rw [synthRecord_fr], ?_⟩⟩
  · simp only [synthRecord, one, List.foldl]
    exact overrunTold_overrun { s with fr := { s.fr with synth := [] } } _ true (by omega) (by omega)
  · simp only [synthRecord, two, List.foldl]
    rw [regNat_overrun_count _ _ _ _ (by omega), regNat_overrun_count _ _ _ _ (by omega)]
    simp only [regNat, regRaw]
    omega

/-- Settles O36: every operation of a boundary after step 1 leaves the frame number; the mark and the overruns are what step 1 raises
and records. -/
theorem frameClock : Obligations.FrameClock :=
  ⟨boundaryCounts_holds, marks_holds, diagFires_holds, synthetic_holds⟩

end Sys2Proof.Proofs
end

section
/-! SUPPORT. Step 6 of a boundary: what the grant does to the balance, the accrual and the device's total of each class (R43, R183, R184). -/
namespace Sys2Proof.Proofs
open Sys2Proof Sys2Proof.Machine Sys2Proof.Laws

/-! ## Lists and tables -/

theorem getD_modAt {α : Type} (l : List α) (i j : Nat) (f : α → α) (d : α) :
    (modAt l i f).getD j d = if i = j ∧ j < l.length then f (l.getD j d) else l.getD j d := by
  induction l generalizing i j with
  | nil => simp [modAt]
  | cons a l ih =>
    cases i with
    | zero => cases j <;> simp [modAt]
    | succ i =>
      cases j with
      | zero => simp [modAt]
      | succ j => simpa [modAt] using ih i j

@[simp] theorem length_modAt {α : Type} (l : List α) (i : Nat) (f : α → α) : (modAt l i f).length = l.length := by
  induction l generalizing i with
  | nil => rfl
  | cons a l ih => cases i <;> simp [modAt, ih]

theorem nodup_keys {α : Type} {t : Table α} (h : tabSorted t = true) : (t.map (·.1)).Nodup := by
  rw [tabSorted_iff] at h
  exact List.pairwise_map.2 (h.imp Nat.ne_of_lt)

/-- In a sorted table an entry that stands is the one that is found. -/
theorem tabGet_of_mem {α : Type} {t : Table α} {e : Nat × α} (h : tabSorted t = true) (m : e ∈ t) : tabGet t e.1 = some e.2 := by
  rw [tabSorted_iff] at h
  induction t with
  | nil => cases m
  | cons x t ih =>
    rw [List.pairwise_cons] at h
    simp only [tabGet]
    rcases List.mem_cons.1 m with rfl | m
    · rw [if_pos rfl]
    · have := h.1 e m
      rw [if_neg (by omega), if_neg (by omega), ih h.2 m]

theorem mem_tabKeys {α : Type} {t : Table α} {k : Nat} {x : α} (p : α → Bool) (h : tabSorted t = true) (g : tabGet t k = some x) :
    k ∈ tabKeys t p ↔ p x = true := by
  simp only [tabKeys, List.mem_map, List.mem_filter]
  constructor
  · rintro ⟨e, ⟨m, pe⟩, rfl⟩
    rw [tabGet_of_mem h m] at g
    exact Option.some.inj g ▸ pe
  · exact fun px => ⟨(k, x), ⟨tabGet_mem g, px⟩, rfl⟩

theorem nodup_tabKeys {α : Type} {t : Table α} (p : α → Bool) (h : tabSorted t = true) : (tabKeys t p).Nodup :=
  nodup_keys (tabSorted_filter t _ h)

/-! ## A parcel under the grant -/

@[simp] theorem parGet_parMod (s : State) (p : Nat) (g : Parcel → Parcel) : parGet (parMod s p g) p = g (parGet s p) := by
  simp [parGet, parMod]

theorem parGet_parMod_ne (s : State) {p k : Nat} (g : Parcel → Parcel) (h : k ≠ p) : parGet (parMod s p g) k = parGet s k :=
  tabGetD_tabModD_ne _ _ _ _ h

/-- The accrual and the tokens of a class that a parcel gets (R183). -/
def due (x : Parcel) (cls : Nat) : Nat × Int :=
  grantOf (x.rate.getD cls 0) (depthOf x cls) (x.accr.getD cls 0) (x.bal.getD cls 0)

/-- The parcel after its grant of a class. -/
def granted (x : Parcel) (cls : Nat) : Parcel :=
  { x with accr := modAt x.accr cls fun _ => (due x cls).1, bal := modAt x.bal cls (· + (due x cls).2) }

theorem parGet_grantClass (s : State) (p cls : Nat) : parGet (grantClass s p cls) p = granted (parGet s p) cls := by
  have raw (u : State) (n : Int) : parGet (tokenGrantRaw u p cls n) p = { parGet u p with bal := modAt (parGet u p).bal cls (· + n) } :=
    parGet_parMod ..
  simp only [grantClass, raw, parGet_parMod]
  rfl

theorem parGet_grantClass_ne (s : State) {p k : Nat} (cls : Nat) (h : k ≠ p) : parGet (grantClass s p cls) k = parGet s k := by
  have raw (u : State) (n : Int) : parGet (tokenGrantRaw u p cls n) k = parGet u k := parGet_parMod_ne _ _ h
  rw [grantClass, raw, parGet_parMod_ne _ _ h]

theorem grants_grantClass (s : State) (p cls : Nat) :
    (grantClass s p cls).fr.grants = modAt s.fr.grants cls (· + (due (parGet s p) cls).2) := rfl

/-- A grant of a class leaves what is due of every other. -/
theorem due_granted_ne (x : Parcel) {a b : Nat} (h : a ≠ b) : due (granted x a) b = due x b := by
  simp only [due, granted, getD_modAt, h, false_and, if_false, depthOf]

theorem granted_bal (x : Parcel) (a b : Nat) :
    (granted x a).bal.getD b 0 = if a = b ∧ b < x.bal.length then x.bal.getD b 0 + (due x b).2 else x.bal.getD b 0 := by
  rw [granted, getD_modAt]
  split
  · next h => rw [h.1]
  · rfl

theorem granted_accr (x : Parcel) (a b : Nat) :
    (granted x a).accr.getD b 0 = if a = b ∧ b < x.accr.length then (due x b).1 else x.accr.getD b 0 := by
  rw [granted, getD_modAt]
  split
  · next h => rw [h.1]
  · rfl

theorem length_granted_bal (x : Parcel) (a : Nat) : (granted x a).bal.length = x.bal.length := length_modAt ..

theorem length_granted_accr (x : Parcel) (a : Nat) : (granted x a).accr.length = x.accr.length := length_modAt ..

/-- The grants of several classes, each at most once: the balance of a class among them rises by what was due at first. -/
theorem foldl_granted_bal (l : List Nat) (nd : l.Nodup) (x : Parcel) {cls : Nat} (hb : cls < x.bal.length) :
    (l.foldl granted x).bal.getD cls 0 = x.bal.getD cls 0 + if cls ∈ l then (due x cls).2 else 0 := by
  induction l generalizing x with
  | nil => simp
  | cons a l ih =>
    rw [List.nodup_cons] at nd
    rw [List.foldl_cons, ih nd.2 _ (length_granted_bal x a ▸ hb), granted_bal]
    by_cases e : a = cls
    · subst e
      rw [if_pos ⟨rfl, hb⟩, if_neg nd.1, if_pos List.mem_cons_self, Int.add_zero]
    · rw [if_neg (fun h => e h.1), due_granted_ne x e]
      simp only [List.mem_cons, Ne.symm e, false_or]

/-- And its accrual is what was due at first. -/
theorem foldl_granted_accr (l : List Nat) (nd : l.Nodup) (x : Parcel) {cls : Nat} (ha : cls < x.accr.length) :
    (l.foldl granted x).accr.getD cls 0 = if cls ∈ l then (due x cls).1 else x.accr.getD cls 0 := by
  induction l generalizing x with
  | nil => simp
  | cons a l ih =>
    rw [List.nodup_cons] at nd
    rw [List.foldl_cons, ih nd.2 _ (length_granted_accr x a ▸ ha), granted_accr]
    by_cases e : a = cls
    · subst e
      rw [if_neg nd.1, if_pos ⟨rfl, ha⟩, if_pos List.mem_cons_self]
    · rw [due_granted_ne x e]
      simp only [List.mem_cons, Ne.symm e, e, false_and, if_false, false_or]

/-! ## All parcels -/

/-- The grant of the four classes to a parcel. -/
def grantFour (s : State) (p : Nat) : State := [0, 1, 2, 3].foldl (fun s c => grantClass s p c) s

theorem parGet_foldl_grantClass (s : State) (p : Nat) (l : List Nat) :
    parGet (l.foldl (fun s c => grantClass s p c) s) p = l.foldl granted (parGet s p) := by
  induction l generalizing s with
  | nil => rfl
  | cons a l ih => rw [List.foldl_cons, List.foldl_cons, ih, parGet_grantClass]

theorem parGet_foldl_grantClass_ne (s : State) {p k : Nat} (l : List Nat) (h : k ≠ p) :
    parGet (l.foldl (fun s c => grantClass s p c) s) k = parGet s k := by
  induction l generalizing s with
  | nil => rfl
  | cons a l ih => rw [List.foldl_cons, ih, parGet_grantClass_ne _ _ h]

/-- Each parcel of a list without repeats gets its four grants, and no other any. -/
theorem parGet_foldl_grantFour (s : State) (l : List Nat) (nd : l.Nodup) (k : Nat) :
    parGet (l.foldl grantFour s) k = if k ∈ l then [0, 1, 2, 3].foldl granted (parGet s k) else parGet s k := by
  induction l generalizing s with
  | nil => simp
  | cons p l ih =>
    rw [List.nodup_cons] at nd
    rw [List.foldl_cons, ih _ nd.2]
    by_cases e : k = p
    · subst e
      rw [if_neg nd.1, if_pos List.mem_cons_self, grantFour, parGet_foldl_grantClass]
    · simp only [List.mem_cons, e, false_or]
      rw [grantFour, parGet_foldl_grantClass_ne _ _ e]

theorem grantAll_eq (s : State) : grantAll s =
    (let t := (tabKeys s.pc.parcels fun x => x.st == .active).foldl grantFour s
     { t with pc := { t.pc with parcels := tabMap t.pc.parcels fun _ x => { x with shown := x.bal } } }) := rfl

/-- The balances that are shown are copies: showing them changes neither balance nor accrual. -/
theorem parGet_grantAll (s : State) (k : Nat) :
    let t := (tabKeys s.pc.parcels fun x => x.st == .active).foldl grantFour s
    (parGet (grantAll s) k).bal = (parGet t k).bal ∧ (parGet (grantAll s) k).accr = (parGet t k).accr := by
  intro t
  have shown : parGet (grantAll s) k = ((tabGet t.pc.parcels k).map fun x => { x with shown := x.bal }).getD {} := by
    rw [grantAll_eq, parGet, tabGetD, tabGet_tabMap]
  rw [shown, parGet, tabGetD]
  cases tabGet t.pc.parcels k <;> exact ⟨rfl, rfl⟩

theorem grantOf_full {rate depth accr : Nat} {bal : Int} (h : (depth : Int) ≤ bal) : grantOf rate depth accr bal = (0, 0) := if_pos h

theorem grantOf_room {rate depth accr : Nat} {bal : Int} (h : bal < (depth : Int)) : grantOf rate depth accr bal =
    ((accr + rate) % 256, min (((accr + rate) / 256 : Nat) : Int) ((depth : Int) - bal)) :=
  if_neg (Int.not_le.2 h)

theorem grantIs_of_due {x y : Parcel} {cls : Nat} (bal : y.bal.getD cls 0 = x.bal.getD cls 0 + (due x cls).2)
    (accr : y.accr.getD cls 0 = (due x cls).1) : Says.grantIs x y cls := by
  have depth : (depthOf x cls : Int) = max 1 (x.depth.getD cls 64 : Int) := by
    simp only [depthOf]
    omega
  refine ⟨fun full => ?_, fun room => ?_⟩
  · rw [bal, accr, due, grantOf_full (depth ▸ full)]
    exact ⟨rfl, Int.add_zero _⟩
  · rw [bal, accr, due, grantOf_room (depth ▸ room)]
    refine ⟨rfl, ?_⟩
    simp only [depth]
    omega

/-- The device's grants of a class rise by what the parcel gets of it (R43). -/
theorem grants_foldl_grantClass (s : State) (p : Nat) (l : List Nat) (nd : l.Nodup) {cls : Nat} (hg : cls < s.fr.grants.length) :
    (l.foldl (fun s c => grantClass s p c) s).fr.grants.getD cls 0 =
      s.fr.grants.getD cls 0 + if cls ∈ l then (due (parGet s p) cls).2 else 0 := by
  induction l generalizing s with
  | nil => simp
  | cons a l ih =>
    rw [List.nodup_cons] at nd
    rw [List.foldl_cons, ih _ nd.2 (by simpa [grants_grantClass] using hg), grants_grantClass, parGet_grantClass, getD_modAt]
    by_cases e : a = cls
    · subst e
      rw [if_pos ⟨rfl, hg⟩, if_neg nd.1, if_pos List.mem_cons_self, Int.add_zero]
    · rw [if_neg (fun h => e h.1), due_granted_ne _ e]
      simp only [List.mem_cons, Ne.symm e, false_or]

theorem four_classes {cls : Nat} (h : cls < 4) : cls ∈ [0, 1, 2, 3] := by
  simp only [List.mem_cons, List.not_mem_nil, or_false]
  omega

theorem grantsTokens_holds : Says.grantsTokens := by
  refine fun s sorted => ⟨fun k x found => ?_, fun k x only cls four hb hg => ?_⟩
  · obtain ⟨bal, accr⟩ := parGet_grantAll s k
    have stands : parGet s k = x := by rw [parGet, tabGetD, found, Option.getD_some]
    have active := mem_tabKeys (fun x : Parcel => x.st == .active) sorted found
    rw [parGet_foldl_grantFour s _ (nodup_tabKeys _ sorted), stands] at bal accr
    refine ⟨fun st cls four hb ha => ?_, fun st => ?_⟩
    · have all := four_classes four
      rw [if_pos (active.2 (by simp [st]))] at bal accr
      refine grantIs_of_due ?_ ?_
      · rw [bal, foldl_granted_bal _ (by decide) x hb, if_pos all]
      · rw [accr, foldl_granted_accr _ (by decide) x ha, if_pos all]
    · rw [if_neg fun m => st (by simpa using active.1 m)] at bal accr
      exact ⟨bal, accr⟩
  · have stands : parGet s k = x := by simp [parGet, tabGetD, only, tabGet]
    have bal := (parGet_grantAll s k).1
    have told : (grantAll s).fr.grants = ((tabKeys s.pc.parcels fun x => x.st == .active).foldl grantFour s).fr.grants := rfl
    rw [told, bal]
    by_cases st : x.st = .active
    · have one : (tabKeys s.pc.parcels fun x => x.st == .active) = [k] := by simp [tabKeys, only, st]
      rw [one, List.foldl_cons, List.foldl_nil, grantFour, grants_foldl_grantClass s k _ (by decide) hg, if_pos (four_classes four),
        parGet_foldl_grantClass, stands, foldl_granted_bal _ (by decide) x hb, if_pos (four_classes four)]
      omega
    · have none : (tabKeys s.pc.parcels fun x => x.st == .active) = [] := by simp [tabKeys, only, st]
      rw [none, List.foldl_nil, stands, Int.sub_self, Int.sub_self]

end Sys2Proof.Proofs
end

section
/-! SUPPORT. The audit, discarding paths and stale messages (R45, R52-R57, R113, R198, R644). -/
namespace Sys2Proof.Proofs
open Sys2Proof Sys2Proof.Machine Sys2Proof.Laws

/-! ## The audit (R52-R57) -/

theorem snapshots_holds : Says.snapshots := by
  refine fun s new => ⟨fun pos due => ⟨_, rfl, ?_⟩, fun h => ⟨_, rfl, ?_⟩⟩
  · rw [auditTake, if_pos ⟨pos, due, new⟩]
    exact ⟨rfl, _, rfl, rfl, rfl, rfl⟩
  · exact if_neg fun ⟨pos, due, _⟩ => h.elim pos (fun odd => odd due)

theorem discardsReturn_holds : Says.discardsReturn := by
  intro n s le
  refine ⟨_, rfl, ?_, ?_, rfl, rfl⟩ <;> simp [granReturn, Nat.min_eq_left le]

/-- The two registers that take the snapshot. -/
def auditTold (s : State) (a : AuditSnap) : State :=
  regPut (regPut { s with fr := { s.fr with snap := none } } FR_AUDIT_LAST a.boundary) FR_AUDIT_GRANULES (a.sum % 32768)

/-- FR_AUDIT_STATUS after a granule sum that is wrong, and after the first class with a token gap. -/
def auditGranules (s : State) (a : AuditSnap) : State := if a.sum ≠ 16384 then regPutBit s FR_AUDIT_STATUS 0 true else s

def auditTokens (s : State) (a : AuditSnap) : State :=
  match a.tokens.findIdx? (· ≠ 0) with
  | some c => regPutFld (regPutBit s FR_AUDIT_STATUS 1 true) FR_AUDIT_STATUS 4 2 c
  | none => s

/-- An imbalance counts and raises event 2. -/
def auditFails (s : State) (a : AuditSnap) : State :=
  if a.sum ≠ 16384 ∨ (a.tokens.findIdx? (· ≠ 0)).isSome then raise (regInc s FR_AUDIT_FAILS) 2 else s

theorem auditCompare_eq {s : State} {a : AuditSnap} (h : s.fr.snap = some a) :
    auditCompare s = auditFails (auditTokens (auditGranules (auditTold s a) a) a) a := by
  simp only [auditCompare, h]
  rfl

theorem auditGranules_only (s : State) (a : AuditSnap) : auditGranules s a = { s with regs := (auditGranules s a).regs } := by
  unfold auditGranules
  split <;> rfl

theorem auditTokens_only (s : State) (a : AuditSnap) : auditTokens s a = { s with regs := (auditTokens s a).regs } := by
  unfold auditTokens
  split <;> rfl

theorem auditFails_only (s : State) (a : AuditSnap) :
    auditFails s a = { s with regs := (auditFails s a).regs, ev := (auditFails s a).ev } := by
  unfold auditFails
  split
  · rw [raise_only]
    rfl
  · rfl

theorem regRaw_auditGranules_ne (s : State) (a : AuditSnap) {b : Nat} (h : b ≠ FR_AUDIT_STATUS) :
    regRaw (auditGranules s a) b = regRaw s b := by
  unfold auditGranules
  split
  · exact regRaw_regPutBit_ne s _ _ h
  · rfl

theorem regRaw_auditTokens_ne (s : State) (a : AuditSnap) {b : Nat} (h : b ≠ FR_AUDIT_STATUS) :
    regRaw (auditTokens s a) b = regRaw s b := by
  unfold auditTokens
  split
  · rw [regRaw_regPutFld_ne _ _ _ _ h, regRaw_regPutBit_ne _ _ _ h]
  · rfl

theorem regRaw_auditFails_ne (s : State) (a : AuditSnap) {b : Nat} (pending : b ≠ EV_PENDING 0) (h : b ≠ FR_AUDIT_FAILS) :
    regRaw (auditFails s a) b = regRaw s b := by
  unfold auditFails
  split
  · rw [regRaw_raise_ne _ pending, regRaw_regInc_ne _ h]
  · rfl

/-- The two steps at FR_AUDIT_STATUS leave every other register. -/
theorem regRaw_auditStatus_ne (s : State) (a : AuditSnap) {b : Nat} (h : b ≠ FR_AUDIT_STATUS) :
    regRaw (auditTokens (auditGranules s a) a) b = regRaw s b := by
  rw [regRaw_auditTokens_ne _ _ h, regRaw_auditGranules_ne _ _ h]

theorem regRaw_auditTold_ne (s : State) (a : AuditSnap) {b : Nat} (last : b ≠ FR_AUDIT_LAST) (sum : b ≠ FR_AUDIT_GRANULES) :
    regRaw (auditTold s a) b = regRaw s b := by
  rw [auditTold, regRaw_regPut_ne _ _ sum, regRaw_regPut_ne _ _ last]
  rfl

/-- The bit of a wrong granule sum stays beside the token fields. -/
theorem regBit_auditTokens_zero (s : State) (a : AuditSnap) : regBit (auditTokens s a) FR_AUDIT_STATUS 0 = regBit s FR_AUDIT_STATUS 0 := by
  unfold auditTokens
  split
  · rw [regBit_regPutFld_ne _ _ _ (by decide) (by decide) (by decide), regBit_regPutBit_ne _ _ _ (by decide) (by decide)]
  · rfl

/-- The class told is the first whose tokens do not balance. -/
theorem auditTokens_class (s : State) {a : AuditSnap} {c : Nat} (hc : c < 4) (h : a.tokens.findIdx? (· ≠ 0) = some c) :
    regBit (auditTokens s a) FR_AUDIT_STATUS 1 = true ∧ regFld (auditTokens s a) FR_AUDIT_STATUS 4 2 = c := by
  simp only [auditTokens, h]
  constructor
  · rw [regBit_regPutFld_ne _ _ _ (by decide) (by decide) (by decide), regBit_regPutBit _ _ _ (by decide)]
  · rw [regFld_regPutFld _ _ _ (by decide) (by decide)]
    omega

theorem findIdx_first {l : List Int} {c : Nat} (before : ∀ d, d < c → l.getD d 0 = 0) (at_c : l.getD c 0 ≠ 0) :
    l.findIdx? (· ≠ 0) = some c := by
  have lt : c < l.length := by
    refine Nat.lt_of_not_le fun out => at_c ?_
    rw [List.getD_eq_getElem?_getD, List.getElem?_eq_none out, Option.getD_none]
  rw [List.findIdx?_eq_some_iff_getElem]
  rw [List.getD_eq_getElem?_getD, List.getElem?_eq_getElem lt, Option.getD_some] at at_c
  refine ⟨lt, by simpa using at_c, fun d hd => ?_⟩
  have zero := before d hd
  rw [List.getD_eq_getElem?_getD, List.getElem?_eq_getElem (Nat.lt_trans hd lt), Option.getD_some] at zero
  simpa using zero

theorem pending_ne_audit (i : Nat) : EV_PENDING i ≠ FR_AUDIT_STATUS ∧ EV_PENDING i ≠ FR_AUDIT_LAST ∧
    EV_PENDING i ≠ FR_AUDIT_FAILS ∧ EV_PENDING i ≠ FR_AUDIT_GRANULES := by
  simp only [EV_PENDING, FR_AUDIT_STATUS, FR_AUDIT_LAST, FR_AUDIT_FAILS, FR_AUDIT_GRANULES]
  omega

theorem compares_holds : Says.compares := by
  intro s x snap small four
  refine ⟨auditCompare s, rfl, ?_⟩
  rw [auditCompare_eq snap]
  generalize hu : auditTokens (auditGranules (auditTold s x) x) x = u
  have only : u = { s with fr := { s.fr with snap := none }, regs := u.regs } := by
    rw [← hu, auditTokens_only, auditGranules_only]
    rfl
  have told {b : Nat} (h : b ≠ FR_AUDIT_STATUS) : regRaw u b = regRaw (auditTold s x) b := by rw [← hu, regRaw_auditStatus_ne _ _ h]
  have before {b : Nat} (status : b ≠ FR_AUDIT_STATUS) (last : b ≠ FR_AUDIT_LAST) (sum : b ≠ FR_AUDIT_GRANULES) :
      regRaw u b = regRaw s b := (told status).trans (regRaw_auditTold_ne s x last sum)
  have status : regRaw (auditFails u x) FR_AUDIT_STATUS = regRaw u FR_AUDIT_STATUS := regRaw_auditFails_ne _ _ (by decide) (by decide)
  refine ⟨?_, ?_, ?_, ?_, fun sum tokens => ?_, fun bad => ?_, fun sum => ?_, fun c hc zeros gap => ?_⟩
  · rw [regNat, regRaw_auditFails_ne _ _ (by decide) (by decide), told (by decide), auditTold, regRaw_regPut_ne _ _ (by decide)]
    exact regNat_regPut ..
  · rw [regNat, regRaw_auditFails_ne _ _ (by decide) (by decide), told (by decide), auditTold]
    exact (regNat_regPut ..).trans (by omega)
  · rw [auditFails_only, only]
  · rw [auditFails_only, only]
  · have none : x.tokens.findIdx? (· ≠ 0) = none := by simpa using tokens
    have balanced : auditFails u x = u := by simp only [auditFails, sum, none]; rfl
    have same : u = auditTold s x := by rw [← hu]; simp only [auditTokens, auditGranules, sum, none]; rfl
    rw [balanced]
    refine ⟨by rw [only], congrArg BitVec.toNat (before (by decide) (by decide) (by decide)), ?_⟩
    rw [same, regNat, regRaw_auditTold_ne _ _ (by decide) (by decide)]
    rfl
  · have fails : auditFails u x = raise (regInc u FR_AUDIT_FAILS) 2 := by
      refine if_pos (bad.imp_right fun ⟨g, m, ne⟩ => ?_)
      rw [List.findIdx?_isSome, List.any_eq_true]
      exact ⟨g, m, by simpa using ne⟩
    rw [fails]
    refine ⟨raised_of_same (raised_raise _ rfl) (by rw [only]; rfl) fun i _ => ?_, ?_⟩
    · obtain ⟨apart, last, failed, granules⟩ := pending_ne_audit i
      rw [regRaw_regInc_ne _ failed, before apart last granules]
    · rw [regNat, regRaw_raise_ne _ (by decide)]
      refine (regNat_regInc ..).trans ?_
      rw [regNat, before (by decide) (by decide) (by decide), regNat]
  · rw [regBit, regNat, status, ← hu]
    refine (regBit_auditTokens_zero _ x).trans ?_
    rw [auditGranules, if_pos sum, regBit_regPutBit _ _ _ (by decide)]
  · rw [regBit, regFld, regNat, status, ← hu]
    exact auditTokens_class _ hc (findIdx_first zeros gap)

/-! ## Stale messages (R45, R113, R198) -/

/-- A stale message is counted where it came from. -/
def msgCounted (s : State) (m : Msg) : State := if m.fabric then raise (regInc s FX_STALE_COUNT) 113 else regInc s HQ_STALE_COUNT

theorem msgCounted_only (s : State) (m : Msg) : msgCounted s m = { s with regs := (msgCounted s m).regs, ev := (msgCounted s m).ev } := by
  unfold msgCounted
  split
  · rw [raise_only]
    rfl
  · rfl

theorem regRaw_msgCounted_ne (s : State) (m : Msg) {a : Nat} (fabric : a ≠ FX_STALE_COUNT) (host : a ≠ HQ_STALE_COUNT)
    (pending : a ≠ EV_PENDING 3) : regRaw (msgCounted s m) a = regRaw s a := by
  unfold msgCounted
  split
  · rw [regRaw_raise_ne _ pending, regRaw_regInc_ne _ fabric]
  · exact regRaw_regInc_ne _ host

theorem regNat_msgCounted_fabric (s : State) {m : Msg} (h : m.fabric = true) :
    regNat (msgCounted s m) FX_STALE_COUNT = (regNat s FX_STALE_COUNT + 1) % 2 ^ 32 ∧ Says.raised s (msgCounted s m) 113 := by
  rw [msgCounted, if_pos h]
  refine ⟨?_, raised_of_same (raised_raise _ rfl) rfl fun i _ => ?_⟩
  · rw [regNat, regRaw_raise_ne _ (by decide)]
    exact regNat_regInc ..
  · exact regRaw_regInc_ne _ (by simp only [EV_PENDING, FX_STALE_COUNT]; omega)

theorem regNat_msgCounted_host (s : State) {m : Msg} (h : m.fabric = false) :
    regNat (msgCounted s m) HQ_STALE_COUNT = (regNat s HQ_STALE_COUNT + 1) % 2 ^ 32 ∧ (msgCounted s m).ev = s.ev := by
  rw [msgCounted, if_neg (by simp [h])]
  exact ⟨regNat_regInc .., rfl⟩

theorem msgDiscard_late {s : State} {m : Msg} {l : Late}
    (h : (tkGet s m.ticket).earlier.find? (·.edition == m.tkEdition) = some l) : msgDiscard s m =
      let k := if l.count ≤ 1 then l.gran else min m.granules l.gran
      granDiscardTick (tkMod (msgCounted s m) m.ticket fun t => { t with earlier := lateGot m.tkEdition k t.earlier }) m.ticket k := by
  have ticket : tkGet (msgCounted s m) m.ticket = tkGet s m.ticket := by rw [msgCounted_only]; rfl
  have counted : (if m.fabric then raise (regInc s FX_STALE_COUNT) 113 else regInc s HQ_STALE_COUNT) = msgCounted s m := rfl
  simp only [msgDiscard, counted, ticket, h]

theorem msgDiscard_live {s : State} {m : Msg}
    (h : (tkGet s m.ticket).earlier.find? (·.edition == m.tkEdition) = none) : msgDiscard s m =
      let k := min m.granules (tkGet s m.ticket).gran
      granDiscardTick (tkMod (msgCounted s m) m.ticket fun t => { t with gran := t.gran - k }) m.ticket k := by
  have ticket : tkGet (msgCounted s m) m.ticket = tkGet s m.ticket := by rw [msgCounted_only]; rfl
  have counted : (if m.fabric then raise (regInc s FX_STALE_COUNT) 113 else regInc s HQ_STALE_COUNT) = msgCounted s m := rfl
  simp only [msgDiscard, counted, ticket, h]

/-- Granules that a ticket gives up change the ledgers alone. -/
theorem granDiscardTick_only (s : State) (i n : Nat) : granDiscardTick s i n = { s with fr := (granDiscardTick s i n).fr } := by
  unfold granDiscardTick
  simp only
  split <;> rfl

theorem granDiscardTick_ledgers (s : State) (i n : Nat) :
    (granDiscardTick s i n).fr.disc = s.fr.disc + min n s.fr.tick ∧ (granDiscardTick s i n).fr.pool = s.fr.pool := by
  unfold granDiscardTick
  simp only
  split
  · next h => exact ⟨by omega, rfl⟩
  · exact ⟨rfl, rfl⟩

@[simp] theorem tkGet_granDiscardTick (s : State) (i n j : Nat) : tkGet (granDiscardTick s i n) j = tkGet s j := by
  rw [granDiscardTick_only]
  rfl

@[simp] theorem tkGet_tkMod (s : State) (i : Nat) (g : Ticket → Ticket) : tkGet (tkMod s i g) i = g (tkGet s i) := by
  simp [tkGet, tkMod]

/-- Where a ticket changes after the count, the ledgers and every ticket before it are those of `s`. -/
theorem fr_tkMod_msgCounted (s : State) (m : Msg) (g : Ticket → Ticket) : (tkMod (msgCounted s m) m.ticket g).fr = s.fr := by
  rw [msgCounted_only]
  rfl

theorem tkGet_tkMod_msgCounted (s : State) (m : Msg) (g : Ticket → Ticket) :
    tkGet (tkMod (msgCounted s m) m.ticket g) m.ticket = g (tkGet s m.ticket) := by
  rw [tkGet_tkMod, msgCounted_only]
  rfl

theorem exec_stale_noLine {m : Msg} (s : State) (h : m.line = none) : exec (.staleMessageDiscard m) s = .next (messageTake s m) := by
  change execStaleMessageDiscard m s = _
  simp only [execStaleMessageDiscard, h]

theorem staleGoes_holds : Says.staleGoes := by
  refine fun m s line room live => ⟨fun stale => ⟨_, exec_stale_noLine s line, ?_⟩, fun fresh => ⟨_, exec_stale_noLine s line, ?_⟩⟩
  · have none : (tkGet s m.ticket).earlier.find? (·.edition == m.tkEdition) = none := by simpa using live
    rw [messageTake, if_pos stale, msgDiscard_live none]
    simp only
    rw [(granDiscardTick_ledgers ..).1, (granDiscardTick_ledgers ..).2, tkGet_granDiscardTick, tkGet_tkMod_msgCounted,
      fr_tkMod_msgCounted, granDiscardTick_only]
    refine ⟨regNat_msgCounted_fabric s, regNat_msgCounted_host s, by omega, rfl, ?_, rfl⟩
    simp only
    omega
  · rw [messageTake, if_neg (by simp [fresh])]

theorem lateGoes_holds : Says.lateGoes := by
  intro m s l line stale one ed room few
  refine ⟨_, exec_stale_noLine s line, ?_⟩
  have found : (tkGet s m.ticket).earlier.find? (·.edition == m.tkEdition) = some l := by simp [one, ed]
  rw [messageTake, if_pos stale, msgDiscard_late found]
  simp only
  rw [(granDiscardTick_ledgers ..).1, tkGet_granDiscardTick, tkGet_tkMod_msgCounted, fr_tkMod_msgCounted]
  refine ⟨fun last => ?_, fun more => ?_, rfl⟩
  · simp [one, lateGot, ed, last]
    omega
  · have nl : ¬ l.count ≤ 1 := by omega
    simp only [if_neg nl, Nat.min_eq_left few, one, lateGot, ed, if_true, true_and]
    omega

/-! ## Readers of a ticket's line (R644) -/

theorem memSame_of_dr {s t : State} (h : t.dr = s.dr) : Says.memSame s t :=
  ⟨fun _ => by simp only [memGet, h], fun _ => by simp only [wordGet, h]⟩

/-- Discarding a message leaves memory, and every register but its count and the word of event 113. -/
theorem msgDiscard_cases (s : State) (m : Msg) : ∃ g n, msgDiscard s m = granDiscardTick (tkMod (msgCounted s m) m.ticket g) m.ticket n := by
  cases h : (tkGet s m.ticket).earlier.find? (·.edition == m.tkEdition) with
  | none => exact ⟨_, _, msgDiscard_live h⟩
  | some l => exact ⟨_, _, msgDiscard_late h⟩

theorem dr_msgDiscard (s : State) (m : Msg) : (msgDiscard s m).dr = s.dr := by
  obtain ⟨g, n, h⟩ := msgDiscard_cases s m
  rw [h, granDiscardTick_only, msgCounted_only]
  rfl

theorem regs_msgDiscard (s : State) (m : Msg) : (msgDiscard s m).regs = (msgCounted s m).regs := by
  obtain ⟨g, n, h⟩ := msgDiscard_cases s m
  rw [h, granDiscardTick_only]
  rfl

theorem tagsChecked_holds : Says.tagsChecked := by
  refine fun m s l u line span read => ⟨fun wrong => ⟨msgDiscard (raise (regInc u EC_TAG_MISMATCH) 489) m, ?_, ?_, ?_, ?_⟩,
    fun right fresh => ⟨u, ?_, rfl⟩⟩
  · change execStaleMessageDiscard m s = _
    simp [execStaleMessageDiscard, line, span, read, tagWrong, wrong]
  · rw [regNat, regRaw_congr (regs_msgDiscard ..), regRaw_msgCounted_ne _ _ (by decide) (by decide) (by decide),
      regRaw_raise_ne _ (by decide)]
    exact regNat_regInc ..
  · rw [evPending_congr (regRaw_congr (regs_msgDiscard ..) _), evPending_congr (regRaw_msgCounted_ne _ _ (by decide) (by decide) (by decide))]
    exact (raised_raise _ rfl).1
  · exact memSame_of_dr ((dr_msgDiscard ..).trans (raise_dr ..))
  · change execStaleMessageDiscard m s = _
    simp [execStaleMessageDiscard, line, span, read, tagWrong, right, messageTake, fresh]

end Sys2Proof.Proofs
end

section
/-! SUPPORT. FATAL_ENTRY (R32, R50, R759): what closing connections and aborting packets leave standing. -/
namespace Sys2Proof.Proofs
open Sys2Proof Sys2Proof.Machine Sys2Proof.Laws

/-- What FATAL_ENTRY speaks of, and what its parts, connection by connection and packet by packet, leave standing. -/
structure FatalView where
  fatal : Bool
  ctrls : Table Ctrl
  conns : List Nat
  flights : Table Flight
  jobs : Table Job
  cores : Table Core
  status : Reg
  pending : Reg

def fatalView (s : State) : FatalView :=
  ⟨s.fr.fatal, s.host.ctrls, s.host.conns.map (·.1), s.mg.flights, s.en.jobs, s.cs.cores, regRaw s PW_STATUS, regRaw s (EV_PENDING 0)⟩

/-- The device stands in FATAL: the stage, the switch, event 20, and CFS in every controller (R32). -/
def Fatal (v : FatalView) : Prop :=
  v.fatal = true ∧ bitsOf v.status.toNat 31 29 = 5 ∧ bitOf v.pending.toNat 20 = true ∧ ∀ e ∈ v.ctrls, e.2.cfs = true

theorem foldl_view {α : Type} {f : State → α → State} (h : ∀ s a, fatalView (f s a) = fatalView s) (l : List α) (s : State) :
    fatalView (l.foldl f s) = fatalView s := by
  induction l generalizing s with
  | nil => rfl
  | cons a l ih => exact (ih _).trans (h s a)

/-- Registers other than the stage's and the first EV_PENDING word may change. -/
theorem fatalView_regs {s t : State} (rest : t = { s with regs := t.regs, ev := t.ev }) (status : regRaw t PW_STATUS = regRaw s PW_STATUS)
    (pending : regRaw t (EV_PENDING 0) = regRaw s (EV_PENDING 0)) : fatalView t = fatalView s := by
  rw [fatalView, status, pending, rest]
  rfl

/-! ## Connections (R32) -/

theorem keys_tabMod {α : Type} (t : Table α) (k : Nat) (f : α → α) : (tabMod t k f).map (·.1) = t.map (·.1) := by
  induction t with
  | nil => rfl
  | cons e t ih =>
    simp only [tabMod]
    split
    · rfl
    · split
      · rfl
      · simp [ih]

@[simp] theorem tkMod_view (s : State) (i : Nat) (g : Ticket → Ticket) : fatalView (tkMod s i g) = fatalView s := rfl

@[simp] theorem creditReturn_view (s : State) (c n : Nat) : fatalView (creditReturn s c n) = fatalView s := by
  simp only [fatalView, creditReturn, connMod, keys_tabMod]
  rfl

@[simp] theorem r2tWithdraw_view (s : State) (i : Nat) : fatalView (r2tWithdraw s i) = fatalView s := by
  simp only [r2tWithdraw]
  split
  · split <;> simp
  · rfl

@[simp] theorem granDiscardTick_view (s : State) (i n : Nat) : fatalView (granDiscardTick s i n) = fatalView s := by
  simp only [granDiscardTick]
  split <;> rfl

@[simp] theorem tkGranFree_view (s : State) (i : Nat) : fatalView (tkGranFree s i) = fatalView s := by
  simp only [tkGranFree]
  split
  · exact (granDiscardTick_view ..).trans rfl
  · split <;> rfl

@[simp] theorem meterAdd_view (s : State) (p m n : Nat) : fatalView (meterAdd s p m n) = fatalView s := by
  simp only [meterAdd]
  split <;> rfl

/-- An internal end counts in HQ_INTERNAL_COUNT and in its parcel. -/
@[simp] theorem tkCount_internal_view (s : State) (i : Nat) : fatalView (tkCount s i true) = fatalView s := by
  have counted : fatalView (regInc s HQ_INTERNAL_COUNT) = fatalView s :=
    fatalView_regs rfl (regRaw_regInc_ne _ (by decide)) (regRaw_regInc_ne _ (by decide))
  simp only [tkCount, Bool.true_or, if_true]
  split
  · exact counted
  · exact (meterAdd_view ..).trans counted

@[simp] theorem tkFree_view (s : State) (i : Nat) : fatalView (tkFree s i) = fatalView s := rfl

@[simp] theorem tkInternal_view (s : State) (i : Nat) : fatalView (tkInternal s i) = fatalView s := by
  simp only [tkInternal]
  split
  · simp
  · rfl

/-- The tickets of a connection that closes end, and then its credits return. -/
def connTickets (s : State) (c : Nat) (x : Conn) : State :=
  (tksWhere s fun t => t.src == .fabric c).foldl (fun s i =>
    tkInternal (if x.tcp then s else tkMod s i fun t => { t with r2t := false }) i) s

def connCredits (s : State) (c : Nat) (x : Conn) : State :=
  creditReturn (connTickets s c x) c ((connGet (connTickets s c x) c).map (·.outstanding) |>.getD 0)

theorem connCredits_view (s : State) (c : Nat) (x : Conn) : fatalView (connCredits s c x) = fatalView s := by
  refine (creditReturn_view ..).trans (foldl_view (fun y i => ?_) _ _)
  rw [tkInternal_view]
  split <;> rfl

/-- The connection is gone, and its controller too where no other connection has it. -/
theorem connClose_some {s : State} {c : Nat} {x : Conn} (found : connGet s c = some x) : connClose s c =
    (let u := connCredits s c x
     let t := { u with host := { u.host with conns := tabErase u.host.conns c } }
     if tabCount t.host.conns (fun y => y.ctrl == x.ctrl) = 0 then
       { t with host := { t.host with ctrls := tabErase t.host.ctrls x.ctrl } }
     else t) := by
  simp only [connClose, found]
  rfl

theorem connClose_view {s : State} {c : Nat} {x : Conn} (found : connGet s c = some x) :
    (connClose s c).host.conns = tabErase (connCredits s c x).host.conns c ∧
    (∀ e ∈ (connClose s c).host.ctrls, e ∈ (connCredits s c x).host.ctrls) ∧
    fatalView (connClose s c) = { fatalView (connCredits s c x) with
      conns := (connClose s c).host.conns.map (·.1), ctrls := (connClose s c).host.ctrls } := by
  rw [connClose_some found]
  simp only
  split
  · exact ⟨rfl, fun e m => mem_tabErase m, rfl⟩
  · exact ⟨rfl, fun e m => m, rfl⟩

theorem tabSorted_congr {α β : Type} {t : Table α} {u : Table β} (h : t.map (·.1) = u.map (·.1)) : tabSorted t = tabSorted u := by
  have byKeys {γ : Type} (v : Table γ) : tabSorted v = true ↔ (v.map (·.1)).Pairwise (· < ·) := by
    rw [tabSorted_iff, List.pairwise_map]
  rw [Bool.eq_iff_iff, byKeys, byKeys, h]

theorem keys_tabErase {α : Type} {t : Table α} {k : Nat} (h : tabSorted t = true) {j : Nat} (m : j ∈ (tabErase t k).map (·.1)) :
    j ∈ t.map (·.1) ∧ j ≠ k := by
  obtain ⟨e, stands, rfl⟩ := List.mem_map.1 m
  refine ⟨List.mem_map.2 ⟨e, mem_tabErase stands, rfl⟩, fun same => ?_⟩
  have found := tabGet_of_mem (tabSorted_tabErase t k h) stands
  rw [same, tabGet_tabErase t k h] at found
  cases found

/-- Closing connection `c` takes its key away, and no other comes. -/
theorem conns_connClose (s : State) (c : Nat) (h : tabSorted s.host.conns = true) : tabSorted (connClose s c).host.conns = true ∧
    ∀ k ∈ (connClose s c).host.conns.map (·.1), k ∈ s.host.conns.map (·.1) ∧ k ≠ c := by
  cases found : connGet s c with
  | none =>
    have same : connClose s c = s := by simp only [connClose, found]
    rw [same]
    refine ⟨h, fun k m => ⟨m, fun e => ?_⟩⟩
    obtain ⟨x, stands, rfl⟩ := List.mem_map.1 m
    rw [connGet, ← e, tabGet_of_mem h stands] at found
    cases found
  | some x =>
    have keys : (connCredits s c x).host.conns.map (·.1) = s.host.conns.map (·.1) :=
      congrArg FatalView.conns (connCredits_view s c x)
    have sorted : tabSorted (connCredits s c x).host.conns = true := (tabSorted_congr keys).trans h
    rw [(connClose_view found).1, ← keys]
    exact ⟨tabSorted_tabErase _ _ sorted, fun k m => keys_tabErase sorted m⟩

theorem conns_foldl_connClose (l : List Nat) (s : State) (h : tabSorted s.host.conns = true) :
    ∀ k ∈ (l.foldl connClose s).host.conns.map (·.1), k ∈ s.host.conns.map (·.1) ∧ k ∉ l := by
  induction l generalizing s with
  | nil => exact fun k m => ⟨m, List.not_mem_nil⟩
  | cons c l ih =>
    obtain ⟨sorted, fewer⟩ := conns_connClose s c h
    intro k m
    obtain ⟨m, apart⟩ := ih _ sorted k m
    obtain ⟨m, ne⟩ := fewer k m
    exact ⟨m, by simp [ne, apart]⟩

/-- When every connection has closed, none is left. -/
theorem conns_all_closed (s : State) (h : tabSorted s.host.conns = true) :
    ((s.host.conns.map (·.1)).foldl connClose s).host.conns = [] := by
  rw [← List.map_eq_nil_iff (f := (·.1)), List.eq_nil_iff_forall_not_mem]
  exact fun k m => (conns_foldl_connClose _ s h k m).2 (conns_foldl_connClose _ s h k m).1

/-- Connections close: FATAL stands, and no packet in flight changes. -/
theorem fatal_connClose (s : State) (c : Nat) (h : Fatal (fatalView s)) :
    Fatal (fatalView (connClose s c)) ∧ (connClose s c).mg.flights = s.mg.flights := by
  cases found : connGet s c with
  | none =>
    have same : connClose s c = s := by simp only [connClose, found]
    rw [same]
    exact ⟨h, rfl⟩
  | some x =>
    have view := connCredits_view s c x
    obtain ⟨-, ctrls, closed⟩ := connClose_view found
    rw [← view] at h
    obtain ⟨fatal, stage, pending, cfs⟩ := h
    refine ⟨?_, (congrArg FatalView.flights closed).trans (congrArg FatalView.flights view)⟩
    rw [closed]
    exact ⟨fatal, stage, pending, fun e m => cfs e (ctrls e m)⟩

theorem fatal_foldl_connClose (l : List Nat) (s : State) (h : Fatal (fatalView s)) :
    Fatal (fatalView (l.foldl connClose s)) ∧ (l.foldl connClose s).mg.flights = s.mg.flights := by
  induction l generalizing s with
  | nil => exact ⟨h, rfl⟩
  | cons c l ih =>
    obtain ⟨stands, same⟩ := fatal_connClose s c h
    obtain ⟨stands, kept⟩ := ih _ stands
    exact ⟨stands, kept.trans same⟩

/-! ## Packets in flight (R50) -/

/-- In FATAL no packet's reply reaches a host ticket; registers and event 500 tell of it. -/
theorem replySend_view {s : State} (fev : Bool) (op : Nat) (p : Packet) (tkEd : Nat) (st : RStat) (result data : Bytes)
    (h : s.fr.fatal = true) : fatalView (replySend s fev op p tkEd st result data) = fatalView s := by
  have sent (c : Bool) (u : State) (o : Out) : fatalView (if c then u else emit u o) = fatalView u := by cases c <;> rfl
  have told (u : State) (a b : Nat) :
      fatalView (raise (regInc (regPut (regPut u MG_LAST a) MG_LAST_SEQ b) MG_REPLIES) 500) = fatalView u := by
    refine fatalView_regs (by rw [raise_only]; rfl) ?_ ?_ <;>
      rw [regRaw_raise_ne _ (by decide), regRaw_regInc_ne _ (by decide), regRaw_regPut_ne _ _ (by decide),
        regRaw_regPut_ne _ _ (by decide)]
  have none : (p.mctp || !p.mctp && (s.ev.powerFail || s.fr.fatal || !replyLive s p tkEd)) = true := by simp [h]
  simp only [replySend, none, if_true]
  split
  · rw [sent, sent]
  · rw [told, sent, sent]

/-- In FATAL a reply is never held for its data: the packet is gone. -/
theorem pkFail_view {s : State} {n : Nat} {f : Flight} (st : RStat) (h : s.fr.fatal = true) (found : flightGet s n = some f) :
    fatalView (pkFail s n st) = { fatalView s with flights := tabErase s.mg.flights n } := by
  have free : replyHeld s f [] = false := by simp [replyHeld]
  simp only [pkFail, pkReply, found, free, Bool.false_eq_true, if_false]
  rw [replySend_view]
  · rfl
  · exact h

theorem flightAbort_view (s : State) (n : Nat) (h : s.fr.fatal = true) :
    fatalView (flightAbort s n) = { fatalView s with flights := (flightAbort s n).mg.flights } ∧
    ((flightAbort s n).mg.flights = tabErase s.mg.flights n ∨
      (flightAbort s n).mg.flights = s.mg.flights ∧ ∀ f, tabGet s.mg.flights n = some f → f.applied = true) := by
  cases found : flightGet s n with
  | none =>
    have same : flightAbort s n = s := by simp only [flightAbort, found]
    rw [same]
    refine ⟨rfl, .inr ⟨rfl, fun f m => ?_⟩⟩
    rw [flightGet, m] at found
    cases found
  | some f =>
    by_cases due : (!f.applied || (!f.p.mctp && f.p.bufLen != 0)) = true
    · have view : fatalView (flightAbort s n) = { fatalView s with flights := tabErase s.mg.flights n } := by
        simp only [flightAbort, found, due, if_true, pkFail_view _ h found]
      have gone : (flightAbort s n).mg.flights = tabErase s.mg.flights n := congrArg FatalView.flights view
      exact ⟨gone ▸ view, .inl gone⟩
    · have same : flightAbort s n = s := by simp [flightAbort, found, due]
      rw [same]
      refine ⟨rfl, .inr ⟨rfl, fun g m => ?_⟩⟩
      rw [flightGet, m] at found
      cases found
      simp at due
      exact due.1

/-- Of the packets in flight those that had not taken effect are gone. -/
theorem foldl_flightAbort (l : List Nat) (s : State) (h : s.fr.fatal = true) (sorted : tabSorted s.mg.flights = true) :
    fatalView (l.foldl flightAbort s) = { fatalView s with flights := (l.foldl flightAbort s).mg.flights } ∧
    ∀ n f, tabGet (l.foldl flightAbort s).mg.flights n = some f → tabGet s.mg.flights n = some f ∧ (n ∈ l → f.applied = true) := by
  induction l generalizing s with
  | nil => exact ⟨rfl, fun n f m => ⟨m, fun h => absurd h List.not_mem_nil⟩⟩
  | cons a l ih =>
    obtain ⟨view, flights⟩ := flightAbort_view s a h
    have fatal : (flightAbort s a).fr.fatal = true := (congrArg FatalView.fatal view).trans h
    have left : tabSorted (flightAbort s a).mg.flights = true ∧ ∀ n f, tabGet (flightAbort s a).mg.flights n = some f →
        tabGet s.mg.flights n = some f ∧ (n = a → f.applied = true) := by
      rcases flights with gone | ⟨same, applied⟩
      · rw [gone]
        refine ⟨tabSorted_tabErase _ _ sorted, fun n f m => ?_⟩
        by_cases e : n = a
        · rw [e, tabGet_tabErase _ _ sorted] at m
          cases m
        · rw [tabGet_tabErase_ne _ e sorted] at m
          exact ⟨m, fun same => absurd same e⟩
      · rw [same]
        exact ⟨sorted, fun n f m => ⟨m, fun e => applied f (e ▸ m)⟩⟩
    obtain ⟨views, rest⟩ := ih _ fatal left.1
    refine ⟨views.trans (by rw [view]; rfl), fun n f m => ?_⟩
    obtain ⟨m, later⟩ := rest n f m
    obtain ⟨m, now⟩ := left.2 n f m
    exact ⟨m, fun h => (List.mem_cons.1 h).elim now later⟩

/-- When every packet in flight has been tried, those that remain had taken effect. -/
theorem flights_all_aborted (s : State) (h : s.fr.fatal = true) (sorted : tabSorted s.mg.flights = true) {n : Nat} {f : Flight}
    (m : tabGet ((s.mg.flights.map (·.1)).foldl flightAbort s).mg.flights n = some f) : f.applied = true := by
  obtain ⟨m, applied⟩ := (foldl_flightAbort _ s h sorted).2 n f m
  exact applied (List.mem_map.2 ⟨_, tabGet_mem m, rfl⟩)

/-! ## The parts of FATAL_ENTRY -/

/-- The stage, the switch and event 20, then CFS in every controller. -/
def fatalSet (s : State) : State :=
  let s := raise (stagePut { s with fr := { s.fr with fatal := true } } 5) 20
  { s with host := { s.host with ctrls := tabMap s.host.ctrls fun _ c => { c with cfs := true } } }

/-- The connections, the jobs, the cores and the trace channels stop. -/
def fatalStops (s : State) : State :=
  let s := slicesStop (jobsDrop ((s.host.conns.map (·.1)).foldl connClose s))
  { s with ev := { s.ev with chans := tabMap s.ev.chans fun _ c => { c with cur := none, next := none } } }

theorem fatalEnter_eq {s : State} (h : stage s ≠ 5) :
    fatalEnter s = dumpBegin ((((fatalStops (fatalSet s)).mg.flights.map (·.1)).foldl flightAbort (fatalStops (fatalSet s)))) :=
  if_neg h

theorem fatalSet_stands (s : State) : Fatal (fatalView (fatalSet s)) := by
  refine ⟨?_, ?_, ?_, fun e m => ?_⟩
  · simp only [fatalView, fatalSet, raise_fr]
    rfl
  · have kept : regRaw (fatalSet s) PW_STATUS = regRaw (stagePut { s with fr := { s.fr with fatal := true } } 5) PW_STATUS :=
      regRaw_raise_ne _ (by decide)
    simp only [fatalView, kept]
    exact regFld_regPutFld _ _ _ (by decide) (by decide)
  · have raised : evPending (fatalSet s) 20 = true := (raised_raise _ rfl).1
    exact raised
  · obtain ⟨x, -, rfl⟩ := List.mem_map.1 m
    rfl

theorem fatalSet_kept (s : State) :
    (fatalSet s).host.conns = s.host.conns ∧ (fatalSet s).mg.flights = s.mg.flights := by
  simp only [fatalSet, raise_host, raise_mg]
  exact ⟨rfl, rfl⟩

theorem granDiscardEng_view (s : State) (j n : Nat) : fatalView (granDiscardEng s j n) = fatalView s := by
  simp only [granDiscardEng]
  split <;> rfl

theorem jobsDrop_view (s : State) : fatalView (jobsDrop s) = { fatalView s with jobs := [] } := by
  rw [← foldl_view (fun s e => granDiscardEng_view s e.1 e.2.gran) s.en.jobs s]
  rfl

/-- Cores 16 and higher without their tasks. -/
def withoutTasks (t : Table Core) : Table Core := tabMap t fun c x => if 16 ≤ c then { x with task := none } else x

theorem slicesStop_view (s : State) : fatalView (slicesStop s) = { fatalView s with cores := withoutTasks (fatalView s).cores } := rfl

theorem task_withoutTasks (t : Table Core) {c : Nat} (h : 16 ≤ c) : (tabGetD (withoutTasks t) c {}).task = none := by
  rw [tabGetD, withoutTasks, tabGet_tabMap]
  cases tabGet t c with
  | none => rfl
  | some x => simp [h]

theorem fatalStops_view (s : State) : fatalView (fatalStops s) =
    (let v := fatalView ((s.host.conns.map (·.1)).foldl connClose s)
     { v with jobs := [], cores := withoutTasks v.cores }) := by
  change fatalView (slicesStop (jobsDrop ((s.host.conns.map (·.1)).foldl connClose s))) = _
  rw [slicesStop_view, jobsDrop_view]

/-- All has stopped: FATAL stands, and what was in flight is as it was. -/
theorem fatalStops_stands (s : State) (h : Fatal (fatalView s)) :
    Fatal (fatalView (fatalStops s)) ∧ (fatalStops s).mg.flights = s.mg.flights ∧ (fatalStops s).en.jobs = [] ∧
      (∀ c, 16 ≤ c → (coreGet (fatalStops s) c).task = none) ∧
      (tabSorted s.host.conns = true → (fatalStops s).host.conns = []) := by
  obtain ⟨stands, flights⟩ := fatal_foldl_connClose (s.host.conns.map (·.1)) s h
  have view := fatalStops_view s
  refine ⟨view ▸ stands, (congrArg FatalView.flights view).trans flights, congrArg FatalView.jobs view, fun c high => ?_, fun sorted => ?_⟩
  · have cores := congrArg FatalView.cores view
    rw [coreGet, show (fatalStops s).cs.cores = _ from cores]
    exact task_withoutTasks _ high
  · have conns := congrArg FatalView.conns view
    rw [← List.map_eq_nil_iff (f := (·.1)), show (fatalStops s).host.conns.map (·.1) = _ from conns]
    exact List.map_eq_nil_iff.2 (conns_all_closed s sorted)

theorem dumpBegin_view (s : State) : fatalView (dumpBegin s) = fatalView s := by
  simp only [dumpBegin]
  split <;> rfl

theorem dumpBegin_dumping (s : State) : (dumpBegin s).pw.dumping = true := by
  simp only [dumpBegin]
  split
  · assumption
  · rfl

theorem fatalEnters_holds : Says.fatalEnters := by
  refine fun s first sorted => ⟨fatalEnter s, rfl, ?_⟩
  rw [fatalEnter_eq first]
  obtain ⟨conns, packets⟩ := fatalSet_kept s
  obtain ⟨stands, flights, jobs, tasks, closed⟩ := fatalStops_stands _ (fatalSet_stands s)
  rw [conns] at closed
  have inOrder : tabSorted (fatalStops (fatalSet s)).mg.flights = true := by rw [flights, packets, sorted]
  generalize fatalStops (fatalSet s) = u at stands jobs tasks closed inOrder
  have fatal : u.fr.fatal = true := stands.1
  obtain ⟨aborted, -⟩ := foldl_flightAbort (u.mg.flights.map (·.1)) u fatal inOrder
  have applied {n : Nat} {f : Flight} := flights_all_aborted u fatal inOrder (n := n) (f := f)
  generalize (u.mg.flights.map (·.1)).foldl flightAbort u = w at aborted applied
  have view : fatalView (dumpBegin w) = { fatalView u with flights := w.mg.flights } := (dumpBegin_view w).trans aborted
  have all : Fatal (fatalView (dumpBegin w)) := view ▸ stands
  obtain ⟨switch, stage, event, cfs⟩ := all
  refine ⟨stage, switch, event, (congrArg FatalView.jobs view).trans jobs, dumpBegin_dumping w, fun c k found => ?_, fun c high => ?_,
    fun n f found => ?_, fun sorted => ?_⟩
  · exact cfs _ (tabGet_mem found)
  · rw [coreGet, show (dumpBegin w).cs.cores = u.cs.cores from congrArg FatalView.cores view]
    exact tasks c high
  · rw [show (dumpBegin w).mg.flights = w.mg.flights from congrArg FatalView.flights view] at found
    exact applied found
  · have none := congrArg FatalView.conns view
    rw [← List.map_eq_nil_iff (f := (·.1)), show (dumpBegin w).host.conns.map (·.1) = u.host.conns.map (·.1) from none,
      closed sorted, List.map_nil]

/-- Settles O37: each class of a grant is granted once, the audit and the discards change the ledgers they name alone, and in FATAL every
connection closes and every packet that had not taken effect is aborted, one after the other. -/
theorem ledgers : Obligations.Ledgers :=
  ⟨grantsTokens_holds, snapshots_holds, compares_holds, discardsReturn_holds, staleGoes_holds, lateGoes_holds, tagsChecked_holds,
    fatalEnters_holds⟩

end Sys2Proof.Proofs
end

section
/-! SUPPORT. Operations of a core as the statements of chapter 10 speak of them: one that starts has its effect or takes its trap, and what an
effect, and a trap with NEST = 0, leave standing. -/
namespace Sys2Proof.Proofs
open Sys2Proof Sys2Proof.Machine Sys2Proof.Laws

/-! ## Effects (R530, R536, R544) -/

/-- A started operation whose operands are legal answers its effect on the state that `starts` names. -/
theorem gives_of_effect {i : Instr} {c : Nat} {x : Pfx} {s u : State} {lg : Legal} {eff : State → State} {P : State → Prop}
    (run : exec i s = .next (instr s c x lg eff)) (legal : lg = .ok) (st : Says.starts s c x u) (post : P (eff u)) : Says.gives i s P := by
  obtain ⟨runs, fits, f, w, fetched, pred, rfl⟩ := st
  exact ⟨_, by rw [run, legal, instr_runs eff runs fits fetched pred], post⟩

@[simp] theorem reg_setBoth (s : State) (c : Nat) (x : Pfx) (rd : Nat) (r : Word × Flags) : reg (setBoth s c x rd r) c rd = r.1 := by
  simp [setBoth]
@[simp] theorem flagsOf_setBoth (s : State) (c : Nat) (x : Pfx) (rd : Nat) (r : Word × Flags) : flagsOf (setBoth s c x rd r) c = r.2 := by
  simp [setBoth]

theorem goesOn_setBoth (s : State) (c : Nat) (x : Pfx) (rd : Nat) (r : Word × Flags) : Says.goesOn s (setBoth s c x rd r) c x [rd] := by
  refine ⟨rfl, fun d ne => ?_, ?_, fun q other => ?_⟩
  · simp only [setBoth, advance, flagsSet, regSet, coreGet_coreMod_ne _ _ ne]
  · simp [setBoth, advance, flagsSet, regSet, nextPc]
  · simp [setBoth, reg_regSet_ne _ _ _ (other rd (by simp))]

@[simp] theorem reg_setPair_high (s : State) (c : Nat) (x : Pfx) (rd : Nat) (r : Word × Word × Flags) :
    reg (setPair s c x rd r) c (rd + 1) = r.2.1 := by simp [setPair]
@[simp] theorem reg_setPair_low (s : State) (c : Nat) (x : Pfx) (rd : Nat) (r : Word × Word × Flags) :
    reg (setPair s c x rd r) c rd = r.1 := by
  simp [setPair, reg_regSet_ne _ _ _ (show rd % 32 ≠ (rd + 1) % 32 by omega)]
@[simp] theorem flagsOf_setPair (s : State) (c : Nat) (x : Pfx) (rd : Nat) (r : Word × Word × Flags) :
    flagsOf (setPair s c x rd r) c = r.2.2 := by simp [setPair]

theorem goesOn_setPair (s : State) (c : Nat) (x : Pfx) (rd : Nat) (r : Word × Word × Flags) :
    Says.goesOn s (setPair s c x rd r) c x [rd, rd + 1] := by
  refine ⟨rfl, fun d ne => ?_, ?_, fun q other => ?_⟩
  · simp only [setPair, advance, flagsSet, regSet, coreGet_coreMod_ne _ _ ne]
  · simp [setPair, advance, flagsSet, regSet, nextPc]
  · simp [setPair, reg_regSet_ne _ _ _ (other rd (by simp)), reg_regSet_ne _ _ _ (other (rd + 1) (by simp))]

/-- An operation that writes one register and the flags completes with what it computes there. -/
theorem completes_setBoth {i : Nat → Pfx → Instr} {lg : Legal} {rd : Nat} {op : State → Nat → Pfx → Word × Flags}
    {P : State → State → Nat → Pfx → Prop}
    (run : ∀ c x s, exec (i c x) s = .next (instr s c x lg fun u => setBoth u c x rd (op u c x))) (legal : lg = .ok)
    (post : ∀ u t c x, reg t c rd = (op u c x).1 → flagsOf t c = (op u c x).2 → P u t c x) : Says.completes i [rd] P :=
  fun c x _ u st => gives_of_effect (run c x _) legal st
    ⟨goesOn_setBoth .., post u _ c x (reg_setBoth ..) (flagsOf_setBoth ..)⟩

/-- The same of an operation that takes no L32 (R540). -/
theorem completesPlain_setBoth {i : Nat → Pfx → Instr} {rd : Nat} {op : State → Nat → Pfx → Word × Flags}
    {P : State → State → Nat → Pfx → Prop}
    (run : ∀ c x s, exec (i c x) s = .next (instr s c x (noLane x) fun u => setBoth u c x rd (op u c x)))
    (post : ∀ u t c x, x.l32 = false → reg t c rd = (op u c x).1 → flagsOf t c = (op u c x).2 → P u t c x) :
    Says.completesPlain i [rd] P :=
  fun c x _ u plain st => gives_of_effect (run c x _) (by simp [noLane, badIf, plain]) st
    ⟨goesOn_setBoth .., post u _ c x plain (reg_setBoth ..) (flagsOf_setBoth ..)⟩

/-- An operation that writes a pair of registers and the flags completes with what it computes there (R548). -/
theorem completes_setPair {i : Nat → Pfx → Instr} {lg : Legal} {rd : Nat} {op : State → Nat → Pfx → Word × Word × Flags}
    {P : State → State → Nat → Pfx → Prop}
    (run : ∀ c x s, exec (i c x) s = .next (instr s c x lg fun u => setPair u c x rd (op u c x))) (legal : lg = .ok)
    (post : ∀ u t c x, reg t c rd = (op u c x).1 → reg t c (rd + 1) = (op u c x).2.1 → flagsOf t c = (op u c x).2.2 → P u t c x) :
    Says.completes i [rd, rd + 1] P :=
  fun c x _ u st => gives_of_effect (run c x _) legal st
    ⟨goesOn_setPair .., post u _ c x (reg_setPair_low ..) (reg_setPair_high ..) (flagsOf_setPair ..)⟩

/-! ## Error traps with NEST = 0 (R554-R559) -/

theorem coreGet_congr {s t : State} (h : t.cs.cores = s.cs.cores) (d : Nat) : coreGet t d = coreGet s d := by simp only [coreGet, h]

@[simp] theorem raise_cs (s : State) (n : Nat) : (raise s n).cs = s.cs := by rw [raise_only]

@[simp] theorem partCycles_cs (s : State) (p : Nat) : (partCycles s p).cs = s.cs := by
  simp only [partCycles, meterAdd]
  split <;> rfl
@[simp] theorem partCycles_dr (s : State) (p : Nat) : (partCycles s p).dr = s.dr := by
  simp only [partCycles, meterAdd]
  split <;> rfl

@[simp] theorem invEnd_cores (s : State) (i : Nat) (st : Status) (d0 d1 : Nat) : (invEnd s i st d0 d1).cs.cores = s.cs.cores := by
  simp only [invEnd]
  repeat' split
  all_goals rfl
@[simp] theorem invEnd_dr (s : State) (i : Nat) (st : Status) (d0 d1 : Nat) : (invEnd s i st d0 d1).dr = s.dr := by
  simp only [invEnd]
  repeat' split
  all_goals rfl

@[simp] theorem taskFree_dr (s : State) (n : Nat) : (taskFree s n).dr = s.dr := by
  simp only [taskFree]
  repeat' split
  all_goals rfl

/-- Of the cores a freed descriptor changes at most which task they run. -/
theorem coreGet_taskFree (s : State) (n d : Nat) : ∃ k, coreGet (taskFree s n) d = { coreGet s d with task := k } := by
  cases found : taskGet s n with
  | none => exact ⟨(coreGet s d).task, by simp [taskFree, found]⟩
  | some t =>
    have cores : (taskFree s n).cs.cores = tabMap s.cs.cores fun _ k => if k.task = some n then { k with task := none } else k := by
      simp only [taskFree, found]
      split <;> rfl
    simp only [coreGet, tabGetD, cores, tabGet_tabMap]
    cases tabGet s.cs.cores d with
    | none => exact ⟨none, rfl⟩
    | some k =>
      by_cases runs : k.task = some n
      · exact ⟨none, by simp [runs]⟩
      · exact ⟨k.task, by simp [runs]⟩

@[simp] theorem taskTrap_dr (s : State) (c vec : Nat) (taddr : Word) : (taskTrap s c vec taddr).dr = s.dr := by
  simp only [taskTrap]
  repeat' split
  all_goals simp

/-- The end of the task on a core changes at most which tasks the cores run (R485, R503). -/
theorem coreGet_taskTrap (s : State) (c vec : Nat) (taddr : Word) (d : Nat) :
    ∃ k, coreGet (taskTrap s c vec taddr) d = { coreGet s d with task := k } := by
  simp only [taskTrap]
  repeat' split
  case h_1 | h_1 => exact ⟨(coreGet s d).task, rfl⟩
  all_goals
    obtain ⟨k, freed⟩ := coreGet_taskFree _ _ d
    exact ⟨k, by rw [freed, coreGet_congr]; simp⟩

@[simp] theorem pairUndo_nest (s : State) (c : Nat) : (coreGet (pairUndo s c) c).nest = (coreGet s c).nest := by
  simp only [pairUndo, coreGet_coreMod]
  split <;> rfl

/-- An error trap that finds NEST = 0 is entered, and ends the task on its core; only a machine check raises an event before it. -/
theorem errorTrap_enters {s : State} {c : Nat} (vec det : Nat) (taddr : Word) (nest : (coreGet s c).nest = false) :
    ∃ v, v.dr = s.dr ∧ v.cs = (pairUndo s c).cs ∧
      errorTrap s c vec det taddr = taskTrap (takeTrap v c vec det (coreGet v c).pc taddr) c vec taddr := by
  have undone : (coreGet (pairUndo s c) c).nest = false := (pairUndo_nest s c).trans nest
  by_cases check : vec = 5
  · have cs : (raise (regInc (pairUndo s c) (TC_MCHECK_COUNT (coreCluster c))) (384 + 6 * coreCluster c + 2)).cs = (pairUndo s c).cs := by simp
    have calm := (congrArg Core.nest (coreGet_congr (congrArg ClusSt.cores cs) c)).trans undone
    exact ⟨_, by simp [pairUndo], cs, by simp only [errorTrap, if_pos check, calm]; rfl⟩
  · exact ⟨pairUndo s c, rfl, rfl, by simp only [errorTrap, if_neg check, undone]; rfl⟩

theorem errorTrap_dr {s : State} {c : Nat} (vec det : Nat) (taddr : Word) (nest : (coreGet s c).nest = false) :
    (errorTrap s c vec det taddr).dr = s.dr := by
  obtain ⟨v, dr, -, entered⟩ := errorTrap_enters vec det taddr nest
  rw [entered, taskTrap_dr]
  exact dr

/-- The core after an error trap, but for the task it runs: what the trap saves, and where the handler stands (R555). -/
theorem coreGet_errorTrap {s : State} {c : Nat} (vec det : Nat) (taddr : Word) (nest : (coreGet s c).nest = false) :
    ∃ k, coreGet (errorTrap s c vec det taddr) c =
      { coreGet (takeTrap (pairUndo s c) c vec det (coreGet s c).pc taddr) c with task := k } := by
  obtain ⟨v, -, cs, entered⟩ := errorTrap_enters vec det taddr nest
  obtain ⟨k, ended⟩ := coreGet_taskTrap (takeTrap v c vec det (coreGet v c).pc taddr) c vec taddr c
  have core : coreGet v c = coreGet (pairUndo s c) c := coreGet_congr (congrArg ClusSt.cores cs) c
  have pc : (coreGet (pairUndo s c) c).pc = (coreGet s c).pc := by
    simp only [pairUndo, coreGet_coreMod]
    split <;> rfl
  exact ⟨k, by rw [entered, ended, takeTrap, takeTrap, coreGet_coreMod, coreGet_coreMod, core, pc]⟩

theorem trapped_errorTrap {s : State} {c : Nat} (vec det : Nat) (taddr : Word) (nest : (coreGet s c).nest = false) :
    Says.trapped s (errorTrap s c vec det taddr) c vec det (coreGet s c).pc := by
  obtain ⟨k, core⟩ := coreGet_errorTrap vec det taddr nest
  simp only [Says.trapped, core, takeTrap, pairUndo, coreGet_coreMod]
  cases paired : (coreGet s c).pair <;> simp [cpCompact, cpAddr]

/-- No general register changes but by undoing a first operation (R536). -/
theorem reg_errorTrap {s : State} {c : Nat} (vec det : Nat) (taddr : Word) (nest : (coreGet s c).nest = false)
    (single : (coreGet s c).pair = none) (r : Nat) : reg (errorTrap s c vec det taddr) c r = reg s c r := by
  obtain ⟨k, core⟩ := coreGet_errorTrap vec det taddr nest
  simp [reg, core, takeTrap, pairUndo, single]

/-! ## Illegal operations (R554, R557) -/

/-- An operation reads its sources in the fetched state, or in that state with a paired word's first registers kept (R536). -/
theorem pairKeep_cases (s : State) (c : Nat) (x : Pfx) :
    pairKeep s c x = s ∨ ∃ k, pairKeep s c x = coreMod s c fun y => { y with pair := some k } := by
  by_cases first : x.enc = .short false
  · exact .inr ⟨((coreGet s c).w, (coreGet s c).fl), by simp [pairKeep, first, coreMod, tabModD, coreGet]⟩
  · exact .inl (by simp [pairKeep, first])

theorem trapped_kept {s t : State} {c vec det : Nat} {pc : Word} (k : Table Word × Flags) (h : Says.trapped s t c vec det pc) :
    Says.trapped (coreMod s c fun y => { y with pair := some k }) t c vec det pc := by
  obtain ⟨tepc, cause, prev, nest, lower, pc, base, proj, -⟩ := h
  simp only [Says.trapped, coreGet_coreMod]
  exact ⟨tepc, cause, prev, nest, lower, pc, base, proj, fun single => nomatch single⟩

/-- An operation that its decode checks refuse takes the illegal-instruction trap wherever a core starts it. -/
theorem illegal_of_bad {i : Nat → Pfx → Instr} {d : Nat} {P : State → Nat → Pfx → Prop} {lg : Pfx → Legal} {eff : Nat → Pfx → State → State}
    (run : ∀ c x s, exec (i c x) s = .next (instr s c x (lg x) (eff c x))) (bad : ∀ u c x, P u c x → lg x = .bad d) :
    Says.illegal i d P := by
  rintro c x s u ⟨runs, fits, f, w, fetched, -, rfl⟩ calm refused
  refine ⟨errorTrap f c 1 d (coreGet f c).pc, by rw [run, bad _ _ _ refused, instr_traps _ runs fits fetched], ?_⟩
  rcases pairKeep_cases f c x with same | ⟨k, kept⟩
  · rw [same] at calm ⊢
    exact ⟨trapped_errorTrap _ _ _ calm, memSame_of_dr (errorTrap_dr _ _ _ calm), reg_errorTrap _ _ _ calm⟩
  · rw [kept] at calm ⊢
    rw [coreGet_coreMod] at calm ⊢
    exact ⟨trapped_kept k (trapped_errorTrap _ _ _ calm), memSame_of_dr (errorTrap_dr _ _ _ calm), fun single => nomatch single⟩

end Sys2Proof.Proofs
end

section
/-! SUPPORT. O26: a load that finds its line uncorrectable (R655), behind a fill in whose slot operations on the line wait (R472). -/
namespace Sys2Proof.Proofs
open Sys2Proof Sys2Proof.Machine Sys2Proof.Laws

/-- A read of a line by a burst that is wrong in every symbol. -/
def allWrong : Ecc := { errs := (List.range 80).map fun j => (j, 1) }

theorem errSymbols_allWrong : errSymbols allWrong = List.range 80 := by decide +kernel

/-- Beside the symbols of a marked device more than the eight stay wrong that the strongest code corrects. -/
theorem allWrong_rest (mk : Option Nat) : 8 < ((List.range 80).filter fun j => !(mk == some (symbolDevice j))).length := by
  have one (d : Nat) : 8 < ((List.range 80).filter fun j => !(d == symbolDevice j)).length := by
    by_cases beyond : 10 ≤ d
    · rw [List.filter_eq_self.2 fun j hj => ?_]
      · decide
      · have := List.mem_range.1 hj
        simp [symbolDevice]
        omega
    · have each : ∀ k < 10, 8 < ((List.range 80).filter fun j => !(k == symbolDevice j)).length := by decide
      exact each d (by omega)
  cases mk with
  | none => decide
  | some d => exact one d

/-- No protection code corrects it, whatever class the line has and whichever device is marked (R638, R648). -/
theorem coded_allWrong (s : State) (l cls : Nat) : coded s l cls allWrong = .uncorrectable := by
  simp only [coded, errSymbols_allWrong]
  by_cases large : cls = 2
  · have present : (List.range 80).filter (fun j => decide (j < 72)) ≠ [] := by decide
    have words : ((List.range 8).all fun k => decide (secdedBits allWrong k ≤ 1)) = false := by decide +kernel
    simp only [large, if_true, if_neg present, words, Bool.and_false]
    rfl
  · have rest := allWrong_rest (erasureOf s l)
    have all : List.range 80 ≠ [] := by decide
    simp only [large, if_false, if_neg all]
    rw [if_neg]
    simp only [decide_eq_true_eq]
    repeat' split
    all_goals omega

theorem dramLine_allWrong (s : State) (a src : Nat) : ∃ v, Served s v ∧ dramLine s a src allWrong = (uncorrected v a src, true) := by
  refine ⟨_, served_dramTouch s (lineOf a) src, ?_⟩
  simp [dramLine, coded_allWrong]

theorem wordGet_uncorrected (s : State) (a src b : Nat) : wordGet (uncorrected s a src) b = wordGet s b := by
  simp only [uncorrected, wordGet, raise_dr]
  rfl

/-- A line that is not there once its fill has installed, and that its burst brings wholly wrong, is not fetched; what the fill's
operations left in memory stands. -/
theorem lineFetch_allWrong {s : State} {cl l : Nat} (gone : (lineGet (fillInstall s cl l) cl l).bind (·.data) = none) :
    ∃ v, v.cs = (fillInstall s cl l).cs ∧ (∀ a, wordGet v a = wordGet (fillInstall s cl l) a) ∧ lineFetch s cl l allWrong = (v, none) := by
  obtain ⟨v, served, read⟩ := dramLine_allWrong (fillInstall s cl l) (64 * l) (clusterPort cl)
  refine ⟨uncorrected v (64 * l) (clusterPort cl), ?_, fun a => ?_, by simp only [lineFetch, gone, read]; rfl⟩
  · rw [uncorrected, raise_cs, served.rest]
    rfl
  · rw [wordGet_uncorrected, wordGet, served.words, wordGet]

/-- A started LDW that its cluster answers with no word takes the machine check (R527). -/
theorem ldw_checks {s u v : State} {c rd ra p lo hi : Nat} {x : Pfx} {m : Mode} (st : Says.starts s c x u) (plain : x.l32 = false)
    (apart : baseConflict rd ra false m = .ok) (found : dataTrans u c false (modeAddr u c ra m) 1 .r = .ok (p, lo, hi))
    (lost : loadWord u (coreCluster c) p x.ecc = (v, none)) :
    exec (.ldw c x rd ra m) s = .next (errorTrap v c 5 1 (BitVec.ofNat 36 (modeAddr u c ra m))) := by
  obtain ⟨runs, fits, f, w, fetched, pred, rfl⟩ := st
  have legal : legals [noLane x, baseConflict rd ra false m] = .ok := by simp [noLane, badIf, plain, apart, legals]
  change execLdw c x rd ra m s = _
  simp only [execLdw, legal, instr_runs _ runs fits fetched pred, found, lost]

/-- A ZERO and a CLEAN_INVAL of line 1, whose first word is 5, wait for the line's fill; core 16 stands before a load of that word. -/
def fillWaits : State :=
  let s := regPut (regPut State.reset (TC_STATUS 2) 0) (EC_REGION_LO 0) 0x80000000
  { s with
    dr := { s.dr with words := [(16, 5)] }
    cs := { s.cs with
      cores := [(16, { icache := [(0, List.replicate 16 0)] })]
      clusters := [(2, { fills := [(1, { data := .words (5 :: List.replicate 15 0), ops := [.zero, .cleanInval] })] })] } }

theorem fillWaits_starts : Says.starts fillWaits 16 { ecc := allWrong } fillWaits :=
  ⟨by decide +kernel, by decide +kernel, fillWaits, 0, by decide +kernel, rfl, rfl⟩

/-- Refutes O26: before a load finds its line uncorrectable the line's fill installs (R472), and of the operations that waited in its slot the
ZERO and the CLEAN_INVAL write zeros over the word 5 that DRAM held, so memory is not what it was when the load began. -/
theorem not_accesses : ¬ Obligations.Accesses := by
  rintro ⟨-, checks, -⟩
  have gone : (lineGet (fillInstall fillWaits 2 1) 2 1).bind (·.data) = none := by decide +kernel
  obtain ⟨v, cs, kept, fetch⟩ := lineFetch_allWrong gone
  have lost : loadWord fillWaits 2 64 allWrong = (v, none) := by
    have kind : kindOk fillWaits false 64 4 = true := by decide +kernel
    simp only [loadWord, kind, show lineOf 64 = 1 from rfl, fetch]
    rfl
  have found : translate fillWaits 16 false (modeAddr fillWaits 16 0 (.off 16)) 1 .r = .ok 64 0 0xFFFFF false := by decide +kernel
  have reads : Says.reaches fillWaits 16 0 (.off 16) false 1 .r 64 := ⟨by decide, 0, 0xFFFFF, false, found⟩
  have data : dataTrans fillWaits 16 false (modeAddr fillWaits 16 0 (.off 16)) 1 .r = .ok (64, 0, 0xFFFFF) := by
    simp only [dataTrans, found, Bool.false_and, Bool.false_eq_true, if_false]
  have run := ldw_checks (rd := 1) fillWaits_starts rfl rfl data lost
  obtain ⟨t, next, -, ⟨-, same⟩, -⟩ := checks .ldw false 1 .r (by simp [Says.accessForm]) 1 0 (.off 16) 16 _ _ _ 64 rfl fillWaits_starts
    (by decide) (by decide) (by decide) (by decide) (by decide +kernel) reads (by decide) (fun _ _ => congrArg Prod.snd lost)
    (by decide) (by decide) (by decide)
  have calm : (coreGet v 16).nest = false := by
    rw [coreGet_congr (congrArg ClusSt.cores cs)]
    decide +kernel
  cases run.symm.trans next
  have zeroed : wordGet (fillInstall fillWaits 2 1) 64 = 0 := by decide +kernel
  have stood : wordGet fillWaits 64 = 5 := by decide +kernel
  have read := same 64
  rw [wordGet, errorTrap_dr _ _ _ calm, ← wordGet, kept, zeroed, stood] at read
  exact absurd read (by decide)

end Sys2Proof.Proofs
end

section
/-! SUPPORT. What an operation of a core works in (R545): its width, a source as it sees it, a result as it writes it, bit by bit and as numbers. -/
namespace Sys2Proof.Proofs
open Sys2Proof Sys2Proof.Machine Sys2Proof.Laws

theorem opWidth_le (l : Bool) : opWidth l ≤ 36 := by cases l <;> decide
theorem laneBits_eq (l : Bool) : Says.laneBits l = opWidth l := rfl

theorem toNat_lane (l : Bool) (v : Word) : (Says.lane l v).toNat = opSrc l v := by
  have small := v.isLt
  cases l <;> simp only [Says.lane, opSrc, opWidth] <;> simp <;> omega

@[simp] theorem testBit_opSrc (l : Bool) (v : Word) (i : Nat) : (opSrc l v).testBit i = (decide (i < opWidth l) && v.getLsbD i) := by
  simp [opSrc, Nat.testBit_mod_two_pow, BitVec.testBit_toNat]

@[simp] theorem getLsbD_lane (l : Bool) (v : Word) (i : Nat) : (Says.lane l v).getLsbD i = (decide (i < opWidth l) && v.getLsbD i) := by
  rw [← BitVec.testBit_toNat, toNat_lane, testBit_opSrc]

@[simp] theorem toNat_opRes (l : Bool) (r : Nat) : (opRes l r).toNat = r % 2 ^ opWidth l := by
  have small : r % 2 ^ opWidth l < 2 ^ 36 :=
    Nat.lt_of_lt_of_le (Nat.mod_lt _ (Nat.two_pow_pos _)) (Nat.pow_le_pow_right (by decide) (opWidth_le l))
  rw [opRes, BitVec.toNat_ofNat, Nat.mod_eq_of_lt small]

@[simp] theorem getLsbD_opRes (l : Bool) (r i : Nat) : (opRes l r).getLsbD i = (decide (i < opWidth l) && r.testBit i) := by
  rw [← BitVec.testBit_toNat, toNat_opRes, Nat.testBit_mod_two_pow]

theorem opSrc_lt (l : Bool) (v : Word) : opSrc l v < 2 ^ opWidth l := Nat.mod_lt _ (Nat.two_pow_pos _)

/-- A result and a word agree as the operation writes them where their bits within its width do. -/
theorem opRes_eq_lane {l : Bool} {r : Nat} {v : Word} (h : ∀ i, i < opWidth l → r.testBit i = v.getLsbD i) : opRes l r = Says.lane l v :=
  BitVec.eq_of_getLsbD_eq fun i _ => by
    by_cases inside : i < opWidth l
    · simp [inside, h i inside]
    · simp [inside]

/-- The sign of a result as the operation writes it. -/
theorem opNeg_mod (l : Bool) (r : Nat) : opNeg l (r % 2 ^ opWidth l) = (opRes l r).getLsbD (opWidth l - 1) := by
  rw [opNeg, bitOf_eq_testBit, Nat.testBit_mod_two_pow, getLsbD_opRes]

/-- Z and N of what the operation writes (R520). -/
theorem zeroNegative_zn (l : Bool) (r : Nat) (f : Flags) : Says.zeroNegative l (opRes l r) (zn l r f) := by
  refine ⟨?_, opNeg_mod l r⟩
  rw [zn, Bool.eq_iff_iff, beq_iff_eq, beq_iff_eq, ← BitVec.toNat_inj, toNat_opRes]
  rfl

/-- A result that touches Z and N alone (R546). -/
theorem isLogical_zn {l : Bool} {r : Nat} {v : Word} (h : opRes l r = Says.lane l v) (f : Flags) :
    Says.isLogical l v (opRes l r) f (zn l r f) := ⟨h, zeroNegative_zn .., rfl, rfl, rfl⟩

end Sys2Proof.Proofs
end

section
/-! SUPPORT. O19: EXT, EXTS and INS, and the fields they refuse (R549). -/
namespace Sys2Proof.Proofs
open Sys2Proof Sys2Proof.Machine Sys2Proof.Laws

/-- The bits of a field read from a source. -/
theorem testBit_field (l : Bool) (a : Word) (p n i : Nat) :
    (opSrc l a / 2 ^ p % 2 ^ n).testBit i = (decide (i < n) && (Says.lane l a).getLsbD (p + i)) := by
  rw [Nat.testBit_mod_two_pow, Nat.testBit_div_two_pow, ← toNat_lane, BitVec.testBit_toNat, Nat.add_comm]

theorem isLogical_extOp_zero (l : Bool) (a : Word) (p n : Nat) (f : Flags) :
    Says.isLogical l ((BitVec.extractLsb' p n (Says.lane l a)).setWidth 36) (extOp false l a p n f).1 f (extOp false l a p n f).2 := by
  refine isLogical_zn (opRes_eq_lane fun i inside => ?_) f
  have : i < 36 := Nat.lt_of_lt_of_le inside (opWidth_le l)
  simp only [Bool.false_and, Bool.false_eq_true, if_false, testBit_field, BitVec.getLsbD_setWidth, BitVec.getLsbD_extractLsb', this,
    decide_true, Bool.true_and]

/-- Ones above a number of `m` bits, up to `w` bits. -/
theorem testBit_add_ones {v m w : Nat} (small : v < 2 ^ m) (le : m ≤ w) (i : Nat) :
    (v + (2 ^ w - 2 ^ m)).testBit i = if i < m then v.testBit i else decide (i < w) := by
  have ones : 2 ^ w - 2 ^ m = 2 ^ m * (2 ^ (w - m) - 1) := by rw [Nat.mul_sub_one, ← Nat.pow_add, Nat.add_sub_cancel' le]
  rw [ones, Nat.add_comm, Nat.testBit_two_pow_mul_add _ small, Nat.testBit_two_pow_sub_one]
  split
  · rfl
  · exact decide_eq_decide.2 (by omega)

theorem isLogical_extOp_sign (l : Bool) (a : Word) {p n : Nat} (fits : p + n ≤ 36) (f : Flags) :
    Says.isLogical l ((BitVec.extractLsb' p n (Says.lane l a)).signExtend 36) (extOp true l a p n f).1 f (extOp true l a p n f).2 := by
  refine isLogical_zn (opRes_eq_lane fun i inside => ?_) f
  have within : i < 36 := Nat.lt_of_lt_of_le inside (opWidth_le l)
  have field : opSrc l a / 2 ^ p % 2 ^ n < 2 ^ n := Nat.mod_lt _ (Nat.two_pow_pos _)
  have top : bitOf (opSrc l a / 2 ^ p % 2 ^ n) (n - 1) = (BitVec.extractLsb' p n (Says.lane l a)).msb := by
    rw [bitOf_eq_testBit, testBit_field, BitVec.msb_eq_getLsbD_last, BitVec.getLsbD_extractLsb']
  rw [BitVec.getLsbD_signExtend, ← top, BitVec.getLsbD_extractLsb', decide_eq_true within, Bool.true_and, Bool.true_and]
  cases bitOf (opSrc l a / 2 ^ p % 2 ^ n) (n - 1) with
  | true => rw [if_pos rfl, testBit_add_ones field (by omega), testBit_field, decide_eq_true within]
  | false =>
    rw [if_neg (by decide), testBit_field]
    by_cases below : i < n <;> simp [below]

theorem insOp_bits (l : Bool) (d a : Word) {p n : Nat} (pos : 1 ≤ n) (f : Flags) (i : Nat) : (insOp l d a p n f).1.getLsbD i =
    (decide (i < opWidth l) && if p ≤ i ∧ i < p + n then (Says.lane l a).getLsbD (i - p) else d.getLsbD i) := by
  have put : (insOp l d a p n f).1 = opRes l (putBits (opSrc l d) (p + n - 1) p (opSrc l a)) := by
    simp only [insOp, putBits, bitsOf, show p + n - 1 + 1 - p = n by omega]
  rw [put, getLsbD_opRes, testBit_putBits (by omega), testBit_opSrc, ← toNat_lane, BitVec.testBit_toNat]
  by_cases inside : i < opWidth l
  · by_cases field : p ≤ i ∧ i < p + n
    · simp [inside, field, show i ≤ p + n - 1 by omega]
    · simp [inside, field, show ¬ (p ≤ i ∧ i ≤ p + n - 1) by omega]
  · simp [inside]

theorem fieldLegal_ok {p n : Nat} (pos : 1 ≤ n) (fits : p + n ≤ 36) : fieldLegal p n = .ok := by
  simp [fieldLegal, badIf]
  omega

theorem ext_holds : Says.ext := fun rd ra p n pos fits =>
  completes_setBoth (fun _ _ _ => rfl) (fieldLegal_ok pos fits) fun u t c x result flags => by
    rw [result, flags]
    exact isLogical_extOp_zero ..

theorem exts_holds : Says.exts := fun rd ra p n pos fits =>
  completes_setBoth (fun _ _ _ => rfl) (fieldLegal_ok pos fits) fun u t c x result flags => by
    rw [result, flags]
    exact isLogical_extOp_sign _ _ fits _

theorem ins_holds : Says.ins := fun rd ra p n pos fits =>
  completes_setBoth (fun _ _ _ => rfl) (fieldLegal_ok pos fits) fun u t c x result flags => by
    rw [result, flags]
    exact ⟨zeroNegative_zn .., rfl, rfl, rfl, fun i _ => insOp_bits _ _ _ pos _ i⟩

theorem fieldsOut_holds : Says.fieldsOut := by
  intro rd ra p n out i mem
  have bad : fieldLegal p n = .bad 7 := by
    have refused : (n == 0 || decide (36 < p + n)) = true := by simpa using out
    simp [fieldLegal, badIf, refused]
  simp only [List.mem_cons, List.not_mem_nil, or_false] at mem
  rcases mem with rfl | rfl | rfl
  all_goals exact illegal_of_bad (fun _ _ _ => rfl) fun _ _ _ _ => bad

/-- Settles O19: a field's bits are those of the source from its position on, extended, or put in place of rd's; one that R549 forbids is refused
before anything is read. -/
theorem bitFields : Obligations.BitFields := ⟨ext_holds, exts_holds, ins_holds, fieldsOut_holds⟩

end Sys2Proof.Proofs
end

section
/-! SUPPORT. O20: shifts and rotations (R547). -/
namespace Sys2Proof.Proofs
open Sys2Proof Sys2Proof.Machine Sys2Proof.Laws

theorem bitOf_opSrc (l : Bool) (a : Word) (i : Nat) : bitOf (opSrc l a) i = (Says.lane l a).getLsbD i := by
  rw [bitOf_eq_testBit, ← toNat_lane, BitVec.testBit_toNat]

/-- Z, N and C of a shift; V and G stay (R546). -/
theorem isShift_zn (l : Bool) (r k : Nat) {shifted last : Bool} (f : Flags) (carry : shifted = last) :
    Says.isShift l (opRes l r) k last f (zn l r { f with c := if k = 0 then f.c else shifted }) :=
  ⟨zeroNegative_zn .., rfl, rfl, carry ▸ rfl⟩

/-- The last bit shifted out, 0 past the width. -/
theorem carry_within (l : Bool) (a : Word) (k i : Nat) : (if k ≤ opWidth l then bitOf (opSrc l a) i else false) =
    (decide (k ≤ Says.laneBits l) && (Says.lane l a).getLsbD i) := by
  rw [bitOf_opSrc, laneBits_eq]
  split <;> simp [*]

theorem isShl_shlOp (l : Bool) (a : Word) (k : Nat) (f : Flags) : Says.isShl l a k (shlOp l a k f).1 f (shlOp l a k f).2 := by
  refine ⟨opRes_eq_lane fun i inside => ?_, isShift_zn _ _ _ _ (carry_within ..)⟩
  have within : i < 36 := Nat.lt_of_lt_of_le inside (opWidth_le l)
  rw [BitVec.getLsbD_shiftLeft]
  by_cases narrow : k < opWidth l
  · rw [if_pos narrow, Nat.testBit_mul_two_pow]
    by_cases below : i < k
    · simp [below, show ¬ k ≤ i by omega]
    · simp [below, within, show k ≤ i by omega, show i - k < opWidth l by omega]
  · simp [narrow, show i < k by omega]

theorem isShr_shrOp (l : Bool) (a : Word) (k : Nat) (f : Flags) : Says.isShr l a k (shrOp l a k f).1 f (shrOp l a k f).2 := by
  refine ⟨BitVec.eq_of_getLsbD_eq fun i _ => ?_, isShift_zn _ _ _ _ (carry_within ..)⟩
  rw [BitVec.getLsbD_ushiftRight, getLsbD_lane, shrOp, getLsbD_opRes]
  by_cases narrow : k < opWidth l
  · rw [if_pos narrow, Nat.testBit_div_two_pow, testBit_opSrc, Nat.add_comm]
    by_cases inside : k + i < opWidth l
    · simp [inside, show i < opWidth l by omega]
    · simp [inside]
  · simp [narrow, show ¬ k + i < opWidth l by omega]

/-- The bits of an arithmetic shift: those of the source, then copies of its sign (R547). -/
theorem testBit_sar (l : Bool) (a : Word) (k : Nat) {i : Nat} (inside : i < opWidth l) :
    (opSrc l a / 2 ^ min k (opWidth l) + if opNeg l (opSrc l a) then 2 ^ opWidth l - 2 ^ (opWidth l - min k (opWidth l)) else 0).testBit i =
      if k + i < opWidth l then a.getLsbD (k + i) else opNeg l (opSrc l a) := by
  have small : opSrc l a / 2 ^ min k (opWidth l) < 2 ^ (opWidth l - min k (opWidth l)) := by
    rw [Nat.div_lt_iff_lt_mul (Nat.two_pow_pos _), ← Nat.pow_add, Nat.sub_add_cancel (Nat.min_le_right ..)]
    exact opSrc_lt l a
  have bits (e : k + i < opWidth l) : (opSrc l a / 2 ^ min k (opWidth l)).testBit i = a.getLsbD (k + i) := by
    rw [Nat.testBit_div_two_pow, testBit_opSrc, Nat.min_eq_left (by omega), Nat.add_comm i k]
    simp [e]
  have past (e : ¬ k + i < opWidth l) : (opSrc l a / 2 ^ min k (opWidth l)).testBit i = false :=
    Nat.testBit_lt_two_pow (Nat.lt_of_lt_of_le small (Nat.pow_le_pow_right (by decide) (by omega)))
  cases opNeg l (opSrc l a) with
  | true =>
    rw [if_pos rfl, testBit_add_ones small (Nat.sub_le ..), decide_eq_true inside]
    by_cases e : k + i < opWidth l
    · rw [if_pos e, if_pos (by omega), bits e]
    · rw [if_neg e, if_neg (by omega)]
  | false =>
    rw [if_neg (by decide), Nat.add_zero]
    split
    · exact bits ‹_›
    · exact past ‹_›

/-- A shift or rotation of the width an operation works in, written as the statements write it. -/
theorem narrowed (l : Bool) (a : Word) (g : {w : Nat} → BitVec w → BitVec w) :
    (if l then (g (a.setWidth 32)).setWidth 36 else g a) = (g (a.setWidth (opWidth l))).setWidth 36 := by
  cases l <;> simp [opWidth]

theorem isSar_sarOp (l : Bool) (a : Word) (k : Nat) (f : Flags) : Says.isSar l a k (sarOp l a k f).1 f (sarOp l a k f).2 := by
  refine ⟨opRes_eq_lane fun i inside => ?_, isShift_zn _ _ _ _ (by simp only [bitOf_opSrc, opNeg]; rfl)⟩
  have within : i < 36 := Nat.lt_of_lt_of_le inside (opWidth_le l)
  have top : opNeg l (opSrc l a) = (a.setWidth (opWidth l)).msb := by
    rw [opNeg, bitOf_eq_testBit, testBit_opSrc, BitVec.msb_eq_getLsbD_last, BitVec.getLsbD_setWidth]
  rw [testBit_sar l a k inside, top, narrowed l a (·.sshiftRight k), BitVec.getLsbD_setWidth, BitVec.getLsbD_sshiftRight]
  simp only [within, decide_true, Bool.true_and, BitVec.getLsbD_setWidth]
  by_cases below : k + i < opWidth l <;> simp [below, inside]

/-- The bits of a rotation right by fewer places than the width. -/
theorem testBit_ror (l : Bool) (a : Word) {j i : Nat} (few : j < opWidth l) (inside : i < opWidth l) :
    (opSrc l a / 2 ^ j + opSrc l a % 2 ^ j * 2 ^ (opWidth l - j)).testBit i =
      if i < opWidth l - j then a.getLsbD (j + i) else a.getLsbD (i - (opWidth l - j)) := by
  have small : opSrc l a / 2 ^ j < 2 ^ (opWidth l - j) := by
    rw [Nat.div_lt_iff_lt_mul (Nat.two_pow_pos _), ← Nat.pow_add, Nat.sub_add_cancel (by omega)]
    exact opSrc_lt l a
  rw [Nat.add_comm, Nat.mul_comm, Nat.testBit_two_pow_mul_add _ small]
  split
  · rw [Nat.testBit_div_two_pow, testBit_opSrc, decide_eq_true (by omega), Bool.true_and, Nat.add_comm]
  · rw [Nat.testBit_mod_two_pow, testBit_opSrc, decide_eq_true (by omega), decide_eq_true (by omega), Bool.true_and, Bool.true_and]

theorem isRor_rorOp (l : Bool) (a : Word) (k : Nat) (f : Flags) : Says.isRor l a k (rorOp l a k f).1 f (rorOp l a k f).2 := by
  refine ⟨BitVec.eq_of_getLsbD_eq fun i within => ?_, isShift_zn _ _ _ _ (opNeg_mod ..)⟩
  have few : k % opWidth l < opWidth l := Nat.mod_lt _ (by cases l <;> decide)
  rw [rorOp, getLsbD_opRes, narrowed l a (·.rotateRight k), BitVec.getLsbD_setWidth, BitVec.getLsbD_rotateRight]
  by_cases inside : i < opWidth l
  · rw [testBit_ror l a few inside, Bool.cond_decide]
    simp only [within, inside, decide_true, Bool.true_and, BitVec.getLsbD_setWidth]
    split
    · rw [decide_eq_true (show k % opWidth l + i < opWidth l by omega), Bool.true_and]
    · rw [decide_eq_true (show i - (opWidth l - k % opWidth l) < opWidth l by omega), Bool.true_and]
  · simp [inside, show ¬ i < opWidth l - k % opWidth l by omega]

/-! ## From a register and from an immediate -/

/-- A shift completes as its operation `op` has it; `counted` is the count as the operation takes it. -/
theorem completes_shift {op : Bool → Word → Nat → Flags → Word × Flags} {Q : Bool → Word → Nat → Word → Flags → Flags → Prop}
    (right : ∀ l a k f, Q l a k (op l a k f).1 f (op l a k f).2) {i : Nat → Pfx → Instr} {rd ra : Nat} {counted count : State → Nat → Nat}
    (run : ∀ c x s, exec (i c x) s = .next (instr s c x .ok fun u => setBoth u c x rd (op x.l32 (reg u c ra) (counted u c) (flagsOf u c))))
    (counts : ∀ u c, counted u c = count u c) :
    Says.completes i [rd] fun u t c x => Q x.l32 (reg u c ra) (count u c) (reg t c rd) (flagsOf u c) (flagsOf t c) :=
  completes_setBoth run rfl fun u t c x result flags => by
    rw [result, flags, counts]
    exact right ..

/-- The same of a short operation, which takes no L32 (R534, R540). -/
theorem completesPlain_shift {op : Bool → Word → Nat → Flags → Word × Flags} {Q : Bool → Word → Nat → Word → Flags → Flags → Prop}
    (right : ∀ l a k f, Q l a k (op l a k f).1 f (op l a k f).2) {i : Nat → Pfx → Instr} {rd counted count : Nat}
    (run : ∀ c x s, exec (i c x) s = .next (instr s c x (noLane x) fun u => setBoth u c x rd (op x.l32 (reg u c rd) counted (flagsOf u c))))
    (counts : counted = count) :
    Says.completesPlain i [rd] fun u t c _ => Q false (reg u c rd) count (reg t c rd) (flagsOf u c) (flagsOf t c) :=
  completesPlain_setBoth run fun u t c x plain result flags => by
    rw [result, flags, counts, plain]
    exact right ..

theorem shl_holds : Says.shl := fun _ _ _ => completes_shift isShl_shlOp (fun _ _ _ => rfl) fun _ _ => rfl
theorem shr_holds : Says.shr := fun _ _ _ => completes_shift isShr_shrOp (fun _ _ _ => rfl) fun _ _ => rfl
theorem sar_holds : Says.sar := fun _ _ _ => completes_shift isSar_sarOp (fun _ _ _ => rfl) fun _ _ => rfl
theorem ror_holds : Says.ror := fun _ _ _ => completes_shift isRor_rorOp (fun _ _ _ => rfl) fun _ _ => rfl
theorem shli_holds : Says.shli := fun _ _ _ few => completes_shift isShl_shlOp (fun _ _ _ => rfl) fun _ _ => Nat.mod_eq_of_lt few
theorem shri_holds : Says.shri := fun _ _ _ few => completes_shift isShr_shrOp (fun _ _ _ => rfl) fun _ _ => Nat.mod_eq_of_lt few
theorem sari_holds : Says.sari := fun _ _ _ few => completes_shift isSar_sarOp (fun _ _ _ => rfl) fun _ _ => Nat.mod_eq_of_lt few
theorem rori_holds : Says.rori := fun _ _ _ few => completes_shift isRor_rorOp (fun _ _ _ => rfl) fun _ _ => Nat.mod_eq_of_lt few
theorem shlq_holds : Says.shlq := fun _ _ few => completesPlain_shift isShl_shlOp (fun _ _ _ => rfl) (Nat.mod_eq_of_lt few)
theorem shrq_holds : Says.shrq := fun _ _ few => completesPlain_shift isShr_shrOp (fun _ _ _ => rfl) (Nat.mod_eq_of_lt few)
theorem sarq_holds : Says.sarq := fun _ _ few => completesPlain_shift isSar_sarOp (fun _ _ _ => rfl) (Nat.mod_eq_of_lt few)

/-- Settles O20: bit by bit the result of each shift is the source's bits moved, and its carry the last bit shifted out; the register and
immediate forms differ in where their count comes from alone. -/
theorem shifts : Obligations.Shifts :=
  ⟨shl_holds, shr_holds, sar_holds, ror_holds, shli_holds, shri_holds, sari_holds, rori_holds, shlq_holds, shrq_holds, sarq_holds⟩

end Sys2Proof.Proofs
end

section
/-! SUPPORT. O21: multiplication and division (R548), and the pairs that an odd register does not name. -/
namespace Sys2Proof.Proofs
open Sys2Proof Sys2Proof.Machine Sys2Proof.Laws

/-! ## Numbers of two words and of one -/

theorem opWidth_false : opWidth false = 36 := rfl
theorem opWidth_true : opWidth true = 32 := rfl

/-- The top bit of a number that fits is whether it reaches its weight. -/
theorem bitOf_top {v n : Nat} (fits : v < 2 ^ (n + 1)) : bitOf v n = decide (2 ^ n ≤ v) := by
  have two : v / 2 ^ n < 2 := Nat.div_lt_of_lt_mul (by rwa [← Nat.pow_succ])
  have one : 1 ≤ v / 2 ^ n ↔ 2 ^ n ≤ v := by rw [Nat.le_div_iff_mul_le (Nat.two_pow_pos n), Nat.one_mul]
  rw [bitOf, Bool.eq_iff_iff, beq_iff_eq, decide_eq_true_eq, ← one]
  generalize v / 2 ^ n = q at two
  omega

theorem opNeg_eq {l : Bool} {v : Nat} (fits : v < 2 ^ opWidth l) : opNeg l v = decide (2 ^ (opWidth l - 1) ≤ v) :=
  bitOf_top (by cases l <;> exact fits)

/-- A number read as two's complement: itself below the sign's weight, else less than it by the weight of the width. -/
theorem opInt_cases {l : Bool} {v : Nat} (fits : v < 2 ^ opWidth l) :
    v < 2 ^ (opWidth l - 1) ∧ opNeg l v = false ∧ opInt l v = v ∨
      2 ^ (opWidth l - 1) ≤ v ∧ opNeg l v = true ∧ opInt l v = v - 2 ^ opWidth l := by
  by_cases negative : 2 ^ (opWidth l - 1) ≤ v
  · exact .inr ⟨negative, by simp [opNeg_eq fits, negative], by simp [opInt, opNeg_eq fits, negative]⟩
  · exact .inl ⟨Nat.lt_of_not_le negative, by simp [opNeg_eq fits, negative], by simp [opInt, opNeg_eq fits, negative]⟩

/-- A source as a signed number. -/
theorem laneInt_eq (l : Bool) (v : Word) : Says.laneInt l v = opInt l (opSrc l v) := by
  have narrow : Says.laneInt l v = (v.setWidth (opWidth l)).toInt := by cases l <;> simp [Says.laneInt, opWidth]
  have small := opSrc_lt l v
  rw [narrow, BitVec.toInt_eq_msb_cond, BitVec.msb_eq_decide, BitVec.toNat_setWidth, opInt, opNeg_eq small]
  rfl

theorem opSrc_opRes (l : Bool) (r : Nat) : opSrc l (opRes l r) = r % 2 ^ opWidth l := by
  rw [opSrc, toNat_opRes, Nat.mod_mod]

theorem lane_opRes (l : Bool) (r : Nat) : Says.lane l (opRes l r) = opRes l r := by
  rw [← BitVec.toNat_inj, toNat_lane, opSrc_opRes, toNat_opRes]

/-- The bounds of a signed number. -/
theorem opInt_bounds {l : Bool} {v : Nat} (fits : v < 2 ^ opWidth l) :
    -2 ^ (opWidth l - 1) ≤ opInt l v ∧ opInt l v < 2 ^ (opWidth l - 1) := by
  have value := opInt_cases fits
  cases l <;> simp only [opWidth_false, opWidth_true] at * <;> omega

theorem fromInt_eq (w : Nat) (i : Int) : ((fromInt w i : Nat) : Int) = i % 2 ^ w := by
  have pos := Nat.two_pow_pos w
  rw [fromInt, Int.toNat_of_nonneg (Int.emod_nonneg _ (by omega)), Int.natCast_pow]
  rfl

theorem fromInt_lt (w : Nat) (i : Int) : fromInt w i < 2 ^ w := by
  have pos := Nat.two_pow_pos w
  have low := Int.emod_nonneg i (show ((2 ^ w : Nat) : Int) ≠ 0 by omega)
  have high := Int.emod_lt_of_pos i (show (0 : Int) < (2 ^ w : Nat) by omega)
  rw [fromInt]
  omega

/-- A number of twice the width is its low word and its high word. -/
theorem two_words {l : Bool} {p : Nat} (fits : p < 2 ^ (2 * opWidth l)) :
    p / 2 ^ opWidth l < 2 ^ opWidth l ∧ p = p % 2 ^ opWidth l + 2 ^ opWidth l * (p / 2 ^ opWidth l) := by
  refine ⟨Nat.div_lt_of_lt_mul ?_, (Nat.mod_add_div ..).symm⟩
  rwa [← Nat.pow_add, ← Nat.two_mul]

/-- A two's-complement number `i` of twice the width as the number `p` of two words: the high word has its sign, 0 and the sign show in `p`,
and the low word alone holds it where the high word only repeats the low word's sign. -/
theorem signed_words {l : Bool} {i : Int} {p lo hi : Nat} (low : -2 ^ (2 * opWidth l - 1) ≤ i) (high : i < 2 ^ (2 * opWidth l - 1))
    (num : (p : Int) = i % 2 ^ (2 * opWidth l)) (words : p = lo + 2 ^ opWidth l * hi) (loFits : lo < 2 ^ opWidth l)
    (hiFits : hi < 2 ^ opWidth l) :
    (lo : Int) + 2 ^ opWidth l * opInt l hi = i ∧ (p = 0 ↔ i = 0) ∧ (2 ^ (2 * opWidth l - 1) ≤ p ↔ i < 0) ∧
      (hi ≠ (if opNeg l lo then 2 ^ opWidth l - 1 else 0) ↔ opInt l lo ≠ i) := by
  have upper := opInt_cases hiFits
  have lower := opInt_cases loFits
  generalize opInt l hi = h at *
  generalize opInt l lo = k at *
  generalize opNeg l lo = n at *
  cases l <;> cases n <;> simp only [opWidth_false, opWidth_true, if_true, if_false, Bool.false_eq_true, Bool.true_eq_false, false_and,
    and_false, or_false, false_or] at *
  all_goals refine ⟨?_, ?_, ?_, ?_⟩
  all_goals omega

/-! ## Products -/

theorem pairLegal_even {rd : Nat} (even : rd % 2 = 0) : pairLegal rd = .ok := by simp [pairLegal, badIf, even]
theorem pairLegal_odd {rd : Nat} (odd : rd % 2 = 1) : pairLegal rd = .bad 4 := by simp [pairLegal, badIf, odd]

theorem product_lt (l : Bool) (a b : Word) : opSrc l a * opSrc l b < 2 ^ (2 * opWidth l) := by
  rw [Nat.two_mul, Nat.pow_add]
  exact Nat.mul_lt_mul'' (opSrc_lt l a) (opSrc_lt l b)

theorem double_weight (l : Bool) : 2 ^ opWidth l * 2 ^ opWidth l = 2 * 2 ^ (2 * opWidth l - 1) := by cases l <;> decide

theorem bne_of_iff {a b : Nat} {p : Prop} [Decidable p] (h : a ≠ b ↔ p) : (a != b) = decide p := by
  rw [Bool.eq_iff_iff, bne_iff_ne, decide_eq_true_eq, h]

theorem bitOf_double {l : Bool} {p : Nat} (fits : p < 2 ^ (2 * opWidth l)) :
    bitOf p (2 * opWidth l - 1) = decide (2 ^ (2 * opWidth l - 1) ≤ p) := bitOf_top (by cases l <;> exact fits)

theorem mulu_holds : Says.mulu := by
  refine fun rd ra rb even => completes_setPair (fun _ _ _ => rfl) (pairLegal_even even) fun u t c x low high flags => ?_
  rw [low, high, flags]
  have fits := product_lt x.l32 (reg u c ra) (reg u c rb)
  have double := double_weight x.l32
  simp only [mulOp, toNat_opRes, toNat_lane, laneBits_eq, Bool.false_eq_true, if_false, Nat.mod_mod, true_and]
  generalize opSrc x.l32 (reg u c ra) * opSrc x.l32 (reg u c rb) = p at *
  obtain ⟨hiFits, -⟩ := two_words fits
  have spills : p / 2 ^ opWidth x.l32 ≠ 0 ↔ 2 ^ opWidth x.l32 ≤ p := by
    rw [← Nat.one_le_iff_ne_zero, Nat.le_div_iff_mul_le (Nat.two_pow_pos _), Nat.one_mul]
  rw [Nat.mod_eq_of_lt hiFits, bitOf_double fits, double]
  refine ⟨rfl, ⟨rfl, rfl⟩, Bool.beq_eq_decide_eq .., ?_, ?_⟩
  · exact decide_eq_decide.2 (by omega)
  · exact bne_of_iff spills

theorem natAbs_opInt {l : Bool} {v : Nat} (fits : v < 2 ^ opWidth l) : (opInt l v).natAbs ≤ 2 ^ (opWidth l - 1) := by
  have bounds := opInt_bounds fits
  cases l <;> simp only [opWidth_false, opWidth_true] at * <;> omega

theorem signed_product_bounds (l : Bool) (a b : Word) :
    -2 ^ (2 * opWidth l - 1) ≤ opInt l (opSrc l a) * opInt l (opSrc l b) ∧
      opInt l (opSrc l a) * opInt l (opSrc l b) < 2 ^ (2 * opWidth l - 1) := by
  have size := Nat.mul_le_mul (natAbs_opInt (opSrc_lt l a)) (natAbs_opInt (opSrc_lt l b))
  rw [← Int.natAbs_mul] at size
  generalize opInt l (opSrc l a) * opInt l (opSrc l b) = i at *
  cases l <;> simp only [opWidth_false, opWidth_true] at * <;> omega

theorem muls_holds : Says.muls := by
  refine fun rd ra rb even => completes_setPair (fun _ _ _ => rfl) (pairLegal_even even) fun u t c x low high flags => ?_
  rw [low, high, flags]
  obtain ⟨lower, upper⟩ := signed_product_bounds x.l32 (reg u c ra) (reg u c rb)
  simp only [mulOp, if_true, laneInt_eq, opSrc_opRes, toNat_opRes, laneBits_eq, Nat.mod_mod]
  generalize opInt x.l32 (opSrc x.l32 (reg u c ra)) * opInt x.l32 (opSrc x.l32 (reg u c rb)) = i at *
  have num := fromInt_eq (2 * opWidth x.l32) i
  have fits := fromInt_lt (2 * opWidth x.l32) i
  generalize fromInt (2 * opWidth x.l32) i = p at *
  obtain ⟨hiFits, words⟩ := two_words fits
  have loFits : p % 2 ^ opWidth x.l32 < 2 ^ opWidth x.l32 := Nat.mod_lt _ (Nat.two_pow_pos _)
  obtain ⟨value, zero, sign, spills⟩ := signed_words lower upper num words loFits hiFits
  rw [Nat.mod_eq_of_lt hiFits, bitOf_double fits]
  exact ⟨value, mod_cast loFits, mod_cast hiFits, ⟨rfl, rfl⟩, decide_eq_decide.2 zero, decide_eq_decide.2 sign, bne_of_iff spills⟩

/-! ## Quotients -/

theorem opInt_fromInt {l : Bool} {i : Int} (low : -2 ^ (opWidth l - 1) ≤ i) (high : i < 2 ^ (opWidth l - 1)) :
    opInt l (fromInt (opWidth l) i) = i := by
  have value := opInt_cases (fromInt_lt (opWidth l) i)
  have num := fromInt_eq (opWidth l) i
  generalize fromInt (opWidth l) i = p at *
  cases l <;> simp only [opWidth_false, opWidth_true] at * <;> omega

/-- The sources that the quotient's exceptions name: 0, -1, and the least number. -/
theorem opInt_exceptions {l : Bool} {v : Nat} (fits : v < 2 ^ opWidth l) :
    (opInt l v = 0 ↔ v = 0) ∧ (opInt l v = -1 ↔ v = 2 ^ opWidth l - 1) ∧ (opInt l v = -2 ^ (opWidth l - 1) ↔ v = 2 ^ (opWidth l - 1)) := by
  have value := opInt_cases fits
  cases l <;> simp only [opWidth_false, opWidth_true] at * <;> omega

theorem opInt_zero (l : Bool) : opInt l 0 = 0 := (opInt_exceptions (Nat.two_pow_pos _)).1.2 rfl

/-- The quotient of two signed numbers fits as they do, but for the least number by -1. -/
theorem tdiv_fits {h a b : Int} (low : -h ≤ a) (high : a < h) (zero : b ≠ 0) (fine : ¬ (a = -h ∧ b = -1)) : -h ≤ a.tdiv b ∧ a.tdiv b < h := by
  by_cases up : b = 1
  · simp [up, low, high]
  by_cases down : b = -1
  · simp [down]
    omega
  have small : (a.tdiv b).natAbs = a.natAbs / b.natAbs := Int.natAbs_tdiv a b
  have two : a.natAbs / b.natAbs ≤ a.natAbs / 2 := Nat.div_le_div_left (by omega) (by decide)
  omega

theorem tmod_fits {h a b : Int} (low : -h ≤ b) (high : b < h) (zero : b ≠ 0) : -h ≤ a.tmod b ∧ a.tmod b < h := by
  have small := Int.natAbs_tmod a b
  have rest : a.natAbs % b.natAbs < b.natAbs := Nat.mod_lt _ (by omega)
  omega

theorem divu_holds : Says.divu := by
  refine fun rd ra rb even => completes_setPair (fun _ _ _ => rfl) (pairLegal_even even) fun u t c x low high flags => ?_
  rw [low, high, flags]
  simp only [toNat_lane]
  refine ⟨⟨rfl, rfl⟩, zeroNegative_zn x.l32 _ (flagsOf u c), ?_⟩
  have fits := opSrc_lt x.l32 (reg u c ra)
  simp only [divOp, Bool.false_and, Bool.or_false, Bool.false_eq_true, if_false, toNat_opRes]
  generalize opSrc x.l32 (reg u c ra) = a at *
  generalize opSrc x.l32 (reg u c rb) = b at *
  refine ⟨Bool.beq_eq_decide_eq .., ?_⟩
  by_cases zero : b = 0
  · simp [zero, Nat.mod_eq_of_lt fits]
  · rw [if_neg zero, if_neg zero]
    exact ⟨Nat.mod_eq_of_lt (Nat.lt_of_le_of_lt (Nat.div_le_self ..) fits), Nat.mod_eq_of_lt (Nat.lt_of_le_of_lt (Nat.mod_le ..) fits)⟩

theorem divs_holds : Says.divs := by
  refine fun rd ra rb even => completes_setPair (fun _ _ _ => rfl) (pairLegal_even even) fun u t c x low high flags => ?_
  rw [low, high, flags]
  simp only [laneInt_eq]
  refine ⟨⟨rfl, rfl⟩, zeroNegative_zn x.l32 _ (flagsOf u c), ?_⟩
  have aFits := opSrc_lt x.l32 (reg u c ra)
  have bFits := opSrc_lt x.l32 (reg u c rb)
  obtain ⟨aLow, aHigh⟩ := opInt_bounds aFits
  obtain ⟨bLow, bHigh⟩ := opInt_bounds bFits
  obtain ⟨-, -, least⟩ := opInt_exceptions aFits
  obtain ⟨zero, minus, -⟩ := opInt_exceptions bFits
  simp only [divOp, Bool.true_and, if_true, laneBits_eq, opSrc_opRes, lane_opRes, true_and, zero, minus, least, Bool.and_eq_true, beq_iff_eq]
  generalize opSrc x.l32 (reg u c ra) = a at *
  generalize opSrc x.l32 (reg u c rb) = b at *
  refine ⟨by rw [Bool.eq_iff_iff]; simp, ?_⟩
  by_cases nought : b = 0
  · have never : ¬ (a = 2 ^ (opWidth x.l32 - 1) ∧ b = 2 ^ opWidth x.l32 - 1) := by
      rw [nought]
      cases x.l32 <;> simp [opWidth]
    rw [if_pos nought, if_pos nought, if_neg never, zero.2 nought, Int.tdiv_zero, Int.tmod_zero, Nat.mod_eq_of_lt aFits, Nat.zero_mod]
    exact ⟨opInt_zero _, rfl⟩
  by_cases big : a = 2 ^ (opWidth x.l32 - 1) ∧ b = 2 ^ opWidth x.l32 - 1
  · simp only [if_neg nought, if_pos big, Nat.mod_eq_of_lt aFits, Nat.zero_mod, least.2 big.1, minus.2 big.2]
    simp [opInt_zero]
  · have fine : ¬ (opInt x.l32 a = -2 ^ (opWidth x.l32 - 1) ∧ opInt x.l32 b = -1) := by rwa [least, minus]
    obtain ⟨qLow, qHigh⟩ := tdiv_fits aLow aHigh (mt zero.1 nought) fine
    obtain ⟨rLow, rHigh⟩ := tmod_fits (a := opInt x.l32 a) bLow bHigh (mt zero.1 nought)
    simp only [if_neg nought, if_neg big, Nat.mod_eq_of_lt (fromInt_lt ..), opInt_fromInt qLow qHigh, opInt_fromInt rLow rHigh, and_self]

theorem oddPairs_holds : Says.oddPairs := by
  refine fun rd odd => ⟨fun ra rb i mem => ?_, fun ra m i mem => ?_⟩
  · simp only [List.mem_cons, List.not_mem_nil, or_false] at mem
    rcases mem with rfl | rfl | rfl | rfl
    all_goals exact illegal_of_bad (fun _ _ _ => rfl) fun _ _ _ _ => pairLegal_odd odd
  · have lanes {x : Pfx} {rest : List Legal} (plain : x.l32 = false) : legals (noLane x :: pairLegal rd :: rest) = .bad 4 := by
      simp [noLane, badIf, plain, pairLegal_odd odd, legals]
    simp only [List.mem_cons, List.not_mem_nil, or_false] at mem
    rcases mem with rfl | rfl
    all_goals exact illegal_of_bad (fun _ _ _ => rfl) fun _ _ _ plain => lanes plain

/-- Settles O21: the two words hold the product, and quotient and remainder are those toward zero, in the width of the operation; an odd rd is
refused before anything is read. -/
theorem multiplyDivide : Obligations.MultiplyDivide := ⟨mulu_holds, muls_holds, divu_holds, divs_holds, oddPairs_holds⟩

end Sys2Proof.Proofs
end

section
/-! SUPPORT. Chapter 14: a packet that acts at once reaches its effect (R704-R709), and its reply goes out and changes nothing else
(R694, R711). -/
namespace Sys2Proof.Proofs
open Sys2Proof Sys2Proof.Machine Sys2Proof.Laws

/-! ## A packet in flight (R704) -/

/-- The packet as intake enters it among those in flight. -/
def taken (s : State) (op : Nat) (p : Packet) : Flight :=
  { op := op, p := p, intake := frameNo s, fevoum := fevoum s, tkEd := (tkGet s p.id).edition }

@[simp] theorem mg_flightAdd (s : State) (op : Nat) (p : Packet) :
    (flightAdd s op p).mg = { s.mg with next := s.mg.next + 1, flights := tabSet s.mg.flights s.mg.next (taken s op p) } := by
  simp only [flightAdd]
  split <;> rfl

theorem flightAdd_only (s : State) (op : Nat) (p : Packet) :
    flightAdd s op p = { s with mg := (flightAdd s op p).mg, regs := (flightAdd s op p).regs } := by
  simp only [flightAdd]
  split <;> rfl

/-- Intake writes no register but MG_INFLIGHT (R730). -/
theorem regRaw_flightAdd_ne (s : State) (op : Nat) (p : Packet) {a : Nat} (h : a ≠ MG_INFLIGHT) :
    regRaw (flightAdd s op p) a = regRaw s a := by
  simp only [flightAdd]
  split
  · rfl
  · exact regRaw_regPutFld_ne _ _ _ _ h

@[simp] theorem flightGet_flightAdd (s : State) (op : Nat) (p : Packet) :
    flightGet (flightAdd s op p) s.mg.next = some (taken s op p) := by
  simp [flightGet]

theorem inHand_only (s : State) (op : Nat) (p : Packet) :
    Says.inHand s op p = { s with mg := (Says.inHand s op p).mg, regs := (Says.inHand s op p).regs } := by
  rw [Says.inHand, flightAdd_only]
  rfl

theorem regRaw_inHand_ne (s : State) (op : Nat) (p : Packet) {a : Nat} (h : a ≠ MG_INFLIGHT) :
    regRaw (Says.inHand s op p) a = regRaw s a := regRaw_flightAdd_ne s op p h

theorem flightGet_inHand (s : State) (op : Nat) (p : Packet) :
    flightGet (Says.inHand s op p) s.mg.next = some { taken s op p with applied := true } := by
  simp [Says.inHand, flightApplied, mgMod, flightGet]

theorem tabSorted_tabMod {α : Type} (t : Table α) (k : Nat) (f : α → α) : tabSorted (tabMod t k f) = tabSorted t :=
  tabSorted_congr (keys_tabMod t k f)

theorem tabSorted_inHand {s : State} (op : Nat) (p : Packet) (h : tabSorted s.mg.flights = true) :
    tabSorted (Says.inHand s op p).mg.flights = true := by
  simp only [Says.inHand, flightApplied, mgMod, tabSorted_tabMod, mg_flightAdd]
  exact tabSorted_tabSet _ _ _ h

/-! ## From intake to the effect (R704-R709) -/

/-- The checks of R705 look at nothing that intake changes. -/
theorem packetCheck_flightAdd (s : State) (op : Nat) (p : Packet) (q : Packet) (o : Nat) :
    packetCheck (flightAdd s op p) o q = packetCheck s o q := by
  have state : deviceState (flightAdd s op p) = deviceState s := by
    have status : stage (flightAdd s op p) = stage s := by
      simp only [stage, regFld, regNat, regRaw_flightAdd_ne s op p (show PW_STATUS ≠ MG_INFLIGHT by decide)]
    rw [deviceState, deviceState, status, flightAdd_only]
  have admits : admitted (flightAdd s op p) o = admitted s o := by
    rw [admitted, state]
    rfl
  simp only [packetCheck, admits]

/-- A packet that acts waits for no other and for no buffer (R68, R697, R708). -/
theorem pkWaits_flightAdd {s : State} {op : Nat} {p : Packet} (h : Says.acts s op p) :
    pkWaits (flightAdd s op p) s.mg.next = false := by
  obtain ⟨-, others, -, reach⟩ := h
  have blocked : pkBlocked (flightAdd s op p) s.mg.next = false := by
    simp only [pkBlocked, flightGet_flightAdd, Bool.and_eq_false_iff, List.any_eq_false]
    refine .inr fun e m => ?_
    rw [mg_flightAdd] at m
    rcases mem_tabSet m with rfl | old
    · simp
    · by_cases same : e.2.p.parcel = p.parcel
      · simp [others e old same]
      · simp [taken, same]
  have held : bufHeld (flightAdd s op p) op p = false := by
    rw [bufHeld, flightAdd_only]
    rcases reach with mctp | bme
    · simp [mctp]
    · simp only [fnGet] at bme
      simp [fnGet, bme]
  rw [pkWaits, blocked, flightGet_flightAdd]
  exact held

/-- From opcode 0405h on a packet has no step of its own: it takes effect when it is taken in (R709, R804). -/
theorem packetStart_atOnce {op : Nat} (s : State) (n : Nat) (p : Packet) (h : 0x405 ≤ op) : packetStart s n op p = pkRun s n := by
  have five : stepFive op = false := by simp [stepFive]; omega
  simp only [packetStart, five]
  rw [if_neg (by omega), if_neg (by omega), if_neg (by omega), if_neg (by omega), if_neg (by decide)]

theorem pkRun_flightAdd {s : State} {op : Nat} {p : Packet} (h : Says.acts s op p) (late : 0x405 ≤ op) :
    pkRun (flightAdd s op p) s.mg.next = packetFx (Says.inHand s op p) s.mg.next op p := by
  have unmarked : marksItself op = false := by simp [marksItself]; omega
  have waits := pkWaits_flightAdd h
  obtain ⟨-, -, readable, -⟩ := h
  simp [pkRun, taken, waits, readable, unmarked, Says.inHand]

theorem packetArrive_arrives {s : State} {op : Nat} {p : Packet} (h : Says.arrives s op p) :
    packetArrive s op p = packetStart (flightAdd s op p) s.mg.next op p := by
  obtain ⟨-, room, first, cached, power, halted, -, check, -⟩ := h
  have noDuplicate : (s.mg.flights.any fun f => carrier f.2.p == carrier p && f.2.p.seq == p.seq) = false := by
    simpa [List.any_eq_false] using first
  have noRepeat : ((tabGetD s.mg.caches (carrier p) []).find? fun c => c.op == op && samePacket c.p p) = none := by
    simpa [List.find?_eq_none] using cached
  have running : ((flightAdd s op p).ev.powerFail || (flightAdd s op p).pw.halted) = false := by
    rw [flightAdd_only, Bool.or_eq_false_iff]
    exact ⟨power, halted⟩
  simp only [packetArrive, if_neg (Nat.not_le.2 room), noDuplicate, noRepeat, packetTake, running, packetCheck_flightAdd, check,
    Bool.false_eq_true, if_false]

theorem packetIn_arrives {s : State} {op : Nat} {p : Packet} (h : Says.arrives s op p) :
    packetIn s op p = packetStart (flightAdd s op p) s.mg.next op p := by
  rw [← packetArrive_arrives h]
  obtain ⟨carried, -⟩ := h
  rcases carried with mctp | ⟨ticket, fields, data⟩
  · simp [packetIn, mctp]
  · simp [packetIn, ticket, fields, data]

/-- A packet that acts at once has its effect in the state `Says.inHand`. -/
theorem packetIn_acts {s : State} {op : Nat} {p : Packet} (h : Says.acts s op p) (late : 0x405 ≤ op) :
    packetIn s op p = packetFx (Says.inHand s op p) s.mg.next op p := by
  rw [packetIn_arrives h.1, packetStart_atOnce _ _ _ late, pkRun_flightAdd h late]

/-! ## What a reply changes (R694, R711) -/

/-- The messages of a reply, and the end of the admin command that carried the packet. -/
def replyPosted (s : State) (op : Nat) (p : Packet) (tkEd : Nat) (st : RStat) (result data : Bytes) : State :=
  let res := if st = .ok then result ++ zeros (28 - result.length) else zeros 28
  let quiet := !p.mctp && (s.ev.powerFail || s.fr.fatal || !replyLive s p tkEd)
  let s := if quiet then s else emit s (.reply p.mctp p.id p.tag p.seq op st res)
  let s := if quiet || data = [] || st != .ok then s else emit s (.packetData p.mctp p.id data)
  if p.mctp || quiet then s
  else tkMod (tkFinishW s p.id .success (p.seq % 65536 + rstatCode st * 65536)) p.id fun t => { t with dw1 := leAt res 0 4 }

/-- The MG registers tell of a reply, and event 500 is raised (R711). -/
def replyTold (s : State) (op : Nat) (p : Packet) (st : RStat) : State :=
  let s := regPut s MG_LAST (op % 65536 * 65536 + rstatCode st)
  let s := regPut s MG_LAST_SEQ (b2n p.mctp * 2 ^ 31 + (if p.mctp then p.id % 256 else 0) * 2 ^ 16 + p.seq % 65536)
  raise (regInc s MG_REPLIES) 500

theorem replySend_eq (s : State) (fev : Bool) (op : Nat) (p : Packet) (tkEd : Nat) (st : RStat) (result data : Bytes) :
    replySend s fev op p tkEd st result data =
      if fev then replyPosted s op p tkEd st result data else replyTold (replyPosted s op p tkEd st result data) op p st := rfl

theorem replyPosted_only (s : State) (op : Nat) (p : Packet) (tkEd : Nat) (st : RStat) (result data : Bytes) :
    replyPosted s op p tkEd st result data =
      { s with out := (replyPosted s op p tkEd st result data).out, cq := (replyPosted s op p tkEd st result data).cq } := by
  have sent (c : Bool) (u : State) (o : Out) : (if c then u else emit u o) = { u with out := (if c then u else emit u o).out } := by
    cases c <;> rfl
  simp only [replyPosted]
  rw [sent, sent]
  split <;> rfl

theorem replyTold_only (s : State) (op : Nat) (p : Packet) (st : RStat) :
    replyTold s op p st = { s with regs := (replyTold s op p st).regs, ev := (replyTold s op p st).ev } := by
  rw [replyTold, raise_only]
  rfl

/-- Is `a` a register that a reply may write: one of MG's three, or the EV_PENDING word of event 500? -/
def replyReg (a : Nat) : Prop := a = MG_LAST ∨ a = MG_LAST_SEQ ∨ a = MG_REPLIES ∨ a = EV_PENDING (500 / 32)

theorem regRaw_replyTold_ne (s : State) (op : Nat) (p : Packet) (st : RStat) {a : Nat} (h : ¬ replyReg a) :
    regRaw (replyTold s op p st) a = regRaw s a := by
  simp only [replyReg, not_or] at h
  obtain ⟨last, seq, replies, pending⟩ := h
  rw [replyTold, regRaw_raise_ne _ pending, regRaw_regInc_ne _ replies, regRaw_regPut_ne _ _ seq, regRaw_regPut_ne _ _ last]

theorem evPending_regs {s t : State} (h : ∀ i, i < 16 → regRaw t (EV_PENDING i) = regRaw s (EV_PENDING i)) {n : Nat} (lt : n < 512) :
    evPending t n = evPending s n := evPending_congr (h _ (by omega))

/-- A reply raises event 500 and no other. -/
theorem raised_replyTold (s : State) (op : Nat) (p : Packet) (st : RStat) : Says.raised s (replyTold s op p st) 500 := by
  refine raised_of_same (raised_raise _ rfl) rfl fun i lt => ?_
  have apart : EV_PENDING i < MG_LAST := by simp only [EV_PENDING, MG_LAST]; omega
  have : MG_LAST < MG_LAST_SEQ ∧ MG_LAST_SEQ < MG_REPLIES := by decide
  rw [regRaw_regInc_ne _ (by omega), regRaw_regPut_ne _ _ (by omega), regRaw_regPut_ne _ _ (by omega)]

/-- What is posted of a reply where nothing holds it back (R67, R707, R759): the reply, then its data. -/
theorem out_replyPosted {s : State} {p : Packet} {tkEd : Nat} (op : Nat) (st : RStat) (result data : Bytes)
    (loud : (!p.mctp && (s.ev.powerFail || s.fr.fatal || !replyLive s p tkEd)) = false) :
    (replyPosted s op p tkEd st result data).out =
      s.out ++ [.reply p.mctp p.id p.tag p.seq op st (if st = .ok then result ++ zeros (28 - result.length) else zeros 28)] ++
        if data = [] ∨ st ≠ .ok then [] else [.packetData p.mctp p.id data] := by
  have ended (c : Bool) (u : State) (g : Ticket → Ticket) (i : Nat) (d : Nat) :
      (if c then u else tkMod (tkFinishW u i .success d) i g).out = u.out := by cases c <;> rfl
  simp only [replyPosted, loud, ended, Bool.false_eq_true, if_false]
  by_cases bare : data = [] ∨ st ≠ .ok
  · simp [bare, emit]
  · simp [bare, emit]

/-- What a reply can do to registers and events: nothing, or what `replyTold` does. -/
theorem pkReply_cases (u : State) (n : Nat) (st : RStat) (result data : Bytes) :
    ((pkReply u n st result data).regs = u.regs ∧ (pkReply u n st result data).ev = u.ev) ∨
      ∃ w op p, pkReply u n st result data = replyTold w op p st ∧ w.regs = u.regs ∧ w.ev = u.ev := by
  cases found : flightGet u n with
  | none => simp [pkReply, found]
  | some f =>
    by_cases held : replyHeld u f data = true
    · simp [pkReply, found, held, mgMod]
    · simp only [pkReply, found, held, replySend_eq, Bool.false_eq_true, if_false]
      split
      · left
        rw [replyPosted_only]
        exact ⟨rfl, rfl⟩
      · refine .inr ⟨_, _, _, rfl, ?_⟩
        rw [replyPosted_only]
        exact ⟨rfl, rfl⟩

/-- An answer changes what is in flight, what goes out, tickets, registers and events, and nothing else. -/
theorem pkReply_only (u : State) (n : Nat) (st : RStat) (result data : Bytes) : pkReply u n st result data =
    { u with
      mg := (pkReply u n st result data).mg, out := (pkReply u n st result data).out, cq := (pkReply u n st result data).cq
      regs := (pkReply u n st result data).regs, ev := (pkReply u n st result data).ev } := by
  cases found : flightGet u n with
  | none => simp [pkReply, found]
  | some f =>
    simp only [pkReply, found, replySend_eq]
    split
    · rfl
    · split
      · rw [replyPosted_only]
        rfl
      · rw [replyTold_only, replyPosted_only]
        rfl

@[simp] theorem pkReply_pw (u : State) (n : Nat) (st : RStat) (result data : Bytes) : (pkReply u n st result data).pw = u.pw := by
  rw [pkReply_only]
@[simp] theorem pkReply_ks (u : State) (n : Nat) (st : RStat) (result data : Bytes) : (pkReply u n st result data).ks = u.ks := by
  rw [pkReply_only]

theorem regRaw_pkReply_ne (u : State) (n : Nat) (st : RStat) (result data : Bytes) {a : Nat} (h : ¬ replyReg a) :
    regRaw (pkReply u n st result data) a = regRaw u a := by
  rcases pkReply_cases u n st result data with ⟨regs, -⟩ | ⟨w, op, p, told, regs, -⟩
  · exact regRaw_congr regs a
  · rw [told, regRaw_replyTold_ne _ _ _ _ h, regRaw_congr regs]

/-- An answer changes no event but 500, in neither latch (R711). -/
theorem events_pkReply (u : State) (n : Nat) (st : RStat) (result data : Bytes) {m : Nat} (ne : m ≠ 500) (lt : m < 512) :
    evPending (pkReply u n st result data) m = evPending u m ∧
      (pkReply u n st result data).ev.fwLatch.getLsbD m = u.ev.fwLatch.getLsbD m := by
  rcases pkReply_cases u n st result data with ⟨regs, ev⟩ | ⟨w, op, p, told, regs, ev⟩
  · exact ⟨evPending_congr (regRaw_congr regs _), by rw [ev]⟩
  · obtain ⟨-, -, others⟩ := raised_replyTold w op p st
    obtain ⟨pending, latch⟩ := others m ne lt
    rw [told]
    exact ⟨pending.trans (evPending_congr (regRaw_congr regs _)), latch.trans (by rw [ev])⟩

/-! ## The answer of a packet that acts at once (R704, R710) -/

/-- `u` differs from the state in hand in nothing that an answer looks at. -/
structure Stands (s : State) (op : Nat) (p : Packet) (u : State) : Prop where
  mg : u.mg = (Says.inHand s op p).mg
  cq : u.cq = s.cq
  host : u.host = s.host
  fr : u.fr = s.fr
  ev : u.ev = s.ev

theorem stands_inHand (s : State) (op : Nat) (p : Packet) : Stands s op p (Says.inHand s op p) := by
  constructor
  · rfl
  all_goals rw [inHand_only]

/-- An effect that leaves those parts alone leaves a state that stands so. -/
theorem Stands.keep {s u v : State} {op : Nat} {p : Packet} (h : Stands s op p u)
    (same : (v.mg, v.cq, v.host, v.fr, v.ev) = (u.mg, u.cq, u.host, u.fr, u.ev)) : Stands s op p v := by
  simp only [Prod.mk.injEq] at same
  obtain ⟨mg, cq, host, fr, ev⟩ := same
  exact ⟨mg.trans h.mg, cq.trans h.cq, host.trans h.host, fr.trans h.fr, ev.trans h.ev⟩

@[simp] theorem inHand_pw (s : State) (op : Nat) (p : Packet) : (Says.inHand s op p).pw = s.pw := by rw [inHand_only]
@[simp] theorem inHand_ks (s : State) (op : Nat) (p : Packet) : (Says.inHand s op p).ks = s.ks := by rw [inHand_only]
@[simp] theorem inHand_fresh (s : State) (op : Nat) (p : Packet) : (Says.inHand s op p).fresh = s.fresh := by rw [inHand_only]

/-- A packet that came with an admin command finds its ticket as it was (R67). -/
theorem replyLive_stands {s u : State} {op : Nat} {p : Packet} (h : Says.acts s op p) (cq : u.cq = s.cq) :
    replyLive u p (tkGet s p.id).edition = true := by
  obtain ⟨⟨carried, -⟩, -⟩ := h
  rcases carried with mctp | ⟨ticket, -⟩
  · simp [replyLive, mctp]
  · simp only [onTicket, Bool.and_eq_true, decide_eq_true_eq] at ticket
    obtain ⟨⟨⟨⟨⟨busy, admin⟩, -⟩, vendor⟩, -⟩, -⟩ := ticket
    have same : tkGet u p.id = tkGet s p.id := by rw [tkGet, tkGet, cq]
    simp [replyLive, same, busy, admin, vendor]

/-- Its answer is posted and no longer in flight. -/
def answerPosted (s u : State) (op : Nat) (p : Packet) (st : RStat) (result data : Bytes) : State :=
  replyPosted (cachePut (mgMod u fun m => { m with flights := tabErase m.flights s.mg.next }) (fevoum s) ⟨op, p, st, result, data⟩)
    op p (tkGet s p.id).edition st result data

theorem pkReply_stands {s u : State} {op : Nat} {p : Packet} (h : Says.acts s op p) (same : Stands s op p u) (st : RStat)
    (result data : Bytes) : pkReply u s.mg.next st result data =
      if fevoum s then answerPosted s u op p st result data else replyTold (answerPosted s u op p st result data) op p st := by
  have found : flightGet u s.mg.next = some { taken s op p with applied := true } := by
    rw [← flightGet_inHand, flightGet, flightGet, same.mg]
  have free : replyHeld u { taken s op p with applied := true } data = false := by
    obtain ⟨-, -, -, reach⟩ := h
    rcases reach with mctp | bme
    · simp [replyHeld, taken, mctp]
    · rw [fnGet, ← same.host] at bme
      simp [replyHeld, fnGet, bme]
  simp only [pkReply, found, free, Bool.false_eq_true, if_false, replySend_eq]
  rfl

theorem out_pkReply {s u : State} {op : Nat} {p : Packet} (h : Says.acts s op p) (same : Stands s op p u) (st : RStat)
    (result data : Bytes) : (pkReply u s.mg.next st result data).out =
      u.out ++ [.reply p.mctp p.id p.tag p.seq op st (if st = .ok then result ++ zeros (28 - result.length) else zeros 28)] ++
        if data = [] ∨ st ≠ .ok then [] else [.packetData p.mctp p.id data] := by
  have posted : (pkReply u s.mg.next st result data).out = (answerPosted s u op p st result data).out := by
    rw [pkReply_stands h same]
    split
    · rfl
    · rw [replyTold_only]
  rw [posted, answerPosted, out_replyPosted]
  · rfl
  · have live := replyLive_stands h same.cq
    obtain ⟨⟨-, -, -, -, power, -, fatal, -⟩, -⟩ := h
    rw [← same.ev] at power
    rw [← same.fr] at fatal
    simp only [Bool.and_eq_false_iff, Bool.or_eq_false_iff, Bool.not_eq_false']
    exact .inr ⟨⟨power, fatal⟩, live⟩

/-- The packet is answered, and no longer in flight. -/
theorem answered_pkReply {s u : State} {op : Nat} {p : Packet} (h : Says.acts s op p) (same : Stands s op p u) (st : RStat)
    (result data : Bytes) : Says.answered s (pkReply u s.mg.next st result data) op p st result := by
  refine ⟨by simp [out_pkReply h same], ?_⟩
  have mg : (pkReply u s.mg.next st result data).mg = (answerPosted s u op p st result data).mg := by
    rw [pkReply_stands h same]
    split
    · rfl
    · rw [replyTold_only]
  have gone : (answerPosted s u op p st result data).mg.flights = tabErase u.mg.flights s.mg.next := by
    rw [answerPosted, replyPosted_only]
    rfl
  obtain ⟨⟨-, -, -, -, -, -, -, -, sorted⟩, -⟩ := h
  rw [flightGet, mg, gone, same.mg]
  exact tabGet_tabErase _ _ (tabSorted_inHand op p sorted)

/-- The data of an OK answer go out (R702). -/
theorem packetData_pkReply {s u : State} {op : Nat} {p : Packet} (h : Says.acts s op p) (same : Stands s op p u) (result : Bytes)
    {data : Bytes} (full : data ≠ []) : .packetData p.mctp p.id data ∈ (pkReply u s.mg.next .ok result data).out := by
  simp [out_pkReply h same, full]

/-- A packet that acts at once gives what its effect, run in the state in hand, gives. -/
theorem gives_acts {i : Instr} {s : State} {op : Nat} {p : Packet} {u : State} {P : State → Prop}
    (run : exec i s = .next (packetIn s op p)) (h : Says.acts s op p) (late : 0x405 ≤ op)
    (effect : packetFx (Says.inHand s op p) s.mg.next op p = u) (holds : P u) : Says.gives i s P :=
  ⟨_, run, by rwa [packetIn_acts h late, effect]⟩

/-- A packet that is refused in the state in hand is answered so and leaves power and firmware as they were. -/
theorem gives_refusal {i : Instr} {s : State} {op : Nat} {p : Packet} {st : RStat}
    (run : exec i s = .next (packetIn s op p)) (h : Says.acts s op p) (late : 0x405 ≤ op)
    (effect : packetFx (Says.inHand s op p) s.mg.next op p = pkFail (Says.inHand s op p) s.mg.next st) :
    Says.gives i s fun t => t.pw = s.pw ∧ Says.answered s t op p st [] :=
  gives_acts run h late effect ⟨by rw [pkFail, pkReply_pw, inHand_pw], answered_pkReply h (stands_inHand ..) ..⟩

end Sys2Proof.Proofs
end

section
/-! SUPPORT. O58: the firmware, configuration, diagnostics and event packets (R441, R444, R445, R726-R729). -/
namespace Sys2Proof.Proofs
open Sys2Proof Sys2Proof.Machine Sys2Proof.Laws

/-! ## Firmware slots (R440, R441, R726) -/

theorem fwSlot_congr {s t : State} (h : t.pw = s.pw) (k : Nat) : fwSlot t k = fwSlot s k := by rw [fwSlot, fwSlot, h]

theorem slotValid_congr {s t : State} (pw : t.pw = s.pw) (ks : t.ks = s.ks) (k : Nat) : slotValid t k = slotValid s k := by
  rw [slotValid, slotValid, fwSlot_congr pw, ks]

theorem fwSlot_fwPut (s : State) (k o : Nat) (d : Bytes) : fwSlot (fwPut s k o d) k =
    (fwSlot s k).take o ++ zeros (o - (fwSlot s k).length) ++ d ++ (fwSlot s k).drop (o + d.length) := by
  simp only [fwSlot, fwPut, tabGet_tabSet]
  rfl

theorem fwSlot_fwPut_ne (s : State) {k j : Nat} (o : Nat) (d : Bytes) (h : j ≠ k) : fwSlot (fwPut s k o d) j = fwSlot s j := by
  simp only [fwSlot, fwPut, tabGet_tabSet_ne _ _ h]

/-- Octets written into a slot stand at their offset, and every other octet is as it was; beyond its end a slot reads as zero. -/
theorem getD_fwSlot_fwPut (s : State) (k o : Nat) (d : Bytes) (i : Nat) : (fwSlot (fwPut s k o d) k).getD i 0 =
    if o ≤ i ∧ i < o + d.length then d.getD (i - o) 0 else (fwSlot s k).getD i 0 := by
  rw [fwSlot_fwPut]
  generalize fwSlot s k = b
  have filled : (b.take o).length + (zeros (o - b.length)).length = o := by
    simp only [zeros, List.length_take, List.length_replicate]
    omega
  simp only [List.getD_eq_getElem?_getD, List.getElem?_append, List.length_append, filled]
  by_cases past : o + d.length ≤ i
  · rw [if_neg (show ¬ i < o + d.length by omega), if_neg (show ¬ (o ≤ i ∧ i < o + d.length) by omega), List.getElem?_drop,
      show o + d.length + (i - (o + d.length)) = i by omega]
  rw [if_pos (show i < o + d.length by omega)]
  by_cases inside : o ≤ i
  · rw [if_neg (show ¬ i < o by omega), if_pos (show o ≤ i ∧ i < o + d.length by omega)]
  · rw [if_pos (show i < o by omega), if_neg (show ¬ (o ≤ i ∧ i < o + d.length) by omega), List.length_take]
    by_cases short : i < b.length
    · rw [if_pos (show i < min o b.length by omega), List.getElem?_take_of_lt (by omega)]
    · rw [if_neg (show ¬ i < min o b.length by omega), zeros, List.getElem?_replicate,
        if_pos (show i - min o b.length < o - b.length by omega), List.getElem?_eq_none (by omega)]
      rfl

/-- FW_DOWNLOAD of whole words within slot 1 or 2 (R440). -/
theorem fwDownloadFx_fits (u : State) (n : Nat) {p : Packet} (slot : 1 ≤ pAt p 8 1 ∧ pAt p 8 1 ≤ 2) (offset : pAt p 12 4 % 4 = 0)
    (length : p.buf.length % 4 = 0) (fits : pAt p 12 4 + p.buf.length ≤ 33554432) : fwDownloadFx u n p =
      if pAt p 8 1 = u.pw.running then pkFail u n .wrongState
      else pkReply (fwPut u (pAt p 8 1) (pAt p 12 4) p.buf) n .ok :=
  if_neg (by omega)

theorem fwCommitFx_slot (u : State) (n : Nat) {p : Packet} (slot : 1 ≤ pAt p 8 1 ∧ pAt p 8 1 ≤ 2) : fwCommitFx u n p =
    if slotValid u (pAt p 8 1) then
      pkReply (fwPoint u (pAt p 8 1)) n .ok (leBytes 2 (fwSvn (fwSlot u (pAt p 8 1))) ++ leBytes 1 (fwKeygen (fwSlot u (pAt p 8 1))))
    else pkFail u n .notAuthentic :=
  if_neg (by omega)

theorem firmwarePackets_holds : Says.firmwarePackets := by
  rintro s p k rfl low high
  refine ⟨?_, fun h offset length fits running => ?_, fun h => ?_⟩
  · rintro o h rfl offset length fits other
    have effect := fwDownloadFx_fits (Says.inHand s 0x701 p) s.mg.next ⟨low, high⟩ offset length fits
    rw [inHand_pw, if_neg other] at effect
    refine gives_acts rfl h (by decide) effect ?_
    have slots := fwSlot_congr (inHand_pw s 0x701 p)
    simp only [fwSlot_congr (pkReply_pw ..), getD_fwSlot_fwPut, slots]
    refine ⟨fun i inside => ?_, fun i outside => ?_, fun j ne => ?_, ?_, answered_pkReply h ((stands_inHand ..).keep (by rfl)) ..⟩
    · rw [if_pos (by omega), Nat.add_sub_cancel_left]
    · rw [if_neg (by omega)]
    · rw [fwSlot_fwPut_ne _ _ _ ne, slots]
    · rw [pkReply_pw, fwPut, inHand_pw]
  · have effect := fwDownloadFx_fits (Says.inHand s 0x701 p) s.mg.next ⟨low, high⟩ offset length fits
    rw [inHand_pw, if_pos running] at effect
    exact gives_refusal rfl h (by decide) effect
  · have effect := fwCommitFx_slot (Says.inHand s 0x702 p) s.mg.next ⟨low, high⟩
    rw [slotValid_congr (inHand_pw ..) (inHand_ks ..), fwSlot_congr (inHand_pw ..)] at effect
    by_cases good : slotValid s (pAt p 8 1) = true
    · rw [if_pos good] at effect
      simp only [if_pos good]
      exact gives_acts rfl h (by decide) effect
        ⟨by rw [pkReply_pw, fwPoint, powMod, inHand_pw], answered_pkReply h ((stands_inHand ..).keep (by rfl)) ..⟩
    · rw [if_neg good] at effect
      simp only [if_neg good]
      exact gives_refusal rfl h (by decide) effect

/-! ## The security version and the override (R445, R727) -/

theorem regBit_inHand_ne (s : State) (op : Nat) (p : Packet) {a : Nat} (i : Nat) (h : a ≠ MG_INFLIGHT) :
    regBit (Says.inHand s op p) a i = regBit s a i := by
  rw [regBit, regBit, regNat, regNat, regRaw_inHand_ne s op p h]

theorem svnAdvances_holds : Says.svnAdvances := by
  intro s p h
  have asserted := regBit_inHand_ne s 0x703 p 28 (show PW_STATUS ≠ MG_INFLIGHT by decide)
  have image := fwSlot_congr (inHand_pw s 0x703 p) s.pw.running
  refine ⟨fun fails => ?_, fun stands idle higher => ?_, fun stands idle reached => ?_⟩
  · have effect : svnAdvanceFx (Says.inHand s 0x703 p) s.mg.next = pkFail (Says.inHand s 0x703 p) s.mg.next .wrongState := by
      rw [svnAdvanceFx, asserted, if_pos fails]
    exact gives_acts rfl h (by decide) effect ⟨by rw [pkFail, pkReply_ks, inHand_ks], answered_pkReply h (stands_inHand ..) ..⟩
  · have effect : svnAdvanceFx (Says.inHand s 0x703 p) s.mg.next = ksMod (Says.inHand s 0x703 p)
        fun k => { k with blowing := some (min 64 (fwSvn (fwSlot s s.pw.running)), s.mg.next) } := by
      simp only [svnAdvanceFx, asserted, stands, inHand_ks, inHand_pw, image, idle, Option.isSome_none, Bool.false_eq_true, if_false,
        if_neg (Nat.not_le.2 higher)]
    exact gives_acts rfl h (by decide) effect ⟨flightGet_inHand s 0x703 p, by rw [ksMod, inHand_ks], rfl⟩
  · have effect : svnAdvanceFx (Says.inHand s 0x703 p) s.mg.next =
        pkReply (Says.inHand s 0x703 p) s.mg.next .ok (leBytes 1 s.ks.fuses) := by
      simp only [svnAdvanceFx, asserted, stands, inHand_ks, inHand_pw, image, idle, Option.isSome_none, Bool.false_eq_true, if_false,
        if_pos reached]
    exact gives_acts rfl h (by decide) effect ⟨by rw [pkReply_ks, inHand_ks], answered_pkReply h (stands_inHand ..) ..⟩

/-- BOOTCFG_SET leaves the override `o` and answers OK. -/
theorem gives_overrd {s : State} {p : Packet} (h : Says.acts s 0x704 p) (o : Option (List Nat))
    (effect : bootcfgFx (Says.inHand s 0x704 p) s.mg.next p =
      pkReply (powMod (Says.inHand s 0x704 p) fun w => { w with overrd := o }) s.mg.next .ok) :
    Says.gives (.bootcfgSet p) s fun t => t.pw = { s.pw with overrd := o } ∧ Says.answered s t 0x704 p .ok [] :=
  gives_acts rfl h (by decide) effect
    ⟨by rw [pkReply_pw, powMod, inHand_pw], answered_pkReply h ((stands_inHand ..).keep (by rfl)) ..⟩

theorem overridesSet_holds : Says.overridesSet := by
  refine fun s p h => ⟨fun remove => ?_, fun keep a b c d => ?_, fun keep bad => ?_⟩
  · exact gives_overrd h none (by rw [bootcfgFx, if_pos remove])
  · exact gives_overrd h _ (by rw [bootcfgFx, keep, if_neg (by decide), if_neg (by omega)])
  · have effect : bootcfgFx (Says.inHand s 0x704 p) s.mg.next p = pkFail (Says.inHand s 0x704 p) s.mg.next .badParameter := by
      rw [bootcfgFx, keep, if_neg (by decide), if_pos bad]
    exact gives_refusal rfl h (by decide) effect

/-! ## Diagnostics (R728) -/

/-- The snapshot is fresh at offset 0 (R728). -/
def snapped (u : State) (off : Nat) : State :=
  if off = 0 then { u with fresh := u.fresh + 1, pw := { u.pw with diag := Config.diag u.fresh } } else u

theorem diagDumpFx_eq (u : State) (n : Nat) (p : Packet) : diagDumpFx u n p =
    (let off := pAt p 8 8
     let d := (snapped u off).pw.diag
     if d.length ≤ off then pkFail (snapped u off) n .badParameter
     else
       let part := slice d off (min p.bufLen (d.length - off))
       pkReply (snapped u off) n .ok (leBytes 8 d.length ++ leBytes 4 part.length) part) := rfl

theorem stands_snapped (s : State) (p : Packet) (off : Nat) : Stands s 0x705 p (snapped (Says.inHand s 0x705 p) off) := by
  rw [snapped]
  split
  · exact (stands_inHand ..).keep rfl
  · exact stands_inHand ..

theorem pw_snapped (s : State) (p : Packet) (off : Nat) : (snapped (Says.inHand s 0x705 p) off).pw =
    { s.pw with diag := if off = 0 then Config.diag s.fresh else s.pw.diag } := by
  rw [snapped]
  split <;> simp

theorem slice_ne_nil {d : Bytes} {off len : Nat} (inside : off < d.length) (pos : 1 ≤ len) :
    slice d off (min len (d.length - off)) ≠ [] := by
  refine List.ne_nil_of_length_pos ?_
  simp only [slice, List.length_take, List.length_drop]
  omega

theorem diagDumps_holds : Says.diagDumps := by
  rintro s p d h snapshot
  have pw := pw_snapped s p (pAt p 8 8)
  rw [← snapshot] at pw
  have stands := stands_snapped s p (pAt p 8 8)
  by_cases inside : pAt p 8 8 < d.length
  · have effect : diagDumpFx (Says.inHand s 0x705 p) s.mg.next p = pkReply (snapped (Says.inHand s 0x705 p) (pAt p 8 8)) s.mg.next .ok
        (leBytes 8 d.length ++ leBytes 4 (slice d (pAt p 8 8) (min p.bufLen (d.length - pAt p 8 8))).length)
        (slice d (pAt p 8 8) (min p.bufLen (d.length - pAt p 8 8))) := by
      simp only [diagDumpFx_eq, pw, if_neg (Nat.not_le.2 inside)]
    simp only [if_pos inside]
    exact gives_acts rfl h (by decide) effect ⟨by rw [pkReply_pw, pw], answered_pkReply h stands ..,
      fun room => packetData_pkReply h stands _ (slice_ne_nil inside room)⟩
  · have effect : diagDumpFx (Says.inHand s 0x705 p) s.mg.next p =
        pkFail (snapped (Says.inHand s 0x705 p) (pAt p 8 8)) s.mg.next .badParameter := by
      simp only [diagDumpFx_eq, pw, if_pos (Nat.not_lt.1 inside)]
    simp only [if_neg inside]
    exact gives_acts rfl h (by decide) effect (answered_pkReply h stands ..)

/-! ## Events (R688, R729) -/

theorem evClear_only (s : State) (k v : Nat) : evClear s k v = { s with regs := (evClear s k v).regs } := by
  simp only [evClear]
  split <;> rfl

theorem regRaw_evClear (s : State) {k : Nat} (v : Nat) (lt : k < 16) :
    regRaw (evClear s k v) (EV_PENDING k) = regRaw s (EV_PENDING k) &&& ~~~(BitVec.ofNat 32 v) := by
  rw [evClear, if_pos lt, regRaw, regPut, tabGetD_tabSet, BitVec.ofNat_toNat, BitVec.setWidth_eq]

theorem regRaw_evClear_ne (s : State) {k a : Nat} (v : Nat) (h : a ≠ EV_PENDING k) : regRaw (evClear s k v) a = regRaw s a := by
  simp only [evClear]
  split
  · exact regRaw_regPut_ne _ _ h
  · rfl

/-- The words that CLEAR names are cleared one after the other, each by the mask at its place (R729). -/
def evClears (p : Packet) (s : State) (l : List Nat) : State :=
  l.foldl (fun s i => evClear s (pAt p 8 1 + i) (pAt p (12 + 4 * i) 4)) s

theorem evClears_only (p : Packet) (l : List Nat) (s : State) : evClears p s l = { s with regs := (evClears p s l).regs } := by
  induction l generalizing s with
  | nil => rfl
  | cons i l ih =>
    change evClears p (evClear s _ _) l = { s with regs := (evClears p (evClear s _ _) l).regs }
    rw [ih, evClear_only]

theorem regRaw_evClears_ne (p : Packet) {a : Nat} (l : List Nat) (s : State) (h : ∀ i ∈ l, a ≠ EV_PENDING (pAt p 8 1 + i)) :
    regRaw (evClears p s l) a = regRaw s a := by
  induction l generalizing s with
  | nil => rfl
  | cons i l ih =>
    exact (ih _ fun j m => h j (List.mem_cons_of_mem _ m)).trans (regRaw_evClear_ne _ _ (h i List.mem_cons_self))

theorem regRaw_evClears (p : Packet) {i : Nat} (l : List Nat) (s : State) (nd : l.Nodup) (m : i ∈ l) (lt : pAt p 8 1 + i < 16) :
    regRaw (evClears p s l) (EV_PENDING (pAt p 8 1 + i)) =
      regRaw s (EV_PENDING (pAt p 8 1 + i)) &&& ~~~(BitVec.ofNat 32 (pAt p (12 + 4 * i) 4)) := by
  induction l generalizing s with
  | nil => cases m
  | cons j l ih =>
    obtain ⟨fresh, nd⟩ := List.nodup_cons.1 nd
    change regRaw (evClears p (evClear s _ _) l) _ = _
    by_cases now : i = j
    · subst now
      have apart : ∀ e ∈ l, EV_PENDING (pAt p 8 1 + i) ≠ EV_PENDING (pAt p 8 1 + e) := fun e m same => by
        have : i = e := by simp only [EV_PENDING] at same; omega
        exact fresh (this ▸ m)
      rw [regRaw_evClears_ne p l _ apart, regRaw_evClear _ _ lt]
    · rw [ih _ nd ((List.mem_cons.1 m).resolve_left now), regRaw_evClear_ne]
      simp only [EV_PENDING]
      omega

/-- What EVENT_READ leaves before it answers. -/
def evRead (p : Packet) (u : State) : State := if pFlag p 0 then evClears p u (List.range 6) else u

theorem evRead_only (p : Packet) (u : State) : evRead p u = { u with regs := (evRead p u).regs } := by
  rw [evRead]
  split
  · exact evClears_only ..
  · rfl

theorem regRaw_evRead_ne (p : Packet) (u : State) {a : Nat} (h : ∀ i, i < 6 → a ≠ EV_PENDING (pAt p 8 1 + i)) :
    regRaw (evRead p u) a = regRaw u a := by
  rw [evRead]
  split
  · exact regRaw_evClears_ne p _ u fun i m => h i (List.mem_range.1 m)
  · rfl

theorem evPending_word (u : State) (k : Nat) {b : Nat} (lt : b < 32) :
    evPending u (32 * k + b) = (regRaw u (EV_PENDING k)).getLsbD b := by
  rw [evPending, show (32 * k + b) / 32 = k by omega, show (32 * k + b) % 32 = b by omega, regBit, regNat, bitOf_eq_testBit,
    BitVec.testBit_toNat]

/-- With CLEAR, a bit of a word is cleared where its mask has a 1 (R688, R729). -/
theorem evPending_evRead_clear {p : Packet} (u : State) (clear : pFlag p 0 = true) (word : pAt p 8 1 ≤ 10) {i b : Nat} (six : i < 6)
    (lt : b < 32) : evPending (evRead p u) (32 * (pAt p 8 1 + i) + b) =
      (evPending u (32 * (pAt p 8 1 + i) + b) && !bitOf (pAt p (12 + 4 * i) 4) b) := by
  rw [evPending_word _ _ lt, evPending_word _ _ lt, evRead, if_pos clear,
    regRaw_evClears p _ u List.nodup_range (List.mem_range.2 six) (by omega), bitOf_eq_testBit]
  simp only [BitVec.getLsbD_and, BitVec.getLsbD_not, BitVec.getLsbD_ofNat, lt, decide_true, Bool.true_and]

theorem evSummary_congr {s t : State} (pending : ∀ k, k < 16 → regRaw t (EV_PENDING k) = regRaw s (EV_PENDING k))
    (mask : ∀ k, k < 16 → regRaw t (EV_MASK k) = regRaw s (EV_MASK k)) : evSummary t = evSummary s := by
  rw [evSummary, evSummary]
  congr 1
  refine List.map_congr_left fun k m => ?_
  have lt := List.mem_range.1 m
  rw [pending k lt, mask k lt]

/-- Intake writes no register of the event unit. -/
theorem regRaw_inHand_event {s : State} (op : Nat) (p : Packet) {a : Nat} (below : a < 0x202000) :
    regRaw (Says.inHand s op p) a = regRaw s a :=
  regRaw_inHand_ne s op p (by simp only [MG_INFLIGHT]; omega)

/-- A reply writes one register of the event unit, the last word of the latch. -/
theorem not_replyReg {a : Nat} (below : a < 0x202000) (h : a ≠ EV_PENDING (500 / 32)) : ¬ replyReg a := by
  simp only [replyReg, MG_LAST, MG_LAST_SEQ, MG_REPLIES]
  omega

theorem eventsRead_holds : Says.eventsRead := by
  intro s p h word
  have pendings : ∀ k, k < 16 → regRaw (Says.inHand s 0x706 p) (EV_PENDING k) = regRaw s (EV_PENDING k) := fun k lt =>
    regRaw_inHand_event _ _ (by simp only [EV_PENDING]; omega)
  have words : ((List.range 6).map fun i => leBytes 4 (regNat (Says.inHand s 0x706 p) (EV_PENDING (pAt p 8 1 + i)))) =
      (List.range 6).map fun i => leBytes 4 (regNat s (EV_PENDING (pAt p 8 1 + i))) := by
    refine List.map_congr_left fun i m => ?_
    have six := List.mem_range.1 m
    rw [regNat, regNat, pendings _ (by omega)]
  have summary : evSummary (Says.inHand s 0x706 p) = evSummary s := evSummary_congr pendings fun k lt =>
    regRaw_inHand_event _ _ (by simp only [EV_MASK]; omega)
  have effect : eventReadFx (Says.inHand s 0x706 p) s.mg.next p = pkReply (evRead p (Says.inHand s 0x706 p)) s.mg.next .ok
      (leBytes 4 (evSummary s) ++ ((List.range 6).map fun i => leBytes 4 (regNat s (EV_PENDING (pAt p 8 1 + i)))).flatten) := by
    rw [← words, ← summary, eventReadFx, if_neg (by omega)]
    rfl
  have only := evRead_only p (Says.inHand s 0x706 p)
  have latch : (evRead p (Says.inHand s 0x706 p)).ev = s.ev := by rw [only, inHand_only]
  have stands : Stands s 0x706 p (evRead p (Says.inHand s 0x706 p)) := (stands_inHand ..).keep (by rw [only])
  have kept {a : Nat} (below : a < 0x202000) (apart : ∀ i, i < 16 → a ≠ EV_PENDING i) (r : Bytes) :
      regRaw (pkReply (evRead p (Says.inHand s 0x706 p)) s.mg.next .ok r) a = regRaw s a := by
    rw [regRaw_pkReply_ne _ _ _ _ _ (not_replyReg below (apart _ (by decide))),
      regRaw_evRead_ne _ _ (fun i six => apart _ (by omega)), regRaw_inHand_event _ _ below]
  refine gives_acts rfl h (by decide) effect ⟨answered_pkReply h stands .., fun n ne => ?_, fun k lt => ?_, fun n lt => ?_,
    fun keep n lt ne => ?_, fun clear i b six lt ne => ?_⟩
  · by_cases lt : n < 512
    · rw [(events_pkReply _ _ _ _ _ ne lt).2, latch]
    · rw [BitVec.getLsbD_of_ge _ _ (by omega), BitVec.getLsbD_of_ge _ _ (by omega)]
  · exact kept (by simp only [EV_MASK]; omega) (fun i _ => by simp only [EV_MASK, EV_PENDING]; omega) _
  · exact kept (by simp only [EV_ROUTE]; omega) (fun i _ => by simp only [EV_ROUTE, EV_PENDING]; omega) _
  · rw [(events_pkReply _ _ _ _ _ ne lt).1, evRead, keep, if_neg (by decide), evPending_regs pendings lt]
  · rw [(events_pkReply _ _ _ _ _ ne (by omega)).1, evPending_evRead_clear _ clear word six lt, evPending_regs pendings (by omega)]

/-- Settles O58: each packet has its effect in the state that intake leaves, which differs from the one before in MG_INFLIGHT and the packets
in flight alone, and its answer changes no more than the MG registers, event 500 and the ticket that carried it. -/
theorem firmwarePackets : Obligations.FirmwarePackets :=
  ⟨firmwarePackets_holds, svnAdvances_holds, overridesSet_holds, diagDumps_holds, eventsRead_holds⟩

end Sys2Proof.Proofs
end
